-- ==== Sys2Proof/Word.lean ====
section
/-!
DEFINITION. The words the part computes with: bytes of the link and of the image flash, and the 32-bit
words of the image check, the stamp sum and the directory sum.
-/

namespace Sys2Proof

/-- A byte of the link, of a page or of the image flash. -/
abbrev Byte := BitVec 8

/-- A 32-bit word; addition wraps modulo 2^32 (R71, R195, R196). -/
abbrev Word := BitVec 32

/-- The little-endian word of four bytes, the first least significant (R71, 10.6). -/
def wordOf (a b c d : Byte) : Word :=
  BitVec.ofNat 32 (a.toNat + 256 * b.toNat + 65536 * c.toNat + 16777216 * d.toNat)

end Sys2Proof
end

