-- ==== Sys2Proof/Config.lean ====
section
/-!
DEFINITION. The sizes the manual fixes for the KL-460, and the one free value of the model.
-/

namespace Sys2Proof.Config

/-- Highest patron index (00_scope.md, Identifiers). -/
def patronMax : Nat := 2047
/-- Highest title index (00_scope.md, Identifiers). -/
def titleMax : Nat := 8191
/-- Highest loan id (00_scope.md, Identifiers). -/
def loanMax : Nat := 20480
/-- Highest patron number (00_scope.md, Identifiers). -/
def patronNumberMax : Nat := 99999999
/-- Highest plan, item and batch number, after which each wraps to 1 (R51, R114, R124). -/
def numberMax : Nat := 65535
/-- Highest fetch id, after which ids cycle to 1 (R69). -/
def fetchIdMax : Nat := 255
/-- Largest image of a title in pages (00_scope.md, R14). -/
def pagesMax : Nat := 16711168
/-- Entries an Order List holds (R24). -/
def orderMax : Nat := 24
/-- Patrons a Hold Queue holds (R34). -/
def holdMax : Nat := 8
/-- Catalogue numbers a read history holds (R5). -/
def historyMax : Nat := 48
/-- Copy places of a paper title (R18). -/
def copyMax : Nat := 15
/-- Entries the Written-off List holds (R22). -/
def writtenOffMax : Nat := 256
/-- Live plans the Plan Table holds (R51). -/
def planMax : Nat := 64
/-- Job Queue length at which the stop test ends a pass (R48, R53). -/
def commitBelow : Nat := 16
/-- Titles one plan places at most (R43). -/
def placementMax : Nat := 8
/-- Blocks of one bank of the image store (R61). -/
def bankBlocks : Nat := 32768
/-- Banks of the image store (R61). -/
def banks : Nat := 4
/-- Blocks of the image store (R61). -/
def storeBlocks : Nat := 131072
/-- Entries of the Resident Image Table (R64). -/
def imageMax : Nat := 192
/-- Entries of the Fetch Queue (R69). -/
def fetchMax : Nat := 16
/-- Entries streaming at once (R69). -/
def streamMax : Nat := 2
/-- Retries of a fetch whose next mismatch is the third (R75). -/
def lastRetry : Nat := 2
/-- Pages of a frame, frames of a block, pages of a block (00_scope.md, Units). -/
def framePages : Nat := 8
def blockFrames : Nat := 64
def blockPages : Nat := 512
/-- Bytes of a page and of a frame (00_scope.md, Units). -/
def pageBytes : Nat := 512
def frameBytes : Nat := 4096
/-- Bytes of a store block (00_scope.md, Units). -/
def blockBytes : Nat := 262144
/-- Rack sockets (R184). -/
def slots : Nat := 8
/-- A cycle counter at or above this is worn (R87). -/
def wornCycles : Nat := 10000
/-- Faults of a plan at which it fails (R54). -/
def planFaultMax : Nat := 3
/-- SET items the tray holds (R114). -/
def trayRoom : Nat := 32
/-- Manifests the Manifest Store holds (R129). -/
def manifestMax : Nat := 4
/-- Pickup Alarm entries (R121). -/
def alarms : Nat := 4
/-- Entries a Return Bin holds (R144). -/
def binMax : Nat := 40
/-- Entries of the Closed-Day Table (R162). -/
def closedDays : Nat := 24
/-- Entries the Reminder List holds (R174). -/
def reminderMax : Nat := 64
/-- Reminder entries one REMINDERS READ returns (R175). -/
def reminderRead : Nat := 16
/-- Requests the queue holds (R178). -/
def requestMax : Nat := 4
/-- Longest frame from CODE to the end of BODY (R176). -/
def lenMax : Nat := 4112
/-- Day number of 2199-12-31, the last date (R161). -/
def lastDay : Nat := 73048
/-- Days the due date may be stepped over closed days (R164). -/
def stepMax : Nat := 14
/-- Days past due at which a loan is written off (R169). -/
def writeOffDays : Nat := 90
/-- The byte an erased place reads as. PRESUMED (log entry 2): the manual writes 0xFF for fill bytes
(R195, R196) and says of erased pages only that they read erased (R98). UNSAFE. -/
def erasedByte : Byte := 0xFF#8
/-- Running time in microseconds allowed to a program, a short operation, a block erase, a group erase
and a full erase (R86). -/
def programLimit : Nat := 2000
def shortLimit : Nat := 2000
def eraseBlockLimit : Nat := 40000
def eraseGroupLimit : Nat := 800000
def fullEraseLimit : Nat := 60000000

/-- FREE VALUE (log entry 3): whether the day roll takes a minute boundary before the pickup alarm does.
The manual gives both orders and no rule (R156, R167, 11.5). Its argument counts the draws made. -/
opaque rollBeforeAlarm : Nat → Bool

end Sys2Proof.Config
end

