-- ==== Sys2Proof/Syntax.lean ====
section
/-!
DEFINITION. The commands of the part: one constructor per row of spec/opcode_table.json. A request row
carries the TAG of its frame and the fields of its body in the order of 10.3; a report row carries the
socket or bank it comes from and what it reports.
-/

namespace Sys2Proof

/-- The 101 operations and events of the part. -/
inductive Instr where
  -- Link Port
  /-- Bytes arrive on the host's bulk pipe and the receiver takes them up to the next bad frame. -/
  | frameReceive (bytes : List Byte)
  /-- The bad frame in the receiver is discarded and its bytes are scanned again. -/
  | frameDiscard
  /-- The outgoing pipe has room and the oldest pending request's reply is placed. -/
  | replyPlace
  /-- A request the Link Port answers itself: an unknown code, or a body length not admitted. -/
  | unknownRequest (tag code : Nat) (body : List Byte)
  | identify (tag : Nat)
  | status (tag : Nat)
  | restart (tag : Nat)
  | eventsRead (tag : Nat)
  | eventsReadReply
  | eventsEnable (tag enables : Nat)
  | contextSet (tag patron title : Nat)
  | settingsPut (tag cartDays setDays floor window hour minute key : Nat)
  | settingsGet (tag : Nat)
  -- Record Store
  | patronPutCreate (tag number media playerClass cartLimit setLimit key : Nat)
  | patronPutUpdate (tag patron number media playerClass cartLimit setLimit key : Nat)
  | patronGet (tag patron : Nat)
  | patronPause (tag patron year month day : Nat)
  | patronClose (tag patron : Nat)
  | titlePutCreate (tag catalogue format pages check volumes : Nat)
  | titlePutUpdate (tag title catalogue format pages check volumes : Nat)
  | titleGet (tag title : Nat)
  | titleWithdraw (tag title flag : Nat)
  /-- COPIES ADJUST with action 1, or with an action code that names no action (R194). -/
  | copiesAdjustAdd (tag title action count : Nat)
  | copiesAdjustRemove (tag title count : Nat)
  | copiesAdjustFound (tag title copy : Nat)
  | loanGet (tag loan : Nat)
  | loanList (tag patron : Nat)
  | writtenOffList (tag : Nat)
  -- Order Desk
  | orderAdd (tag patron title rush reread position : Nat)
  | orderDrop (tag patron title : Nat)
  | orderMove (tag patron fromPos toPos : Nat)
  | orderList (tag patron : Nat)
  | holdList (tag title : Nat)
  -- Planner
  | planNow (tag : Nat)
  | passPatronStep
  | planGet (tag plan : Nat)
  | planCancel (tag plan : Nat)
  | queueList (tag : Nat)
  -- Image Store
  | fetchNext (tag : Nat)
  | imageData (tag fetch frame : Nat) (data : List Byte)
  | fetchAbandon (tag fetch : Nat)
  | preload (tag title : Nat)
  | imageDrop (tag title : Nat)
  | imageList (tag : Nat)
  | fetchList (tag : Nat)
  | fillWriteComplete (bank : Nat)
  | frameReadComplete (bank : Nat)
  -- Duplication Rack
  | cartridgeInsert (slot : Nat)
  | cartridgeRemove (slot : Nat)
  /-- The identity read ends: `ok` and the 12 bytes of the identity area, or a failure. -/
  | identityReadDone (slot : Nat) (ok : Bool) (area : List Byte)
  /-- A page read ends: `ok` and the 512 bytes of the page, or a failure. -/
  | pageReadDone (slot : Nat) (ok : Bool) (page : List Byte)
  /-- The cartridge grants the permit asked for, or refuses it for its write tab. -/
  | permitReply (slot : Nat) (granted : Bool)
  /-- A program ends: done, or refused (`ok` false) because the cartridge holds no permit. -/
  | pageProgramDone (slot : Nat) (ok : Bool)
  /-- An erase ends: done, or refused (`ok` false) because the cartridge holds no permit. -/
  | eraseDone (slot : Nat) (ok : Bool)
  | markCycleDone (slot : Nat)
  | suspendDone (slot : Nat)
  | resumeDone (slot : Nat)
  /-- The operation in hand has run for `ran` microseconds and has not reported. -/
  | cartOpTimeout (slot ran : Nat)
  | slotStatus (tag slot : Nat)
  | slotHold (tag slot : Nat)
  | slotRelease (tag slot : Nat)
  | slotClear (tag slot : Nat)
  | slotFaultGet (tag slot : Nat)
  -- Mail Desk
  | shelfPulled (tag item : Nat)
  | mailLabel (tag item : Nat)
  | trayList (tag : Nat)
  | manifestGet (tag batch : Nat)
  | alarmPut (tag entry weekdays hour minute : Nat)
  | alarmGet (tag : Nat)
  | clockTick
  | dispatchCartridgeItem
  | dispatchSetItem
  -- Returns Desk
  | readerInsert
  | readerRemove
  | readerIdentityDone (ok : Bool) (area : List Byte)
  /-- The reader's identity read has run for `ran` microseconds and has not reported. -/
  | readerReadTimeout (ran : Nat)
  | readerGet (tag : Nat)
  | returnVolumeLoan (tag loan volume : Nat)
  | returnVolumeLate (tag title copy volume : Nat)
  | binList (tag bin : Nat)
  | binTake (tag bin count : Nat)
  -- Calendar
  | clockGet (tag : Nat)
  | clockStop (tag : Nat)
  | clockSet (tag year month day hour minute second : Nat)
  | clockStart (tag : Nat)
  | closedDayPutUsed (tag entry month day weekday : Nat)
  | closedDayPutClear (tag entry : Nat)
  | closedDayGet (tag : Nat)
  | remindersRead (tag : Nat)
  | rollLoanStep
  | rollPatronStep
  | rollDeferralClear
  | rollFinish
  | rollEndPlanningTrigger
  | heldCloseRelease
  | pendingResultComplete
  -- Start-up
  /-- Main power returns; the backup supply kept record memory and clock (`held`) or not, and samples
  at its good level (`good`) or not. -/
  | powerOnStart (held good : Bool)
  | powerLoss
  | resetAssert
  | resetRelease
  | reportAnsweringNoOperation (slot : Nat)
  deriving DecidableEq, Repr

end Sys2Proof
end

