-- ==== Sys2Proof/Decode.lean ====
section
/-!
DEFINITION. The decoder over the rows of spec/opcode_table.json that give bits. None does: the table's
commands reach the part over the link's frames, its sockets and its pins, and every row's list of fields is
empty. So no word spells a command.
-/

namespace Sys2Proof

/-- The command that a word spells by the table's bits: none, as no row gives any (log entry 15). -/
def decodeTableWord (nbits w : Nat) : Option Instr :=
  match nbits, w with
  | _, _ => none

end Sys2Proof
end

