-- ==== Sys2Proof/Machine/State.lean ====
section
/-!
DEFINITION. Everything the part holds, as plain data, and its value right after reset.
A date is a day number (R161). A table is a list of (index, record) with indexes strictly rising; an
index not listed is a FREE record. Rules are those of spec/; log entries those of notes/assumptions/.
-/

namespace Sys2Proof.Machine

/-- Records by index, indexes strictly rising; an index not listed is FREE. -/
abbrev Table (α : Type) := List (Nat × α)

/-! ## Names shared by several blocks -/

/-- Cartridge classes, smaller to larger (00_scope.md, Units). -/
inductive Cls where
  | c2 | c4 | c8
  deriving DecidableEq, Repr

/-- Title formats (1.4). -/
inductive Format where
  | audio | ebraille | pbraille
  deriving DecidableEq, Repr

/-- A media set: which formats the patron takes (1.2). -/
structure Media where
  audio : Bool
  ebraille : Bool
  pbraille : Bool
  deriving DecidableEq, Repr

/-- A time of day. -/
structure TimeOfDay where
  hour : Nat
  minute : Nat
  second : Nat
  deriving DecidableEq, Repr

/-- Status of a reply (9.1, 10.4). -/
inductive Status where
  | ok | unknown | length | range | noRecord | exists | full | state | rolling | clockRunning
  | pinned | alreadyRead | onLoan | notEligible | sequence
  deriving DecidableEq, Repr

/-! ## Link Port -/

/-- The fifteen event flags (R187), in the order of 10.5. -/
inductive Flag where
  | slotDone | slotFault | planFailed | fetchWanted | batchClosed | pickupEmpty | holdFilled
  | returnRead | binFull | reminders | rollSoon | rollDone | clockStopped | backupLow | linkFault
  deriving DecidableEq, Repr

/-- A set of event flags, bit n for flag n of 10.5. -/
abbrev FlagSet := BitVec 15

/-- How far a pending request has come (R178, R179). -/
inductive Stage where
  /-- Not yet served. -/
  | waiting
  /-- An EVENTS READ taken and its reply not yet formed (R188). -/
  | serving
  /-- An IMAGE DATA whose frame is handed to its bank for this fetch and not yet written (R72). -/
  | writing (fetch : Nat)
  /-- The reply is formed: status byte and reply fields; it waits to be placed (R180). -/
  | formed (reply : List Byte)
  deriving DecidableEq, Repr

/-- A pending request (R178). -/
structure Request where
  code : Nat
  tag : Nat
  body : List Byte
  stage : Stage
  deriving DecidableEq, Repr

/-- The event summary, the enable set and the attention output (R187 to R190). -/
structure Events where
  main : FlagSet
  pending : FlagSet
  enables : FlagSet
  /-- An EVENTS READ is being served: flags raised go to the pending half (R187). -/
  reading : Bool
  /-- The attention output is asserted, driven low (R190). -/
  attention : Bool
  deriving DecidableEq, Repr

/-- The settings record (R183). -/
structure Settings where
  cartDays : Nat
  setDays : Nat
  floor : Nat
  window : Nat
  rollHour : Nat
  rollMinute : Nat
  centreKey : Nat
  deriving DecidableEq, Repr

/-- The backup indication (R186). -/
structure Backup where
  held : Bool
  good : Bool
  /-- The stage is FIRST. -/
  first : Bool
  deriving DecidableEq, Repr

/-- The Link Port's state (chapter 9). -/
structure Link where
  /-- Bytes of the frame being gathered, from its sync on; none in HUNT (R176). -/
  frame : List Byte
  /-- Bytes that have arrived, or are to be scanned again, and are not yet scanned (R176, R177). -/
  incoming : List Byte
  queue : List Request
  /-- Replies placed in the outgoing pipe, first placed first, each as its frame's bytes (R180). -/
  pipe : List (List Byte)
  events : Events
  patronCtx : Option Nat
  titleCtx : Option Nat
  settings : Settings
  backup : Backup
  deriving DecidableEq, Repr

/-! ## Record Store and Order Desk -/

inductive PatronState where
  | active | paused | closed
  deriving DecidableEq, Repr

/-- Why a patron receives no plan for the moment (R47). -/
inductive Deferral where
  | none | fillLow | storeSpace
  deriving DecidableEq, Repr

/-- State of an order entry (R25). -/
inductive EntryState where
  | waiting
  | planned (plan : Nat)
  | hold
  | allocated (item copy : Nat)
  deriving DecidableEq, Repr

/-- An order entry (R25). -/
structure OrderEntry where
  title : Nat
  rush : Bool
  added : Nat
  oversize : Bool
  state : EntryState
  deriving DecidableEq, Repr

/-- A patron record that is not FREE (1.2). -/
structure Patron where
  number : Nat
  state : PatronState
  media : Media
  cls : Cls
  cartLimit : Nat
  setLimit : Nat
  cartCount : Nat
  setCount : Nat
  key : Nat
  pauseUntil : Option Nat
  lastService : Option Nat
  deferral : Deferral
  history : List Nat
  orders : List OrderEntry
  deriving DecidableEq, Repr

/-- A copy place of a paper title (R18). -/
inductive CopyPlace where
  | absent | shelf | item
  | loan (id : Nat)
  | missing
  deriving DecidableEq, Repr

/-- A title record that is not FREE (1.4). The image fields of a PBRAILLE title are 0, and the paper
fields of another title are 0 and empty. -/
structure Title where
  catalogue : Nat
  format : Format
  withdrawn : Bool
  pages : Nat
  check : Word
  /-- The title is IMAGE_BAD (R13). -/
  bad : Bool
  failures : Nat
  volumes : Nat
  /-- Copy places 1 to 15 in order. -/
  copies : List CopyPlace
  holds : List Nat
  deriving DecidableEq, Repr

/-- What went out on a loan (R20). -/
inductive LoanKind where
  | cartridge (serial : Nat) (catalogues : List Nat)
  | set (title copy total : Nat) (returned : List Nat)
  deriving DecidableEq, Repr

/-- An open loan (R20). -/
structure Loan where
  kind : LoanKind
  patron : Nat
  overdue : Bool
  dispatch : Nat
  due : Nat
  stage : Nat
  deriving DecidableEq, Repr

/-- What was given up as lost (R22, R151). -/
inductive LostKind where
  | cartridge (serial : Nat)
  | set (title copy total : Nat) (returned : List Nat)
  deriving DecidableEq, Repr

/-- An entry of the Written-off List (R22). -/
structure Lost where
  kind : LostKind
  patron : Nat
  date : Nat
  deriving DecidableEq, Repr

/-- The Record Store's collections (chapters 1 and 2). The Written-off List is oldest first. -/
structure Records where
  patrons : Table Patron
  titles : Table Title
  loans : Table Loan
  lost : List Lost
  deriving DecidableEq, Repr

/-! ## Planner -/

/-- One title within a plan (R45, R51). -/
structure Placement where
  title : Nat
  start : Nat
  blocks : Nat
  pages : Nat
  deriving DecidableEq, Repr

/-- State of a live plan (R52). -/
inductive PlanState where
  | queued
  | inSlot (slot : Nat)
  | mailing (item : Nat)
  deriving DecidableEq, Repr

/-- A live plan (R51); its number is its index in the Plan Table. -/
structure Plan where
  patron : Nat
  cls : Cls
  rush : Bool
  placements : List Placement
  used : Nat
  fill : Nat
  faults : Nat
  state : PlanState
  deriving DecidableEq, Repr

/-- The Planner's state (chapter 3). -/
structure Planner where
  plans : Table Plan
  /-- Plan numbers, head first. -/
  queue : List Nat
  /-- Last plan number given, 0 for none. -/
  lastPlan : Nat
  /-- The patrons of the running pass still to be taken; none when IDLE (R48). -/
  pass : Option (List Nat)
  rerun : Bool
  /-- The model's own: a planning trigger was met in the step in hand and is taken at its end (R49). -/
  due : Bool
  deriving DecidableEq, Repr

/-! ## Image Store -/

/-- An entry of the Resident Image Table (R64), under its title index. The block count is the length of
the block list. -/
structure Image where
  resident : Bool
  blocks : List Nat
  filled : Nat
  sum : Word
  pins : Nat
  deriving DecidableEq, Repr

/-- State of a fetch entry; of two streams one is the older (R69, R70). -/
inductive FetchState where
  | waiting
  | streaming (older : Bool)
  deriving DecidableEq, Repr

/-- A fetch entry (R69). Its kind is a view of the image's pin count. -/
structure Fetch where
  id : Nat
  title : Nat
  state : FetchState
  expected : Nat
  next : Nat
  retries : Nat
  deriving DecidableEq, Repr

/-- A fill write of one frame (R78). -/
structure FillOp where
  fetch : Nat
  title : Nat
  frame : Nat
  /-- Store block and frame place written. -/
  block : Nat
  place : Nat
  data : List Byte
  /-- The fetch still stands: its completion counts (R79). -/
  live : Bool
  deriving DecidableEq, Repr

/-- What becomes of the frame of a granted read (R79). -/
inductive ReadFate where
  /-- The slot takes the frame. -/
  | deliver
  /-- The slot discards the frame, and waits for it before it is held or its finishing mark clears. -/
  | awaited
  /-- The frame is discarded and no slot waits. -/
  | dropped
  deriving DecidableEq, Repr

/-- A frame read for a slot (R78). -/
structure ReadOp where
  slot : Nat
  block : Nat
  place : Nat
  fate : ReadFate
  deriving DecidableEq, Repr

/-- The operation a bank has granted. -/
inductive BankOp where
  | fill (op : FillOp)
  | read (op : ReadOp)
  deriving DecidableEq, Repr

/-- A bank arbiter (R78). -/
structure Bank where
  current : Option BankOp
  fills : List FillOp
  reads : List ReadOp
  lastServed : Nat
  deriving DecidableEq, Repr

/-- The Image Store's state (chapter 4). The free block pool is a view: the blocks no image holds. -/
structure Store where
  images : Table Image
  /-- RESIDENT titles, least recent first (R65). -/
  recency : List Nat
  fetches : List Fetch
  /-- Last fetch id given, 0 for none. -/
  lastFetch : Nat
  /-- The arbiters of banks 0 to 3. -/
  banks : List Bank
  /-- Bytes of the flash that differ from the erased byte, addresses strictly rising. -/
  flash : List Host.Cell
  deriving DecidableEq, Repr

/-! ## Duplication Rack -/

/-- The thirteen slot states (5.1). -/
inductive SlotState where
  | empty | ident | idleBlank | idleDirty | preErase | erasing | programming | verifying | waitImage
  | held | directory | done | fault
  deriving DecidableEq, Repr

/-- Markers of a cartridge (R88). -/
inductive Marker where
  | blank | written | dirty
  deriving DecidableEq, Repr

/-- The cartridge record (R84). -/
structure Cartridge where
  serial : Nat
  cls : Cls
  cycles : Nat
  tab : Bool
  marker : Marker
  /-- Of a WRITTEN cartridge; 0 otherwise. -/
  planTag : Nat
  lastUsed : Nat
  deriving DecidableEq, Repr

/-- The remembered phase of a HELD slot (R84, R103). -/
inductive Phase where
  | preErase | erasing | programming | verifying | waitImage
  deriving DecidableEq, Repr

/-- What the erase phase does (R93, R112). -/
inductive EraseKind where
  | skipped
  /-- The erase set of an old directory whose last used block is this. -/
  | extent (last : Nat)
  | full
  deriving DecidableEq, Repr

/-- The erase cursor (R84, R94). -/
inductive EraseStep where
  /-- The i-th erase of the set, counted from 0. -/
  | erase (i : Nat)
  | mark
  | stamp
  | stampBack
  /-- The stamp has read back as written. -/
  | ended
  deriving DecidableEq, Repr

/-- A write, each of which needs a fresh permit (R85). -/
inductive WriteOp where
  | program (block page : Nat) (data : List Byte)
  | eraseBlock (block : Nat)
  | eraseGroup (group : Nat)
  | fullErase
  deriving DecidableEq, Repr

/-- A cartridge operation (R85). -/
inductive CartOp where
  | readIdentity
  | readPage (block page : Nat)
  | grantPermit (w : WriteOp)
  | write (w : WriteOp)
  | suspend
  | resume
  | markCycle
  deriving DecidableEq, Repr

/-- An operation in hand with its elapsed running time in microseconds (R84, R86). -/
structure OpInHand where
  op : CartOp
  elapsed : Nat
  deriving DecidableEq, Repr

/-- Fault causes (R108). -/
inductive FaultCause where
  | headerBad | onLoan | conflict | worn | writeProtected | protocol | timeout | noSpare
  deriving DecidableEq, Repr

/-- The phase a fault record names (R108). -/
inductive FaultPhase where
  | ident | preErase | erasing | programming | verifying | directory | finishing
  deriving DecidableEq, Repr

/-- A fault record (R108). -/
structure FaultRecord where
  cause : FaultCause
  /-- None for a fault in a state to which the manual's list gives no phase (log entry 16). -/
  phase : Option FaultPhase
  /-- Placement index (1 to 8), logical block and frame; in the program, verify and directory phases. -/
  cursor : Option (Nat × Nat × Nat)
  serial : Option Nat
  plan : Option Nat
  date : Nat
  time : TimeOfDay
  deriving DecidableEq, Repr

/-- The program cursor (R84, R96). -/
structure Cursor where
  /-- Placement in hand, counted from 0. -/
  placement : Nat
  /-- Image block in hand. -/
  image : Nat
  /-- Next frame of the image block. -/
  frame : Nat
  /-- Next page of that frame to program. -/
  page : Nat
  /-- Block 0 has been erased. -/
  erased : Bool
  /-- The frame at the cursor is in the block buffer. -/
  inBuffer : Bool
  deriving DecidableEq, Repr

/-- What a page read whose job was taken away is judged by (R107): the fault it finds, and the page that finds
none. The page is absent where the read-back had already met one that disagrees. -/
structure ReadBack where
  cause : FaultCause
  page : Option (List Byte)
  deriving DecidableEq, Repr

/-- A slot controller and its socket (R84). -/
structure Slot where
  /-- A cartridge is in the socket. -/
  present : Bool
  state : SlotState
  cart : Option Cartridge
  job : Option Nat
  remembered : Option Phase
  /-- A hold is accepted and waits for an operation to complete (R103). -/
  holdPending : Bool
  eraseKind : EraseKind
  eraseStep : EraseStep
  cursor : Cursor
  /-- Frames of the image block in hand (R96, R98). -/
  buffer : List (List Byte)
  readMark : Bool
  /-- Spare map being built: logical block and the spare that holds it (R98). -/
  spares : List (Nat × Nat)
  sparesTaken : Nat
  /-- The spare being programmed or verified, if any. -/
  spare : Option Nat
  /-- Next page to read back, or of `pages` to write or read back. -/
  back : Nat
  /-- DIRECTORY: the pages are written and are being read back. -/
  readingBack : Bool
  /-- Every page read back so far agrees. -/
  backOk : Bool
  /-- Pages composed for block 0: the stamp or the directory (R94, R100). -/
  pages : List (List Byte)
  /-- Pages of block 0 read at identification (R89, R196). -/
  identPages : List (List Byte)
  op : Option OpInHand
  /-- The erase being suspended, suspended, or being resumed (R85, R103). -/
  suspended : Option OpInHand
  /-- A granted frame read is awaited before a hold or the finishing mark ends (R79, R103). -/
  awaiting : Bool
  finishing : Bool
  /-- Under the finishing mark: what the page read in hand is judged by, if it may find a fault (R107). -/
  readBack : Option ReadBack
  /-- An erase or program has started since the cartridge was identified (R108). -/
  started : Bool
  /-- The cartridge record before the first write issued since identification, while that write may still be
  refused for want of a permit: such a write has not started (R85, R108; log entry 46). -/
  unstarted : Option Cartridge
  fault : Option FaultRecord
  /-- In DONE: the MAILING plan and its item (R101). -/
  doneItem : Option (Nat × Nat)
  /-- In DONE: the item has been dispatched (R102). -/
  dispatched : Bool
  deriving DecidableEq, Repr

/-! ## Mail Desk -/

inductive ItemKind where
  | cartridge (plan serial : Nat)
  | set (title copy : Nat)
  deriving DecidableEq, Repr

/-- State of a tray item (R114, R115). -/
inductive ItemState where
  | awaitingPull
  | awaitingLabel
  | labelled (date : Nat) (time : TimeOfDay)
  deriving DecidableEq, Repr

/-- An item of the Outgoing Tray (R114). -/
structure Item where
  number : Nat
  patron : Nat
  kind : ItemKind
  state : ItemState
  deriving DecidableEq, Repr

/-- A manifest entry (R125, R126). -/
structure ManifestEntry where
  item : Nat
  patronNumber : Nat
  /-- Serial of a cartridge, or catalogue number and copy of a set. -/
  what : Nat ⊕ (Nat × Nat)
  loan : Nat
  deriving DecidableEq, Repr

/-- A manifest, or the open batch (R124, R129). -/
structure Manifest where
  number : Nat
  date : Nat
  time : TimeOfDay
  entries : List ManifestEntry
  deriving DecidableEq, Repr

/-- A Pickup Alarm (R121); none is ANY. -/
structure Alarm where
  weekdays : BitVec 7
  hour : Option Nat
  minute : Option Nat
  deriving DecidableEq, Repr

/-- A close in progress (R124, R128). -/
structure Close where
  /-- Item numbers selected and not yet dispatched. -/
  selection : List Nat
  date : Nat
  time : TimeOfDay
  anySet : Bool
  deriving DecidableEq, Repr

/-- The Mail Desk's state (chapter 6). -/
structure Mail where
  tray : List Item
  lastItem : Nat
  close : Option Close
  openBatch : Option Manifest
  lastBatch : Nat
  manifests : List Manifest
  alarms : List Alarm
  heldClose : Bool
  waitingClose : Bool
  deriving DecidableEq, Repr

/-! ## Returns Desk -/

inductive ReaderState where
  | empty | reading | result | pendingRoll
  deriving DecidableEq, Repr

/-- Classifications (R135). -/
inductive Classification where
  | checkedIn | late | unknown | unreadable | worn
  deriving DecidableEq, Repr

/-- Outcomes of a result record (R139). -/
inductive ReturnOutcome where
  | checkedIn | late | unknown | unreadable | worn | alreadyBinned | conflict | noBin
  deriving DecidableEq, Repr

/-- Reasons of a bin entry (R144). -/
inductive BinReason where
  | checkedIn | late | unknown | unreadable | worn | spill
  deriving DecidableEq, Repr

inductive BinName where
  | reuse | inspect
  deriving DecidableEq, Repr

/-- A bin entry (R144). -/
structure BinEntry where
  serial : Option Nat
  reason : BinReason
  date : Nat
  deriving DecidableEq, Repr

/-- What a cartridge shows when it is read. -/
structure Identity where
  serial : Nat
  cls : Cls
  cycles : Nat
  tab : Bool
  deriving DecidableEq, Repr

/-- The pending result (R141). -/
structure Pending where
  serial : Nat
  cls : Cls
  cycles : Nat
  date : Nat
  time : TimeOfDay
  deriving DecidableEq, Repr

/-- The result record (R139). -/
structure Result where
  serial : Option Nat
  cls : Option Cls
  cycles : Option Nat
  outcome : ReturnOutcome
  classification : Option Classification
  loan : Option Nat
  patron : Option Nat
  bin : Option BinName
  depth : Option Nat
  spill : Bool
  heldBy : Option Nat
  date : Nat
  time : TimeOfDay
  deriving DecidableEq, Repr

/-- The Returns Desk's state (chapter 7). Bins are held from the top. -/
structure Returns where
  present : Bool
  reader : ReaderState
  /-- The identity read is in progress. -/
  identifying : Bool
  /-- PENDING_ROLL: the pending cartridge has been removed (R142). -/
  removed : Bool
  /-- What the reader keeps of the good read of the cartridge it holds: serial, class, cycle counter and
  write tab (R134). -/
  kept : Option Identity
  pending : Option Pending
  result : Option Result
  reuse : List BinEntry
  inspect : List BinEntry
  deriving DecidableEq, Repr

/-! ## Calendar -/

/-- The clock (R155). -/
structure Clock where
  day : Nat
  time : TimeOfDay
  running : Bool
  /-- Half-seconds to the next tick: 1 after CLOCK START, 2 after a tick, 0 while stopped (R158, R160). -/
  prescaler : Nat
  deriving DecidableEq, Repr

/-- A used Closed-Day entry; none is ANY (R162). -/
structure ClosedDay where
  month : Option Nat
  day : Option Nat
  weekday : Option Nat
  deriving DecidableEq, Repr

/-- A Reminder List entry (R174). -/
structure Reminder where
  loan : Nat
  patron : Nat
  stage : Nat
  date : Nat
  deriving DecidableEq, Repr

/-- The place of a roll in its walk: the next record to take, or the part it has come to (R169 to R172). -/
inductive RollPlace where
  | loans (next : Nat)
  | patrons (next : Nat)
  | deferrals
  | finish
  deriving DecidableEq, Repr

/-- A running roll (R167). -/
structure Roll where
  date : Nat
  place : RollPlace
  deriving DecidableEq, Repr

/-- The work that follows a roll, the item next due (R172). -/
inductive Follow where
  | nothing | trigger | heldClose | pendingResult
  deriving DecidableEq, Repr

/-- The Calendar's state (chapter 8). -/
structure Calendar where
  clock : Clock
  lastRoll : Option Nat
  /-- Entries 1 to 24 in order; none is unused. -/
  closedDays : List (Option ClosedDay)
  reminders : List Reminder
  roll : Option Roll
  /-- The "roll within 60 s" indication (R166). -/
  within60 : Bool
  follow : Follow
  deriving DecidableEq, Repr

/-! ## The whole part -/

/-- Whether the part runs, is held at the beginning of a restart, or has no main power (R191). -/
inductive RunState where
  | running | resetHeld | off
  deriving DecidableEq, Repr

/-- The part and the queue of commands waiting for it. -/
structure State where
  /-- The commands waiting, first in first out. -/
  pending : List Instr
  run : RunState
  link : Link
  records : Records
  planner : Planner
  store : Store
  /-- Slots 1 to 8 in order. -/
  rack : List Slot
  mail : Mail
  returns : Returns
  calendar : Calendar
  /-- The model's own: how many open values have been drawn (log entry 3). -/
  drawn : Nat
  deriving DecidableEq, Repr

/-- Why the machine stops. -/
inductive Fault where
  /-- A command names a rack socket other than 1 to 8. Raised by the cartridge reports, CARTRIDGE_INSERT
  and CARTRIDGE_REMOVE. Safe: the part has no such socket (R84). -/
  | noSuchSocket (n : Nat)
  /-- A bank completion names a bank other than 0 to 3. Raised by FILL_WRITE_COMPLETE and
  FRAME_READ_COMPLETE. Safe: the part has no such bank (R61). -/
  | noSuchBank (n : Nat)
  deriving DecidableEq, Repr

/-- Why a command has no meaning here. -/
inductive Refusal where
  /-- The command has no meaning in this model yet. Raised by Dispatch alone; safe. -/
  | notModelled (mnemonic : String)
  deriving DecidableEq, Repr

/-- What a command answers. -/
abbrev Answer := Host.Outcome State Fault Refusal

/-! ## Reset -/

def Settings.default : Settings :=
  { cartDays := 42, setDays := 56, floor := 300, window := 12, rollHour := 2, rollMinute := 0,
    centreKey := 0 }

def midnight : TimeOfDay := { hour := 0, minute := 0, second := 0 }

def Cursor.zero : Cursor :=
  { placement := 0, image := 0, frame := 0, page := 0, erased := false, inBuffer := false }

/-- A slot with no working state and no cartridge in its socket (R113). -/
def Slot.bare : Slot :=
  { present := false, state := .empty, cart := none, job := none, remembered := none,
    holdPending := false, eraseKind := .full, eraseStep := .erase 0, cursor := Cursor.zero, buffer := [],
    readMark := false, spares := [], sparesTaken := 0, spare := none, back := 0, readingBack := false,
    backOk := true, pages := [], identPages := [], op := none, suspended := none, awaiting := false,
    finishing := false, readBack := none, started := false, unstarted := none, fault := none,
    doneItem := none, dispatched := false }

/-- A bank arbiter after every start (R78). -/
def Bank.idle : Bank := { current := none, fills := [], reads := [], lastServed := 8 }

/-- A disabled alarm (R121). -/
def Alarm.disabled : Alarm := { weekdays := 0#7, hour := none, minute := none }

def Records.empty : Records := { patrons := [], titles := [], loans := [], lost := [] }

def Planner.empty : Planner :=
  { plans := [], queue := [], lastPlan := 0, pass := none, rerun := false, due := false }

def Store.empty : Store :=
  { images := [], recency := [], fetches := [], lastFetch := 0, banks := List.replicate 4 Bank.idle,
    flash := [] }

def Mail.empty : Mail :=
  { tray := [], lastItem := 0, close := none, openBatch := none, lastBatch := 0, manifests := [],
    alarms := List.replicate 4 Alarm.disabled, heldClose := false, waitingClose := false }

def Returns.empty : Returns :=
  { present := false, reader := .empty, identifying := false, removed := false, kept := none, pending := none,
    result := none, reuse := [], inspect := [] }

def Calendar.empty : Calendar :=
  { clock := { day := 0, time := midnight, running := false, prescaler := 0 }, lastRoll := none,
    closedDays := List.replicate 24 none, reminders := [], roll := none, within60 := false,
    follow := .nothing }

def Events.clear : Events :=
  { main := 0#15, pending := 0#15, enables := 0#15, reading := false, attention := false }

/-- The part right after reset: a power-on start with the backup lost and no cartridge in any socket
(R192, R193). CLOCK_STOPPED, bit 12, is the one flag of that start-up. The sample GOOD is a DESIGN
CHOICE (log entry 1). -/
def State.reset : State :=
  { pending := [], run := .running,
    link :=
      { frame := [], incoming := [], queue := [], pipe := [],
        events := { Events.clear with main := 0x1000#15 }, patronCtx := none, titleCtx := none,
        settings := Settings.default, backup := { held := false, good := true, first := true } },
    records := Records.empty, planner := Planner.empty, store := Store.empty,
    rack := List.replicate 8 Slot.bare, mail := Mail.empty, returns := Returns.empty,
    calendar := Calendar.empty, drawn := 0 }

end Sys2Proof.Machine
end

