-- ==== Sys2Proof/Machine/Ops.lean ====
section
/-!
DEFINITION. The named operations on tables, on the image flash, on dates and on the state's blocks.
-/

namespace Sys2Proof.Machine

/-! ## Tables -/

/-- The record at an index; none is FREE. -/
def Table.look {α : Type} (t : Table α) (k : Nat) : Option α :=
  match t with
  | [] => none
  | (j, v) :: rest => if j = k then some v else Table.look rest k

/-- Write the record at an index, keeping indexes strictly rising. -/
def Table.put {α : Type} (t : Table α) (k : Nat) (v : α) : Table α :=
  match t with
  | [] => [(k, v)]
  | (j, w) :: rest =>
    if k < j then (k, v) :: (j, w) :: rest
    else if k = j then (k, v) :: rest
    else (j, w) :: Table.put rest k v

/-- Make the record at an index FREE. -/
def Table.del {α : Type} (t : Table α) (k : Nat) : Table α :=
  match t with
  | [] => []
  | (j, w) :: rest => if j = k then rest else (j, w) :: Table.del rest k

/-- The lowest index at or above `k` that the rising table does not list. -/
def Table.gap {α : Type} (t : Table α) (k : Nat) : Nat :=
  match t with
  | [] => k
  | (j, _) :: rest => if j = k then Table.gap rest (k + 1) else k

/-- The lowest-numbered FREE index of 1 to `max` (R6, R14, R20). -/
def Table.free {α : Type} (t : Table α) (max : Nat) : Option Nat :=
  if t.gap 1 ≤ max then some (t.gap 1) else none

/-- Indexes strictly rising: the one canonical form of a table. -/
def Table.rising {α : Type} (t : Table α) : Bool :=
  match t with
  | [] => true
  | (j, _) :: rest => rest.all (fun e => decide (j < e.1)) && Table.rising rest

/-! ## Lists -/

/-- Insert an element at a place of a list, counted from 0 (R24 counts positions from 1). -/
def insertAt {α : Type} (l : List α) (i : Nat) (x : α) : List α :=
  l.take i ++ x :: l.drop i

/-- Insert by a key, after every element whose key is no larger. -/
def insertByKey {α : Type} (key : α → Nat) (x : α) (l : List α) : List α :=
  match l with
  | [] => [x]
  | y :: rest => if key x < key y then x :: y :: rest else y :: insertByKey key x rest

/-- Order by a key; equal keys keep the order in which they stand. -/
def sortByKey {α : Type} (key : α → Nat) (l : List α) : List α :=
  l.foldl (fun acc x => insertByKey key x acc) []

/-- Clamp a value to a range (00_scope.md, Clamped). -/
def clamp (lo hi x : Nat) : Nat := if x < lo then lo else if hi < x then hi else x

/-- Search upward from `n`, wrapping from `max` to 1, for a number not in use. -/
def nextFreeNumber (max : Nat) (used : List Nat) (n fuel : Nat) : Nat :=
  match fuel with
  | 0 => n
  | fuel + 1 =>
    let m := if max ≤ n then 1 else n + 1
    if used.contains m then nextFreeNumber max used m fuel else m

/-- The number after the one last given, wrapping and passing over those in use (R51, R69, R114). -/
def nextNumber (max last : Nat) (used : List Nat) : Nat :=
  nextFreeNumber max used last (used.length + 1)

/-- A number divided by another and rounded up. -/
def ceilDiv (a b : Nat) : Nat := (a + b - 1) / b

/-! ## Dates (R161) -/

/-- A leap year among 2000 to 2199: every fourth from 2000 but 2100. -/
def isLeap (y : Nat) : Bool := y % 4 == 0 && y != 2100

def yearDays (y : Nat) : Nat := if isLeap y then 366 else 365

/-- Days of a month, 1 to 12; 0 for any other. -/
def monthDays (y m : Nat) : Nat :=
  match m with
  | 1 => 31
  | 2 => if isLeap y then 29 else 28
  | 3 => 31
  | 4 => 30
  | 5 => 31
  | 6 => 30
  | 7 => 31
  | 8 => 31
  | 9 => 30
  | 10 => 31
  | 11 => 30
  | 12 => 31
  | _ => 0

/-- Days from the first of January of the year 2000 to that of the year 2000 + n. -/
def daysBeforeYear (n : Nat) : Nat :=
  match n with
  | 0 => 0
  | n + 1 => daysBeforeYear n + yearDays (2000 + n)

/-- Days of the year before the first of a month. -/
def daysBeforeMonth (y m : Nat) : Nat :=
  match m with
  | 0 => 0
  | m + 1 => daysBeforeMonth y m + monthDays y m

/-- The day number of a date. -/
def dayNumber (y m d : Nat) : Nat := daysBeforeYear (y - 2000) + daysBeforeMonth y m + (d - 1)

/-- A calendar date within 2000-01-01 to 2199-12-31 (R9, R159). -/
def validDate (y m d : Nat) : Bool :=
  decide (2000 ≤ y ∧ y ≤ 2199 ∧ 1 ≤ m ∧ m ≤ 12 ∧ 1 ≤ d ∧ d ≤ monthDays y m)

/-- Find the month that holds day `d` (from 0) of a year, from month `m` on. -/
def monthOf (y m d fuel : Nat) : Nat × Nat :=
  match fuel with
  | 0 => (m, d + 1)
  | fuel + 1 => if d < monthDays y m then (m, d + 1) else monthOf y (m + 1) (d - monthDays y m) fuel

/-- Find the year that holds day `d` (from 0), from year `y` on. -/
def yearOf (y d fuel : Nat) : Nat × Nat :=
  match fuel with
  | 0 => (y, d)
  | fuel + 1 => if d < yearDays y then (y, d) else yearOf (y + 1) (d - yearDays y) fuel

/-- Year, month and day of a day number. -/
def dateOf (n : Nat) : Nat × Nat × Nat :=
  let yd := yearOf 2000 n 200
  let md := monthOf yd.1 1 yd.2 12
  (yd.1, md.1, md.2)

/-- The weekday, 0 for Monday (00_scope.md, Dates and times). -/
def weekday (n : Nat) : Nat := (n + 5) % 7

/-- A time of day that a clock can hold (R155). -/
def TimeOfDay.valid (t : TimeOfDay) : Bool := decide (t.hour ≤ 23 ∧ t.minute ≤ 59 ∧ t.second ≤ 59)

/-! ## The image flash -/

/-- Byte address of the first byte of a frame place of a store block (R61). -/
def frameAddress (block place : Nat) : Nat := block * Config.blockBytes + place * Config.frameBytes

/-- The byte at an address; an address not listed reads as the erased byte (log entry 2). -/
def flashByte (m : List Host.Cell) (a : Nat) : Byte :=
  match m with
  | [] => Config.erasedByte
  | (b, v) :: rest => if b = a then v else flashByte rest a

/-- The cells of bytes stored from an address on, less those equal to the erased byte. -/
def cellsFrom (a : Nat) (bytes : List Byte) : List Host.Cell :=
  match bytes with
  | [] => []
  | v :: rest => if v = Config.erasedByte then cellsFrom (a + 1) rest else (a, v) :: cellsFrom (a + 1) rest

/-- Store bytes from an address on, keeping the canonical form. -/
def flashWrite (m : List Host.Cell) (a : Nat) (bytes : List Byte) : List Host.Cell :=
  m.filter (fun c => decide (c.1 < a)) ++ cellsFrom a bytes ++
    m.filter (fun c => decide (a + bytes.length ≤ c.1))

/-- The `n` bytes from an address on. -/
def flashRead (m : List Host.Cell) (a n : Nat) : List Byte :=
  (List.range n).map (fun i => flashByte m (a + i))

/-- The canonical form: addresses strictly rising, no cell equal to what an unlisted address reads as. -/
def flashWf (m : List Host.Cell) : Bool :=
  match m with
  | [] => true
  | (a, v) :: rest =>
    decide (v ≠ Config.erasedByte) && rest.all (fun c => decide (a < c.1)) && flashWf rest

/-! ## Block setters -/

def State.setPending (s : State) (x : List Instr) : State := { s with pending := x }
def State.setRun (s : State) (x : RunState) : State := { s with run := x }
def State.setLink (s : State) (x : Link) : State := { s with link := x }
def State.setRecords (s : State) (x : Records) : State := { s with records := x }
def State.setPlanner (s : State) (x : Planner) : State := { s with planner := x }
def State.setStore (s : State) (x : Store) : State := { s with store := x }
def State.setRack (s : State) (x : List Slot) : State := { s with rack := x }
def State.setMail (s : State) (x : Mail) : State := { s with mail := x }
def State.setReturns (s : State) (x : Returns) : State := { s with returns := x }
def State.setCalendar (s : State) (x : Calendar) : State := { s with calendar := x }
def State.setDrawn (s : State) (x : Nat) : State := { s with drawn := x }

/-! ## Reading and writing one record -/

def State.patron (s : State) (i : Nat) : Option Patron := s.records.patrons.look i
def State.title (s : State) (i : Nat) : Option Title := s.records.titles.look i
def State.loan (s : State) (i : Nat) : Option Loan := s.records.loans.look i
def State.plan (s : State) (i : Nat) : Option Plan := s.planner.plans.look i
def State.image (s : State) (i : Nat) : Option Image := s.store.images.look i

def State.setPatron (s : State) (i : Nat) (p : Patron) : State :=
  s.setRecords { s.records with patrons := s.records.patrons.put i p }

def State.freePatron (s : State) (i : Nat) : State :=
  s.setRecords { s.records with patrons := s.records.patrons.del i }

def State.setTitle (s : State) (i : Nat) (t : Title) : State :=
  s.setRecords { s.records with titles := s.records.titles.put i t }

def State.setLoan (s : State) (i : Nat) (l : Loan) : State :=
  s.setRecords { s.records with loans := s.records.loans.put i l }

/-- Free a loan record (R20). -/
def State.freeLoan (s : State) (i : Nat) : State :=
  s.setRecords { s.records with loans := s.records.loans.del i }

def State.setLost (s : State) (l : List Lost) : State := s.setRecords { s.records with lost := l }

def State.setPlan (s : State) (i : Nat) (p : Plan) : State :=
  s.setPlanner { s.planner with plans := s.planner.plans.put i p }

def State.erasePlan (s : State) (i : Nat) : State :=
  s.setPlanner { s.planner with plans := s.planner.plans.del i }

def State.setImage (s : State) (i : Nat) (e : Image) : State :=
  s.setStore { s.store with images := s.store.images.put i e }

def State.setFetches (s : State) (l : List Fetch) : State := s.setStore { s.store with fetches := l }

/-- Slot 1 to 8. -/
def State.slot (s : State) (n : Nat) : Slot := s.rack.getD (n - 1) Slot.bare

def State.setSlot (s : State) (n : Nat) (x : Slot) : State := s.setRack (s.rack.set (n - 1) x)

/-- Bank 0 to 3. -/
def State.bank (s : State) (b : Nat) : Bank := s.store.banks.getD b Bank.idle

def State.setBank (s : State) (b : Nat) (x : Bank) : State :=
  s.setStore { s.store with banks := s.store.banks.set b x }

/-- Change a patron record, where there is one. -/
def State.onPatron (s : State) (i : Nat) (f : Patron → Patron) : State :=
  match s.patron i with
  | some p => s.setPatron i (f p)
  | none => s

/-- Change a title record, where there is one. -/
def State.onTitle (s : State) (i : Nat) (f : Title → Title) : State :=
  match s.title i with
  | some t => s.setTitle i (f t)
  | none => s

/-- Change an image, where there is one. -/
def State.onImage (s : State) (i : Nat) (f : Image → Image) : State :=
  match s.image i with
  | some e => s.setImage i (f e)
  | none => s

/-- Change a plan, where there is one. -/
def State.onPlan (s : State) (i : Nat) (f : Plan → Plan) : State :=
  match s.plan i with
  | some p => s.setPlan i (f p)
  | none => s

/-! ## The clock and the roll as other blocks read them -/

/-- Today: the clock's date, whichever state the clock is in (R155). -/
def State.today (s : State) : Nat := s.calendar.clock.day

/-- The clock's time as it stands. -/
def State.now (s : State) : TimeOfDay := s.calendar.clock.time

/-- A day roll is running (R168). -/
def State.rolling (s : State) : Bool := s.calendar.roll.isSome

/-! ## Classes (00_scope.md, Units) -/

def Cls.rank (c : Cls) : Nat :=
  match c with
  | .c2 => 0
  | .c4 => 1
  | .c8 => 2

/-- Usable blocks of a class, blocks 1 to this number. -/
def Cls.usable (c : Cls) : Nat :=
  match c with
  | .c2 => 8159
  | .c4 => 16319
  | .c8 => 32639

/-- Reserve blocks of a class. -/
def Cls.reserve (c : Cls) : Nat :=
  match c with
  | .c2 => 32
  | .c4 => 64
  | .c8 => 128

/-- First reserve block of a class. -/
def Cls.reserveStart (c : Cls) : Nat := c.usable + 1

/-- The block size of a title of so many pages (R41). -/
def blockSize (pages : Nat) : Nat := ceilDiv pages Config.blockPages

/-- Frames of an image of so many pages (R69). -/
def framesOf (pages : Nat) : Nat := ceilDiv pages Config.framePages

/-- A format the patron's media set holds (1.2). -/
def Media.holds (m : Media) (f : Format) : Bool :=
  match f with
  | .audio => m.audio
  | .ebraille => m.ebraille
  | .pbraille => m.pbraille

/-- A title with a stored image: AUDIO or EBRAILLE. -/
def Format.hasImage (f : Format) : Bool :=
  match f with
  | .pbraille => false
  | _ => true

end Sys2Proof.Machine
end

