-- ==== Sys2Proof/Machine/Flags.lean ====
section
/-!
DEFINITION. Event flags and the attention output (R187 to R190).
-/

namespace Sys2Proof.Machine

/-- A flag's bit (10.5). -/
def Flag.bit (f : Flag) : Nat :=
  match f with
  | .slotDone => 0
  | .slotFault => 1
  | .planFailed => 2
  | .fetchWanted => 3
  | .batchClosed => 4
  | .pickupEmpty => 5
  | .holdFilled => 6
  | .returnRead => 7
  | .binFull => 8
  | .reminders => 9
  | .rollSoon => 10
  | .rollDone => 11
  | .clockStopped => 12
  | .backupLow => 13
  | .linkFault => 14

/-- The set holding one flag. -/
def Flag.mask (f : Flag) : FlagSet := BitVec.ofNat 15 (2 ^ f.bit)

/-- Some flag set in the main or the pending half is set together with its enable (R190). -/
def Events.asserted (e : Events) : Bool := decide ((e.main ||| e.pending) &&& e.enables ≠ 0#15)

/-- Bring the attention output into line (R190: "The output follows each change at once"). -/
def Events.drive (e : Events) : Events := { e with attention := e.asserted }

/-- Raise a flag: in the main half, or in the pending half while an EVENTS READ is served (R187). -/
def Events.raise (e : Events) (f : Flag) : Events :=
  if e.reading then Events.drive { e with pending := e.pending ||| f.mask }
  else Events.drive { e with main := e.main ||| f.mask }

/-- An EVENTS READ is taken (R188). -/
def Events.take (e : Events) : Events := Events.drive { e with reading := true }

/-- The reply of an EVENTS READ is formed: the pending half becomes the main half (R188). -/
def Events.reply (e : Events) : Events :=
  Events.drive { e with main := e.pending, pending := 0#15, reading := false }

/-- Write the enable set whole (R189). -/
def Events.enable (e : Events) (x : FlagSet) : Events := Events.drive { e with enables := x }

/-- A flag stands in a set. -/
def FlagSet.holds (x : FlagSet) (f : Flag) : Bool := x.getLsbD f.bit

def State.setEvents (s : State) (e : Events) : State := s.setLink { s.link with events := e }

/-- Raise an event flag. -/
def State.raise (s : State) (f : Flag) : State := s.setEvents (s.link.events.raise f)

end Sys2Proof.Machine
end

