-- ==== Sys2Proof/Machine/Operands.lean ====
section
/-!
DEFINITION. The forms operands and reply fields take on the link, and the layouts on a cartridge
(chapter 10). Multi-byte fields are sent least significant byte first. A number that 10.2 does not list
takes the fewest of 1, 2 and 4 bytes that hold its range (log entry 10); a field that does not apply is
sent as 0 (R194).
-/

namespace Sys2Proof.Machine

/-! ## Writing fields -/

def u8 (n : Nat) : List Byte := [BitVec.ofNat 8 n]
def u16 (n : Nat) : List Byte := [BitVec.ofNat 8 n, BitVec.ofNat 8 (n / 256)]
def u32 (n : Nat) : List Byte :=
  [BitVec.ofNat 8 n, BitVec.ofNat 8 (n / 256), BitVec.ofNat 8 (n / 65536), BitVec.ofNat 8 (n / 16777216)]
/-- A flag or a yes/no indication as it is sent: 1 for set, 0 for clear. A flag received is set by any value but 0;
which of those values the part sends is the model's choice (10.2, R194; log entry 52). -/
def flagByte (b : Bool) : List Byte := u8 (if b then 1 else 0)

/-- A date: year, month, day (10.2). -/
def dateField (n : Nat) : List Byte :=
  let d := dateOf n
  u16 d.1 ++ u8 d.2.1 ++ u8 d.2.2

/-- An optional date; absent is all zero (10.2). -/
def dateField? (n : Option Nat) : List Byte :=
  match n with
  | some n => dateField n
  | none => u32 0

def timeField (t : TimeOfDay) : List Byte := u8 t.hour ++ u8 t.minute ++ u8 t.second

/-- A field where ANY is allowed: 0xFF for ANY (10.2). -/
def anyField (x : Option Nat) : List Byte := u8 (x.getD 255)

/-- A list: its members after a 2-byte count (R194). -/
def listField {α : Type} (f : α → List Byte) (l : List α) : List Byte := u16 l.length ++ l.flatMap f

/-! ## Reading fields -/

/-- A little-endian number. -/
def leNat (bytes : List Byte) : Nat :=
  match bytes with
  | [] => 0
  | b :: rest => b.toNat + 256 * leNat rest

/-- The little-endian number of `n` bytes at an offset. -/
def leAt (bytes : List Byte) (offset n : Nat) : Nat := leNat ((bytes.drop offset).take n)

/-- A flag field: any value but 0 is set (10.2). -/
def flagOf (n : Nat) : Bool := decide (n ≠ 0)

/-- A field where ANY is allowed (10.2). -/
def anyOf (n : Nat) : Option Nat := if n = 255 then none else some n

/-! ## Codes -/

def Cls.code (c : Cls) : Nat :=
  match c with
  | .c2 => 2
  | .c4 => 4
  | .c8 => 8

def clsOf (n : Nat) : Option Cls :=
  match n with
  | 2 => some .c2
  | 4 => some .c4
  | 8 => some .c8
  | _ => none

def Format.code (f : Format) : Nat :=
  match f with
  | .audio => 1
  | .ebraille => 2
  | .pbraille => 3

def formatOf (n : Nat) : Option Format :=
  match n with
  | 1 => some .audio
  | 2 => some .ebraille
  | 3 => some .pbraille
  | _ => none

/-- A media set field; bits 3 to 7 are ignored (10.2). -/
def mediaOf (n : Nat) : Media :=
  { audio := n.testBit 0, ebraille := n.testBit 1, pbraille := n.testBit 2 }

def Media.code (m : Media) : Nat :=
  (if m.audio then 1 else 0) + (if m.ebraille then 2 else 0) + (if m.pbraille then 4 else 0)

def Media.nonempty (m : Media) : Bool := m.audio || m.ebraille || m.pbraille

def binOf (n : Nat) : Option BinName :=
  match n with
  | 1 => some .reuse
  | 2 => some .inspect
  | _ => none

def BinName.code (b : BinName) : Nat :=
  match b with
  | .reuse => 1
  | .inspect => 2

/-- Status codes (10.4). -/
def Status.code (s : Status) : Nat :=
  match s with
  | .ok => 0
  | .unknown => 1
  | .length => 2
  | .range => 3
  | .noRecord => 4
  | .exists => 5
  | .full => 6
  | .state => 7
  | .rolling => 8
  | .clockRunning => 9
  | .pinned => 10
  | .alreadyRead => 11
  | .onLoan => 12
  | .notEligible => 13
  | .sequence => 14

/-- FREE is 0 (R194's example, R3). -/
def PatronState.code (s : PatronState) : Nat :=
  match s with
  | .active => 1
  | .paused => 2
  | .closed => 3

def Deferral.code (d : Deferral) : Nat :=
  match d with
  | .none => 0
  | .fillLow => 1
  | .storeSpace => 2

def EntryState.code (s : EntryState) : Nat :=
  match s with
  | .waiting => 0
  | .planned _ => 1
  | .hold => 2
  | .allocated _ _ => 3

def CopyPlace.code (c : CopyPlace) : Nat :=
  match c with
  | .absent => 0
  | .shelf => 1
  | .item => 2
  | .loan _ => 3
  | .missing => 4

def PlanState.code (s : PlanState) : Nat :=
  match s with
  | .queued => 0
  | .inSlot _ => 1
  | .mailing _ => 2

def FetchState.code (s : FetchState) : Nat :=
  match s with
  | .waiting => 0
  | .streaming _ => 1

def SlotState.code (s : SlotState) : Nat :=
  match s with
  | .empty => 0
  | .ident => 1
  | .idleBlank => 2
  | .idleDirty => 3
  | .preErase => 4
  | .erasing => 5
  | .programming => 6
  | .verifying => 7
  | .waitImage => 8
  | .held => 9
  | .directory => 10
  | .done => 11
  | .fault => 12

def Marker.code (m : Marker) : Nat :=
  match m with
  | .blank => 0
  | .written => 1
  | .dirty => 2

def Phase.code (p : Phase) : Nat :=
  match p with
  | .preErase => 0
  | .erasing => 1
  | .programming => 2
  | .verifying => 3
  | .waitImage => 4

def EraseKind.code (k : EraseKind) : Nat :=
  match k with
  | .skipped => 0
  | .extent _ => 1
  | .full => 2

def FaultCause.code (c : FaultCause) : Nat :=
  match c with
  | .headerBad => 0
  | .onLoan => 1
  | .conflict => 2
  | .worn => 3
  | .writeProtected => 4
  | .protocol => 5
  | .timeout => 6
  | .noSpare => 7

def FaultPhase.code (p : FaultPhase) : Nat :=
  match p with
  | .ident => 0
  | .preErase => 1
  | .erasing => 2
  | .programming => 3
  | .verifying => 4
  | .directory => 5
  | .finishing => 6

def ItemState.code (s : ItemState) : Nat :=
  match s with
  | .awaitingPull => 0
  | .awaitingLabel => 1
  | .labelled _ _ => 2

def ReaderState.code (s : ReaderState) : Nat :=
  match s with
  | .empty => 0
  | .reading => 1
  | .result => 2
  | .pendingRoll => 3

def Classification.code (c : Classification) : Nat :=
  match c with
  | .checkedIn => 0
  | .late => 1
  | .unknown => 2
  | .unreadable => 3
  | .worn => 4

def ReturnOutcome.code (o : ReturnOutcome) : Nat :=
  match o with
  | .checkedIn => 0
  | .late => 1
  | .unknown => 2
  | .unreadable => 3
  | .worn => 4
  | .alreadyBinned => 5
  | .conflict => 6
  | .noBin => 7

def BinReason.code (r : BinReason) : Nat :=
  match r with
  | .checkedIn => 0
  | .late => 1
  | .unknown => 2
  | .unreadable => 3
  | .worn => 4
  | .spill => 5

/-! ## Requests (10.3) -/

/-- The body lengths a request code admits; none for a code that is no request of the part. -/
def bodyLengths (code : Nat) : Option (List Nat) :=
  match code with
  | 0x01 => some [0]
  | 0x02 => some [0]
  | 0x03 => some [0]
  | 0x04 => some [0]
  | 0x05 => some [2]
  | 0x06 => some [4]
  | 0x07 => some [9]
  | 0x08 => some [0]
  | 0x10 => some [10, 12]
  | 0x11 => some [2]
  | 0x12 => some [6]
  | 0x13 => some [2]
  | 0x14 => some [14, 16]
  | 0x15 => some [2]
  | 0x16 => some [3]
  | 0x17 => some [4]
  | 0x18 => some [2]
  | 0x19 => some [2]
  | 0x1A => some [0]
  | 0x20 => some [7]
  | 0x21 => some [4]
  | 0x22 => some [4]
  | 0x23 => some [2]
  | 0x24 => some [2]
  | 0x28 => some [0]
  | 0x29 => some [2]
  | 0x2A => some [2]
  | 0x2B => some [0]
  | 0x30 => some [0]
  | 0x31 => some [4101]
  | 0x32 => some [1]
  | 0x33 => some [2]
  | 0x34 => some [2]
  | 0x35 => some [0]
  | 0x36 => some [0]
  | 0x40 => some [1]
  | 0x41 => some [1]
  | 0x42 => some [1]
  | 0x43 => some [1]
  | 0x44 => some [1]
  | 0x50 => some [2]
  | 0x51 => some [2]
  | 0x52 => some [0]
  | 0x53 => some [2]
  | 0x54 => some [4]
  | 0x55 => some [0]
  | 0x58 => some [0]
  | 0x59 => some [3, 4]
  | 0x5A => some [1]
  | 0x5B => some [2]
  | 0x60 => some [0]
  | 0x61 => some [0]
  | 0x62 => some [7]
  | 0x63 => some [0]
  | 0x64 => some [1, 4]
  | 0x65 => some [0]
  | 0x66 => some [0]
  | _ => none

/-- How the Link Port judges a code and a body length (R179, R194). -/
inductive Judgement where
  | unknown | length | served
  deriving DecidableEq, Repr

def judge (code : Nat) (body : List Byte) : Judgement :=
  match bodyLengths code with
  | none => .unknown
  | some ls => if ls.contains body.length then .served else .length

/-! ## Frames (10.1) -/

/-- The sum of bytes modulo 2^16 (10.1). -/
def sum16 (bytes : List Byte) : Nat := (bytes.foldl (fun n b => n + b.toNat) 0) % 65536

/-- The bytes of a frame: sync, LEN, CODE, TAG, BODY and CHECK (10.1). -/
def frameBytes (code tag : Nat) (body : List Byte) : List Byte :=
  let inner := u16 (body.length + 2) ++ u8 code ++ u8 tag ++ body
  (0xD3#8 : Byte) :: inner ++ u16 (sum16 inner)

/-- What the bytes gathered from a sync on amount to (R176). -/
inductive FrameJudgement where
  | incomplete | good | bad
  deriving DecidableEq, Repr

/-- Judge the bytes gathered: LEN once its second byte is there, CHECK once all bytes are (R176). -/
def judgeFrame (frame : List Byte) : FrameJudgement :=
  if frame.length < 3 then .incomplete
  else
    let len := leAt frame 1 2
    if len < 2 ∨ Config.lenMax < len then .bad
    else if frame.length < len + 5 then .incomplete
    else if sum16 ((frame.drop 1).take (len + 2)) = leAt frame (len + 3) 2 then .good
    else .bad

/-! ## Sums of words -/

/-- The sum modulo 2^32 of bytes taken as little-endian words; a word run past the end is completed with
zero bytes (R71, R195, R196). -/
def wordSum (bytes : List Byte) : Word :=
  match bytes with
  | a :: b :: c :: d :: rest => wordOf a b c d + wordSum rest
  | [a, b, c] => wordOf a b c 0#8
  | [a, b] => wordOf a b 0#8 0#8
  | [a] => wordOf a 0#8 0#8 0#8
  | [] => 0#32

/-! ## The cartridge (10.6, 10.7) -/

/-- The marker word of page 0. -/
def markerWord : Nat := 0x5A3C96A5

/-- The identity area of a good read; none is unreadable (R134, R195). -/
def identityOf (ok : Bool) (area : List Byte) : Option Identity :=
  if ok && area.length == 12 && decide (leAt area 0 4 ≠ 0) then
    match clsOf (leAt area 4 1) with
    | some c =>
      some { serial := leAt area 0 4, cls := c, cycles := leAt area 8 4, tab := flagOf (leAt area 5 1) }
    | none => none
  else none

/-- The first 16 bytes of a blank stamp (10.6). -/
def stampHead (c : Cls) (cycles day : Nat) : List Byte :=
  u32 markerWord ++ u8 1 ++ u8 c.code ++ u16 0 ++ u32 cycles ++ dateField day

/-- Page 0 with a blank stamp (10.6). -/
def stampPage (c : Cls) (cycles day : Nat) : List Byte :=
  stampHead c cycles day ++ u32 (wordSum (stampHead c cycles day)).toNat ++ List.replicate 492 0xFF#8

/-- Page 0 carries the marker word and a kind (R195). -/
def hasMarker (page : List Byte) (kind : Nat) : Bool :=
  decide (leAt page 0 4 = markerWord ∧ leAt page 4 1 = kind)

/-- A valid blank stamp for a cartridge whose identity area was read (R195). -/
def stampValid (page : List Byte) (c : Cls) (cycles : Nat) : Bool :=
  hasMarker page 1 &&
    decide (leAt page 5 1 = c.code ∧ leAt page 8 4 = cycles ∧
      leAt page 16 4 = (wordSum (page.take 16)).toNat) &&
    validDate (leAt page 12 2) (leAt page 14 1) (leAt page 15 1)

/-- One placement of a directory. -/
structure DirPlacement where
  catalogue : Nat
  start : Nat
  blocks : Nat
  pages : Nat
  format : Nat
  deriving DecidableEq, Repr

/-- What a directory says (10.7). -/
structure Directory where
  cls : Nat
  planTag : Nat
  key : Nat
  number : Nat
  cycles : Nat
  placements : List DirPlacement
  spares : List (Nat × Nat)
  deriving DecidableEq, Repr

/-- A directory's bytes up to its sum (10.7). -/
def Directory.head (d : Directory) : List Byte :=
  u32 markerWord ++ u8 2 ++ u8 d.cls ++ u8 d.placements.length ++ u8 0 ++ u16 d.planTag ++ u16 d.key ++
    u32 d.number ++ u32 d.cycles ++ u16 d.spares.length ++ u16 0 ++
    d.placements.flatMap (fun p =>
      u32 p.catalogue ++ u32 p.start ++ u32 p.blocks ++ u32 p.pages ++ u8 p.format ++ u8 0 ++ u16 0) ++
    d.spares.flatMap (fun e => u32 e.1 ++ u32 e.2)

/-- Bytes cut into pages, the last filled with 0xFF (R196). -/
def cutPages (bytes : List Byte) (fuel : Nat) : List (List Byte) :=
  match fuel with
  | 0 => []
  | fuel + 1 =>
    if bytes.isEmpty then []
    else
      (bytes.take 512 ++ List.replicate (512 - bytes.length) 0xFF#8) :: cutPages (bytes.drop 512) fuel

/-- The pages of a directory (10.7, R196). -/
def Directory.pages (d : Directory) : List (List Byte) :=
  cutPages (d.head ++ u32 (wordSum d.head).toNat) 3

/-- Length of a directory with so many placements and spares (10.7). -/
def directoryLength (n s : Nat) : Nat := 28 + 20 * n + 8 * s

/-- The pages a directory needs, by the counts of its header (R196). -/
def directoryPages (page : List Byte) : Nat :=
  ceilDiv (directoryLength (leAt page 6 1) (leAt page 20 2)) Config.pageBytes

def readPlacements (bytes : List Byte) (n : Nat) : List DirPlacement :=
  (List.range n).map fun i =>
    { catalogue := leAt bytes (24 + 20 * i) 4, start := leAt bytes (28 + 20 * i) 4,
      blocks := leAt bytes (32 + 20 * i) 4, pages := leAt bytes (36 + 20 * i) 4,
      format := leAt bytes (40 + 20 * i) 1 }

def readSpares (bytes : List Byte) (n s : Nat) : List (Nat × Nat) :=
  (List.range s).map fun i =>
    (leAt bytes (24 + 20 * n + 8 * i) 4, leAt bytes (28 + 20 * n + 8 * i) 4)

/-- Placements contiguous from a block (R88). -/
def contiguousFrom (start : Nat) (ps : List DirPlacement) : Bool :=
  match ps with
  | [] => true
  | p :: rest => decide (p.start = start) && contiguousFrom (start + p.blocks) rest

def noRepeats (l : List Nat) : Bool :=
  match l with
  | [] => true
  | x :: rest => !rest.contains x && noRepeats rest

/-- Last used block of contiguous placements. -/
def lastBlock (ps : List DirPlacement) : Nat := (ps.map (·.blocks)).sum

/-- The plan tag and last used block of a valid directory; none shows DIRTY (R88, R196). -/
def directoryOf (pages : List (List Byte)) (c : Cls) (cycles : Nat) : Option (Nat × Nat) :=
  let bytes := pages.flatten
  let n := leAt bytes 6 1
  let s := leAt bytes 20 2
  let ps := readPlacements bytes n
  let sp := readSpares bytes n s
  let len := directoryLength n s
  if hasMarker bytes 2 && decide (leAt bytes 5 1 = c.code ∧ leAt bytes 16 4 = cycles) &&
      decide (1 ≤ n ∧ n ≤ Config.placementMax ∧ s ≤ c.reserve) &&
      decide (leAt bytes (len - 4) 4 = (wordSum (bytes.take (len - 4))).toNat) &&
      ps.all (fun p =>
        decide ((p.format = 1 ∨ p.format = 2) ∧ p.blocks = blockSize p.pages ∧ 1 ≤ p.pages ∧
          p.pages ≤ Config.pagesMax)) &&
      contiguousFrom 1 ps && decide (lastBlock ps ≤ c.usable) &&
      sp.all (fun e =>
        decide (c.reserveStart ≤ e.2 ∧ e.2 < c.reserveStart + c.reserve ∧ 1 ≤ e.1 ∧
          e.1 ≤ lastBlock ps)) &&
      noRepeats (sp.map (·.2)) && noRepeats (sp.map (·.1)) then
    some (leAt bytes 8 2, lastBlock ps)
  else none

end Sys2Proof.Machine
end

