-- ==== Sys2Proof/Machine/Ledger.lean ====
section
/-!
DEFINITION. Operations several blocks share on patrons: deferrals, counts and the read history, the
planning trigger and the Service List, the contexts, and how a request is taken and answered.
-/

namespace Sys2Proof.Machine

/-! ## Planning triggers and deferrals (R47, R49) -/

/-- A planning trigger is met; it is taken once the step's own changes are made (R49). -/
def State.noteTrigger (s : State) : State := s.setPlanner { s.planner with due := true }

/-- A change of the patron's list, count or class clears FILL_LOW; the event that cleared it is a
planning trigger (R47; log entry 5). -/
def State.clearFillLow (s : State) (p : Nat) : State :=
  match s.patron p with
  | some r =>
    if r.deferral = .fillLow then (s.setPatron p { r with deferral := .none }).noteTrigger else s
  | none => s

/-- STORE_SPACE is cleared for every patron that holds it (R47). -/
def Patron.clearStoreSpace (r : Patron) : Patron :=
  if r.deferral = .storeSpace then { r with deferral := .none } else r

/-- A pin released, or blocks returned to the pool (R47, R49, R62, R66). -/
def State.spaceFreed (s : State) : State :=
  (s.setRecords
    { s.records with patrons := s.records.patrons.map (fun e => (e.1, e.2.clearStoreSpace)) }).noteTrigger

/-! ## Counts and history (R4, R5) -/

/-- The patron's cartridge count rises by one (R4). -/
def State.raiseCarts (s : State) (p : Nat) : State :=
  (s.onPatron p (fun r => { r with cartCount := r.cartCount + 1 })).clearFillLow p

/-- The patron's cartridge count drops by one (R4). -/
def State.dropCarts (s : State) (p : Nat) : State :=
  (s.onPatron p (fun r => { r with cartCount := r.cartCount - 1 })).clearFillLow p

/-- The patron's set count rises by one (R4). -/
def State.raiseSets (s : State) (p : Nat) : State :=
  (s.onPatron p (fun r => { r with setCount := r.setCount + 1 })).clearFillLow p

/-- The patron's set count drops by one (R4). -/
def State.dropSets (s : State) (p : Nat) : State :=
  (s.onPatron p (fun r => { r with setCount := r.setCount - 1 })).clearFillLow p

/-- A title joins the read history as newest; the oldest of 48 others leaves (R5). -/
def historyAdd (h : List Nat) (c : Nat) : List Nat :=
  if h.contains c then h.filter (· ≠ c) ++ [c]
  else if Config.historyMax ≤ h.length then h.drop (h.length + 1 - Config.historyMax) ++ [c]
  else h ++ [c]

/-- A title's catalogue number; 0 for a FREE record. -/
def State.catalogue (s : State) (t : Nat) : Nat :=
  match s.title t with
  | some r => r.catalogue
  | none => 0

/-- A patron's number; 0, the absent form, for a FREE record. -/
def State.patronNumber (s : State) (p : Nat) : Nat :=
  match s.patron p with
  | some r => r.number
  | none => 0

/-! ## Candidates and the Service List (R42, R46) -/

/-- The entries the window holds, whatever their state (R42). -/
def State.window (s : State) (r : Patron) : List OrderEntry := r.orders.take s.link.settings.window

/-- An entry of the window is a candidate (R42). -/
def State.candidate (s : State) (r : Patron) (e : OrderEntry) : Bool :=
  decide (e.state = .waiting) &&
    match s.title e.title with
    | some t => t.format.hasImage && r.media.holds t.format && !t.withdrawn && !t.bad
    | none => false

/-- The patron is on the Service List (R46). -/
def State.serviceable (s : State) (r : Patron) : Bool :=
  decide (r.state = .active ∧ r.cartCount < r.cartLimit ∧ r.deferral = .none) &&
    (s.window r).any (fun e => s.candidate r e && !e.oversize)

/-- Service order: no last-service date first, then the oldest date; the Patron Table's order decides
between equal dates (R46). -/
def serviceKey (e : Nat × Patron) : Nat :=
  match e.2.lastService with
  | some d => d + 1
  | none => 0

/-- The Service List (R46). -/
def State.serviceList (s : State) : List Nat :=
  (sortByKey serviceKey (s.records.patrons.filter (fun e => s.serviceable e.2))).map (·.1)

/-- Begin a pass: form the Service List and clear the re-run mark (R48). A pass with nobody on its list
ends at once (log entry 6). -/
def State.beginPass (s : State) : State :=
  match s.serviceList with
  | [] => s.setPlanner { s.planner with pass := none, rerun := false }
  | l => s.setPlanner { s.planner with pass := some l, rerun := false }

/-- Take the planning trigger met in this step, if any: begin a pass, or mark the running one to run
again (R48, R49). -/
def State.takeTrigger (s : State) : State :=
  if s.planner.due then
    match s.planner.pass with
    | none => (s.setPlanner { s.planner with due := false }).beginPass
    | some _ => s.setPlanner { s.planner with due := false, rerun := true }
  else s

/-! ## Naming a record (R2, R181) -/

/-- The patron index a request means: its field, or the context for 0 (R2). -/
def State.patronIndex (s : State) (i : Nat) : Except Status Nat :=
  if Config.patronMax < i then .error .range
  else if i = 0 then
    match s.link.patronCtx with
    | some k => .ok k
    | none => .error .noRecord
  else .ok i

/-- The title index a request means (R2). -/
def State.titleIndex (s : State) (i : Nat) : Except Status Nat :=
  if Config.titleMax < i then .error .range
  else if i = 0 then
    match s.link.titleCtx with
    | some k => .ok k
    | none => .error .noRecord
  else .ok i

/-- The patron a request names, checked as R2 gives. -/
def State.findPatron (s : State) (i : Nat) : Except Status (Nat × Patron) :=
  match s.patronIndex i with
  | .error e => .error e
  | .ok k =>
    match s.patron k with
    | some r => .ok (k, r)
    | none => .error .noRecord

/-- The title a request names, checked as R2 gives. -/
def State.findTitle (s : State) (i : Nat) : Except Status (Nat × Title) :=
  match s.titleIndex i with
  | .error e => .error e
  | .ok k =>
    match s.title k with
    | some r => .ok (k, r)
    | none => .error .noRecord

/-- The loan a request names, checked as R2 gives. -/
def State.findLoan (s : State) (i : Nat) : Except Status Loan :=
  if i = 0 ∨ Config.loanMax < i then .error .range
  else
    match s.loan i with
    | some l => .ok l
    | none => .error .noRecord

/-- An accepted request that named a patron by a nonzero index sets the context (R181). -/
def State.usePatron (s : State) (i : Nat) : State :=
  if i = 0 then s else s.setLink { s.link with patronCtx := some i }

/-- An accepted request that named a title by a nonzero index sets the context (R181). -/
def State.useTitle (s : State) (i : Nat) : State :=
  if i = 0 then s else s.setLink { s.link with titleCtx := some i }

/-! ## Requests and replies (R178 to R180) -/

/-- A reply: its status and the fields after it (R179). -/
structure Reply where
  status : Status
  fields : List Byte
  deriving DecidableEq, Repr

/-- The reply's body: the status byte, then the fields (R194). -/
def Reply.body (r : Reply) : List Byte := u8 r.status.code ++ r.fields

/-- A request is accepted with these reply fields. -/
def accept (s : State) (fields : List Byte) : Reply × State := ({ status := .ok, fields := fields }, s)

/-- A request is refused: it changes nothing and sets no context (R179). -/
def refuse (s : State) (st : Status) : Reply × State := ({ status := st, fields := [] }, s)

/-- A refusal whose rule names reply fields (R70, R72). -/
def refuseWith (s : State) (st : Status) (fields : List Byte) : Reply × State :=
  ({ status := st, fields := fields }, s)

/-- Position of the oldest request not yet served (R179). -/
def oldestWaiting (q : List Request) : Option Nat := q.findIdx? (fun r => decide (r.stage = .waiting))

/-- Set the stage of the request at a position. -/
def setStage (q : List Request) (i : Nat) (st : Stage) : List Request :=
  match q, i with
  | [], _ => []
  | r :: rest, 0 => { r with stage := st } :: rest
  | r :: rest, i + 1 => r :: setStage rest i st

def State.setQueue (s : State) (q : List Request) : State := s.setLink { s.link with queue := q }

/-- A frame is completed good: its request joins the queue, or is discarded with LINK_FAULT while 4 are
pending (R178). -/
def State.arrive (s : State) (code tag : Nat) (body : List Byte) : State :=
  if s.link.queue.length < Config.requestMax then
    s.setQueue (s.link.queue ++ [{ code := code, tag := tag, body := body, stage := .waiting }])
  else s.raise .linkFault

/-- The Link Port takes a request (R179). It serves the oldest one not yet served, and none while an
EVENTS READ is being served. The request command stands for that one. When no request waits it stands for
a frame completed and taken at once; when another request is the oldest, it is not its turn and nothing
happens (log entry 7). The answer is the state, and the position of the request taken. -/
def State.takeRequest (s : State) (code tag : Nat) (body : List Byte) : State × Option Nat :=
  if s.run ≠ .running then (s, none)
  else
    match oldestWaiting s.link.queue with
    | some i =>
      if s.link.events.reading then (s, none)
      else if s.link.queue[i]? = some { code := code, tag := tag, body := body, stage := .waiting } then
        (s, some i)
      else (s, none)
    | none =>
      let s := s.arrive code tag body
      if s.link.events.reading then (s, none) else (s, oldestWaiting s.link.queue)

/-- The reply of the request at a position is formed (R179). -/
def State.formReply (s : State) (i : Nat) (r : Reply) : State :=
  s.setQueue (setStage s.link.queue i (.formed r.body))

/-- Take a request, serve it, form its reply, and take the planning trigger it was (R179, R49). -/
def State.serve (s : State) (code tag : Nat) (body : List Byte) (f : State → Reply × State) : State :=
  match s.takeRequest code tag body with
  | (s, none) => s
  | (s, some i) =>
    let a := f s
    (a.2.formReply i a.1).takeTrigger

end Sys2Proof.Machine
end

