-- ==== Sys2Proof/Machine/Holds.lean ====
section
/-!
DEFINITION. Order entries, tray items of paper sets, allocation and the hold sweep (R24, R28, R33 to R36,
R114, R117).
-/

namespace Sys2Proof.Machine

/-! ## Order entries (R24, R33) -/

/-- Set the state of the patron's entry for a title; an entry changing state clears FILL_LOW (R47). -/
def State.setEntry (s : State) (p t : Nat) (st : EntryState) : State :=
  (s.onPatron p (fun r =>
    { r with orders := r.orders.map (fun e => if e.title = t then { e with state := st } else e) })).clearFillLow p

/-- Every entry of the patron bound to a plan returns to WAITING and drops the plan number (R33). -/
def State.returnEntries (s : State) (p plan : Nat) : State :=
  (s.onPatron p (fun r =>
    { r with orders := r.orders.map (fun e =>
        if e.state = .planned plan then { e with state := .waiting } else e) })).clearFillLow p

/-- Entries leave the patron's list; those behind move up (R24). -/
def State.removeEntries (s : State) (p : Nat) (leaves : OrderEntry → Bool) : State :=
  (s.onPatron p (fun r => { r with orders := r.orders.filter (fun e => !leaves e) })).clearFillLow p

/-- The patron leaves a title's Hold Queue, the others keeping their order (R34). -/
def State.leaveHold (s : State) (p t : Nat) : State :=
  s.onTitle t (fun r => { r with holds := r.holds.filter (· ≠ p) })

/-- The oversize mark of every entry for a title is cleared (R33). -/
def State.clearOversizeOf (s : State) (t : Nat) : State :=
  s.setRecords { s.records with
    patrons := s.records.patrons.map (fun e =>
      (e.1, { e.2 with
        orders := e.2.orders.map (fun o => if o.title = t then { o with oversize := false } else o) })) }

/-! ## Copies (R18) -/

/-- Number of the lowest-numbered copy in SHELF. -/
def Title.shelfCopy (t : Title) : Option Nat :=
  (t.copies.findIdx? (fun c => decide (c = .shelf))).map (· + 1)

def Title.owned (t : Title) : Nat := t.copies.countP (fun c => decide (c ≠ .absent))
def Title.shelf (t : Title) : Nat := t.copies.countP (fun c => decide (c = .shelf))
def Title.missing (t : Title) : Nat := t.copies.countP (fun c => decide (c = .missing))

/-- The place of copy 1 to 15. -/
def Title.copy (t : Title) (c : Nat) : CopyPlace := t.copies.getD (c - 1) .absent

/-- A copy moves (R18). -/
def State.moveCopy (s : State) (t c : Nat) (place : CopyPlace) : State :=
  s.onTitle t (fun r => { r with copies := r.copies.set (c - 1) place })

/-! ## Tray items (R114, R117) -/

def ItemKind.isSet (k : ItemKind) : Bool :=
  match k with
  | .set _ _ => true
  | .cartridge _ _ => false

/-- SET items in the tray. -/
def State.setItems (s : State) : Nat := s.mail.tray.countP (fun i => i.kind.isSet)

/-- The number the next item takes (R114). -/
def State.nextItem (s : State) : Nat :=
  nextNumber Config.numberMax s.mail.lastItem (s.mail.tray.map (·.number))

/-- A new item joins the tail of the tray (R114). -/
def State.addItem (s : State) (p : Nat) (kind : ItemKind) (st : ItemState) : State :=
  s.setMail { s.mail with
    tray := s.mail.tray ++ [{ number := s.nextItem, patron := p, kind := kind, state := st }],
    lastItem := s.nextItem }

def State.item (s : State) (n : Nat) : Option Item := s.mail.tray.find? (fun i => decide (i.number = n))

/-- An item leaves the tray at once; a close that selected it passes it over (R117, R127). -/
def State.removeItem (s : State) (n : Nat) : State :=
  s.setMail { s.mail with
    tray := s.mail.tray.filter (fun i => decide (i.number ≠ n)),
    close := s.mail.close.map (fun c => { c with selection := c.selection.filter (· ≠ n) }) }

/-- A SET item is withdrawn: its copy returns to the shelf and the set count drops (R29, R117). -/
def State.withdrawSet (s : State) (i : Item) : State :=
  match i.kind with
  | .set t c => ((s.removeItem i.number).moveCopy t c .shelf).dropSets i.patron
  | .cartridge _ _ => s

/-! ## Allocation and the hold sweep (R28, R35, R36) -/

/-- The patron can take a copy, and the tray a set item (R28, R35). -/
def State.canTake (s : State) (p : Nat) : Bool :=
  match s.patron p with
  | some r => decide (r.state = .active ∧ r.setCount < r.setLimit ∧ s.setItems < Config.trayRoom)
  | none => false

/-- A shelf copy moves to ITEM and a set item is created in AWAITING_PULL; the set count rises (R28, R35).
The entry is the caller's. -/
def State.allocate (s : State) (p t c : Nat) : State :=
  ((s.moveCopy t c .item).addItem p (.set t c) .awaitingPull).raiseSets p

/-- The sweep gives one copy to the first patron of the queue that can take it (R35). -/
def State.sweepOnce (s : State) (t : Nat) : Option State :=
  match s.title t with
  | none => none
  | some r =>
    if r.withdrawn then none
    else
      match r.shelfCopy, r.holds.find? s.canTake with
      | some c, some p =>
        some ((((s.leaveHold p t).allocate p t c).setEntry p t (.allocated s.nextItem c)).raise .holdFilled)
      | _, _ => none

/-- The hold sweep of one title: from the head again for each further shelf copy (R35). -/
def State.sweepTitle (s : State) (t fuel : Nat) : State :=
  match fuel with
  | 0 => s
  | fuel + 1 =>
    match s.sweepOnce t with
    | some s' => s'.sweepTitle t fuel
    | none => s

/-- The titles an event names, ascending (R36). -/
def State.titlesWhere (s : State) (f : Nat → Title → Bool) : List Nat :=
  (s.records.titles.filter (fun e => f e.1 e.2)).map (·.1)

/-- Sweep each title of a set once, in ascending title index (R36). -/
def State.sweep (s : State) (titles : List Nat) : State :=
  titles.foldl (fun s t => s.sweepTitle t Config.copyMax) s

/-- A title whose queue holds the patron. -/
def queueHolds (p : Nat) (_t : Nat) (r : Title) : Bool := r.holds.contains p

/-- A title with a copy in SHELF and a nonempty queue. -/
def shelfAndQueue (_t : Nat) (r : Title) : Bool := r.copies.contains .shelf && !r.holds.isEmpty

/-- The sweep after a patron's set count drops or the patron becomes able to take more (R36). -/
def State.sweepPatron (s : State) (p : Nat) : State := s.sweep (s.titlesWhere (queueHolds p))

end Sys2Proof.Machine
end

