-- ==== Sys2Proof/Machine/Images.lean ====
section
/-!
DEFINITION. The Image Store's shared operations: the pool, images, pins, fetch entries and the bank
arbiters (R61 to R69, R77 to R79).
-/

namespace Sys2Proof.Machine

/-! ## The pool and allocation (R62, R63) -/

/-- Every store block an image holds. -/
def State.heldBlocks (s : State) : List Nat := s.store.images.flatMap (fun e => e.2.blocks)

/-- Free blocks of the whole store (R62). -/
def State.freeBlocks (s : State) : Nat := Config.storeBlocks - s.heldBlocks.length

/-- Free blocks of one bank, given the blocks held (R62). -/
def bankFree (used : List Nat) (b : Nat) : Nat :=
  Config.bankBlocks - used.countP (fun x => decide (x / Config.bankBlocks = b))

/-- Free places of the Resident Image Table. -/
def State.freePlaces (s : State) : Nat := Config.imageMax - s.store.images.length

/-- The lowest-numbered block from `n` on, among the next `fuel`, that is not held. -/
def lowestFree (used : List Nat) (n fuel : Nat) : Option Nat :=
  match fuel with
  | 0 => none
  | fuel + 1 => if used.contains n then lowestFree used (n + 1) fuel else some n

/-- The lowest-numbered free block of the first bank, from bank `b` on in the cycle, that has one (R63). -/
def takeBlock (used : List Nat) (b tries : Nat) : Option (Nat × Nat) :=
  match tries with
  | 0 => none
  | tries + 1 =>
    match lowestFree used (b * Config.bankBlocks) Config.bankBlocks with
    | some x => some (x, b)
    | none => takeBlock used ((b + 1) % Config.banks) tries

/-- The bank that takes image block 0: most free blocks, lowest number among equals (R63). -/
def firstBank (used : List Nat) : Nat :=
  (List.range Config.banks).foldl (fun best b => if bankFree used best < bankFree used b then b else best) 0

/-- Blocks for an image, one at a time across the banks in turn (R63). -/
def allocateFrom (used : List Nat) (b n : Nat) : List Nat :=
  match n with
  | 0 => []
  | n + 1 =>
    match takeBlock used b Config.banks with
    | some (x, k) => x :: allocateFrom (x :: used) ((k + 1) % Config.banks) n
    | none => []

/-- The block list of an image of `n` blocks (R63). -/
def allocateBlocks (used : List Nat) (n : Nat) : List Nat := allocateFrom used (firstBank used) n

/-! ## Images and pins (R64 to R67) -/

/-- An image leaves the table and the recency order; its blocks return to the pool (R64, R65). -/
def State.removeImage (s : State) (t : Nat) : State :=
  s.setStore { s.store with
    images := s.store.images.del t, recency := s.store.recency.filter (· ≠ t) }

/-- A RESIDENT title takes the most-recent end of the recency order (R65). -/
def State.toRecent (s : State) (t : Nat) : State :=
  match s.image t with
  | some e =>
    if e.resident then
      s.setStore { s.store with recency := s.store.recency.filter (· ≠ t) ++ [t] }
    else s
  | none => s

/-- One pin is added to a title's image (R66). -/
def State.pin (s : State) (t : Nat) : State := s.onImage t (fun e => { e with pins := e.pins + 1 })

/-- One pin is released: STORE_SPACE deferrals clear and it is a planning trigger (R66). -/
def State.unpin (s : State) (t : Nat) : State :=
  (s.onImage t (fun e => { e with pins := e.pins - 1 })).spaceFreed

/-- A FILLING image with nothing filled, given blocks (R64, R68). -/
def State.createImage (s : State) (t blocks pins : Nat) : State :=
  s.setImage t { resident := false, blocks := allocateBlocks s.heldBlocks blocks, filled := 0, sum := 0#32, pins := pins }

/-- The pins of a title's image; 0 where it has none. -/
def State.pins (s : State) (t : Nat) : Nat :=
  match s.image t with
  | some e => e.pins
  | none => 0

/-- The blocks of a title's image; 0 where it has none. -/
def State.imageBlocks (s : State) (t : Nat) : Nat :=
  match s.image t with
  | some e => e.blocks.length
  | none => 0

/-- RESIDENT images with no pin whose title is not being admitted (R50, R67). -/
def State.evictable (s : State) (titles : List Nat) : Table Image :=
  s.store.images.filter (fun e => e.2.resident && e.2.pins == 0 && !titles.contains e.1)

/-- The admission test: needed blocks, entries and fetch room against what is or can be made free (R50,
R80). The titles are those of the plan with their block sizes. -/
def State.admissible (s : State) (titles : List (Nat × Nat)) : Bool :=
  let needed := titles.filter (fun e => (s.image e.1).isNone)
  let out := s.evictable (titles.map (·.1))
  decide ((needed.map (·.2)).sum ≤ s.freeBlocks + (out.map (fun e => e.2.blocks.length)).sum ∧
    needed.length ≤ s.freePlaces + out.length ∧
    needed.length ≤ Config.fetchMax - s.store.fetches.length)

/-- Eviction: least-recent unpinned images outside the admission, until there is room (R67). -/
def State.evict (s : State) (titles walk : List Nat) (blocks places : Nat) : State :=
  match walk with
  | [] => s
  | t :: rest =>
    if blocks ≤ s.freeBlocks ∧ places ≤ s.freePlaces then s
    else if s.pins t = 0 ∧ ¬ titles.contains t then
      ((s.removeImage t).spaceFreed).evict titles rest blocks places
    else s.evict titles rest blocks places

/-! ## Fetch entries (R69) -/

def State.fetch (s : State) (id : Nat) : Option Fetch := s.store.fetches.find? (fun f => decide (f.id = id))

def State.fetchOf (s : State) (t : Nat) : Option Fetch :=
  s.store.fetches.find? (fun f => decide (f.title = t))

/-- Streams running (R69). -/
def State.streams (s : State) : Nat :=
  s.store.fetches.countP (fun f => decide (f.state ≠ .waiting))

/-- The id the next fetch entry takes (R69). -/
def State.nextFetch (s : State) : Nat :=
  nextNumber Config.fetchIdMax s.store.lastFetch (s.store.fetches.map (·.id))

/-- A new fetch entry joins the tail (R69). -/
def State.addFetch (s : State) (t frames : Nat) : State :=
  s.setStore { s.store with
    fetches := s.store.fetches ++
      [{ id := s.nextFetch, title := t, state := .waiting, expected := frames, next := 0, retries := 0 }],
    lastFetch := s.nextFetch }

/-- Where no stream is marked the older, the one that runs is: of two streams, the younger once the older has
ended (R69, 11.3). -/
def promote (l : List Fetch) : List Fetch :=
  if l.any (fun f => decide (f.state = .streaming true)) then l
  else l.map (fun f => if f.state = .waiting then f else { f with state := .streaming true })

/-- A fetch entry leaves the queue, the others keeping their order (R69). -/
def State.removeFetch (s : State) (id : Nat) : State :=
  s.setFetches (promote (s.store.fetches.filter (fun f => decide (f.id ≠ id))))

/-- Change a fetch entry. -/
def State.onFetch (s : State) (id : Nat) (f : Fetch → Fetch) : State :=
  s.setFetches (s.store.fetches.map (fun e => if e.id = id then f e else e))

/-- A title is admitted with no image: a FILLING image and a fetch entry (R68, R80). -/
def State.admitTitle (s : State) (t pages : Nat) : State :=
  (s.createImage t (blockSize pages) 0).addFetch t (framesOf pages)

/-! ## Reading behind a fill (R77) -/

/-- Image block `j` of a title may be read (R77). -/
def State.readable (s : State) (t j : Nat) : Bool :=
  match s.image t with
  | none => false
  | some e =>
    if e.resident then decide (j < e.blocks.length)
    else decide (j + 1 < e.blocks.length ∧ Config.blockFrames * (j + 1) ≤ e.filled)

/-! ## Bank arbiters (R78, R79) -/

/-- The bank that holds a store block (R61). -/
def bankOf (block : Nat) : Nat := block / Config.bankBlocks

/-- The fill write a bank grants: that of the older stream (R78). -/
def State.nextFill (s : State) (fills : List FillOp) : Option FillOp :=
  match fills.find? (fun f => decide ((s.fetch f.fetch).map (·.state) = some (.streaming true))) with
  | some f => some f
  | none => fills.head?

/-- How far a slot stands, counting upward cyclically from the slot after the last served (R78). -/
def turnKey (last slot : Nat) : Nat := (slot + 7 - last) % 8

/-- The frame read a bank grants: the first waiting slot after the last served (R78). -/
def nextRead (last : Nat) (reads : List ReadOp) : Option ReadOp :=
  (sortByKey (fun r => turnKey last r.slot) reads).head?

/-- A bank grants a frame read; the slot's read-from-image mark is set (R78, R96). -/
def State.grantRead (s : State) (b : Nat) (r : ReadOp) : State :=
  let k := s.bank b
  (s.setBank b { k with
      current := some (.read r), reads := k.reads.filter (fun x => decide (x.slot ≠ r.slot)),
      lastServed := r.slot }).setSlot r.slot { s.slot r.slot with readMark := true }

/-- A bank that has completed an operation grants the next, or becomes idle (R78). -/
def State.grantNext (s : State) (b : Nat) : State :=
  let k := s.bank b
  match s.nextFill k.fills with
  | some f =>
    s.setBank b { k with
      current := some (.fill f), fills := k.fills.filter (fun x => decide (x.fetch ≠ f.fetch)) }
  | none =>
    match nextRead k.lastServed k.reads with
    | some r => s.grantRead b r
    | none => s.setBank b { k with current := none }

/-- A fill write is handed to its bank, granted at once when the bank is idle (R78). -/
def State.handFill (s : State) (f : FillOp) : State :=
  let b := bankOf f.block
  let k := s.bank b
  match k.current with
  | none => s.setBank b { k with current := some (.fill f) }
  | some _ => s.setBank b { k with fills := k.fills ++ [f] }

/-- A frame read is handed to its bank, granted at once when the bank is idle (R78). -/
def State.handRead (s : State) (r : ReadOp) : State :=
  let b := bankOf r.block
  let k := s.bank b
  match k.current with
  | none => s.grantRead b r
  | some _ => s.setBank b { k with reads := k.reads ++ [r] }

/-- What becomes of a granted operation when a slot loses its read (R79). -/
def BankOp.loseRead (op : BankOp) (slot : Nat) (fate : ReadFate) : BankOp :=
  match op with
  | .read r => if r.slot = slot ∧ r.fate ≠ .dropped then .read { r with fate := fate } else .read r
  | .fill f => .fill f

/-- A slot loses its frame read: withdrawn if not granted, discarded if granted (R79). -/
def State.loseRead (s : State) (slot : Nat) (fate : ReadFate) : State :=
  s.setStore { s.store with
    banks := s.store.banks.map (fun k =>
      { k with
        reads := k.reads.filter (fun r => decide (r.slot ≠ slot)),
        current := k.current.map (fun op => op.loseRead slot fate) }) }

/-- A bank has granted a frame read of the slot whose frame still counts. -/
def State.readGranted (s : State) (slot : Nat) : Bool :=
  s.store.banks.any (fun k =>
    match k.current with
    | some (.read r) => decide (r.slot = slot ∧ r.fate ≠ .dropped)
    | _ => false)

/-- A frame read of the slot waits in a bank and is not granted. -/
def State.readWaiting (s : State) (n : Nat) : Bool :=
  s.store.banks.any (fun k => k.reads.any (fun r => decide (r.slot = n)))

/-- A fetch has a fill write handed to a bank and not completed (R78). -/
def State.fillOutstanding (s : State) (id : Nat) : Bool :=
  s.store.banks.any (fun k =>
    k.fills.any (fun f => decide (f.fetch = id)) ||
      match k.current with
      | some (.fill f) => decide (f.fetch = id) && f.live
      | _ => false)

/-- What becomes of a granted operation when a fetch ends. -/
def BankOp.loseFill (op : BankOp) (id : Nat) : BankOp :=
  match op with
  | .fill f => if f.fetch = id then .fill { f with live := false } else .fill f
  | .read r => .read r

/-- A fetch loses its fill write: withdrawn if not granted, discarded if granted (R79). -/
def State.loseFill (s : State) (id : Nat) : State :=
  s.setStore { s.store with
    banks := s.store.banks.map (fun k =>
      { k with
        fills := k.fills.filter (fun f => decide (f.fetch ≠ id)),
        current := k.current.map (fun op => op.loseFill id) }) }

/-- A fill write of the fetch waits in a bank and is not granted. -/
def State.fillWaiting (s : State) (id : Nat) : Bool :=
  s.store.banks.any (fun k => k.fills.any (fun f => decide (f.fetch = id)))

end Sys2Proof.Machine
end

