-- ==== Sys2Proof/Machine/Slots.lean ====
section
/-!
DEFINITION. The slot controllers' shared operations: issuing cartridge operations, the erase, program,
verify and directory phases, job matching and binding, the end of a plan, unbinding, faults, DONE and
identification (R52 to R55, R84 to R109).
-/

namespace Sys2Proof.Machine

/-! ## The Job Queue (R53) -/

/-- Rush plans standing in the queue. -/
def State.rushJobs (s : State) (q : List Nat) : Nat :=
  q.countP (fun n => ((s.plan n).map (·.rush)).getD false)

def State.setJobs (s : State) (q : List Nat) : State := s.setPlanner { s.planner with queue := q }

/-- A committed plan joins the tail of its group (R53). -/
def State.joinTail (s : State) (n : Nat) (rush : Bool) : State :=
  if rush then s.setJobs (insertAt s.planner.queue (s.rushJobs s.planner.queue) n)
  else s.setJobs (s.planner.queue ++ [n])

/-- A plan returning from a slot joins the head of its group (R53). -/
def State.joinHead (s : State) (n : Nat) (rush : Bool) : State :=
  if rush then s.setJobs (n :: s.planner.queue)
  else s.setJobs (insertAt s.planner.queue (s.rushJobs s.planner.queue) n)

/-- A plan leaves the queue; bringing it from 16 plans to 15 is a planning trigger (R53). -/
def State.leaveJobs (s : State) (n : Nat) : State :=
  if s.planner.queue.contains n then
    let t := s.setJobs (s.planner.queue.filter (· ≠ n))
    if s.planner.queue.length = Config.commitBelow then t.noteTrigger else t
  else s

/-- A plan returns to QUEUED, loses its slot number and goes to the head of its group (R52). -/
def State.returnPlan (s : State) (n : Nat) : State :=
  match s.plan n with
  | some p => (s.setPlan n { p with state := .queued }).joinHead n p.rush
  | none => s

/-! ## Issuing operations (R85, R86) -/

/-- The running time an operation is allowed, in microseconds (R86). -/
def CartOp.limit (op : CartOp) : Nat :=
  match op with
  | .write (.program _ _ _) => Config.programLimit
  | .write (.eraseBlock _) => Config.eraseBlockLimit
  | .write (.eraseGroup _) => Config.eraseGroupLimit
  | .write .fullErase => Config.fullEraseLimit
  | _ => Config.shortLimit

/-- Issue a cartridge operation (R85). -/
def Slot.issue (sl : Slot) (op : CartOp) : Slot := { sl with op := some { op := op, elapsed := 0 } }

/-- Ask for the permit a write needs (R85). -/
def Slot.permit (sl : Slot) (w : WriteOp) : Slot := sl.issue (.grantPermit w)

/-! ## The erase phase (R93 to R95) -/

/-- What the erase phase does for a cartridge's recorded marker (R93). The erase set is fixed as the phase
begins, and stays so when the stamp's marker replaces the old directory's (R112). -/
def Cartridge.eraseKind (c : Cartridge) : EraseKind :=
  match c.marker with
  | .blank => .skipped
  | .written => .extent c.lastUsed
  | .dirty => .full

/-- The i-th operation of the extent erase of a cartridge used up to a block: aligned groups within the
set, the other blocks, then the reserve's groups, ascending (R93). -/
def extentErase (c : Cls) (last i : Nat) : WriteOp :=
  let groups := (last + 1) / 32
  let single := (last + 1) % 32
  if i < groups then .eraseGroup i
  else if i < groups + single then .eraseBlock (32 * groups + (i - groups))
  else .eraseGroup (c.reserveStart / 32 + (i - groups - single))

/-- Operations of the extent erase (R93). -/
def extentOps (c : Cls) (last : Nat) : Nat := (last + 1) / 32 + (last + 1) % 32 + c.reserve / 32

/-- Erase operations of the slot's phase (R93, R112). -/
def Slot.eraseOps (sl : Slot) : Nat :=
  match sl.eraseKind, sl.cart with
  | .skipped, _ => 0
  | .full, _ => 1
  | .extent last, some c => extentOps c.cls last
  | .extent _, none => 0

/-- The i-th erase of the slot's phase (R93). -/
def Slot.eraseAt (sl : Slot) (i : Nat) : WriteOp :=
  match sl.eraseKind, sl.cart with
  | .extent last, some c => extentErase c.cls last i
  | _, _ => .fullErase

/-- Issue what the erase cursor names (R93, R94). The stamp is composed, with today's date, as its permit is
asked for (log entry 40). -/
def Slot.goErase (sl : Slot) (today : Nat) : Slot :=
  match sl.eraseStep with
  | .erase i => sl.permit (sl.eraseAt i)
  | .mark => sl.issue .markCycle
  | .stamp =>
    match sl.cart with
    | some c =>
      { sl with pages := [stampPage c.cls c.cycles today] }.permit
        (.program 0 0 (stampPage c.cls c.cycles today))
    | none => sl
  | .stampBack => sl.issue (.readPage 0 0)
  | .ended => sl

/-- Begin the program phase: the erase of block 0 (R96). -/
def Slot.beginProgram (sl : Slot) : Slot :=
  { sl with state := .programming, cursor := Cursor.zero }.permit (.eraseBlock 0)

/-- Begin an erase phase for the recorded marker in a state (R92, R95). -/
def Slot.beginErase (sl : Slot) (st : SlotState) (today : Nat) : Slot :=
  { sl with
    state := st, eraseStep := .erase 0,
    eraseKind := match sl.cart with
      | some c => c.eraseKind
      | none => .full }.goErase today

/-! ## The program and verify phases (R96 to R98) -/

/-- Frames of an image block of a placement (R77, R96). -/
def Placement.blockFrames (p : Placement) (i : Nat) : Nat :=
  if i + 1 < p.blocks then Config.blockFrames
  else framesOf p.pages - Config.blockFrames * (p.blocks - 1)

/-- Pages of a frame that belong to the image (R96). -/
def Placement.framePages (p : Placement) (i f : Nat) : Nat :=
  if i + 1 = p.blocks ∧ f + 1 = p.blockFrames i ∧ p.pages % Config.framePages ≠ 0 then
    p.pages % Config.framePages
  else Config.framePages

/-- The placement the program cursor names. -/
def State.placementOf (s : State) (sl : Slot) : Option Placement :=
  match sl.job with
  | none => none
  | some n =>
    match s.plan n with
    | none => none
    | some p => p.placements[sl.cursor.placement]?

/-- The cartridge block written: the spare in hand, or start + image block (R96, R98). -/
def Slot.target (sl : Slot) (p : Placement) : Nat := sl.spare.getD (p.start + sl.cursor.image)

/-- Page `k` of a frame in the block buffer. -/
def Slot.bufferPage (sl : Slot) (f k : Nat) : List Byte :=
  ((sl.buffer.getD f []).drop (Config.pageBytes * k)).take Config.pageBytes

/-- What page `k` of the block in hand reads back as when it verifies: the buffer's page where one was
programmed, erased where none was (R98). -/
def Slot.expected (sl : Slot) (p : Placement) (k : Nat) : List Byte :=
  let f := k / Config.framePages
  if f < p.blockFrames sl.cursor.image ∧ k % Config.framePages < p.framePages sl.cursor.image f then
    sl.bufferPage f (k % Config.framePages)
  else List.replicate Config.pageBytes Config.erasedByte

/-- Hand the read of the frame at the cursor to the bank of its block (R96). -/
def State.readFrame (s : State) (n : Nat) (p : Placement) : State :=
  match s.image p.title with
  | none => s
  | some e =>
    s.handRead
      { slot := n, block := e.blocks.getD (s.slot n).cursor.image 0, place := (s.slot n).cursor.frame,
        fate := .deliver }

/-- The slot comes to the block at its cursor: it reads it if it is readable, and waits if not (R96, R97). -/
def State.beginBlock (s : State) (n : Nat) (p : Placement) : State :=
  let sl := s.slot n
  if s.readable p.title sl.cursor.image then
    (s.setSlot n { sl with state := .programming }).readFrame n p
  else s.setSlot n { sl with state := .waitImage }

/-- Verify the block or spare in hand from its first page (R98). -/
def Slot.beginVerify (sl : Slot) (p : Placement) : Slot :=
  { sl with state := .verifying, back := 0, backOk := true }.issue (.readPage (sl.target p) 0)

/-- Go on programming: block 0's erase, the next page, the next frame, or the verify (R96, R98, R104). -/
def State.goProgram (s : State) (n : Nat) : State :=
  let sl := s.slot n
  if !sl.cursor.erased then s.setSlot n (sl.permit (.eraseBlock 0))
  else
    match s.placementOf sl with
    | none => s
    | some p =>
      if p.blockFrames sl.cursor.image ≤ sl.cursor.frame then s.setSlot n (sl.beginVerify p)
      else if sl.spare.isSome || sl.cursor.inBuffer then
        s.setSlot n (sl.permit
          (.program (sl.target p) (Config.framePages * sl.cursor.frame + sl.cursor.page)
            (sl.bufferPage sl.cursor.frame sl.cursor.page)))
      else s.beginBlock n p

/-- Issue the next operation of the directory: write a page, or read one back (R100). -/
def Slot.goDirectory (sl : Slot) : Slot :=
  if sl.readingBack then sl.issue (.readPage 0 sl.back)
  else sl.permit (.program 0 sl.back (sl.pages.getD sl.back []))

/-- A slot with no operation in hand goes on with its phase. -/
def State.goOn (s : State) (n : Nat) : State :=
  let sl := s.slot n
  match sl.state with
  | .preErase =>
    if sl.eraseStep = .ended then s.setSlot n { sl with state := .idleBlank }
    else s.setSlot n (sl.goErase s.today)
  | .erasing =>
    if sl.eraseStep = .ended then s.setSlot n sl.beginProgram
    else s.setSlot n (sl.goErase s.today)
  | .programming => s.goProgram n
  | .verifying =>
    match s.placementOf sl with
    | some p => s.setSlot n (sl.issue (.readPage (sl.target p) sl.back))
    | none => s
  | .directory => s.setSlot n sl.goDirectory
  | _ => s

/-! ## Job matching and binding (R91, R92, R95) -/

/-- Available for matching (R84). -/
def Slot.available (sl : Slot) : Bool :=
  match sl.state with
  | .idleBlank => true
  | .idleDirty => !sl.finishing
  | .preErase => true
  | _ => false

/-- Slot numbers 1 to 8. -/
def slotNumbers : List Nat := [1, 2, 3, 4, 5, 6, 7, 8]

/-- The cycle count of an available slot holding a class. -/
def State.offer (s : State) (c : Cls) (n : Nat) : Option Nat :=
  let sl := s.slot n
  match sl.cart with
  | some r => if sl.available && decide (r.cls = c) then some r.cycles else none
  | none => none

/-- The available slot of a class with the lowest cycle count, the lowest number among equals (R91). -/
def State.bestSlot (s : State) (c : Cls) : Option Nat :=
  (sortByKey (fun n => (s.offer c n).getD 0) (slotNumbers.filter (fun n => (s.offer c n).isSome))).head?

/-- The slot a plan gets: its own class, else a larger one no larger than the player class (R91). -/
def State.slotFor (s : State) (p : Plan) : Option Nat :=
  match s.bestSlot p.cls with
  | some n => some n
  | none =>
    let player := match s.patron p.patron with
      | some r => r.cls.rank
      | none => 0
    (([Cls.c2, Cls.c4, Cls.c8].filter
      (fun c => decide (p.cls.rank < c.rank ∧ c.rank ≤ player))).filterMap (fun c => s.bestSlot c)).head?

/-- A slot takes a job (R92). -/
def Slot.take (sl : Slot) (job : Nat) (today : Nat) : Slot :=
  let b := { sl with
    job := some job, readMark := false, spares := [], sparesTaken := 0, spare := none,
    cursor := Cursor.zero, buffer := [] }
  match sl.state with
  | .idleBlank => { b with eraseKind := .skipped }.beginProgram
  | .preErase => { b with state := .erasing }
  | _ => b.beginErase .erasing today

/-- Bind a job to a slot, in one update (R92). -/
def State.bind (s : State) (n job : Nat) : State :=
  let s := (s.leaveJobs job).onPlan job (fun p => { p with state := .inSlot n })
  s.setSlot n ((s.slot n).take job s.today)

/-- Offer one job of the queue to the available slots (R91). -/
def State.offerJob (s : State) (job : Nat) : State :=
  match s.plan job with
  | none => s
  | some p =>
    match s.slotFor p with
    | some n => s.bind n job
    | none => s

/-- A slot left IDLE_DIRTY and unbound begins pre-erase (R91, R95). -/
def State.preErase (s : State) (n : Nat) : State :=
  let sl := s.slot n
  if sl.state = .idleDirty ∧ sl.finishing = false then
    s.setSlot n (sl.beginErase .preErase s.today)
  else s

/-- Job matching: walk the queue from its head, then begin pre-erase where it is due (R91). -/
def State.matchJobs (s : State) : State :=
  slotNumbers.foldl State.preErase (s.planner.queue.foldl State.offerJob s)

/-- A slot has become IDLE_DIRTY in an update that began in the state `old` (R91). -/
def State.idled (s old : State) : Bool :=
  slotNumbers.any (fun n =>
    decide ((s.slot n).state = .idleDirty) && decide ((old.slot n).state ≠ .idleDirty))

/-- The matching due to an update that may have left slots IDLE_DIRTY, and to no other event of R91: it is
tried once, after the update, and only where it has (log entry 28). -/
def State.matchIdled (s old : State) : State := if s.idled old then s.matchJobs else s

/-! ## Unbinding (R79, R105, R106) -/

/-- The erase that an unbinding leaves beside the suspend or resume in hand (R106). An erase being suspended is
abandoned at SUSPEND_DONE; one being resumed is seen through to ERASE_DONE, which is the model's choice (log entry
59). -/
def Slot.eraseUnderWay (sl : Slot) : Option OpInHand :=
  match sl.op with
  | some { op := .suspend, elapsed := _ } => sl.suspended
  | some { op := .resume, elapsed := _ } => sl.suspended
  | _ => none

/-- Record a marker other than WRITTEN; the old directory's tag and last block go with it (R84). -/
def Cartridge.mark (c : Cartridge) (m : Marker) : Cartridge :=
  { c with marker := m, planTag := 0, lastUsed := 0 }

/-- Record the marker WRITTEN with the directory's plan tag and last used block (R88, R101). -/
def Cartridge.written (c : Cartridge) (plan last : Nat) : Cartridge :=
  { c with marker := .written, planTag := plan, lastUsed := last }

/-- A slot without its phase: no job, cursors, buffer, spare map, pages or hold. DESIGN CHOICE, unsafe: the spares taken
go with the job, so that SLOT STATUS gives 0 of them, and the whole reserve left, after DONE, a fault or an unbinding;
R92 and R113 clear the spare map only at a binding and at a start (R112; log entry 64). -/
def Slot.release (sl : Slot) (st : SlotState) : Slot :=
  { sl with
    state := st, job := none, remembered := none, holdPending := false, cursor := Cursor.zero,
    buffer := [], readMark := false, spares := [], sparesTaken := 0, spare := none, back := 0,
    readingBack := false, backOk := true, pages := [], identPages := [], readBack := none,
    unstarted := none, doneItem := none, dispatched := false }

def CartOp.isPageRead (op : CartOp) : Bool :=
  match op with
  | .readPage _ _ => true
  | _ => false

/-- The fault that the page read in hand may find, with the page that finds none: the stamp's page, the
directory's last, and the last of a block for which no untaken reserve block is left (R94, R98, R100, R107,
R108; log entry 41). -/
def State.readBackOf (s : State) (sl : Slot) : Option ReadBack :=
  match sl.state with
  | .erasing => some { cause := .headerBad, page := sl.pages.head? }
  | .directory =>
    if sl.pages.length ≤ sl.back + 1 then
      some { cause := .headerBad, page := if sl.backOk then sl.pages[sl.back]? else none }
    else none
  | .verifying =>
    match s.placementOf sl, sl.cart with
    | some p, some c =>
      if Config.blockPages ≤ sl.back + 1 ∧ c.cls.reserve ≤ sl.sparesTaken then
        some { cause := .noSpare, page := if sl.backOk then some (sl.expected p sl.back) else none }
      else none
    | _, _ => none
  | _ => none

/-- The job is taken away from a slot: IDLE_DIRTY, marker DIRTY, finishing while an operation or a granted
frame read is in hand (R106; log entry 8). A page read in hand keeps what it is judged by (R107). -/
def State.unbind (s : State) (n : Nat) : State :=
  let sl := s.slot n
  let granted := s.readGranted n
  (s.loseRead n .awaited).setSlot n
    { sl.release .idleDirty with
      cart := sl.cart.map (fun c => c.mark .dirty), suspended := sl.eraseUnderWay, awaiting := granted,
      finishing := sl.op.isSome || granted,
      readBack := if sl.op.any (·.op.isPageRead) then s.readBackOf sl else none }

/-! ## The end of a plan (R54, R55) -/

/-- A slot in DONE loses the item it names: IDLE_DIRTY, its cartridge still WRITTEN (R102). -/
def State.undone (s : State) (plan n : Nat) : State :=
  let sl := s.slot n
  if sl.state = .done ∧ sl.doneItem.map (·.1) = some plan then
    s.setSlot n (sl.release .idleDirty)
  else s

/-- A plan leaves the place it stands in (R54, R55). -/
def State.leavePlace (s : State) (n : Nat) (p : Plan) : State :=
  match p.state with
  | .queued => s.leaveJobs n
  | .inSlot k => if (s.slot k).job = some n then s.unbind k else s
  | .mailing item => slotNumbers.foldl (fun s k => s.undone n k) (s.removeItem item)

/-- Release the pins of a plan, one for each placed title (R52, R66). -/
def State.unpinAll (s : State) (p : Plan) : State :=
  p.placements.foldl (fun s q => s.unpin q.title) s

/-- A live plan ends without being dispatched, in one update (R54, R55): it leaves its place, its entries
return to WAITING, the count drops, the pins of a QUEUED or IN_SLOT plan are released, and it is freed.
Job matching is the caller's, after the update, where a slot became IDLE_DIRTY (R91). -/
def State.endPlan (s : State) (n : Nat) : State :=
  match s.plan n with
  | none => s
  | some p =>
    let s := ((s.leavePlace n p).returnEntries p.patron n).dropCarts p.patron
    let s := match p.state with
      | .mailing _ => s
      | _ => s.unpinAll p
    (s.erasePlan n).noteTrigger

/-- A plan fails: PLAN_FAILED is raised (R54). -/
def State.failPlan (s : State) (n : Nat) : State := (s.endPlan n).raise .planFailed

/-- The live plans that place a title. -/
def State.plansPlacing (s : State) (t : Nat) : List Nat :=
  (s.planner.plans.filter (fun e => e.2.placements.any (fun q => decide (q.title = t)))).map (·.1)

/-! ## Faults (R108, R109) -/

def Phase.faultPhase (p : Phase) : FaultPhase :=
  match p with
  | .preErase => .preErase
  | .erasing => .erasing
  | .programming => .programming
  | .verifying => .verifying
  | .waitImage => .programming

/-- The phase a fault record names (R108). WAIT_IMAGE counts as PROGRAMMING, and a state outside the
manual's list has none (log entry 16). -/
def Slot.faultPhase (sl : Slot) : Option FaultPhase :=
  if sl.finishing then some .finishing
  else
    match sl.state with
    | .ident => some .ident
    | .preErase => some .preErase
    | .erasing => some .erasing
    | .programming => some .programming
    | .waitImage => some .programming
    | .verifying => some .verifying
    | .directory => some .directory
    | .held => sl.remembered.map Phase.faultPhase
    | _ => none

/-- The program cursor as a fault record gives it: placement index, logical block and frame (R108). -/
def State.faultCursor (s : State) (sl : Slot) : Option (Nat × Nat × Nat) :=
  match sl.faultPhase, s.placementOf sl with
  | some .programming, some p =>
    some (sl.cursor.placement + 1, p.start + sl.cursor.image, sl.cursor.frame)
  | some .verifying, some p =>
    some (sl.cursor.placement + 1, p.start + sl.cursor.image, sl.cursor.frame)
  | some .directory, some p =>
    some (sl.cursor.placement + 1, p.start + sl.cursor.image, sl.cursor.frame)
  | _, _ => none

def State.faultRecord (s : State) (sl : Slot) (cause : FaultCause) : FaultRecord :=
  { cause := cause, phase := sl.faultPhase, cursor := s.faultCursor sl, serial := sl.cart.map (·.serial),
    plan := sl.job, date := s.today, time := s.now }

/-- The slot becomes FAULT (R108): it drops its job and operation, its marker becomes DIRTY if an erase or
program has started, and the fault is recorded. It ends a finishing mark with no matching tried, which is the
model's choice (log entry 58). -/
def Slot.fail (sl : Slot) (r : FaultRecord) : Slot :=
  { sl.release .fault with
    cart := sl.cart.map (fun c => if sl.started then c.mark .dirty else c), op := none,
    suspended := none, awaiting := false, finishing := false, fault := some r }

/-- A fault against a plan: its fault count rises; below 3 it returns to QUEUED and matching is tried, at 3
it fails, which is no event of R91 (R109). -/
def State.planFault (s : State) (job : Nat) : State :=
  match s.plan job with
  | none => s
  | some p =>
    let s := s.setPlan job { p with faults := p.faults + 1 }
    if p.faults + 1 < Config.planFaultMax then (s.returnPlan job).matchJobs else s.failPlan job

/-- A slot faults (R108, R109). -/
def State.slotFault (s : State) (n : Nat) (cause : FaultCause) : State :=
  let sl := s.slot n
  let t := (((s.loseRead n .dropped).setSlot n (sl.fail (s.faultRecord sl cause)))).raise .slotFault
  match sl.job with
  | some job => t.planFault job
  | none => t

/-! ## Holds and the finishing mark (R103, R106) -/

/-- The phase a hold remembers (R84). -/
def SlotState.phase (st : SlotState) : Option Phase :=
  match st with
  | .preErase => some .preErase
  | .erasing => some .erasing
  | .programming => some .programming
  | .verifying => some .verifying
  | .waitImage => some .waitImage
  | _ => none

/-- The state a remembered phase returns to (R104). -/
def Phase.slotState (p : Phase) : SlotState :=
  match p with
  | .preErase => .preErase
  | .erasing => .erasing
  | .programming => .programming
  | .verifying => .verifying
  | .waitImage => .waitImage

/-- The slot becomes HELD with the state it left as its remembered phase (R103). Nothing is in hand that the
cartridge could still refuse; a suspended erase has started (log entry 46). -/
def Slot.hold (sl : Slot) : Slot :=
  { sl with
    state := .held, remembered := sl.state.phase, holdPending := false, op := none, awaiting := false,
    unstarted := none }

/-- The operation in hand has completed and its result is applied: a pending hold is made, or the slot
goes on with its phase (R103). Matching follows for a slot that becomes IDLE_BLANK (R91). -/
def State.afterOp (s : State) (n : Nat) : State :=
  if (s.slot n).holdPending then s.setSlot n (s.slot n).hold
  else
    let t := s.goOn n
    if (t.slot n).state = .idleBlank then t.matchJobs else t

/-- The operation a slot had to see through is done: the finishing mark clears and matching is tried
(R106). -/
def State.finished (s : State) (n : Nat) : State :=
  (s.setSlot n
    { s.slot n with
      op := none, suspended := none, awaiting := false, finishing := false, readBack := none }).matchJobs

/-- A page read that outlived its job ends: a fault found in it is recorded with no job bound, and otherwise it
only clears the finishing mark (R107; log entry 41). -/
def State.finishRead (s : State) (n : Nat) (ok : Bool) (page : List Byte) : State :=
  match (s.slot n).readBack with
  | none => s.finished n
  | some r => if ok && decide (r.page = some page) then s.finished n else s.slotFault n r.cause

/-! ## Reaching DONE (R100, R101) -/

/-- The directory of a plan on a slot's cartridge (R100). -/
def State.directory (s : State) (sl : Slot) (job : Nat) (p : Plan) (c : Cartridge) : Directory :=
  { cls := c.cls.code, planTag := job, key := ((s.patron p.patron).map (·.key)).getD 0,
    number := s.patronNumber p.patron, cycles := c.cycles,
    placements := p.placements.map (fun q =>
      { catalogue := s.catalogue q.title, start := q.start, blocks := q.blocks, pages := q.pages,
        format := match s.title q.title with
          | some t => t.format.code
          | none => 0 }),
    spares := sortByKey (·.1) sl.spares }

/-- The slot becomes DIRECTORY and asks for the first permit (R99, R100). All its pages are composed here, once, from
the records as they now stand: R100 leaves the moment open (log entry 60). -/
def State.beginDirectory (s : State) (n : Nat) : State :=
  let sl := s.slot n
  match sl.job, sl.cart with
  | some job, some c =>
    match s.plan job with
    | some p =>
      s.setSlot n
        ({ sl with
          state := .directory, pages := (s.directory sl job p c).pages, back := 0, readingBack := false,
          backOk := true }.goDirectory)
    | none => s
  | _, _ => s

/-- A slot reaches DONE, in one update (R101). -/
def State.reachDone (s : State) (n : Nat) : State :=
  let sl := s.slot n
  match sl.job, sl.cart with
  | some job, some c =>
    match s.plan job with
    | some p =>
      let item := s.nextItem
      let s := (s.setPlan job { p with state := .mailing item }).addItem p.patron
        (.cartridge job c.serial) .awaitingLabel
      let s := s.unpinAll p
      (s.setSlot n
        { sl.release .done with
          cart := some (c.written job p.used), op := none, doneItem := some (job, item) }).raise .slotDone
    | none => s
  | _, _ => s

/-! ## Blocks that verify and blocks that do not (R98, R99) -/

/-- Record that a logical block is held by a spare, replacing an earlier spare of it (R98). -/
def spareMapSet (m : List (Nat × Nat)) (logical spare : Nat) : List (Nat × Nat) :=
  m.filter (fun e => decide (e.1 ≠ logical)) ++ [(logical, spare)]

/-- The block or spare does not verify: the next reserve block is taken, or the slot faults NO_SPARE
(R98). -/
def State.takeSpare (s : State) (n : Nat) (p : Placement) : State :=
  let sl := s.slot n
  match sl.cart with
  | none => s
  | some c =>
    if sl.sparesTaken < c.cls.reserve then
      let b := c.cls.reserveStart + sl.sparesTaken
      (s.setSlot n
        { sl with
          state := .programming, spare := some b, sparesTaken := sl.sparesTaken + 1,
          spares := spareMapSet sl.spares (p.start + sl.cursor.image) b,
          cursor := { sl.cursor with frame := 0, page := 0, inBuffer := false } }).goProgram n
    else s.slotFault n .noSpare

/-- The block verifies: the next image block, the next placement, or the directory (R98, R99). The program cursor
stays in DIRECTORY where the last block left it, which the manual leaves open (log entry 47). -/
def State.blockVerified (s : State) (n : Nat) (p : Placement) : State :=
  let sl := { s.slot n with buffer := [], spare := none }
  let c := sl.cursor
  if c.image + 1 < p.blocks then
    (s.setSlot n { sl with cursor := { c with image := c.image + 1, frame := 0, page := 0, inBuffer := false } }).beginBlock n p
  else
    let s := s.toRecent p.title
    let next := { sl with
      readMark := false,
      cursor := { c with placement := c.placement + 1, image := 0, frame := 0, page := 0, inBuffer := false } }
    match s.placementOf next with
    | some q => (s.setSlot n next).beginBlock n q
    | none => (s.setSlot n { sl with readMark := false }).beginDirectory n

/-- The Image Store notifies the slots waiting on a block that has become readable (R77, R97). -/
def State.notify (s : State) (t n : Nat) : State :=
  let sl := s.slot n
  if sl.state = .waitImage then
    match s.placementOf sl with
    | some p => if p.title = t then s.beginBlock n p else s
    | none => s
  else s

/-! ## Serials in the centre (R89, R116, R135) -/

/-- The open CARTRIDGE loan of a serial: its id and record. -/
def State.serialLoan (s : State) (serial : Nat) : Option (Nat × Loan) :=
  s.records.loans.find? (fun e =>
    match e.2.kind with
    | .cartridge x _ => decide (x = serial)
    | .set _ _ _ _ => false)

/-- The tray item of a serial. -/
def State.serialItem (s : State) (serial : Nat) : Option Item :=
  s.mail.tray.find? (fun i =>
    match i.kind with
    | .cartridge _ x => decide (x = serial)
    | .set _ _ => false)

/-- The Written-off List entry of a serial. -/
def Lost.isSerial (serial : Nat) (l : Lost) : Bool :=
  match l.kind with
  | .cartridge x => decide (x = serial)
  | .set _ _ _ _ => false

/-- The slot that records a serial for a cartridge it holds, in any state (R89, R135, R141); of several, the
lowest-numbered, which is the model's choice (log entry 61). -/
def State.serialSlot (s : State) (serial : Nat) (others : Nat → Bool) : Option Nat :=
  slotNumbers.find? (fun n =>
    others n && decide ((s.slot n).cart.map (·.serial) = some serial))

/-- A serial stands in a Return Bin. -/
def State.binned (s : State) (serial : Nat) : Bool :=
  s.returns.reuse.any (fun e => decide (e.serial = some serial)) ||
    s.returns.inspect.any (fun e => decide (e.serial = some serial))

/-- The serial's bin entry is removed from wherever it stands (R146). -/
def State.unbin (s : State) (serial : Nat) : State :=
  s.setReturns { s.returns with
    reuse := s.returns.reuse.filter (fun e => decide (e.serial ≠ some serial)),
    inspect := s.returns.inspect.filter (fun e => decide (e.serial ≠ some serial)) }

/-- The serial's Written-off List entry is removed from wherever it stands (R22). -/
def State.unlose (s : State) (serial : Nat) : State :=
  s.setLost (s.records.lost.filter (fun l => !l.isSerial serial))

/-! ## Identification (R89) -/

/-- The re-seat of a finished cartridge: the plan and item it names (R89, step 3). -/
def State.reseat (s : State) (n : Nat) (c : Cartridge) : Option (Nat × Nat) :=
  if c.marker = .written then
    match s.plan c.planTag with
    | some p =>
      match p.state with
      | .mailing item =>
        if ((s.item item).bind (fun i =>
            match i.kind with
            | .cartridge _ x => some x
            | .set _ _ => none)) = some c.serial ∧
          (s.serialSlot c.serial (fun k => decide (k ≠ n))).isNone then some (c.planTag, item)
        else none
      | _ => none
    | none => none
  else none

/-- The outcome of identification: the first of R89 that fits, steps 2 to 8. The slot already records the
cartridge. -/
def State.identified (s : State) (n : Nat) (c : Cartridge) : State :=
  let sl := { s.slot n with cart := some c, op := none, identPages := [] }
  let s := s.setSlot n sl
  if (s.serialLoan c.serial).isSome then s.slotFault n .onLoan
  else
    match s.reseat n c with
    | some item => s.setSlot n { sl with state := .done, doneItem := some item, dispatched := false }
    | none =>
      if (s.serialItem c.serial).isSome || (s.serialSlot c.serial (fun k => decide (k ≠ n))).isSome then
        s.slotFault n .conflict
      else
        let s := (s.unbin c.serial).unlose c.serial
        if Config.wornCycles ≤ c.cycles then s.slotFault n .worn
        else
          (s.setSlot n
            { sl with state := if c.marker = .blank then .idleBlank else .idleDirty }).matchJobs

/-- A slot begins identification: IDENT, reading the identity area (R89). -/
def Slot.beginIdent (sl : Slot) : Slot :=
  { sl.release .ident with
    cart := none, started := false, suspended := none, awaiting := false, finishing := false,
    eraseKind := .full, eraseStep := .erase 0 }.issue .readIdentity

/-- A slot loses its cartridge: EMPTY, its fault record staying (R106, 11.4). -/
def Slot.lose (sl : Slot) : Slot :=
  { Slot.bare with fault := sl.fault }

/-- The cartridge is removed from a socket of the running part (R89, R102, R106). Only a removal that returns a plan
tries matching; one that ends a finishing mark tries none (log entry 58). -/
def State.removeCartridge (s : State) (n : Nat) : State :=
  let sl := s.slot n
  let t := (s.loseRead n .dropped).setSlot n sl.lose
  match sl.job with
  | some job => ((t.returnPlan job).noteTrigger).matchJobs
  | none => t

end Sys2Proof.Machine
end

