-- ==== Sys2Proof/Machine/MailDesk.lean ====
section
/-!
DEFINITION. The due-date computation and the Mail Desk: labels, alarms, closes, dispatches and manifests
(R162 to R165, chapter 6).
-/

namespace Sys2Proof.Machine

/-! ## Due dates (R162, R164) -/

/-- A field of ANY matches every value (R162). -/
def matchesAny (field : Option Nat) (x : Nat) : Bool :=
  match field with
  | none => true
  | some y => decide (y = x)

/-- A used entry matches a date in all three fields (R162). -/
def ClosedDay.closes (e : ClosedDay) (day : Nat) : Bool :=
  let d := dateOf day
  matchesAny e.month d.2.1 && matchesAny e.day d.2.2 && matchesAny e.weekday (Machine.weekday day)

/-- A date is closed when some used entry matches it (R162). -/
def Calendar.closed (c : Calendar) (day : Nat) : Bool :=
  c.closedDays.any (fun e =>
    match e with
    | some e => e.closes day
    | none => false)

/-- Step over closed days, at most `fuel` of them and never past the last date (R164, step 3). -/
def stepDue (closed : Nat → Bool) (day fuel : Nat) : Nat :=
  match fuel with
  | 0 => day
  | fuel + 1 => if closed day && decide (day < Config.lastDay) then stepDue closed (day + 1) fuel else day

/-- The due date of a loan dispatched on a day (R164). -/
def State.dueDate (s : State) (isSet : Bool) (dispatch : Nat) : Nat :=
  let first := dispatch + (if isSet then s.link.settings.setDays else s.link.settings.cartDays)
  if Config.lastDay < first then Config.lastDay else stepDue s.calendar.closed first Config.stepMax

/-! ## Closes (R123, R124, R128) -/

def ItemState.isLabelled (st : ItemState) : Bool :=
  match st with
  | .labelled _ _ => true
  | _ => false

/-- The LABELLED items, in tray order (R124). -/
def State.labelled (s : State) : List Nat :=
  (s.mail.tray.filter (fun i => i.state.isLabelled)).map (·.number)

/-- A close begins with its selection, or ends at once with PICKUP_EMPTY (R124). -/
def State.closeBegin (s : State) : State :=
  if s.labelled.isEmpty then s.raise .pickupEmpty
  else
    s.setMail { s.mail with
      close := some { selection := s.labelled, date := s.today, time := s.now, anySet := false } }

/-- A close call: held behind a roll, waiting behind a close, or begun (R123). -/
def State.closeCall (s : State) : State :=
  if s.rolling then s.setMail { s.mail with heldClose := true }
  else if s.mail.close.isSome then s.setMail { s.mail with waitingClose := true }
  else s.closeBegin

/-- A manifest joins the store as newest; the oldest of 4 leaves first (R129). -/
def storeManifest (l : List Manifest) (m : Manifest) : List Manifest :=
  l.drop (l.length + 1 - Config.manifestMax) ++ [m]

/-- The open batch becomes a stored manifest and BATCH_CLOSED is raised (R128, R132). -/
def State.storeBatch (s : State) (m : Manifest) : State :=
  (s.setMail { s.mail with manifests := storeManifest s.mail.manifests m, openBatch := none }).raise .batchClosed

/-- A waiting close is taken when a close ends: it begins, or is held behind a roll. On the last date no
close begins (R123, R165; log entry 22). -/
def State.takeWaiting (s : State) : State :=
  if s.mail.waitingClose then
    let s := s.setMail { s.mail with waitingClose := false }
    if s.rolling then s.setMail { s.mail with heldClose := true }
    else if s.today = Config.lastDay then s
    else s.closeBegin
  else s

/-- The close ends: its manifest stored and its sweep run, or PICKUP_EMPTY (R128). -/
def State.closeEnd (s : State) (c : Close) : State :=
  let s := s.setMail { s.mail with close := none }
  let s := match s.mail.openBatch with
    | some m =>
      let s := s.storeBatch m
      if c.anySet then s.sweep (s.titlesWhere shelfAndQueue) else s
    | none => s.raise .pickupEmpty
  s.takeWaiting

/-! ## Dispatches (R125 to R127) -/

/-- The batch number the next close takes (R124). -/
def Mail.nextBatch (m : Mail) : Nat := if Config.numberMax ≤ m.lastBatch then 1 else m.lastBatch + 1

/-- The first dispatch opens the open batch with the next number; each appends its entry (R124, R125). -/
def State.appendEntry (s : State) (c : Close) (e : ManifestEntry) : State :=
  match s.mail.openBatch with
  | some m => s.setMail { s.mail with openBatch := some { m with entries := m.entries ++ [e] } }
  | none =>
    s.setMail { s.mail with
      openBatch := some { number := s.mail.nextBatch, date := c.date, time := c.time, entries := [e] },
      lastBatch := s.mail.nextBatch }

/-- Dispatched titles join the read history in order, and the service date is the close's (R125, R126). -/
def State.recordService (s : State) (k : Nat) (catalogues : List Nat) (date : Nat) : State :=
  s.onPatron k (fun r =>
    { r with history := catalogues.foldl historyAdd r.history, lastService := some date })

/-- A slot in DONE whose item is dispatched records it and drops its numbers (R102). -/
def State.recordDispatch (s : State) (item n : Nat) : State :=
  let sl := s.slot n
  if sl.state = .done ∧ sl.doneItem.map (·.2) = some item then
    s.setSlot n { sl with doneItem := none, dispatched := true }
  else s

/-- The catalogue numbers of a plan's placements, in placement order. -/
def State.planCatalogues (s : State) (plan : Nat) : List Nat :=
  match s.plan plan with
  | some p => p.placements.map (fun q => s.catalogue q.title)
  | none => []

/-- A CARTRIDGE item becomes a loan (R125). -/
def State.dispatchCartridge (s : State) (c : Close) (i : Item) (plan serial id : Nat) : State :=
  let cats := s.planCatalogues plan
  let number := s.patronNumber i.patron
  let s := s.setLoan id
    { kind := .cartridge serial cats, patron := i.patron, overdue := false, dispatch := c.date,
      due := s.dueDate false c.date, stage := 0 }
  let s := s.removeEntries i.patron (fun e => decide (e.state = .planned plan))
  let s := s.recordService i.patron cats c.date
  let s := (s.erasePlan plan).noteTrigger
  let s := slotNumbers.foldl (fun s n => s.recordDispatch i.number n) (s.removeItem i.number)
  s.appendEntry c { item := i.number, patronNumber := number, what := .inl serial, loan := id }

/-- The volumes per set of a title. -/
def State.volumesOf (s : State) (t : Nat) : Nat :=
  match s.title t with
  | some r => r.volumes
  | none => 0

/-- A SET item becomes a loan (R126). -/
def State.dispatchSet (s : State) (c : Close) (i : Item) (t copy id : Nat) : State :=
  let number := s.patronNumber i.patron
  let cat := s.catalogue t
  let s := s.setLoan id
    { kind := .set t copy (s.volumesOf t) [], patron := i.patron, overdue := false, dispatch := c.date,
      due := s.dueDate true c.date, stage := 0 }
  let s := s.moveCopy t copy (.loan id)
  let s := s.removeEntries i.patron (fun e => decide (e.state = .allocated i.number copy))
  let s := s.recordService i.patron [cat] c.date
  let s := s.removeItem i.number
  let s := s.setMail { s.mail with close := s.mail.close.map (fun c => { c with anySet := true }) }
  s.appendEntry c { item := i.number, patronNumber := number, what := .inr (cat, copy), loan := id }

/-- After a dispatch the close ends if its selection is done (R128). -/
def State.afterDispatch (s : State) : State :=
  match s.mail.close with
  | some c => if c.selection.isEmpty then s.closeEnd c else s
  | none => s

/-- The item a close takes next (R124). -/
def State.nextDispatch (s : State) : Option (Close × Option Item) :=
  match s.mail.close with
  | none => none
  | some c =>
    match c.selection with
    | [] => some (c, none)
    | n :: _ => some (c, s.item n)

/-- The close takes its next item where it is a CARTRIDGE, or ends when every item left has been
withdrawn (R125, R127; log entry 21). -/
def State.stepCartridge (s : State) : State :=
  match s.nextDispatch with
  | none => s
  | some (c, none) => s.closeEnd c
  | some (c, some i) =>
    match i.kind, s.records.loans.free Config.loanMax with
    | .cartridge plan serial, some id => (s.dispatchCartridge c i plan serial id).afterDispatch
    | _, _ => s

/-- The close takes its next item where it is a SET, or ends (R126, R127; log entry 21). -/
def State.stepSet (s : State) : State :=
  match s.nextDispatch with
  | none => s
  | some (c, none) => s.closeEnd c
  | some (c, some i) =>
    match i.kind, s.records.loans.free Config.loanMax with
    | .set t copy, some id => (s.dispatchSet c i t copy id).afterDispatch
    | _, _ => s

/-- DISPATCH_CARTRIDGE_ITEM. -/
def execDispatchCartridgeItem (s : State) : Answer :=
  if s.run = .running then .next s.stepCartridge.takeTrigger else .next s

/-- DISPATCH_SET_ITEM. -/
def execDispatchSetItem (s : State) : Answer :=
  if s.run = .running then .next s.stepSet.takeTrigger else .next s

/-! ## SHELF PULLED and MAIL LABEL (R118, R119, R197) -/

/-- The state of a tray item is changed. -/
def State.setItemState (s : State) (n : Nat) (st : ItemState) : State :=
  s.setMail { s.mail with
    tray := s.mail.tray.map (fun i => if i.number = n then { i with state := st } else i) }

/-- SHELF PULLED (R118). -/
def answerShelfPulled (item : Nat) (s : State) : Reply × State :=
  if item = 0 then refuse s .range
  else
    match s.item item with
    | none => refuse s .noRecord
    | some i =>
      match i.kind, i.state with
      | .set t c, .awaitingPull =>
        accept (s.setItemState item .awaitingLabel)
          (u16 item ++ u32 (s.patronNumber i.patron) ++ u32 (s.catalogue t) ++ u8 c)
      | _, _ => refuse s .state

/-- SHELF_PULLED. -/
def execShelfPulled (tag item : Nat) (s : State) : Answer :=
  .next (s.serve 0x50 tag (u16 item) (answerShelfPulled item))

/-- The patron's address key; 0 for a FREE record. -/
def State.addressKey (s : State) (k : Nat) : Nat :=
  match s.patron k with
  | some r => r.key
  | none => 0

/-- The label record of an item with a label time (10.8, R197). -/
def State.label (s : State) (i : Item) (date : Nat) (time : TimeOfDay) : List Byte :=
  let head := u16 i.number ++ u8 (if i.kind.isSet then 1 else 0) ++ u32 (s.patronNumber i.patron) ++
    u16 (s.addressKey i.patron) ++ u16 s.link.settings.centreKey ++ dateField date ++ timeField time
  match i.kind with
  | .cartridge plan serial =>
    head ++ u32 serial ++ u8 (s.planCatalogues plan).length ++ (s.planCatalogues plan).flatMap u32
  | .set t c => head ++ u32 (s.catalogue t) ++ u8 c ++ u8 (s.volumesOf t)

/-- The item a MAIL LABEL names: its number, or the oldest AWAITING_LABEL for 0 (R119). -/
def State.labelItem (s : State) (item : Nat) : Option Item :=
  if item = 0 then s.mail.tray.find? (fun i => decide (i.state = .awaitingLabel)) else s.item item

/-- MAIL LABEL (R119). -/
def answerMailLabel (item : Nat) (s : State) : Reply × State :=
  match s.labelItem item with
  | none => refuse s .noRecord
  | some i =>
    match i.state with
    | .awaitingPull => refuse s .state
    | .awaitingLabel =>
      accept (s.setItemState i.number (.labelled s.today s.now)) (s.label i s.today s.now)
    | .labelled date time => accept s (s.label i date time)

/-- MAIL_LABEL. -/
def execMailLabel (tag item : Nat) (s : State) : Answer :=
  .next (s.serve 0x51 tag (u16 item) (answerMailLabel item))

/-! ## TRAY LIST and MANIFEST GET (R130, R131) -/

/-- Plan and serial, or title, catalogue number and copy, of an item (R131). -/
def State.itemKindFields (s : State) (k : ItemKind) : List Byte :=
  match k with
  | .cartridge plan serial => u16 plan ++ u32 serial ++ u16 0 ++ u32 0 ++ u8 0
  | .set t c => u16 0 ++ u32 0 ++ u16 t ++ u32 (s.catalogue t) ++ u8 c

/-- The label time of a LABELLED item, absent otherwise (R131). -/
def ItemState.labelTime (st : ItemState) : List Byte :=
  match st with
  | .labelled date time => dateField date ++ timeField time
  | _ => u32 0 ++ timeField midnight

/-- One item of TRAY LIST (R131). -/
def State.trayLine (s : State) (i : Item) : List Byte :=
  u16 i.number ++ u8 (if i.kind.isSet then 1 else 0) ++ u8 i.state.code ++ u16 i.patron ++
    u32 (s.patronNumber i.patron) ++ s.itemKindFields i.kind ++ i.state.labelTime

/-- Items in a state, by its code. -/
def State.itemsIn (s : State) (code : Nat) : Nat := s.mail.tray.countP (fun i => decide (i.state.code = code))

/-- Selected items of the close not yet dispatched (R131). One that was withdrawn counts no more from its
withdrawal on, though its step is still to be passed over (R127; log entry 43). -/
def Mail.left (m : Mail) : Nat :=
  match m.close with
  | some c => c.selection.length
  | none => 0

/-- TRAY LIST's fields (R131). -/
def State.trayFields (s : State) : List Byte :=
  listField s.trayLine s.mail.tray ++ u8 (s.mail.tray.length - s.setItems) ++ u8 s.setItems ++
    u8 (s.itemsIn 0) ++ u8 (s.itemsIn 1) ++ u8 (s.itemsIn 2) ++ flagByte s.mail.close.isSome ++
    u8 s.mail.left ++ flagByte s.mail.heldClose ++ flagByte s.mail.waitingClose

/-- TRAY_LIST. -/
def execTrayList (tag : Nat) (s : State) : Answer :=
  .next (s.serve 0x52 tag [] (fun s => accept s s.trayFields))

/-- One entry of a manifest: kind, item, patron number, serial, catalogue number, copy and loan id, those of the
other kind 0, as in TRAY LIST (R125, R126, R130, R194; log entry 11). -/
def ManifestEntry.line (e : ManifestEntry) : List Byte :=
  match e.what with
  | .inl serial =>
    u8 0 ++ u16 e.item ++ u32 e.patronNumber ++ u32 serial ++ u32 0 ++ u8 0 ++ u16 e.loan
  | .inr (cat, copy) =>
    u8 1 ++ u16 e.item ++ u32 e.patronNumber ++ u32 0 ++ u32 cat ++ u8 copy ++ u16 e.loan

/-- The manifest a request names: its batch number, or the newest for 0 (R130). -/
def Mail.manifest (m : Mail) (batch : Nat) : Option Manifest :=
  if batch = 0 then m.manifests.getLast? else m.manifests.find? (fun x => decide (x.number = batch))

/-- MANIFEST GET (R130). -/
def answerManifestGet (batch : Nat) (s : State) : Reply × State :=
  match s.mail.manifest batch with
  | none => refuse s .noRecord
  | some m =>
    accept s
      (u16 m.number ++ dateField m.date ++ timeField m.time ++ u8 m.entries.length ++
        listField ManifestEntry.line m.entries ++ listField (fun x => u16 x.number) s.mail.manifests)

/-- MANIFEST_GET. -/
def execManifestGet (tag batch : Nat) (s : State) : Answer :=
  .next (s.serve 0x53 tag (u16 batch) (answerManifestGet batch))

/-! ## Pickup Alarms (R121, R122) -/

/-- An alarm as reply fields. -/
def Alarm.fields (a : Alarm) : List Byte := u8 a.weekdays.toNat ++ anyField a.hour ++ anyField a.minute

/-- The alarm a put stores: ANY kept, another hour or minute clamped, bit 7 of the set ignored (R121). -/
def alarmOf (weekdays hour minute : Nat) : Alarm :=
  { weekdays := BitVec.ofNat 7 weekdays, hour := (anyOf hour).map (clamp 0 23),
    minute := (anyOf minute).map (clamp 0 59) }

/-- ALARM PUT (R121). The reply gives the entry's number before the entry as stored (log entry 44). -/
def answerAlarmPut (entry weekdays hour minute : Nat) (s : State) : Reply × State :=
  if entry = 0 ∨ Config.alarms < entry then refuse s .range
  else
    let a := alarmOf weekdays hour minute
    accept (s.setMail { s.mail with alarms := s.mail.alarms.set (entry - 1) a }) (u8 entry ++ a.fields)

/-- ALARM_PUT. -/
def execAlarmPut (tag entry weekdays hour minute : Nat) (s : State) : Answer :=
  .next (s.serve 0x54 tag (u8 entry ++ u8 weekdays ++ u8 hour ++ u8 minute)
    (answerAlarmPut entry weekdays hour minute))

/-- ALARM_GET (R121). -/
def execAlarmGet (tag : Nat) (s : State) : Answer :=
  .next (s.serve 0x55 tag [] (fun s => accept s (listField Alarm.fields s.mail.alarms)))

/-- An alarm matches a minute: weekday in its set, hour and minute equal or ANY (R122). -/
def Alarm.fires (a : Alarm) (day hour minute : Nat) : Bool :=
  a.weekdays.getLsbD (weekday day) && matchesAny a.hour hour && matchesAny a.minute minute

end Sys2Proof.Machine
end

