-- ==== Sys2Proof/Machine/RecordStore.lean ====
section
/-!
DEFINITION. The Record Store's requests: patrons, titles, paper copies, loans and the Written-off List
(chapter 1). The order of checks is R2's index checks, R194's code fields, the rule's own, ROLLING last.
-/

namespace Sys2Proof.Machine

/-! ## Patron records (R6 to R10) -/

/-- A patron record as reply fields, in the order of R8. The Order List, which R8 leaves to ORDER LIST, stands
neither in PATRON GET nor in the record as stored that PATRON PUT answers (R6, R7; log entry 34). -/
def Patron.fields (p : Patron) : List Byte :=
  u32 p.number ++ u8 p.state.code ++ u8 p.media.code ++ u8 p.cls.code ++ u8 p.cartLimit ++ u8 p.setLimit ++
    u8 p.cartCount ++ u8 p.setCount ++ u16 p.key ++ dateField? p.pauseUntil ++ dateField? p.lastService ++
    u8 p.deferral.code ++ listField u32 p.history

/-- A patron number is held by a record other than `but` (R6, R7). -/
def State.numberHeld (s : State) (number but : Nat) : Bool :=
  s.records.patrons.any (fun e => decide (e.2.number = number ∧ e.1 ≠ but))

/-- The fields a PATRON PUT carries are in range (R6). -/
def patronFieldsOk (number media : Nat) : Bool :=
  decide (1 ≤ number ∧ number ≤ Config.patronNumberMax) && (mediaOf media).nonempty

/-- A new patron record (R6). -/
def newPatron (number media : Nat) (cls : Cls) (cartLimit setLimit key : Nat) : Patron :=
  { number := number, state := .active, media := mediaOf media, cls := cls,
    cartLimit := clamp 1 6 cartLimit, setLimit := clamp 0 4 setLimit, cartCount := 0, setCount := 0,
    key := key, pauseUntil := none, lastService := none, deferral := .none, history := [], orders := [] }

/-- PATRON PUT in its CREATE form (R6). -/
def answerPatronCreate (number media playerClass cartLimit setLimit key : Nat) (s : State) : Reply × State :=
  match clsOf playerClass with
  | none => refuse s .range
  | some c =>
    if !patronFieldsOk number media then refuse s .range
    else if s.numberHeld number 0 then refuse s .exists
    else
      match s.records.patrons.free Config.patronMax with
      | none => refuse s .full
      | some i =>
        if s.rolling then refuse s .rolling
        else
          let p := newPatron number media c cartLimit setLimit key
          accept (((s.setPatron i p).usePatron i).noteTrigger) (u16 i ++ p.fields)

/-- PATRON_PUT_CREATE. -/
def execPatronPutCreate (tag number media playerClass cartLimit setLimit key : Nat) (s : State) : Answer :=
  .next (s.serve 0x10 tag
    (u32 number ++ u8 media ++ u8 playerClass ++ u8 cartLimit ++ u8 setLimit ++ u16 key)
    (answerPatronCreate number media playerClass cartLimit setLimit key))

/-- A record written over by PATRON PUT; a changed class clears the oversize marks (R7, R33). -/
def Patron.update (p : Patron) (number media : Nat) (cls : Cls) (cartLimit setLimit key : Nat) : Patron :=
  { p with
    number := number, media := mediaOf media, cls := cls, cartLimit := clamp 1 6 cartLimit,
    setLimit := clamp 0 4 setLimit, key := key,
    orders := if cls = p.cls then p.orders else p.orders.map (fun e => { e with oversize := false }) }

/-- What follows a PATRON PUT: a changed class clears FILL_LOW, a raised set limit of an ACTIVE patron
sweeps (R7, R36). -/
def State.afterPatronUpdate (s : State) (k : Nat) (old new : Patron) : State :=
  let s := if new.cls = old.cls then s else s.clearFillLow k
  if old.setLimit < new.setLimit ∧ new.state = .active then s.sweepPatron k else s

/-- The patron record as it stands, as reply fields. -/
def State.patronFields (s : State) (k : Nat) : List Byte :=
  match s.patron k with
  | some p => p.fields
  | none => []

/-- PATRON PUT in its UPDATE form (R7). -/
def answerPatronUpdate (patron number media playerClass cartLimit setLimit key : Nat) (s : State) :
    Reply × State :=
  match s.findPatron patron with
  | .error e => refuse s e
  | .ok (k, r) =>
    match clsOf playerClass with
    | none => refuse s .range
    | some c =>
      if !patronFieldsOk number media then refuse s .range
      else if r.state = .closed then refuse s .state
      else if s.numberHeld number k then refuse s .exists
      else if s.rolling then refuse s .rolling
      else
        let p := r.update number media c cartLimit setLimit key
        let t := (s.setPatron k p).afterPatronUpdate k r p
        accept ((t.usePatron patron).noteTrigger) (t.patronFields k)

/-- PATRON_PUT_UPDATE. -/
def execPatronPutUpdate (tag patron number media playerClass cartLimit setLimit key : Nat) (s : State) :
    Answer :=
  .next (s.serve 0x10 tag
    (u16 patron ++ u32 number ++ u8 media ++ u8 playerClass ++ u8 cartLimit ++ u8 setLimit ++ u16 key)
    (answerPatronUpdate patron number media playerClass cartLimit setLimit key))

def LoanKind.isSet (k : LoanKind) : Bool :=
  match k with
  | .set _ _ _ _ => true
  | .cartridge _ _ => false

/-- The patron's open loans, in ascending loan id. -/
def State.loansOf (s : State) (k : Nat) : List (Nat × Loan) :=
  s.records.loans.filter (fun e => decide (e.2.patron = k))

/-- PATRON GET (R8). -/
def answerPatronGet (patron : Nat) (s : State) : Reply × State :=
  match s.findPatron patron with
  | .error e => refuse s e
  | .ok (k, r) =>
    accept (s.usePatron patron)
      (r.fields ++ u8 r.orders.length ++
        u8 ((s.loansOf k).countP (fun e => !e.2.kind.isSet)) ++
        u8 ((s.loansOf k).countP (fun e => e.2.kind.isSet)))

/-- PATRON_GET. -/
def execPatronGet (tag patron : Nat) (s : State) : Answer :=
  .next (s.serve 0x11 tag (u16 patron) (answerPatronGet patron))

/-- The until-date of PATRON PAUSE: all zero for no date, else a date later than today (R9). -/
def State.untilDate (s : State) (year month day : Nat) : Except Status (Option Nat) :=
  if year = 0 ∧ month = 0 ∧ day = 0 then .ok none
  else if validDate year month day && decide (s.today < dayNumber year month day) then
    .ok (some (dayNumber year month day))
  else .error .range

/-- The pause or resume itself; a resume sweeps the patron's holds (R9, R36). -/
def State.pausePatron (s : State) (k : Nat) (r : Patron) (until? : Option Nat) : State :=
  match until?, r.state with
  | some d, _ => s.setPatron k { r with state := .paused, pauseUntil := some d }
  | none, .paused => (s.setPatron k { r with state := .active, pauseUntil := none }).sweepPatron k
  | none, _ => s

/-- PATRON PAUSE (R9). -/
def answerPatronPause (patron year month day : Nat) (s : State) : Reply × State :=
  match s.findPatron patron with
  | .error e => refuse s e
  | .ok (k, r) =>
    match s.untilDate year month day with
    | .error e => refuse s e
    | .ok until? =>
      if r.state = .closed then refuse s .state
      else if s.rolling then refuse s .rolling
      else accept (((s.pausePatron k r until?).usePatron patron).noteTrigger) []

/-- PATRON_PAUSE. -/
def execPatronPause (tag patron year month day : Nat) (s : State) : Answer :=
  .next (s.serve 0x12 tag (u16 patron ++ u16 year ++ u8 month ++ u8 day)
    (answerPatronPause patron year month day))

/-- The patron's live plans, in ascending plan number. -/
def State.plansOf (s : State) (k : Nat) : List Nat :=
  (s.planner.plans.filter (fun e => decide (e.2.patron = k))).map (·.1)

/-- The patron's set items, in tray order. -/
def State.setsOf (s : State) (k : Nat) : List Item :=
  s.mail.tray.filter (fun i => decide (i.patron = k) && i.kind.isSet)

/-- The title of a set item. -/
def Item.setTitle (i : Item) : Option Nat :=
  match i.kind with
  | .set t _ => some t
  | .cartridge _ _ => none

/-- Hold Queues that hold the patron. -/
def State.holdsOf (s : State) (k : Nat) : List Nat := s.titlesWhere (queueHolds k)

/-- Steps 1 to 5 of R10: plans cancelled, set items withdrawn, entries removed, queues left, CLOSED. DESIGN CHOICE,
unsafe: where the patron cancels no plan, the removal of the entries of a FILL_LOW patron is a planning trigger all the
same, and the end of a STORE_SPACE deferral in step 5 is none (R10, R47, R49; log entry 63). -/
def State.closePatron (s : State) (k : Nat) : State :=
  let s := (s.plansOf k).foldl State.endPlan s
  let s := (s.setsOf k).foldl State.withdrawSet s
  let s := s.removeEntries k (fun _ => true)
  let s := (s.holdsOf k).foldl (fun s t => s.leaveHold k t) s
  s.onPatron k (fun r => { r with state := .closed, pauseUntil := none, deferral := .none })

/-- The sweeps due to the set items withdrawn: their titles, and those that can use the tray room (R10,
R36). -/
def State.sweepAfterClose (s : State) (returned : List Nat) : State :=
  if returned.isEmpty then s
  else s.sweep (s.titlesWhere (fun t r => returned.contains t || shelfAndQueue t r))

/-- PATRON CLOSE (R10). Matching is tried where a slot becomes IDLE_DIRTY by it (R91, R102, R106). -/
def answerPatronClose (patron : Nat) (s : State) : Reply × State :=
  match s.findPatron patron with
  | .error e => refuse s e
  | .ok (k, r) =>
    if r.state = .closed then refuse s .state
    else if s.rolling then refuse s .rolling
    else
      let t := (s.closePatron k).sweepAfterClose ((s.setsOf k).filterMap Item.setTitle)
      accept ((t.matchIdled s).usePatron patron)
        (u8 (s.plansOf k).length ++ u8 (s.setsOf k).length ++ u8 r.orders.length ++
          u8 (s.holdsOf k).length ++ u8 (s.loansOf k).length)

/-- PATRON_CLOSE. -/
def execPatronClose (tag patron : Nat) (s : State) : Answer :=
  .next (s.serve 0x13 tag (u16 patron) (answerPatronClose patron))

/-! ## Title records (R14 to R17) -/

/-- The owned copies of a title, each with its number, from copy `n` on. -/
def ownedFrom (n : Nat) (copies : List CopyPlace) : List (Nat × CopyPlace) :=
  match copies with
  | [] => []
  | c :: rest => if c = .absent then ownedFrom (n + 1) rest else (n, c) :: ownedFrom (n + 1) rest

/-- The place of each owned copy: copy number and place (R16, R19). -/
def Title.places (t : Title) : List Byte :=
  listField (fun e => u8 e.1 ++ u8 e.2.code) (ownedFrom 1 t.copies)

/-- A title's fields up to its volumes, in the order of 1.4. -/
def Title.baseFields (t : Title) : List Byte :=
  u32 t.catalogue ++ u8 t.format.code ++ flagByte t.withdrawn ++ u32 t.pages ++ u32 t.check.toNat ++
    flagByte t.bad ++ u8 t.failures ++ u8 t.volumes

/-- A title record as stored: its fields, its owned copies with their places, and its Hold Queue. Places that are
ABSENT are not listed (R14, R15; log entry 35). -/
def Title.fields (t : Title) : List Byte := t.baseFields ++ t.places ++ listField u16 t.holds

/-- The image fields are in range, for a title that has an image (R14). -/
def pagesOk (f : Format) (pages : Nat) : Bool :=
  !f.hasImage || decide (1 ≤ pages ∧ pages ≤ Config.pagesMax)

/-- A catalogue number is held by a record other than `but` (R14, R15). -/
def State.catalogueHeld (s : State) (catalogue but : Nat) : Bool :=
  s.records.titles.any (fun e => decide (e.2.catalogue = catalogue ∧ e.1 ≠ but))

/-- A new title record; fields of the other format are ignored (R14, 1.4). -/
def newTitle (catalogue : Nat) (f : Format) (pages check volumes : Nat) : Title :=
  { catalogue := catalogue, format := f, withdrawn := false,
    pages := if f.hasImage then pages else 0,
    check := if f.hasImage then BitVec.ofNat 32 check else 0#32, bad := false, failures := 0,
    volumes := if f.hasImage then 0 else clamp 1 40 volumes,
    copies := if f.hasImage then [] else List.replicate Config.copyMax .absent, holds := [] }

/-- TITLE PUT in its CREATE form (R14). -/
def answerTitleCreate (catalogue format pages check volumes : Nat) (s : State) : Reply × State :=
  match formatOf format with
  | none => refuse s .range
  | some f =>
    if catalogue = 0 ∨ pagesOk f pages = false then refuse s .range
    else if s.catalogueHeld catalogue 0 then refuse s .exists
    else
      match s.records.titles.free Config.titleMax with
      | none => refuse s .full
      | some i =>
        let t := newTitle catalogue f pages check volumes
        accept ((s.setTitle i t).useTitle i) (u16 i ++ t.fields)

/-- TITLE_PUT_CREATE. -/
def execTitlePutCreate (tag catalogue format pages check volumes : Nat) (s : State) : Answer :=
  .next (s.serve 0x14 tag (u32 catalogue ++ u8 format ++ u32 pages ++ u32 check ++ u8 volumes)
    (answerTitleCreate catalogue format pages check volumes))

/-- A title record written over by TITLE PUT; a new check makes it AVAILABLE (R13, R15). -/
def Title.update (t : Title) (catalogue pages check volumes : Nat) : Title :=
  if t.format.hasImage then
    { t with
      catalogue := catalogue, pages := pages, check := BitVec.ofNat 32 check,
      bad := if BitVec.ofNat 32 check = t.check then t.bad else false,
      failures := if BitVec.ofNat 32 check = t.check then t.failures else 0 }
  else { t with catalogue := catalogue, volumes := clamp 1 40 volumes }

/-- The update changes pages or check (R15). -/
def Title.imageChanged (t u : Title) : Bool := decide (t.pages ≠ u.pages ∨ t.check ≠ u.check)

/-- The Image Store's test of a change of pages or check (R15). -/
def State.imageBars (s : State) (k : Nat) : Option Status :=
  match s.image k with
  | none => none
  | some e => if 0 < e.pins then some .pinned else if e.resident then none else some .state

/-- An unpinned RESIDENT image is dropped, as IMAGE DROP would (R15, R81). -/
def State.dropImage (s : State) (k : Nat) : State :=
  match s.image k with
  | some _ => (s.removeImage k).spaceFreed
  | none => s

/-- The accepted update: the image dropped first, the record written, oversize marks cleared (R15, R33). -/
def State.updateTitle (s : State) (k : Nat) (t u : Title) : State :=
  let s := (if t.imageChanged u then s.dropImage k else s).setTitle k u
  if t.pages = u.pages then s else s.clearOversizeOf k

/-- TITLE PUT in its UPDATE form (R15). -/
def answerTitleUpdate (title catalogue format pages check volumes : Nat) (s : State) : Reply × State :=
  match s.findTitle title with
  | .error e => refuse s e
  | .ok (k, t) =>
    match formatOf format with
    | none => refuse s .range
    | some f =>
      if f ≠ t.format then refuse s .state
      else if catalogue = 0 ∨ pagesOk f pages = false then refuse s .range
      else if s.catalogueHeld catalogue k then refuse s .exists
      else
        let u := t.update catalogue pages check volumes
        match if t.imageChanged u then s.imageBars k else none with
        | some e => refuse s e
        | none => accept ((s.updateTitle k t u).useTitle title) u.fields

/-- TITLE_PUT_UPDATE. -/
def execTitlePutUpdate (tag title catalogue format pages check volumes : Nat) (s : State) : Answer :=
  .next (s.serve 0x14 tag
    (u16 title ++ u32 catalogue ++ u8 format ++ u32 pages ++ u32 check ++ u8 volumes)
    (answerTitleUpdate title catalogue format pages check volumes))

/-- A title's Image Store state: no entry 0, FILLING 1 with the frames filled, RESIDENT 2; and its pin
count (R16). -/
def State.imageFields (s : State) (k : Nat) : List Byte :=
  match s.image k with
  | none => u8 0 ++ u32 0 ++ u8 0
  | some e => if e.resident then u8 2 ++ u32 0 ++ u8 e.pins else u8 1 ++ u32 e.filled ++ u8 e.pins

/-- TITLE GET (R16). -/
def answerTitleGet (title : Nat) (s : State) : Reply × State :=
  match s.findTitle title with
  | .error e => refuse s e
  | .ok (k, t) =>
    accept (s.useTitle title)
      (t.baseFields ++ s.imageFields k ++ t.places ++ u8 t.owned ++ u8 t.shelf ++ u8 t.missing ++
        listField u16 t.holds)

/-- TITLE_GET. -/
def execTitleGet (tag title : Nat) (s : State) : Answer :=
  .next (s.serve 0x15 tag (u16 title) (answerTitleGet title))

/-- The withdrawn mark is set or cleared; clearing it sweeps a paper title with shelf copies (R17, R36). -/
def State.withdrawTitle (s : State) (k : Nat) (t : Title) (mark : Bool) : State :=
  let u := s.setTitle k { t with withdrawn := mark }
  if t.withdrawn && !mark && t.copies.contains .shelf then u.sweep [k] else u

/-- TITLE WITHDRAW (R17). -/
def answerTitleWithdraw (title flag : Nat) (s : State) : Reply × State :=
  match s.findTitle title with
  | .error e => refuse s e
  | .ok (k, t) => accept ((s.withdrawTitle k t (flagOf flag)).useTitle title) []

/-- TITLE_WITHDRAW. -/
def execTitleWithdraw (tag title flag : Nat) (s : State) : Answer :=
  .next (s.serve 0x16 tag (u16 title ++ u8 flag) (answerTitleWithdraw title flag))

/-! ## Paper copies (R18, R19) -/

/-- The first `n` ABSENT places become SHELF. -/
def addCopies (n : Nat) (copies : List CopyPlace) : List CopyPlace :=
  match n, copies with
  | 0, copies => copies
  | _, [] => []
  | n + 1, c :: rest => if c = .absent then .shelf :: addCopies n rest else c :: addCopies (n + 1) rest

/-- The first `n` SHELF places become ABSENT. -/
def dropCopies (n : Nat) (copies : List CopyPlace) : List CopyPlace :=
  match n, copies with
  | 0, copies => copies
  | _, [] => []
  | n + 1, c :: rest => if c = .shelf then .absent :: dropCopies n rest else c :: dropCopies (n + 1) rest

/-- The highest-numbered `n` SHELF places become ABSENT (R19). -/
def removeCopies (n : Nat) (copies : List CopyPlace) : List CopyPlace :=
  (dropCopies n copies.reverse).reverse

/-- A Written-off List entry for a set's title and copy. -/
def Lost.isCopy (t c : Nat) (l : Lost) : Bool :=
  match l.kind with
  | .set t' c' _ _ => decide (t' = t ∧ c' = c)
  | .cartridge _ => false

/-- The Written-off List entry of a title's copy is removed (R19, R22, R151). -/
def State.unloseCopy (s : State) (t c : Nat) : State :=
  s.setLost (s.records.lost.filter (fun l => !l.isCopy t c))

/-- One action of COPIES ADJUST: its refusal, or the count applied, the state and whether it sweeps
(R19). -/
def copiesAction (action count k : Nat) (t : Title) (s : State) : Except Status (Nat × State × Bool) :=
  match action with
  | 1 =>
    if count = 0 then .error .range
    else if Config.copyMax ≤ t.owned then .error .full
    else
      let n := min count (Config.copyMax - t.owned)
      .ok (n, s.setTitle k { t with copies := addCopies n t.copies }, true)
  | 2 =>
    if count = 0 then .error .range
    else if t.shelf < count then .error .state
    else .ok (count, s.setTitle k { t with copies := removeCopies count t.copies }, false)
  | 3 =>
    if count = 0 ∨ Config.copyMax < count then .error .range
    else if t.copy count ≠ .missing then .error .state
    else .ok (1, (s.moveCopy k count .shelf).unloseCopy k count, true)
  | _ => .error .range

/-- The counts and places a COPIES ADJUST reply gives, as they stand after the sweep (R19). ABSENT places are
not listed (log entry 35). -/
def State.copyFields (s : State) (k : Nat) : List Byte :=
  match s.title k with
  | some t => u8 t.owned ++ u8 t.shelf ++ u8 t.missing ++ t.places
  | none => []

/-- COPIES ADJUST (R19): the action code is checked after the index, the format next, ROLLING last. -/
def answerCopies (title action count : Nat) (s : State) : Reply × State :=
  match s.findTitle title with
  | .error e => refuse s e
  | .ok (k, t) =>
    if action = 0 ∨ 3 < action then refuse s .range
    else if t.format ≠ .pbraille then refuse s .state
    else
      match copiesAction action count k t s with
      | .error e => refuse s e
      | .ok (n, u, sweeps) =>
        if s.rolling then refuse s .rolling
        else
          let u := if sweeps then u.sweep [k] else u
          accept (u.useTitle title) (u8 n ++ u.copyFields k)

/-- COPIES_ADJUST_ADD. -/
def execCopiesAdjustAdd (tag title action count : Nat) (s : State) : Answer :=
  .next (s.serve 0x17 tag (u16 title ++ u8 action ++ u8 count) (answerCopies title action count))

/-- COPIES_ADJUST_REMOVE. -/
def execCopiesAdjustRemove (tag title count : Nat) (s : State) : Answer :=
  .next (s.serve 0x17 tag (u16 title ++ u8 2 ++ u8 count) (answerCopies title 2 count))

/-- COPIES_ADJUST_FOUND. -/
def execCopiesAdjustFound (tag title copy : Nat) (s : State) : Answer :=
  .next (s.serve 0x17 tag (u16 title ++ u8 3 ++ u8 copy) (answerCopies title 3 copy))

/-! ## Loans and the Written-off List (R21, R23) -/

/-- CARTRIDGE 0, SET 1 (R20, R194). -/
def kindCode (isSet : Bool) : Nat := if isSet then 1 else 0

/-- OUT 0, OVERDUE 1 (R20, R194). -/
def Loan.stateCode (l : Loan) : Nat := if l.overdue then 1 else 0

/-- The kind's own fields of a loan: serial and catalogue numbers, or title, copy, total and returned
volumes in ascending order (R21). -/
def LoanKind.fields (k : LoanKind) : List Byte :=
  match k with
  | .cartridge serial cats => u32 serial ++ listField u32 cats ++ u16 0 ++ u8 0 ++ u8 0 ++ u16 0
  | .set t c total returned =>
    u32 0 ++ u16 0 ++ u16 t ++ u8 c ++ u8 total ++ listField u8 (sortByKey (fun v => v) returned)

/-- LOAN GET's fields (R21). -/
def Loan.fields (l : Loan) : List Byte :=
  u8 (kindCode l.kind.isSet) ++ u16 l.patron ++ u8 l.stateCode ++ dateField l.dispatch ++ dateField l.due ++
    u8 l.stage ++ l.kind.fields

/-- LOAN GET (R21). -/
def answerLoanGet (loan : Nat) (s : State) : Reply × State :=
  match s.findLoan loan with
  | .error e => refuse s e
  | .ok l => accept s l.fields

/-- LOAN_GET. -/
def execLoanGet (tag loan : Nat) (s : State) : Answer :=
  .next (s.serve 0x18 tag (u16 loan) (answerLoanGet loan))

/-- Serial, or title index and copy number, of a loan. -/
def LoanKind.naming (k : LoanKind) : List Byte :=
  match k with
  | .cartridge serial _ => u32 serial ++ u16 0 ++ u8 0
  | .set t c _ _ => u32 0 ++ u16 t ++ u8 c

/-- One loan of LOAN LIST (R21). -/
def loanLine (e : Nat × Loan) : List Byte :=
  u16 e.1 ++ u8 (kindCode e.2.kind.isSet) ++ u8 e.2.stateCode ++ dateField e.2.due ++ u8 e.2.stage ++
    e.2.kind.naming

/-- LOAN LIST: the patron's open loans in ascending id, at most 10 (R21). -/
def answerLoanList (patron : Nat) (s : State) : Reply × State :=
  match s.findPatron patron with
  | .error e => refuse s e
  | .ok (k, _) => accept (s.usePatron patron) (listField loanLine ((s.loansOf k).take 10))

/-- LOAN_LIST. -/
def execLoanList (tag patron : Nat) (s : State) : Answer :=
  .next (s.serve 0x19 tag (u16 patron) (answerLoanList patron))

/-- One entry of the Written-off List (R23). -/
def Lost.line (l : Lost) : List Byte :=
  match l.kind with
  | .cartridge serial => u8 0 ++ u32 serial ++ u16 0 ++ u8 0 ++ u16 l.patron ++ dateField l.date
  | .set t c _ _ => u8 1 ++ u32 0 ++ u16 t ++ u8 c ++ u16 l.patron ++ dateField l.date

/-- WRITTEN_OFF_LIST: oldest to newest, and the number of entries (R23). An empty list still sends its count and
the number, both 0 (log entry 36). -/
def execWrittenOffList (tag : Nat) (s : State) : Answer :=
  .next (s.serve 0x1A tag []
    (fun s => accept s (listField Lost.line s.records.lost ++ u16 s.records.lost.length)))

end Sys2Proof.Machine
end

