-- ==== Sys2Proof/Machine/ReturnsDesk.lean ====
section
/-!
DEFINITION. The Returns Desk: the reader, classification, binning, the pending result, the Return Bins and
returned volumes (chapter 7).
-/

namespace Sys2Proof.Machine

/-! ## The bins (R144, R145) -/

/-- The entries of a bin, from the top. -/
def Returns.bin (r : Returns) (b : BinName) : List BinEntry :=
  match b with
  | .reuse => r.reuse
  | .inspect => r.inspect

def Returns.setBin (r : Returns) (b : BinName) (l : List BinEntry) : Returns :=
  match b with
  | .reuse => { r with reuse := l }
  | .inspect => { r with inspect := l }

/-- A push on top of a bin; one that brings it to 40 raises BIN_FULL (R145). -/
def State.push (s : State) (b : BinName) (serial : Option Nat) (reason : BinReason) : State :=
  let l := { serial := serial, reason := reason, date := s.today } :: s.returns.bin b
  let t := s.setReturns (s.returns.setBin b l)
  if l.length = Config.binMax then t.raise .binFull else t

/-! ## Classification (R135 to R139) -/

/-- The reason of an unspilled entry is its classification (R138). -/
def Classification.reason (c : Classification) : BinReason :=
  match c with
  | .checkedIn => .checkedIn
  | .late => .late
  | .unknown => .unknown
  | .unreadable => .unreadable
  | .worn => .worn

/-- The outcome of a pushed cartridge is its classification (R138). -/
def Classification.outcome (c : Classification) : ReturnOutcome :=
  match c with
  | .checkedIn => .checkedIn
  | .late => .late
  | .unknown => .unknown
  | .unreadable => .unreadable
  | .worn => .worn

/-- A cartridge meant for REUSE (R138). -/
def Classification.reusable (c : Classification) : Bool :=
  match c with
  | .checkedIn => true
  | .late => true
  | _ => false

/-- The bin chosen, the reason pushed and the spill flag, by the depths (R138). -/
def chooseBin (c : Classification) (reuse inspect : Nat) : Option (BinName × BinReason) × Bool :=
  if c.reusable then
    if reuse < Config.binMax then (some (.reuse, c.reason), false)
    else if inspect < Config.binMax then (some (.inspect, .spill), true)
    else (none, true)
  else if inspect < Config.binMax then (some (.inspect, c.reason), false)
  else (none, false)

/-- A result record before binning (R139). -/
def State.blankResult (s : State) (i : Option (Nat × Cls × Nat)) : Result :=
  { serial := i.map (·.1), cls := i.map (·.2.1), cycles := i.map (·.2.2), outcome := .conflict,
    classification := none, loan := none, patron := none, bin := none, depth := none, spill := false,
    heldBy := none, date := s.today, time := s.now }

/-- The result record is replaced and RETURN_READ raised (R135, R139). -/
def State.setResult (s : State) (r : Result) : State :=
  (s.setReturns { s.returns with result := some r }).raise .returnRead

/-- The loan relation of a serial taken: a check-in, a late return, or none, with the loan and patron the
result record takes (R136, R137). -/
structure Relation where
  kind : Classification
  loan : Option Nat
  patron : Option Nat
  deriving DecidableEq, Repr

/-- The Written-off List entry of a serial. -/
def State.lostSerial (s : State) (serial : Nat) : Option Lost := s.records.lost.find? (fun l => l.isSerial serial)

/-- Step 4 of R135: check-in (R136), late return (R137) or no relation. -/
def State.relate (s : State) (serial : Nat) : Relation × State :=
  match s.serialLoan serial with
  | some (id, l) =>
    ({ kind := .checkedIn, loan := some id, patron := some l.patron },
      ((s.freeLoan id).dropCarts l.patron).noteTrigger)
  | none =>
    match s.lostSerial serial with
    | some l => ({ kind := .late, loan := none, patron := some l.patron }, s.unlose serial)
    | none => ({ kind := .unknown, loan := none, patron := none }, s)

/-- Step 6 of R135: the bin, the push and the result record (R138, R139). `r` carries the classification. -/
def State.binCartridge (s : State) (c : Classification) (r : Result) : State :=
  match chooseBin c s.returns.reuse.length s.returns.inspect.length with
  | (some (b, reason), spill) =>
    let t := s.push b r.serial reason
    t.setResult
      { r with
        outcome := c.outcome, classification := some c, bin := some b,
        depth := some (t.returns.bin b).length, spill := spill }
  | (none, spill) => s.setResult { r with outcome := .noBin, classification := some c, spill := spill }

/-- Step 5 of R135: WORN whatever step 4 found, else by the relation. -/
def classOf (cycles : Nat) (found : Classification) : Classification :=
  if Config.wornCycles ≤ cycles then .worn else found

/-- Steps 4 to 6 of R135. -/
def State.classify (s : State) (serial : Nat) (cls : Cls) (cycles : Nat) : State :=
  let r := s.blankResult (some (serial, cls, cycles))
  let rel := s.relate serial
  rel.2.binCartridge (classOf cycles rel.1.kind) { r with loan := rel.1.loan, patron := rel.1.patron }

/-- The serial has a loan relation (R135, R141). -/
def State.related (s : State) (serial : Nat) : Bool :=
  (s.serialLoan serial).isSome || (s.lostSerial serial).isSome

/-- The reader's state. What it keeps of a read lasts while the cartridge read is the one it holds a result of
(R134). -/
def State.setReader (s : State) (st : ReaderState) (identifying : Bool) : State :=
  s.setReturns
    { s.returns with
      reader := st, identifying := identifying, kept := if st = .result then s.returns.kept else none }

/-- The reader keeps what a read gave; a bad one gives nothing (R134). -/
def State.keepRead (s : State) (i : Option Identity) : State := s.setReturns { s.returns with kept := i }

/-- A related serial read during a roll: the pending result is stored (R141). -/
def State.storePending (s : State) (i : Identity) : State :=
  s.setReturns
    { s.returns with
      reader := .pendingRoll, identifying := false, removed := false,
      pending := some { serial := i.serial, cls := i.cls, cycles := i.cycles, date := s.today, time := s.now } }

/-- The identity read of a READING reader ends: the first of R135's steps that applies, or PENDING_ROLL
(R135, R141). -/
def State.readEnds (s : State) (i : Option Identity) : State :=
  match i with
  | none => (s.setReader .result false).binCartridge .unreadable (s.blankResult none)
  | some i =>
    let r := s.blankResult (some (i.serial, i.cls, i.cycles))
    if s.binned i.serial then (s.setReader .result false).setResult { r with outcome := .alreadyBinned }
    else if (s.serialItem i.serial).isSome || (s.serialSlot i.serial (fun _ => true)).isSome then
      (s.setReader .result false).setResult { r with outcome := .conflict }
    else if s.rolling && s.related i.serial then s.storePending i
    else (s.setReader .result false).classify i.serial i.cls i.cycles

/-- The read made at a start while a pending result is held: the cartridge is the pending one, or waits
behind it (R154). -/
def State.comparePending (s : State) (i : Option Identity) : State :=
  s.setReturns
    { s.returns with
      identifying := false,
      removed := decide (i.map (·.serial) ≠ s.returns.pending.map (·.serial)) }

/-- An identity read ends in the reader; without one in progress the report is discarded (R134). -/
def State.readerRead (s : State) (i : Option Identity) : State :=
  if !s.returns.identifying then s
  else if s.returns.reader = .reading then (s.keepRead i).readEnds i
  else (s.keepRead i).comparePending i

/-- READER_IDENTITY_DONE. -/
def execReaderIdentityDone (ok : Bool) (area : List Byte) (s : State) : Answer :=
  if s.run = .running then .next (s.readerRead (identityOf ok area)).takeTrigger else .next s

/-- READER_READ_TIMEOUT: past its limit the read is bad (R86, R134). Before it nothing happens. -/
def execReaderReadTimeout (ran : Nat) (s : State) : Answer :=
  if s.run = .running ∧ Config.shortLimit ≤ ran then .next (s.readerRead none).takeTrigger else .next s

/-! ## READER_INSERT and READER_REMOVE (R133, R142) -/

/-- A cartridge enters the reader: read at once when EMPTY, waiting behind a pending result (R134, R142). -/
def State.readerInsert (s : State) : State :=
  let t := s.setReturns { s.returns with present := true }
  match s.returns.reader with
  | .empty => t.setReader .reading true
  | _ => t

/-- READER_INSERT. -/
def execReaderInsert (s : State) : Answer :=
  if s.run = .running then .next s.readerInsert else .next (s.setReturns { s.returns with present := true })

/-- The cartridge leaves the reader; a pending result stays, with the removed indication (R133, R142). -/
def State.readerRemove (s : State) : State :=
  let t := s.setReturns { s.returns with present := false, identifying := false, kept := none }
  match s.returns.reader with
  | .pendingRoll => t.setReturns { t.returns with removed := true }
  | _ => t.setReader .empty false

/-- READER_REMOVE. -/
def execReaderRemove (s : State) : Answer :=
  if s.run = .running then .next s.readerRemove else .next (s.setReturns { s.returns with present := false })

/-! ## The pending result (R141 to R143) -/

/-- A completion for a cartridge that a rack slot records: the relation applies and nothing is pushed
(R141). Its spill flag is clear, also with REUSE full, which R139 and R141 leave open (log entry 54). -/
def State.classifyHeld (s : State) (p : Pending) (slot : Nat) : State :=
  let r := s.blankResult (some (p.serial, p.cls, p.cycles))
  let rel := s.relate p.serial
  let c := classOf p.cycles rel.1.kind
  rel.2.setResult
    { r with
      outcome := c.outcome, classification := some c, loan := rel.1.loan, patron := rel.1.patron,
      heldBy := some slot }

/-- Where the reader goes once the pending result is completed (R133, R142). A read begun at a start and
not yet ended goes on as the reading of a fresh cartridge (R154, R192; log entry 23). -/
def State.afterPending (s : State) : State :=
  if s.returns.identifying then s.setReader .reading true
  else if s.returns.removed then
    if s.returns.present then s.setReader .reading true else s.setReader .empty false
  else s.setReader .result false

/-- The pending result is completed: steps 4 to 6 against the records as they stand (R141). Of two slots that record
its serial the lowest-numbered is named (log entry 61). -/
def State.completePending (s : State) : State :=
  match s.returns.pending with
  | none => s
  | some p =>
    let s := s.setReturns { s.returns with pending := none }
    let s := match s.serialSlot p.serial (fun _ => true) with
      | some n => s.classifyHeld p n
      | none => s.classify p.serial p.cls p.cycles
    let s := s.afterPending
    s.setReturns { s.returns with removed := false }

/-- The work that follows a roll, next due (R172). -/
def State.setFollow (s : State) (f : Follow) : State := s.setCalendar { s.calendar with follow := f }

/-- PENDING_RESULT_COMPLETE: the third work that follows a roll (R172). It waits while a roll runs. -/
def execPendingResultComplete (s : State) : Answer :=
  if s.run = .running ∧ s.calendar.follow = .pendingResult ∧ s.rolling = false then
    .next (s.completePending.setFollow .nothing).takeTrigger
  else .next s

/-! ## READER GET (R153) -/

/-- The pending result's fields, 0 when none is stored. -/
def Returns.pendingFields (r : Returns) : List Byte :=
  match r.pending with
  | some p => u32 p.serial ++ u8 p.cls.code ++ u32 p.cycles ++ dateField p.date ++ timeField p.time
  | none => u32 0 ++ u8 0 ++ u32 0 ++ u32 0 ++ timeField midnight

/-- The result record's fields, absent ones sent as 0 (R139, R153). -/
def Result.fields (r : Result) : List Byte :=
  u32 (r.serial.getD 0) ++ u8 ((r.cls.map Cls.code).getD 0) ++ u32 (r.cycles.getD 0) ++ u8 r.outcome.code ++
    u8 ((r.classification.map Classification.code).getD 0) ++ u16 (r.loan.getD 0) ++
    u16 (r.patron.getD 0) ++ u8 ((r.bin.map BinName.code).getD 0) ++ u8 (r.depth.getD 0) ++
    flagByte r.spill ++ u8 (r.heldBy.getD 0) ++ dateField r.date ++ timeField r.time

/-- An empty result record sends every field as 0. -/
def Returns.resultFields (r : Returns) : List Byte :=
  match r.result with
  | some x => x.fields
  | none => List.replicate 26 0#8

/-- Another cartridge waits in the socket of a PENDING_ROLL reader (R153). -/
def Returns.waiting (r : Returns) : Bool := decide (r.reader = .pendingRoll) && r.removed && r.present

/-- READER GET's fields (R153). -/
def Returns.fields (r : Returns) : List Byte :=
  u8 r.reader.code ++ flagByte r.removed ++ flagByte r.waiting ++ r.pendingFields ++ r.resultFields ++
    u8 r.reuse.length ++ u8 r.inspect.length

/-- READER_GET. -/
def execReaderGet (tag : Nat) (s : State) : Answer :=
  .next (s.serve 0x58 tag [] (fun s => accept s s.returns.fields))

/-! ## Paper volumes (R149 to R151) -/

/-- Indications of RETURN VOLUME: ALREADY_IN 0, COMPLETE 1; an absent one 0 (R149, R151, R194; log entry 12). -/
def volumeFields (volume returned total indication : Nat) : List Byte :=
  u8 volume ++ u8 returned ++ u8 total ++ u8 indication

/-- Completing a set: the loan freed, the count lowered, the copy on the shelf, the sweep (R150, R36). -/
def State.completeSet (s : State) (loan patron t c : Nat) : State :=
  let s := ((s.freeLoan loan).dropSets patron).moveCopy t c .shelf
  (s.noteTrigger).sweep (s.titlesWhere (fun j r => decide (j = t) || queueHolds patron j r))

/-- The place of a title's copy as it stands, as its code. -/
def State.placeCode (s : State) (t c : Nat) : Nat :=
  match s.title t with
  | some r => (r.copy c).code
  | none => 0

/-- RETURN VOLUME in its loan form (R149, R150). -/
def answerReturnLoan (loan volume : Nat) (s : State) : Reply × State :=
  match s.findLoan loan with
  | .error e => refuse s e
  | .ok l =>
    match l.kind with
    | .cartridge _ _ => refuse s .state
    | .set t c total returned =>
      if volume = 0 ∨ total < volume then refuse s .range
      else if s.rolling then refuse s .rolling
      else if returned.contains volume then
        accept s (u16 loan ++ volumeFields volume returned.length total 0 ++ u8 0 ++ u8 0)
      else if returned.length + 1 < total then
        accept (s.setLoan loan { l with kind := .set t c total (returned ++ [volume]) })
          (u16 loan ++ volumeFields volume (returned.length + 1) total 0 ++ u8 0 ++ u8 0)
      else
        let u := s.completeSet loan l.patron t c
        accept u (u16 loan ++ volumeFields volume total total 1 ++ u8 c ++ u8 (u.placeCode t c))

/-- RETURN_VOLUME_LOAN. -/
def execReturnVolumeLoan (tag loan volume : Nat) (s : State) : Answer :=
  .next (s.serve 0x59 tag (u16 loan ++ u8 volume) (answerReturnLoan loan volume))

/-- The volumes of a written-off set: total and returned. -/
def Lost.volumes (l : Lost) : Nat × List Nat :=
  match l.kind with
  | .set _ _ total returned => (total, returned)
  | .cartridge _ => (0, [])

/-- A volume joins the entry of a title's copy (R151). -/
def State.addLate (s : State) (t c volume : Nat) : State :=
  s.setLost (s.records.lost.map (fun l =>
    if l.isCopy t c then
      { l with
        kind := match l.kind with
          | .set t' c' total returned => .set t' c' total (returned ++ [volume])
          | k => k }
    else l))

/-- RETURN VOLUME in its late form (R151). -/
def answerReturnLate (title copy volume : Nat) (s : State) : Reply × State :=
  match s.findTitle title with
  | .error e => refuse s e
  | .ok (t, r) =>
    if r.format ≠ .pbraille then refuse s .state
    else if copy = 0 ∨ Config.copyMax < copy then refuse s .range
    else
      match s.records.lost.find? (fun l => l.isCopy t copy) with
      | none => refuse s .noRecord
      | some l =>
        let total := l.volumes.1
        let returned := l.volumes.2
        if volume = 0 ∨ total < volume then refuse s .range
        else if s.rolling then refuse s .rolling
        else if returned.contains volume then
          accept (s.useTitle title) (u16 t ++ u8 copy ++ volumeFields volume returned.length total 0)
        else if returned.length + 1 < total then
          accept ((s.addLate t copy volume).useTitle title)
            (u16 t ++ u8 copy ++ volumeFields volume (returned.length + 1) total 0)
        else
          accept ((((s.unloseCopy t copy).moveCopy t copy .shelf).sweep [t]).useTitle title)
            (u16 t ++ u8 copy ++ volumeFields volume total total 1)

/-- RETURN_VOLUME_LATE. -/
def execReturnVolumeLate (tag title copy volume : Nat) (s : State) : Answer :=
  .next (s.serve 0x59 tag (u16 title ++ u8 copy ++ u8 volume) (answerReturnLate title copy volume))

/-! ## BIN LIST and BIN TAKE (R147, R148) -/

/-- Serial, reason and date of a bin entry. -/
def BinEntry.fields (e : BinEntry) : List Byte :=
  u32 (e.serial.getD 0) ++ u8 e.reason.code ++ dateField e.date

/-- The entries with their place, 1 at the top (R148). -/
def binLines (n : Nat) (l : List BinEntry) : List Byte :=
  match l with
  | [] => []
  | e :: rest => u8 n ++ e.fields ++ binLines (n + 1) rest

/-- BIN LIST (R148). -/
def answerBinList (bin : Nat) (s : State) : Reply × State :=
  match binOf bin with
  | none => refuse s .range
  | some b =>
    accept s
      (u16 (s.returns.bin b).length ++ binLines 1 (s.returns.bin b) ++ u8 s.returns.reuse.length ++
        u8 s.returns.inspect.length)

/-- BIN_LIST. -/
def execBinList (tag bin : Nat) (s : State) : Answer :=
  .next (s.serve 0x5A tag (u8 bin) (answerBinList bin))

/-- BIN TAKE (R147). -/
def answerBinTake (bin count : Nat) (s : State) : Reply × State :=
  match binOf bin with
  | none => refuse s .range
  | some b =>
    let l := s.returns.bin b
    let n := min (clamp 0 Config.binMax count) l.length
    accept (s.setReturns (s.returns.setBin b (l.drop n)))
      (u8 n ++ listField BinEntry.fields (l.take n) ++ u8 (l.length - n))

/-- BIN_TAKE. -/
def execBinTake (tag bin count : Nat) (s : State) : Answer :=
  .next (s.serve 0x5B tag (u8 bin ++ u8 count) (answerBinTake bin count))

end Sys2Proof.Machine
end

