-- ==== Sys2Proof/Machine/Calendar.lean ====
section
/-!
DEFINITION. The Calendar: the clock and its requests, the closed-day requests, the day roll with its steps
and the work that follows it, and the Reminder List (chapter 8).
-/

namespace Sys2Proof.Machine

def State.setClock (s : State) (c : Clock) : State := s.setCalendar { s.calendar with clock := c }

/-! ## The beginning of a roll (R166, R167) -/

/-- The last-roll date is earlier than a date; an absent one is earlier than every date (R155). -/
def lastBefore (last : Option Nat) (day : Nat) : Bool :=
  match last with
  | none => true
  | some d => decide (d < day)

/-- The first open loan from an id on, in ascending id (R169). -/
def State.loanFrom (s : State) (id : Nat) : Option Nat :=
  (s.records.loans.find? (fun e => decide (id ≤ e.1))).map (·.1)

/-- The patron has an open loan. -/
def State.hasLoan (s : State) (k : Nat) : Bool := s.records.loans.any (fun e => decide (e.2.patron = k))

/-- A patron the second part of the roll takes: paused until the roll date or earlier, or closed with no
open loan (R171). -/
def State.rollTakes (s : State) (date : Nat) (e : Nat × Patron) : Bool :=
  match e.2.state with
  | .paused => (e.2.pauseUntil.map (fun d => decide (d ≤ date))).getD false
  | .closed => !s.hasLoan e.1
  | .active => false

/-- The first patron from an index on that the roll takes (R171). -/
def State.rollPatronFrom (s : State) (date k : Nat) : Option Nat :=
  (s.records.patrons.find? (fun e => decide (k ≤ e.1) && s.rollTakes date e)).map (·.1)

/-- The patron part at an index, or the third part when no patron is left to take. -/
def State.patronPlace (s : State) (date k : Nat) : RollPlace :=
  match s.rollPatronFrom date k with
  | some _ => .patrons k
  | none => .deferrals

/-- The place in the walk brought forward over records with nothing to take (R169, R171). That the walk passes them in
the step before, and so leaves a part with its last record, is the model's choice (log entry 55). -/
def State.rollPlace (s : State) (date : Nat) (p : RollPlace) : RollPlace :=
  match p with
  | .loans id =>
    match s.loanFrom id with
    | some _ => .loans id
    | none => s.patronPlace date 1
  | .patrons k => s.patronPlace date k
  | p => p

/-- The roll's date and place. -/
def State.setRoll (s : State) (date : Nat) (p : RollPlace) : State :=
  s.setCalendar { s.calendar with roll := some { date := date, place := s.rollPlace date p } }

/-- A roll begins with today as its date; the indication is cleared (R167). -/
def State.beginRoll (s : State) : State :=
  (s.setCalendar { s.calendar with within60 := false }).setRoll s.today (.loans 1)

/-- The time is the roll minute (R166, R167). -/
def Settings.rollMinuteIs (x : Settings) (hour minute : Nat) : Bool :=
  decide (x.rollHour = hour ∧ x.rollMinute = minute)

/-- The minute test (R167), made at second 0 of a minute. -/
def State.minuteTest (s : State) : Bool :=
  !s.rolling && s.link.settings.rollMinuteIs s.now.hour s.now.minute && lastBefore s.calendar.lastRoll s.today

/-- The start test (R167). A last-roll date earlier than the day before today is one whose next day is
earlier than today. -/
def State.startTest (s : State) : Bool :=
  !s.rolling &&
    (lastBefore (s.calendar.lastRoll.map (· + 1)) s.today ||
      (lastBefore s.calendar.lastRoll s.today &&
        decide (60 * s.link.settings.rollHour + s.link.settings.rollMinute ≤ 60 * s.now.hour + s.now.minute)))

/-! ## CLOCK_TICK (R155, R156) -/

/-- The second after a time, and whether the day ends. -/
def TimeOfDay.next (t : TimeOfDay) : TimeOfDay × Bool :=
  if t.second < 59 then ({ t with second := t.second + 1 }, false)
  else if t.minute < 59 then ({ t with minute := t.minute + 1, second := 0 }, false)
  else if t.hour < 23 then ({ hour := t.hour + 1, minute := 0, second := 0 }, false)
  else (midnight, true)

/-- The clock advanced by one second, the next tick a second away (R156, R160). -/
def Clock.advance (c : Clock) : Clock :=
  let t := c.time.next
  { c with day := if t.2 then c.day + 1 else c.day, time := t.1, prescaler := 2 }

/-- The last second of the calendar (R155). -/
def Clock.atEnd (c : Clock) : Bool :=
  decide (c.day = Config.lastDay ∧ c.time = { hour := 23, minute := 59, second := 59 })

/-- The minute that follows a minute boundary: its date, hour and minute. -/
def nextMinute (day : Nat) (t : TimeOfDay) : Nat × Nat × Nat :=
  if t.minute < 59 then (day, t.hour, t.minute + 1)
  else if t.hour < 23 then (day, t.hour + 1, 0)
  else (day + 1, 0, 0)

/-- The ROLL_SOON test of the following minute (R166). -/
def State.rollSoon (s : State) : Bool :=
  let m := nextMinute s.today s.now
  s.link.settings.rollMinuteIs m.2.1 m.2.2 && lastBefore s.calendar.lastRoll m.1 && !s.rolling &&
    decide (m.1 < Config.lastDay)

/-- The indication is cleared at the boundary, and set with ROLL_SOON when the test holds (R166). -/
def State.warnRoll (s : State) : State :=
  if s.rollSoon then (s.setCalendar { s.calendar with within60 := true }).raise .rollSoon
  else s.setCalendar { s.calendar with within60 := false }

/-- Some alarm fires at this minute; none on the last date (R122, R165). -/
def State.alarmFires (s : State) : Bool :=
  decide (s.today ≠ Config.lastDay) &&
    s.mail.alarms.any (fun a => a.fires s.today s.now.hour s.now.minute)

/-- A minute boundary is handed to the alarms and the roll tests. When a roll and an alarm fall on the same
minute, which is taken first is a free value (R156, R167, 11.5; log entry 3). -/
def State.minuteBoundary (s : State) : State :=
  let s := s.warnRoll
  if s.minuteTest && s.alarmFires then
    let t := s.setDrawn (s.drawn + 1)
    if Config.rollBeforeAlarm s.drawn then t.beginRoll.closeCall else t.closeCall.beginRoll
  else if s.minuteTest then s.beginRoll
  else if s.alarmFires then s.closeCall
  else s

/-- The clock stops by itself at the end of the calendar (R155, R156). The indication is cleared with it
(R166). Held in reset the part raises CLOCK_STOPPED all the same, and without power it does not (log entries 56,
32). -/
def State.endStop (s : State) : State :=
  if s.calendar.clock.atEnd then
    let c := s.calendar
    let t := s.setCalendar
      { c with clock := { c.clock with running := false, prescaler := 0 }, within60 := false }
    if s.run = .off then t else t.raise .clockStopped
  else s

/-- One tick of a running clock (R156). Without power, or held in reset, the clock counts and no boundary is
handed on (R155). -/
def State.tick (s : State) : State :=
  if s.calendar.clock.running then
    let t := s.setClock s.calendar.clock.advance
    let t := if t.now.second = 0 ∧ s.run = .running then t.minuteBoundary else t
    t.endStop
  else s

/-- CLOCK_TICK. A stopped clock has no ticks (log entry 4). -/
def execClockTick (s : State) : Answer := .next s.tick

/-! ## Clock requests (R157 to R160) -/

/-- The step the roll is in, as CLOCK GET gives it: the part of the roll, loans 0, patrons 1, deferrals 2, finish
3, without its place in the walk (R157; log entry 45). -/
def RollPlace.code (p : RollPlace) : Nat :=
  match p with
  | .loans _ => 0
  | .patrons _ => 1
  | .deferrals => 2
  | .finish => 3

/-- The date and the part of a running roll; 0 while IDLE (R157; log entries 11 and 45). -/
def Calendar.rollFields (c : Calendar) : List Byte :=
  match c.roll with
  | some r => u8 1 ++ dateField r.date ++ u8 r.place.code
  | none => u8 0 ++ u32 0 ++ u8 0

/-- The clock's date and time as reply fields. -/
def Clock.fields (c : Clock) : List Byte := dateField c.day ++ timeField c.time

/-- CLOCK GET's fields (R157). -/
def State.clockFields (s : State) : List Byte :=
  let c := s.calendar
  u8 (if c.clock.running then 0 else 1) ++ c.clock.fields ++ u8 (weekday c.clock.day) ++ u32 c.clock.day ++
    dateField? c.lastRoll ++ u8 s.link.settings.rollHour ++ u8 s.link.settings.rollMinute ++ c.rollFields ++
    flagByte c.within60 ++ u8 c.reminders.length ++ u8 (c.closedDays.countP (fun e => e.isSome))

/-- CLOCK_GET (R157). -/
def execClockGet (tag : Nat) (s : State) : Answer :=
  .next (s.serve 0x60 tag [] (fun s => accept s s.clockFields))

/-- CLOCK STOP (R158). -/
def answerClockStop (s : State) : Reply × State :=
  let c := s.calendar
  if s.rolling then refuse s .rolling
  else if c.clock.running then
    accept
      ((s.setCalendar { c with clock := { c.clock with running := false, prescaler := 0 }, within60 := false }).raise
        .clockStopped)
      c.clock.fields
  else accept s c.clock.fields

/-- CLOCK_STOP. -/
def execClockStop (tag : Nat) (s : State) : Answer := .next (s.serve 0x61 tag [] answerClockStop)

/-- CLOCK SET (R159). -/
def answerClockSet (year month day hour minute second : Nat) (s : State) : Reply × State :=
  let t : TimeOfDay := { hour := hour, minute := minute, second := second }
  if s.calendar.clock.running then refuse s .clockRunning
  else if !validDate year month day || !t.valid then refuse s .range
  else if s.rolling then refuse s .rolling
  else
    let c : Clock := { day := dayNumber year month day, time := t, running := false, prescaler := 0 }
    accept (s.setClock c) (c.fields ++ u8 (weekday c.day))

/-- CLOCK_SET. -/
def execClockSet (tag year month day hour minute second : Nat) (s : State) : Answer :=
  .next (s.serve 0x62 tag (u16 year ++ u8 month ++ u8 day ++ u8 hour ++ u8 minute ++ u8 second)
    (answerClockSet year month day hour minute second))

/-- CLOCK START: the first tick half a second away, and the start test (R160, R167). -/
def answerClockStart (s : State) : Reply × State :=
  let c := s.calendar.clock
  if c.running then refuse s .clockRunning
  else if c.atEnd then refuse s .range
  else if s.rolling then refuse s .rolling
  else
    let t := s.setClock { c with running := true, prescaler := 1 }
    accept (if t.startTest then t.beginRoll else t) (c.fields ++ flagByte t.startTest)

/-- CLOCK_START. -/
def execClockStart (tag : Nat) (s : State) : Answer := .next (s.serve 0x63 tag [] answerClockStart)

/-! ## Closed days (R163) -/

/-- An entry of the Closed-Day Table: used flag and three fields. -/
def closedFields (e : Option ClosedDay) : List Byte :=
  match e with
  | some e => u8 1 ++ anyField e.month ++ anyField e.day ++ anyField e.weekday
  | none => u8 0 ++ u8 0 ++ u8 0 ++ u8 0

/-- A field is ANY or in its range (R163). -/
def anyInRange (lo hi : Nat) (field : Option Nat) : Bool :=
  match field with
  | none => true
  | some x => decide (lo ≤ x ∧ x ≤ hi)

/-- A put replaces the entry whole. The reply gives the entry's number before the entry as stored (R163; log
entry 44). -/
def putClosedDay (entry : Nat) (e : Option ClosedDay) (s : State) : Reply × State :=
  accept (s.setCalendar { s.calendar with closedDays := s.calendar.closedDays.set (entry - 1) e })
    (u8 entry ++ closedFields e)

/-- CLOSED DAY PUT in its used form (R163). -/
def answerClosedUsed (entry month day weekday : Nat) (s : State) : Reply × State :=
  if entry = 0 ∨ Config.closedDays < entry then refuse s .range
  else if !anyInRange 1 12 (anyOf month) || !anyInRange 1 31 (anyOf day) || !anyInRange 0 6 (anyOf weekday) then
    refuse s .range
  else putClosedDay entry (some { month := anyOf month, day := anyOf day, weekday := anyOf weekday }) s

/-- CLOSED_DAY_PUT_USED. -/
def execClosedDayPutUsed (tag entry month day weekday : Nat) (s : State) : Answer :=
  .next (s.serve 0x64 tag (u8 entry ++ u8 month ++ u8 day ++ u8 weekday)
    (answerClosedUsed entry month day weekday))

/-- CLOSED DAY PUT in its clear form (R163). -/
def answerClosedClear (entry : Nat) (s : State) : Reply × State :=
  if entry = 0 ∨ Config.closedDays < entry then refuse s .range else putClosedDay entry none s

/-- CLOSED_DAY_PUT_CLEAR. -/
def execClosedDayPutClear (tag entry : Nat) (s : State) : Answer :=
  .next (s.serve 0x64 tag (u8 entry) (answerClosedClear entry))

/-- CLOSED_DAY_GET (R163). -/
def execClosedDayGet (tag : Nat) (s : State) : Answer :=
  .next (s.serve 0x65 tag [] (fun s => accept s (listField closedFields s.calendar.closedDays)))

/-! ## Reminders (R174, R175) -/

/-- One entry of REMINDERS READ (R175). -/
def State.reminderLine (s : State) (r : Reminder) : List Byte :=
  u16 r.loan ++ u16 r.patron ++ u8 r.stage ++ dateField r.date ++ u32 (s.patronNumber r.patron)

/-- REMINDERS READ: the oldest entries, up to 16, leave the list (R175). An empty list still sends its count and
the number remaining, both 0 (log entry 36). -/
def answerRemindersRead (s : State) : Reply × State :=
  let l := s.calendar.reminders
  accept (s.setCalendar { s.calendar with reminders := l.drop Config.reminderRead })
    (listField s.reminderLine (l.take Config.reminderRead) ++ u8 (l.length - Config.reminderRead))

/-- REMINDERS_READ. -/
def execRemindersRead (tag : Nat) (s : State) : Answer := .next (s.serve 0x66 tag [] answerRemindersRead)

/-! ## ROLL_LOAN_STEP (R169, R170) -/

/-- Days past due at which a stage is reached (R169). -/
def stageDays (stage : Nat) : Nat :=
  match stage with
  | 1 => 7
  | 2 => 21
  | _ => 42

/-- The stages raised at `d` days past due with so much room in the Reminder List, each a reminder (R169,
R174). -/
def raiseStages (id patron date d stage room fuel : Nat) : Nat × List Reminder :=
  match fuel with
  | 0 => (stage, [])
  | fuel + 1 =>
    if stage < 3 ∧ stageDays (stage + 1) ≤ d ∧ 0 < room then
      let r := raiseStages id patron date d (stage + 1) (room - 1) fuel
      (r.1, { loan := id, patron := patron, stage := stage + 1, date := date } :: r.2)
    else (stage, [])

/-- The Written-off List entry a loan leaves (R170). -/
def Loan.lost (l : Loan) (date : Nat) : Lost :=
  { kind := match l.kind with
      | .cartridge serial _ => .cartridge serial
      | .set t c total returned => .set t c total returned,
    patron := l.patron, date := date }

/-- An entry joins the Written-off List as newest; the oldest of 256 leaves first (R22). -/
def appendLost (l : List Lost) (x : Lost) : List Lost := l.drop (l.length + 1 - Config.writtenOffMax) ++ [x]

/-- The write-off of a loan (R170). -/
def State.writeOff (s : State) (id : Nat) (l : Loan) (date : Nat) : State :=
  let s := ((s.setLost (appendLost s.records.lost (l.lost date))).freeLoan id).noteTrigger
  match l.kind with
  | .cartridge _ _ => s.dropCarts l.patron
  | .set t c _ _ => ((s.dropSets l.patron).moveCopy t c .missing).sweepPatron l.patron

/-- The step of one loan (R169). -/
def State.rollLoan (s : State) (id : Nat) (l : Loan) (date : Nat) : State :=
  if date ≤ l.due then s
  else
    let d := date - l.due
    let r := raiseStages id l.patron date d l.stage (Config.reminderMax - s.calendar.reminders.length) 3
    let s := s.setCalendar { s.calendar with reminders := s.calendar.reminders ++ r.2 }
    let l := { l with overdue := true, stage := r.1 }
    let s := s.setLoan id l
    if Config.writeOffDays ≤ d then s.writeOff id l date else s

/-- The roll takes its next loan (R169). -/
def State.loanStep (s : State) : State :=
  match s.calendar.roll with
  | some { date := date, place := .loans next } =>
    match s.loanFrom next with
    | some id =>
      match s.loan id with
      | some l => (s.rollLoan id l date).setRoll date (.loans (id + 1))
      | none => s
    | none => s.setRoll date (.patrons 1)
  | _ => s

/-- ROLL_LOAN_STEP. Outside the loan walk nothing happens (log entry 4). -/
def execRollLoanStep (s : State) : Answer := if s.run = .running then .next s.loanStep.takeTrigger else .next s

/-! ## ROLL_PATRON_STEP (R171) -/

/-- The patron record is freed, and the context that names it cleared (R12). -/
def State.releasePatron (s : State) (k : Nat) : State :=
  let s := s.freePatron k
  if s.link.patronCtx = some k then s.setLink { s.link with patronCtx := none } else s

/-- The step of one patron: made ACTIVE and swept, or freed (R171). -/
def State.rollPatron (s : State) (k : Nat) (p : Patron) : State :=
  match p.state with
  | .paused => (s.setPatron k { p with state := .active, pauseUntil := none }).sweepPatron k
  | .closed => s.releasePatron k
  | .active => s

/-- The roll takes its next patron (R171). -/
def State.patronStep (s : State) : State :=
  match s.calendar.roll with
  | some { date := date, place := .patrons next } =>
    match s.rollPatronFrom date next with
    | some k =>
      match s.patron k with
      | some p => (s.rollPatron k p).setRoll date (.patrons (k + 1))
      | none => s
    | none => s.setRoll date .deferrals
  | _ => s

/-- ROLL_PATRON_STEP. Outside the patron walk nothing happens (log entry 4). -/
def execRollPatronStep (s : State) : Answer :=
  if s.run = .running then .next s.patronStep.takeTrigger else .next s

/-! ## The end of the roll and the work that follows (R172, R165) -/

/-- The third part: every patron's deferral becomes NONE (R172). -/
def State.clearDeferrals (s : State) : State :=
  s.setRecords
    { s.records with patrons := s.records.patrons.map (fun e => (e.1, { e.2 with deferral := Deferral.none })) }

/-- The deferral part, when the roll has come to it. -/
def State.deferralStep (s : State) : State :=
  match s.calendar.roll with
  | some { date := date, place := .deferrals } => s.clearDeferrals.setRoll date .finish
  | _ => s

/-- ROLL_DEFERRAL_CLEAR. -/
def execRollDeferralClear (s : State) : Answer := if s.run = .running then .next s.deferralStep else .next s

/-- On the last date a roll that ends releases no close: the held mark is cleared (R165). -/
def State.dropHeld (s : State) : State :=
  if s.today = Config.lastDay then s.setMail { s.mail with heldClose := false } else s

/-- The finishing update (R172). -/
def State.finishRoll (s : State) (date : Nat) : State :=
  let s := s.setCalendar { s.calendar with lastRoll := some date, roll := none, follow := .trigger }
  let s := s.raise .rollDone
  let s := if s.calendar.reminders.any (fun r => decide (r.date = date)) then s.raise .reminders else s
  s.dropHeld

/-- The finish, when the roll has come to it. -/
def State.finishStep (s : State) : State :=
  match s.calendar.roll with
  | some { date := date, place := .finish } => s.finishRoll date
  | _ => s

/-- ROLL_FINISH. -/
def execRollFinish (s : State) : Answer := if s.run = .running then .next s.finishStep else .next s

/-- The following work that comes after an item, by what is to be done (R172). -/
def State.followAfter (s : State) (closeDone : Bool) : Follow :=
  if !closeDone && s.mail.heldClose then .heldClose
  else if s.returns.pending.isSome then .pendingResult
  else .nothing

/-- ROLL_END_PLANNING_TRIGGER: the first work that follows a roll (R172, R49). -/
def execRollEndPlanningTrigger (s : State) : Answer :=
  if s.run = .running ∧ s.calendar.follow = .trigger then
    .next (s.noteTrigger.setFollow (s.followAfter false)).takeTrigger
  else .next s

/-- The held close is released as a close call, but not on the last date (R123, R165). -/
def State.releaseClose (s : State) : State :=
  let t := s.setMail { s.mail with heldClose := false }
  if t.today = Config.lastDay then t else t.closeCall

/-- HELD_CLOSE_RELEASE: the second work that follows a roll (R172). -/
def execHeldCloseRelease (s : State) : Answer :=
  if s.run = .running ∧ s.calendar.follow = .heldClose then
    .next (s.releaseClose.setFollow (s.followAfter true))
  else .next s

end Sys2Proof.Machine
end

