-- ==== Sys2Proof/Machine/PlannerDesk.lean ====
section
/-!
DEFINITION. The Planner: packing, the floor test, admission and commit, the pass step and the planner
requests (chapter 3).
-/

namespace Sys2Proof.Machine

/-! ## Packing (R42 to R45) -/

/-- The candidates of a patron in packing order: rush entries first, each group in position order (R42). -/
def State.candidates (s : State) (p : Patron) : List OrderEntry :=
  let l := (s.window p).filter (fun e => s.candidate p e)
  l.filter (fun e => e.rush) ++ l.filter (fun e => !e.rush)

/-- A title taken by the greedy fill. -/
structure Taken where
  title : Nat
  pages : Nat
  rush : Bool
  deriving DecidableEq, Repr

/-- What the walk over the candidates found: titles taken, titles marked oversize, room left. -/
structure Walk where
  taken : List Taken
  oversize : List Nat
  room : Nat
  deriving DecidableEq, Repr

/-- The pages of a title; 0 for a FREE record. -/
def State.pagesOf (s : State) (t : Nat) : Nat :=
  match s.title t with
  | some r => r.pages
  | none => 0

/-- The greedy fill of R43, for a player of a capacity. -/
def State.greedy (s : State) (capacity : Nat) (cands : List OrderEntry) (w : Walk) : Walk :=
  match cands with
  | [] => w
  | e :: rest =>
    if Config.placementMax ≤ w.taken.length then w
    else
      let size := blockSize (s.pagesOf e.title)
      if capacity < size then s.greedy capacity rest { w with oversize := w.oversize ++ [e.title] }
      else if size ≤ w.room then
        s.greedy capacity rest
          { w with
            taken := w.taken ++ [{ title := e.title, pages := s.pagesOf e.title, rush := e.rush }],
            room := w.room - size }
      else s.greedy capacity rest w

/-- The walk for a patron (R43). -/
def State.pack (s : State) (p : Patron) : Walk :=
  s.greedy p.cls.usable (s.candidates p) { taken := [], oversize := [], room := p.cls.usable }

/-- Blocks used by the titles taken (R44). -/
def usedBlocks (taken : List Taken) : Nat := (taken.map (fun t => blockSize t.pages)).sum

/-- The smallest class that holds the used blocks (R44). It is no larger than the player's, whose capacity
holds them. -/
def planClass (used : Nat) : Cls :=
  if used ≤ Cls.c2.usable then .c2 else if used ≤ Cls.c4.usable then .c4 else .c8

/-- The fill of a cartridge in per-mille, rounded down (R44). -/
def fillOf (used : Nat) (c : Cls) : Nat := used * 1000 / c.usable

/-- The titles placed one after another from a block (R45). -/
def placeFrom (start : Nat) (taken : List Taken) : List Placement :=
  match taken with
  | [] => []
  | t :: rest =>
    { title := t.title, start := start, blocks := blockSize t.pages, pages := t.pages } ::
      placeFrom (start + blockSize t.pages) rest

/-- The plan made of the titles taken for a patron (R44, R45, R51). -/
def planOf (patron : Nat) (taken : List Taken) : Plan :=
  let used := usedBlocks taken
  let c := planClass used
  { patron := patron, cls := c, rush := taken.any (fun t => t.rush), placements := placeFrom 1 taken,
    used := used, fill := fillOf used c, faults := 0, state := .queued }

/-- The floor test (R44). -/
def floorPassed (count fill floor : Nat) : Bool := decide (count = 0 ∨ floor ≤ fill)

/-! ## Admission and commit (R50, R68) -/

/-- The plan's titles with their block sizes. -/
def Plan.titles (p : Plan) : List (Nat × Nat) := p.placements.map (fun q => (q.title, q.blocks))

/-- The placements whose title has no entry in the Resident Image Table (R50). -/
def State.needed (s : State) (ps : List Placement) : List Placement :=
  ps.filter (fun q => (s.image q.title).isNone)

/-- The Image Store's changes on admission, in the order of R68. -/
def State.admitPlan (s : State) (p : Plan) : State :=
  let needed := s.needed p.placements
  let s := s.evict (p.placements.map (·.title)) s.store.recency (needed.map (·.blocks)).sum needed.length
  let s := needed.foldl (fun s q => s.admitTitle q.title q.pages) s
  let s := if needed.isEmpty then s else s.raise .fetchWanted
  let s := p.placements.foldl (fun s q => s.pin q.title) s
  p.placements.foldl (fun s q => s.toRecent q.title) s

/-- The number the next commit takes (R51). -/
def State.nextPlan (s : State) : Nat :=
  nextNumber Config.numberMax s.planner.lastPlan (s.planner.plans.map (·.1))

/-- Commit: the plan QUEUED under the next number, its entries PLANNED, the count raised, the plan in the
Job Queue (R50), and matching tried (R91). -/
def State.commit (s : State) (p : Plan) : State :=
  let n := s.nextPlan
  let s := (s.admitPlan p).setPlan n p
  let s := s.setPlanner { s.planner with lastPlan := n }
  let s := p.placements.foldl (fun s q => s.setEntry p.patron q.title (.planned n)) s
  ((s.raiseCarts p.patron).joinTail n p.rush).matchJobs

/-- The oversize marks the walk set (R43). -/
def markOversize (titles : List Nat) (orders : List OrderEntry) : List OrderEntry :=
  orders.map (fun e => if titles.contains e.title then { e with oversize := true } else e)

/-- The patron's deferral is set (R47). -/
def State.defer (s : State) (k : Nat) (d : Deferral) : State :=
  s.onPatron k (fun r => { r with deferral := d })

/-- Pack for a patron and commit, defer, or neither (R43, R44, R50). -/
def State.planFor (s : State) (k : Nat) (p : Patron) : State :=
  let w := s.pack p
  let s := s.setPatron k { p with orders := markOversize w.oversize p.orders }
  if w.taken.isEmpty then s
  else
    let plan := planOf k w.taken
    if !floorPassed p.cartCount plan.fill s.link.settings.floor then s.defer k .fillLow
    else if s.admissible plan.titles then s.commit plan
    else s.defer k .storeSpace

/-! ## The pass (R48) -/

/-- The recheck of a patron when the pass takes it (R48). -/
def Patron.passable (p : Patron) : Bool :=
  decide (p.state = .active ∧ p.cartCount < p.cartLimit ∧ p.deferral = .none)

/-- The stop test (R48). -/
def State.stopTest (s : State) : Bool :=
  decide (Config.planMax ≤ s.planner.plans.length ∨ Config.commitBelow ≤ s.planner.queue.length)

/-- The pass ends: a new one begins if the re-run mark is set, otherwise IDLE (R48). -/
def State.endPass (s : State) : State :=
  if s.planner.rerun then s.beginPass else s.setPlanner { s.planner with pass := none }

/-- The pass takes its next patron (R48). -/
def State.passStep (s : State) : State :=
  match s.planner.pass with
  | none => s
  | some [] => s.endPass
  | some (k :: rest) =>
    if s.stopTest then s.endPass
    else
      let s := s.setPlanner { s.planner with pass := some rest }
      let s := match s.patron k with
        | some p => if p.passable then s.planFor k p else s
        | none => s
      let s := s.takeTrigger
      if rest.isEmpty then s.endPass else s

/-- PASS_PATRON_STEP. While the Planner is IDLE, or the part does not run, nothing happens (log
entry 4). -/
def execPassPatronStep (s : State) : Answer :=
  if s.run = .running then .next s.passStep else .next s

/-! ## Planner requests (R57 to R59, R55) -/

/-- PLAN NOW is a planning trigger: STARTED 0 or RERUN 1 (R57). -/
def answerPlanNow (s : State) : Reply × State :=
  accept s.noteTrigger
    (u8 (if s.planner.pass.isNone then 0 else 1) ++ u8 s.planner.plans.length ++ u8 s.planner.queue.length)

/-- PLAN_NOW. -/
def execPlanNow (tag : Nat) (s : State) : Answer := .next (s.serve 0x28 tag [] answerPlanNow)

/-- The live plan a request names (R55, R58). -/
def State.findPlan (s : State) (n : Nat) : Except Status Plan :=
  if n = 0 then .error .range
  else
    match s.plan n with
    | some p => .ok p
    | none => .error .noRecord

/-- Slot number of an IN_SLOT plan; 0 otherwise. -/
def PlanState.slot (st : PlanState) : Nat :=
  match st with
  | .inSlot n => n
  | _ => 0

/-- Mail item number of a MAILING plan; 0 otherwise. -/
def PlanState.item (st : PlanState) : Nat :=
  match st with
  | .mailing n => n
  | _ => 0

/-- One placement of PLAN GET (R58). -/
def State.placementLine (s : State) (q : Placement) : List Byte :=
  u16 q.title ++ u32 q.start ++ u16 q.blocks ++ u32 q.pages ++ u32 (s.catalogue q.title)

/-- Place in the Job Queue, from 1 at the head; 0 for a plan not in it. -/
def State.queuePlace (s : State) (n : Nat) : Nat :=
  match s.planner.queue.findIdx? (fun m => decide (m = n)) with
  | some i => i + 1
  | none => 0

/-- PLAN GET (R58). -/
def answerPlanGet (plan : Nat) (s : State) : Reply × State :=
  match s.findPlan plan with
  | .error e => refuse s e
  | .ok p =>
    accept s
      (u16 plan ++ u16 p.patron ++ u8 p.cls.code ++ flagByte p.rush ++
        listField s.placementLine p.placements ++ u16 p.used ++ u16 p.fill ++ u8 p.faults ++
        u8 p.state.code ++ u8 p.state.slot ++ u16 p.state.item ++ u32 (s.patronNumber p.patron) ++
        u8 (s.queuePlace plan))

/-- PLAN_GET. -/
def execPlanGet (tag plan : Nat) (s : State) : Answer :=
  .next (s.serve 0x29 tag (u16 plan) (answerPlanGet plan))

/-- The serial of a CARTRIDGE item; 0 otherwise. -/
def State.itemSerial (s : State) (n : Nat) : Nat :=
  match s.item n with
  | some i =>
    match i.kind with
    | .cartridge _ serial => serial
    | .set _ _ => 0
  | none => 0

/-- PLAN CANCEL (R55). Matching is tried where a slot becomes IDLE_DIRTY by it (R91, R102, R106). -/
def answerPlanCancel (plan : Nat) (s : State) : Reply × State :=
  match s.findPlan plan with
  | .error e => refuse s e
  | .ok p =>
    if s.rolling then refuse s .rolling
    else
      accept ((s.endPlan plan).matchIdled s)
        (u8 p.state.code ++ u16 p.patron ++ u16 p.state.item ++ u32 (s.itemSerial p.state.item))

/-- PLAN_CANCEL. -/
def execPlanCancel (tag plan : Nat) (s : State) : Answer :=
  .next (s.serve 0x2A tag (u16 plan) (answerPlanCancel plan))

/-- One plan of QUEUE LIST (R59). -/
def State.queueLine (s : State) (n : Nat) : List Byte :=
  match s.plan n with
  | some p =>
    u16 n ++ u16 p.patron ++ u8 p.cls.code ++ flagByte p.rush ++ u8 p.faults ++ u8 p.placements.length ++
      u16 p.used
  | none => []

/-- Live plans in a state, by its code. -/
def State.plansIn (s : State) (code : Nat) : Nat :=
  s.planner.plans.countP (fun e => decide (e.2.state.code = code))

/-- IDLE 0, RUNNING 1, RUNNING with a re-run marked 2 (R59). -/
def Planner.code (p : Planner) : Nat :=
  match p.pass with
  | none => 0
  | some _ => if p.rerun then 2 else 1

/-- Patrons that hold a deferral. -/
def State.deferred (s : State) (d : Deferral) : Nat :=
  s.records.patrons.countP (fun e => decide (e.2.deferral = d))

/-- QUEUE_LIST (R59). -/
def execQueueList (tag : Nat) (s : State) : Answer :=
  .next (s.serve 0x2B tag []
    (fun s => accept s
      (listField s.queueLine s.planner.queue ++ u8 (s.plansIn 0) ++ u8 (s.plansIn 1) ++ u8 (s.plansIn 2) ++
        u8 s.planner.code ++ u16 (s.deferred .fillLow) ++ u16 (s.deferred .storeSpace))))

end Sys2Proof.Machine
end

