-- ==== Sys2Proof/Machine/ImageStore.lean ====
section
/-!
DEFINITION. The Image Store's requests and the completions of its banks (chapter 4).
-/

namespace Sys2Proof.Machine

/-! ## FETCH NEXT (R70) -/

/-- PINNED 0, PRELOAD 1: the kind follows the pin count (R66, R69, R194). -/
def State.fetchKind (s : State) (t : Nat) : Nat := if 0 < s.pins t then 0 else 1

/-- WAITING entries of the Fetch Queue. -/
def State.waitingFetches (s : State) : Nat :=
  s.store.fetches.countP (fun f => decide (f.state = .waiting))

/-- The entry becomes STREAMING, younger than any stream running (R70). -/
def State.startStream (s : State) (id : Nat) : State :=
  s.onFetch id (fun f => { f with state := .streaming (decide (s.streams = 0)), next := 0 })

/-- FETCH NEXT (R70). -/
def answerFetchNext (s : State) : Reply × State :=
  match s.store.fetches.find? (fun f => decide (f.state = .waiting)) with
  | none => refuseWith s .state (u8 s.streams ++ u8 s.waitingFetches)
  | some f =>
    if Config.streamMax ≤ s.streams then refuseWith s .state (u8 s.streams ++ u8 s.waitingFetches)
    else
      accept (s.startStream f.id)
        (u8 f.id ++ u32 (s.catalogue f.title) ++ u16 f.title ++ u32 (s.pagesOf f.title) ++ u32 f.expected ++
          u8 f.retries ++ u8 (s.fetchKind f.title))

/-- FETCH_NEXT. -/
def execFetchNext (tag : Nat) (s : State) : Answer := .next (s.serve 0x30 tag [] answerFetchNext)

/-! ## IMAGE DATA (R72) -/

/-- The reply fields of an accepted IMAGE DATA: indication (DUPLICATE 0, COMPLETE 1, MISMATCH 2; an absent one 0),
next frame, fetch id, retries (R72, R73, R194; log entry 12). -/
def frameFields (indication next fetch retries : Nat) : List Byte :=
  u8 indication ++ u32 next ++ u8 fetch ++ u8 retries

/-- The part of a frame's data that belongs to the image: in the last frame only the first pages mod 8
pages (R71). -/
def frameData (pages frame : Nat) (data : List Byte) : List Byte :=
  if frame + 1 = framesOf pages ∧ pages % Config.framePages ≠ 0 then
    data.take (Config.pageBytes * (pages % Config.framePages))
  else data

/-- The fill write of a frame of a fetch (R61, R72, R78). -/
def State.fillOf (s : State) (f : Fetch) (frame : Nat) (data : List Byte) : FillOp :=
  { fetch := f.id, title := f.title, frame := frame,
    block := match s.image f.title with
      | some e => e.blocks.getD (frame / Config.blockFrames) 0
      | none => 0,
    place := frame % Config.blockFrames, data := frameData (s.pagesOf f.title) frame data, live := true }

/-- The judgement of a frame: a reply at once, or the fetch it is written for (R72). The DUPLICATE reply gives the
fetch's next frame as it stands, which R72 does not say (log entry 51). -/
def State.judgeData (s : State) (id frame : Nat) (data : List Byte) : Reply ⊕ Fetch :=
  if data.length ≠ Config.frameBytes then .inl { status := .length, fields := [] }
  else
    match s.fetch id with
    | none => .inl { status := .noRecord, fields := [] }
    | some f =>
      if f.expected ≤ frame then .inl { status := .range, fields := [] }
      else if f.state = .waiting then .inl { status := .state, fields := [] }
      else if frame < f.next then .inl { status := .ok, fields := frameFields 0 f.next 0 0 }
      else if f.next < frame then .inl { status := .sequence, fields := u32 f.next }
      else .inr f

/-- IMAGE DATA taken: a frame behind one of its fetch still being written waits unserved; one accepted is
handed to its bank, and the Link Port goes on (R72, R179). -/
def State.takeFrame (s : State) (tag id frame : Nat) (data : List Byte) : State :=
  match s.takeRequest 0x31 tag (u8 id ++ u32 frame ++ data) with
  | (s, none) => s
  | (s, some i) =>
    if data.length = Config.frameBytes ∧ s.fillOutstanding id then s
    else
      match s.judgeData id frame data with
      | .inl r => s.formReply i r
      | .inr f =>
        (s.setQueue (setStage s.link.queue i (.writing id))).handFill (s.fillOf f frame data)

/-- IMAGE_DATA. -/
def execImageData (tag fetch frame : Nat) (data : List Byte) (s : State) : Answer :=
  .next (s.takeFrame tag fetch frame data)

/-- The reply of the IMAGE DATA whose frame is being written for a fetch is formed (R72, R76). -/
def State.formWriting (s : State) (id : Nat) (r : Reply) : State :=
  match s.link.queue.findIdx? (fun q => decide (q.stage = .writing id)) with
  | some i => s.formReply i r
  | none => s

/-! ## The end of a fill (R73 to R76) -/

/-- The check matches: the image is RESIDENT and most recent, the fetch leaves, the failures become 0, and
every waiting slot is notified (R73, R77). -/
def State.imageComplete (s : State) (t id : Nat) : State :=
  let s := (s.onImage t (fun e => { e with resident := true })).toRecent t
  let s := (s.removeFetch id).onTitle t (fun r => { r with failures := 0 })
  slotNumbers.foldl (fun s n => s.notify t n) s

/-- A slot has read from the entry of a title: its placement in hand is the title and its mark is set
(R74, R84). -/
def State.hasRead (s : State) (t n : Nat) : Bool :=
  let sl := s.slot n
  sl.readMark &&
    match s.placementOf sl with
    | some p => decide (p.title = t)
    | none => false

/-- A slot is aborted: unbound, and its plan back at the head of its group (R74, R106). -/
def State.abortSlot (s : State) (n : Nat) : State :=
  match (s.slot n).job with
  | some job => (s.unbind n).returnPlan job
  | none => s

/-- The slots to abort, in descending slot number (R74). -/
def State.readers (s : State) (t : Nat) : List Nat := slotNumbers.reverse.filter (fun n => s.hasRead t n)

/-- The entry is re-created in its place with new blocks (R74, R83). -/
def State.recreateImage (s : State) (t : Nat) : State :=
  match s.image t with
  | some e =>
    let s := s.setImage t { e with blocks := [] }
    s.setImage t
      { e with resident := false, blocks := allocateBlocks s.heldBlocks e.blocks.length, filled := 0, sum := 0#32 }
  | none => s

/-- The fetch returns to WAITING at the head of the queue, one retry more (R74). -/
def State.requeueFetch (s : State) (id : Nat) : State :=
  match s.fetch id with
  | some f =>
    (s.setFetches
      ({ f with state := .waiting, next := 0, retries := f.retries + 1 } ::
        promote (s.store.fetches.filter (fun g => decide (g.id ≠ id))))).raise .fetchWanted
  | none => s

/-- The re-creation of an entry makes its blocks unreadable (R77). A slot whose first frame read of the title waits
ungranted has it withdrawn, and comes to its block afresh, in WAIT_IMAGE (R97): the model's choice, as R74 and R79
say nothing of such a read (log entry 57). -/
def State.stopReading (s : State) (t n : Nat) : State :=
  if s.readWaiting n then
    match s.placementOf (s.slot n) with
    | some p => if p.title = t then (s.loseRead n .dropped).beginBlock n p else s
    | none => s
  else s

/-- A failed check with retries left (R74, R77). -/
def State.imageMismatch (s : State) (t id : Nat) : State :=
  let slots := s.readers t
  let s := s.onTitle t (fun r => { r with failures := r.failures + 1 })
  let s := slots.foldl State.abortSlot s
  let s := ((s.recreateImage t).requeueFetch id).spaceFreed
  let s := slotNumbers.foldl (fun s n => s.stopReading t n) s
  if slots.isEmpty then s else s.matchJobs

/-- Plans failed, and PLAN_FAILED once they have (R54, R75). Matching is tried where a slot becomes IDLE_DIRTY by
it (R91). -/
def State.failPlans (s : State) (plans : List Nat) : State :=
  if plans.isEmpty then s else ((plans.foldl State.endPlan s).raise .planFailed).matchIdled s

/-- The title's image is given up: IMAGE_BAD with so many failures, the entry and the fetch gone, every
plan that places it failed (R75, R76). -/
def State.imageBad (s : State) (t id failures : Nat) : State :=
  let plans := s.plansPlacing t
  let s := s.onTitle t (fun r => { r with bad := true, failures := failures })
  let s := ((s.removeImage t).spaceFreed).removeFetch id
  s.failPlans plans

/-! ## FILL_WRITE_COMPLETE (R72) -/

/-- The bytes a fill write stores: the image's part, the pages beyond left erased (R71). -/
def FillOp.bytes (f : FillOp) : List Byte :=
  f.data ++ List.replicate (Config.frameBytes - f.data.length) Config.erasedByte

/-- The write itself (R61, R71). -/
def State.storeFrame (s : State) (f : FillOp) : State :=
  s.setStore { s.store with flash := flashWrite s.store.flash (frameAddress f.block f.place) f.bytes }

/-- The sum and the counts advance (R71, R72). -/
def State.countFrame (s : State) (f : FillOp) : State :=
  (s.onImage f.title (fun e => { e with sum := e.sum + wordSum f.data, filled := e.filled + 1 })).onFetch
    f.fetch (fun g => { g with next := g.next + 1 })

/-- The image check of a title; 0 for a FREE record. -/
def State.checkOf (s : State) (t : Nat) : Word :=
  match s.title t with
  | some r => r.check
  | none => 0#32

/-- The running sum of a title's image; 0 where it has none. -/
def State.sumOf (s : State) (t : Nat) : Word :=
  match s.image t with
  | some e => e.sum
  | none => 0#32

/-- What follows a counted frame: the fill's end after the last frame, or a notice after the last frame of
a block; and the reply (R72 to R75, R77). The MISMATCH reply carries the fetch id and, as next frame, the
frames expected, which the write had reached (log entry 39). -/
def State.afterFrame (s : State) (f : FillOp) (g : Fetch) : State :=
  if g.next + 1 = g.expected then
    if s.sumOf f.title = s.checkOf f.title then
      (s.imageComplete f.title f.fetch).formWriting f.fetch
        { status := .ok, fields := frameFields 1 g.expected f.fetch 0 }
    else
      (if g.retries < Config.lastRetry then s.imageMismatch f.title f.fetch
        else s.imageBad f.title f.fetch 3).formWriting f.fetch
        { status := .ok, fields := frameFields 2 g.expected f.fetch g.retries }
  else
    (slotNumbers.foldl (fun s n => s.notify f.title n) s).formWriting f.fetch
      { status := .ok, fields := frameFields 0 (g.next + 1) 0 0 }

/-- A fill write completes: the bytes are stored; for a fetch that still stands the work of R72 goes on,
for another the reply is NO_RECORD (R76); then the bank grants its next (R78). -/
def State.fillComplete (s : State) (b : Nat) (f : FillOp) : State :=
  let s := s.storeFrame f
  let s :=
    match if f.live then s.fetch f.fetch else none with
    | some g => (s.countFrame f).afterFrame f g
    | none => s.formWriting f.fetch { status := .noRecord, fields := [] }
  s.grantNext b

/-- FILL_WRITE_COMPLETE. A bank that has granted no fill write reports none (log entry 4). -/
def execFillWriteComplete (bank : Nat) (s : State) : Answer :=
  if Config.banks ≤ bank then .fault (.noSuchBank bank)
  else if s.run ≠ .running then .next s
  else
    match (s.bank bank).current with
    | some (.fill f) => .next (s.fillComplete bank f).takeTrigger
    | _ => .next s

/-! ## FRAME_READ_COMPLETE (R78, R79, R96) -/

/-- The frame goes to the slot, which programs its first page (R96). -/
def State.deliver (s : State) (r : ReadOp) : State :=
  let sl := s.slot r.slot
  (s.setSlot r.slot
    { sl with
      buffer := sl.buffer.take sl.cursor.frame ++
        [flashRead s.store.flash (frameAddress r.block r.place) Config.frameBytes],
      cursor := { sl.cursor with inBuffer := true } }).goProgram r.slot

/-- The slot discards the frame it awaited: a pending hold is made, or the finishing mark clears (R79,
R103, R106). -/
def State.discardRead (s : State) (n : Nat) : State :=
  let s := s.setSlot n { s.slot n with awaiting := false }
  if (s.slot n).finishing then s.finished n
  else if (s.slot n).holdPending then s.setSlot n (s.slot n).hold
  else s

/-- A frame read completes: the frame is taken, or discarded, and the bank grants its next (R78, R79). -/
def State.readComplete (s : State) (b : Nat) (r : ReadOp) : State :=
  let s := match r.fate with
    | .deliver => s.deliver r
    | .awaited => s.discardRead r.slot
    | .dropped => s
  s.grantNext b

/-- FRAME_READ_COMPLETE. A bank that has granted no frame read reports none (log entry 4). -/
def execFrameReadComplete (bank : Nat) (s : State) : Answer :=
  if Config.banks ≤ bank then .fault (.noSuchBank bank)
  else if s.run ≠ .running then .next s
  else
    match (s.bank bank).current with
    | some (.read r) => .next (s.readComplete bank r).takeTrigger
    | _ => .next s

/-! ## FETCH ABANDON (R76) -/

/-- FETCH ABANDON: IMAGE_BAD with the failures unchanged. A frame waiting in its bank is withdrawn and
answered NO_RECORD at once; one being written completes, and is answered then (R76, R79). -/
def answerFetchAbandon (fetch : Nat) (s : State) : Reply × State :=
  match s.fetch fetch with
  | none => refuse s .noRecord
  | some f =>
    if s.rolling then refuse s .rolling
    else
      let failures := match s.title f.title with
        | some r => r.failures
        | none => 0
      let plans := s.plansPlacing f.title
      let s := if s.fillWaiting fetch then s.formWriting fetch { status := .noRecord, fields := [] } else s
      accept ((s.loseFill fetch).imageBad f.title fetch failures) (u16 f.title ++ u8 plans.length)

/-- FETCH_ABANDON. -/
def execFetchAbandon (tag fetch : Nat) (s : State) : Answer :=
  .next (s.serve 0x32 tag (u8 fetch) (answerFetchAbandon fetch))

/-! ## PRELOAD and IMAGE DROP (R80, R81) -/

/-- PRELOAD (R80). -/
def answerPreload (title : Nat) (s : State) : Reply × State :=
  match s.findTitle title with
  | .error e => refuse s e
  | .ok (t, r) =>
    if r.format = .pbraille then refuse s .state
    else if r.bad then refuse s .state
    else if r.withdrawn then refuse s .notEligible
    else if (s.image t).isSome then refuse s .exists
    else if !s.admissible [(t, blockSize r.pages)] then refuse s .full
    else
      let v := s.evict [t] s.store.recency (blockSize r.pages) 1
      let u := ((v.admitTitle t r.pages).raise .fetchWanted).useTitle title
      accept u
        (u8 v.nextFetch ++ u16 (blockSize r.pages) ++ u32 (framesOf r.pages) ++
          u8 (s.store.images.length - v.store.images.length))

/-- PRELOAD. -/
def execPreload (tag title : Nat) (s : State) : Answer :=
  .next (s.serve 0x33 tag (u16 title) (answerPreload title))

/-- IMAGE DROP (R81). -/
def answerImageDrop (title : Nat) (s : State) : Reply × State :=
  match s.findTitle title with
  | .error e => refuse s e
  | .ok (t, _) =>
    match s.image t with
    | none => refuse s .noRecord
    | some e =>
      if 0 < e.pins then refuse s .pinned
      else if !e.resident then refuse s .state
      else accept (((s.removeImage t).spaceFreed).useTitle title) (u16 e.blocks.length)

/-- IMAGE_DROP. -/
def execImageDrop (tag title : Nat) (s : State) : Answer :=
  .next (s.serve 0x34 tag (u16 title) (answerImageDrop title))

/-! ## IMAGE LIST and FETCH LIST (R82) -/

/-- One RESIDENT entry of IMAGE LIST (R82). -/
def State.residentLine (s : State) (t : Nat) : List Byte :=
  u16 t ++ u32 (s.catalogue t) ++ u16 (s.imageBlocks t) ++ u8 (s.pins t)

/-- Frames filled of a title's image. -/
def State.filledOf (s : State) (t : Nat) : Nat :=
  match s.image t with
  | some e => e.filled
  | none => 0

/-- One FILLING entry of IMAGE LIST (R82). -/
def State.fillingLine (s : State) (f : Fetch) : List Byte :=
  u16 f.title ++ u16 (s.imageBlocks f.title) ++ u32 (s.filledOf f.title) ++ u32 f.expected ++
    u8 (s.pins f.title)

/-- IMAGE LIST's fields (R82). -/
def State.imageListFields (s : State) : List Byte :=
  let used := s.heldBlocks
  listField s.residentLine s.store.recency ++ listField s.fillingLine s.store.fetches ++
    u16 (bankFree used 0) ++ u16 (bankFree used 1) ++ u16 (bankFree used 2) ++ u16 (bankFree used 3) ++
    u32 s.freeBlocks ++ u8 s.freePlaces

/-- IMAGE_LIST. -/
def execImageList (tag : Nat) (s : State) : Answer :=
  .next (s.serve 0x35 tag [] (fun s => accept s s.imageListFields))

/-- The entry is the older of the streams (R69, R82). -/
def FetchState.older (st : FetchState) : Bool :=
  match st with
  | .streaming older => older
  | .waiting => false

/-- One entry of FETCH LIST (R82). -/
def State.fetchLine (s : State) (f : Fetch) : List Byte :=
  u8 f.id ++ u16 f.title ++ u32 (s.catalogue f.title) ++ u8 f.state.code ++ u32 f.expected ++ u32 f.next ++
    u8 f.retries ++ u8 (s.fetchKind f.title) ++ flagByte f.state.older

/-- FETCH_LIST. -/
def execFetchList (tag : Nat) (s : State) : Answer :=
  .next (s.serve 0x36 tag [] (fun s => accept s (listField s.fetchLine s.store.fetches)))

end Sys2Proof.Machine
end

