-- ==== Sys2Proof/Machine/LinkPort.lean ====
section
/-!
DEFINITION. The Link Port's commands: the receiver, replies, identification, status, events, contexts and
settings (chapter 9). RESTART stands with the starts in Startup.lean.
-/

namespace Sys2Proof.Machine

/-! ## The receiver (R176, R177) -/

def State.setFrame (s : State) (frame : List Byte) : State := s.setLink { s.link with frame := frame }

def State.setIncoming (s : State) (bytes : List Byte) : State :=
  s.setLink { s.link with incoming := bytes }

/-- The receiver takes one byte: HUNT passes bytes over until a sync; a gathered frame that is good is
offered to the queue, and one that is bad rests until it is discarded (R176). -/
def State.receiveByte (s : State) (b : Byte) : State :=
  if s.link.frame.isEmpty then if b = 0xD3#8 then s.setFrame [b] else s
  else
    let frame := s.link.frame ++ [b]
    match judgeFrame frame with
    | .good => (s.setFrame []).arrive (leAt frame 3 1) (leAt frame 4 1) ((frame.drop 5).take (leAt frame 1 2 - 2))
    | .incomplete => s.setFrame frame
    | .bad => s.setFrame frame

/-- The receiver takes bytes in order and stops at a bad frame; the bytes behind it wait (R176, R177). -/
def State.receive (s : State) (bytes : List Byte) : State :=
  match bytes with
  | [] => s.setIncoming []
  | b :: rest =>
    if judgeFrame s.link.frame = .bad then s.setIncoming (b :: rest) else (s.receiveByte b).receive rest

/-- FRAME_RECEIVE: bytes arrive on the host's pipe. Without main power they are lost. -/
def execFrameReceive (bytes : List Byte) (s : State) : Answer :=
  if s.run = .off then .next s else .next (s.receive (s.link.incoming ++ bytes))

/-- The bad frame is discarded whole, LINK_FAULT is raised, and the scan goes on at the byte after its
sync (R177). -/
def State.discardFrame (s : State) : State :=
  ((s.raise .linkFault).setFrame []).receive (s.link.frame.drop 1 ++ s.link.incoming)

/-- FRAME_DISCARD. With no bad frame in the receiver nothing happens (log entry 4). -/
def execFrameDiscard (s : State) : Answer :=
  if judgeFrame s.link.frame = .bad then .next s.discardFrame else .next s

/-! ## Placing replies (R180) -/

/-- A request's code with the top bit set (R179). -/
def replyCode (code : Nat) : Nat := if code < 128 then code + 128 else code

/-- The frame of a reply. -/
def Request.replyFrame (r : Request) (reply : List Byte) : List Byte := frameBytes (replyCode r.code) r.tag reply

/-- The oldest pending request's reply, once formed, is placed in the pipe and the request is pending no
longer (R178, R180). -/
def State.placeReply (s : State) : State :=
  match s.link.queue with
  | r :: rest =>
    match r.stage with
    | .formed reply => s.setLink { s.link with queue := rest, pipe := s.link.pipe ++ [r.replyFrame reply] }
    | _ => s
  | [] => s

/-- REPLY_PLACE: the pipe has room. -/
def execReplyPlace (s : State) : Answer := .next s.placeReply

/-! ## Requests the Link Port answers itself (R179) -/

/-- UNKNOWN for a code that is no request's, LENGTH for a body length not admitted; the status alone. -/
def answerUnknown (code : Nat) (body : List Byte) (s : State) : Reply × State :=
  match judge code body with
  | .unknown => refuse s .unknown
  | .length => refuse s .length
  | .served => refuse s .length

/-- UNKNOWN_REQUEST. A request that the part does serve is not this command's (log entry 4). -/
def execUnknownRequest (tag code : Nat) (body : List Byte) (s : State) : Answer :=
  if judge code body = .served then .next s else .next (s.serve code tag body (answerUnknown code body))

/-! ## Identification and status (R184 to R186) -/

/-- The fields of IDENTIFY, the same after every start (R184). -/
def identifyFields : List Byte :=
  u16 460 ++ u8 1 ++ u8 Config.slots ++ u32 Config.storeBlocks ++ u8 Config.banks ++
    u16 Config.patronMax ++ u16 Config.titleMax ++ u16 Config.loanMax

/-- IDENTIFY. -/
def execIdentify (tag : Nat) (s : State) : Answer :=
  .next (s.serve 0x01 tag [] (fun s => accept s identifyFields))

/-- The backup indication as STATUS reports it: HELD, LOST, then GOOD, LOW (R186; log entry 14). -/
def Backup.report (b : Backup) : Nat :=
  if b.first then if b.held then 0 else 1 else if b.good then 2 else 3

/-- Named values sent as their place: RUNNING 0, STOPPED 1 (R155, R194). -/
def clockCode (running : Bool) : Nat := if running then 0 else 1

/-- IDLE 0, ROLLING 1 (R185, R194). -/
def rollCode (rolling : Bool) : Nat := if rolling then 1 else 0

/-- CARTRIDGE items in the tray. -/
def State.cartItems (s : State) : Nat := s.mail.tray.countP (fun i => !i.kind.isSet)

/-- The fields of STATUS (R185). -/
def State.statusFields (s : State) : List Byte :=
  u8 (clockCode s.calendar.clock.running) ++ u8 (rollCode s.rolling) ++ flagByte s.calendar.within60 ++
    u8 s.planner.queue.length ++ u8 s.planner.plans.length ++ u32 s.freeBlocks ++
    u8 s.cartItems ++ u8 s.setItems ++ u8 s.returns.reuse.length ++ u8 s.returns.inspect.length ++
    u8 s.link.backup.report

/-- Only STATUS moves the stage of the backup indication (R185, R186). -/
def answerStatus (s : State) : Reply × State :=
  accept (s.setLink { s.link with backup := { s.link.backup with first := false } }) s.statusFields

/-- STATUS. -/
def execStatus (tag : Nat) (s : State) : Answer := .next (s.serve 0x02 tag [] answerStatus)

/-! ## Events (R188, R189) -/

/-- An event flag set as a field (10.2). -/
def flagsField (x : FlagSet) : List Byte := u16 x.toNat

/-- EVENTS READ is taken: from here flags go to the pending half (R188). -/
def State.takeEvents (s : State) (tag : Nat) : State :=
  match s.takeRequest 0x04 tag [] with
  | (s, none) => s
  | (s, some i) => (s.setQueue (setStage s.link.queue i .serving)).setEvents s.link.events.take

/-- EVENTS_READ. -/
def execEventsRead (tag : Nat) (s : State) : Answer := .next (s.takeEvents tag)

/-- The reply of the EVENTS READ being served is formed, in one event (R188). -/
def State.replyEvents (s : State) : State :=
  match s.link.queue.findIdx? (fun r => decide (r.stage = .serving)) with
  | some i =>
    (s.formReply i
      { status := .ok, fields := flagsField s.link.events.main ++ flagsField s.link.events.enables }).setEvents
      s.link.events.reply
  | none => s

/-- EVENTS_READ_REPLY. With no EVENTS READ being served nothing happens (log entry 4). -/
def execEventsReadReply (s : State) : Answer := .next s.replyEvents

/-- The enable set is replaced whole; bit 15 is ignored (R189, 10.2). -/
def answerEventsEnable (enables : Nat) (s : State) : Reply × State :=
  accept (s.setEvents (s.link.events.enable (BitVec.ofNat 15 enables)))
    (flagsField (BitVec.ofNat 15 enables) ++ flagsField (s.link.events.main ||| s.link.events.pending))

/-- EVENTS_ENABLE. -/
def execEventsEnable (tag enables : Nat) (s : State) : Answer :=
  .next (s.serve 0x05 tag (u16 enables) (answerEventsEnable enables))

/-! ## Contexts (R182) -/

/-- A context field: 0 clears, another index names a record not FREE (R182). -/
def contextField (max i : Nat) (held : Bool) : Except Status (Option Nat) :=
  if i = 0 then .ok none else if max < i then .error .range else if held then .ok (some i) else .error .noRecord

/-- CONTEXT SET writes both contexts; a refusal of either leaves both (R182). -/
def answerContextSet (patron title : Nat) (s : State) : Reply × State :=
  match contextField Config.patronMax patron (s.patron patron).isSome with
  | .error e => refuse s e
  | .ok p =>
    match contextField Config.titleMax title (s.title title).isSome with
    | .error e => refuse s e
    | .ok t =>
      accept (s.setLink { s.link with patronCtx := p, titleCtx := t })
        (u16 patron ++ u16 title ++ u32 (s.patronNumber patron) ++ u32 (s.catalogue title))

/-- CONTEXT_SET. -/
def execContextSet (tag patron title : Nat) (s : State) : Answer :=
  .next (s.serve 0x06 tag (u16 patron ++ u16 title) (answerContextSet patron title))

/-! ## Settings (R183) -/

/-- The settings record clamped as it is stored (R183). -/
def clampSettings (cartDays setDays floor window hour minute key : Nat) : Settings :=
  { cartDays := clamp 7 120 cartDays, setDays := clamp 7 120 setDays, floor := clamp 0 1000 floor,
    window := clamp 4 24 window, rollHour := clamp 0 23 hour, rollMinute := clamp 0 59 minute,
    centreKey := key }

/-- The settings record as reply fields, in the order of 10.3. -/
def Settings.fields (x : Settings) : List Byte :=
  u8 x.cartDays ++ u8 x.setDays ++ u16 x.floor ++ u8 x.window ++ u8 x.rollHour ++ u8 x.rollMinute ++
    u16 x.centreKey

/-- SETTINGS PUT writes the record whole and replies with it as stored (R183). -/
def answerSettingsPut (x : Settings) (s : State) : Reply × State :=
  accept (s.setLink { s.link with settings := x }) x.fields

/-- SETTINGS_PUT. -/
def execSettingsPut (tag cartDays setDays floor window hour minute key : Nat) (s : State) : Answer :=
  .next (s.serve 0x07 tag
    (u8 cartDays ++ u8 setDays ++ u16 floor ++ u8 window ++ u8 hour ++ u8 minute ++ u16 key)
    (answerSettingsPut (clampSettings cartDays setDays floor window hour minute key)))

/-- SETTINGS_GET. -/
def execSettingsGet (tag : Nat) (s : State) : Answer :=
  .next (s.serve 0x08 tag [] (fun s => accept s s.link.settings.fields))

end Sys2Proof.Machine
end

