-- ==== Sys2Proof/Machine/OrderDesk.lean ====
section
/-!
DEFINITION. The Order Desk's requests: ORDER ADD, DROP, MOVE and LIST, and HOLD LIST (chapter 2).
-/

namespace Sys2Proof.Machine

/-! ## ORDER ADD (R26 to R28) -/

/-- The loan holds a title for its patron (R24). -/
def Loan.holdsTitle (l : Loan) (t catalogue : Nat) : Bool :=
  match l.kind with
  | .cartridge _ cats => cats.contains catalogue
  | .set t' _ _ _ => decide (t' = t)

/-- A title is on an open loan of the patron (R24). -/
def State.onLoan (s : State) (p t catalogue : Nat) : Bool :=
  s.records.loans.any (fun e => decide (e.2.patron = p) && e.2.holdsTitle t catalogue)

/-- The copy an ORDER ADD of a paper title gets at once, if any (R28). -/
def State.immediateCopy (s : State) (p : Nat) (r : Title) : Option Nat :=
  if s.canTake p then r.shelfCopy else none

/-- The checks of R26 after the indexes, in order; none when the add is accepted. -/
def State.orderAddBar (s : State) (k t : Nat) (reread : Bool) : Option Status :=
  match s.patron k with
  | none => some .noRecord
  | some p =>
    if p.state = .closed then some .state
    else
      match s.title t with
      | none => some .noRecord
      | some r =>
        if r.withdrawn || !p.media.holds r.format then some .notEligible
        else if p.orders.any (fun e => decide (e.title = t)) then some .exists
        else if s.onLoan k t r.catalogue then some .onLoan
        else if p.history.contains r.catalogue && !reread then some .alreadyRead
        else if Config.orderMax ≤ p.orders.length then some .full
        else if r.format = .pbraille ∧ Config.holdMax ≤ r.holds.length ∧ s.immediateCopy k r = none then
          some .full
        else if s.rolling then some .rolling
        else none

/-- The position an added entry takes: 0 or beyond the end is the end (R27). -/
def addPosition (length position : Nat) : Nat :=
  if position = 0 ∨ length < position then length + 1 else position

/-- Insert an entry at a position of the patron's list; the list has changed (R24, R47). -/
def State.insertEntry (s : State) (k position : Nat) (e : OrderEntry) : State :=
  (s.onPatron k (fun r => { r with orders := insertAt r.orders (position - 1) e })).clearFillLow k

/-- The state an added entry starts in (R27, R28). -/
def State.addedState (s : State) (k : Nat) (r : Title) : EntryState :=
  if r.format = .pbraille then
    match s.immediateCopy k r with
    | some c => .allocated s.nextItem c
    | none => .hold
  else .waiting

/-- The rest of an add: the allocation made, or the patron joining the queue's tail (R28, R34). -/
def State.settleAdd (s : State) (k t : Nat) (st : EntryState) : State :=
  match st with
  | .allocated _ c => s.allocate k t c
  | .hold => s.onTitle t (fun r => { r with holds := r.holds ++ [k] })
  | _ => s

/-- Place in a title's Hold Queue, from 1 at the head; 0 where the patron is not in it. -/
def Title.holdPlace (r : Title) (k : Nat) : Nat :=
  match r.holds.findIdx? (fun p => decide (p = k)) with
  | some i => i + 1
  | none => 0

/-- A title's Hold Queue place for a patron; 0 where there is none. -/
def State.holdPlace (s : State) (t k : Nat) : Nat :=
  match s.title t with
  | some r => r.holdPlace k
  | none => 0

/-- The item number and copy number of an ALLOCATED entry; 0 otherwise. -/
def EntryState.itemCopy (st : EntryState) : List Byte :=
  match st with
  | .allocated item copy => u16 item ++ u8 copy
  | _ => u16 0 ++ u8 0

/-- ORDER ADD (R26, R27). The patron index is judged before the title index (log entry 37). -/
def answerOrderAdd (patron title rush reread position : Nat) (s : State) : Reply × State :=
  match s.patronIndex patron with
  | .error e => refuse s e
  | .ok k =>
    match s.titleIndex title with
    | .error e => refuse s e
    | .ok t =>
      match s.orderAddBar k t (flagOf reread), s.patron k, s.title t with
      | some e, _, _ => refuse s e
      | none, some p, some r =>
        let place := addPosition p.orders.length position
        let st := s.addedState k r
        let entry : OrderEntry :=
          { title := t, rush := flagOf rush, added := s.today, oversize := false, state := st }
        let u := (((s.insertEntry k place entry).settleAdd k t st).usePatron patron).useTitle title
        accept u.noteTrigger
          (u8 place ++ u8 st.code ++ st.itemCopy ++ u8 (if st = .hold then u.holdPlace t k else 0))
      | none, _, _ => refuse s .noRecord

/-- ORDER_ADD. -/
def execOrderAdd (tag patron title rush reread position : Nat) (s : State) : Answer :=
  .next (s.serve 0x20 tag (u16 patron ++ u16 title ++ u8 rush ++ u8 reread ++ u8 position)
    (answerOrderAdd patron title rush reread position))

/-! ## ORDER DROP (R29) -/

/-- The changes of a drop, by the state of the entry, and the sweep it runs (R29, R36). -/
def State.dropEntry (s : State) (k t : Nat) (st : EntryState) : State :=
  let u := s.removeEntries k (fun e => decide (e.title = t))
  match st with
  | .hold => u.leaveHold k t
  | .allocated item _ =>
    match u.item item with
    | some i =>
      let v := u.withdrawSet i
      v.sweep (v.titlesWhere (fun j r => decide (j = t) || queueHolds k j r || shelfAndQueue j r))
    | none => u
  | _ => u

/-- An entry bound to a plan. -/
def EntryState.isPlanned (st : EntryState) : Bool :=
  match st with
  | .planned _ => true
  | _ => false

/-- ORDER DROP (R29). The patron field is judged whole before the title field (log entry 37). -/
def answerOrderDrop (patron title : Nat) (s : State) : Reply × State :=
  match s.findPatron patron with
  | .error e => refuse s e
  | .ok (k, p) =>
    match s.findTitle title with
    | .error e => refuse s e
    | .ok (t, _) =>
      match p.orders.find? (fun e => decide (e.title = t)) with
      | none => refuse s .noRecord
      | some e =>
        if e.state.isPlanned then refuse s .state
        else if s.rolling then refuse s .rolling
        else
          accept ((((s.dropEntry k t e.state).usePatron patron).useTitle title).noteTrigger)
            (u8 e.state.code ++ e.state.itemCopy)

/-- ORDER_DROP. -/
def execOrderDrop (tag patron title : Nat) (s : State) : Answer :=
  .next (s.serve 0x21 tag (u16 patron ++ u16 title) (answerOrderDrop patron title))

/-! ## ORDER MOVE (R31) -/

/-- Take out the entry at a position and insert it at another (R31). -/
def moveEntry (l : List OrderEntry) (fromPos toPos : Nat) : List OrderEntry :=
  match l[fromPos - 1]? with
  | some e => insertAt (l.eraseIdx (fromPos - 1)) (toPos - 1) e
  | none => l

/-- ORDER MOVE (R31). -/
def answerOrderMove (patron fromPos toPos : Nat) (s : State) : Reply × State :=
  match s.findPatron patron with
  | .error e => refuse s e
  | .ok (k, p) =>
    match if fromPos = 0 then none else p.orders[fromPos - 1]? with
    | none => refuse s .range
    | some e =>
      if s.rolling then refuse s .rolling
      else
        let place := clamp 1 p.orders.length toPos
        let u :=
          if fromPos = place then s
          else (s.setPatron k { p with orders := moveEntry p.orders fromPos place }).clearFillLow k
        accept ((u.usePatron patron).noteTrigger) (u8 place ++ u16 e.title)

/-- ORDER_MOVE. -/
def execOrderMove (tag patron fromPos toPos : Nat) (s : State) : Answer :=
  .next (s.serve 0x22 tag (u16 patron ++ u8 fromPos ++ u8 toPos) (answerOrderMove patron fromPos toPos))

/-! ## ORDER LIST and HOLD LIST (R32, R39) -/

/-- The format code of a title; 0 for a FREE record. -/
def State.formatCode (s : State) (t : Nat) : Nat :=
  match s.title t with
  | some r => r.format.code
  | none => 0

/-- The plan number of a PLANNED entry; 0 otherwise. -/
def EntryState.plan (st : EntryState) : Nat :=
  match st with
  | .planned n => n
  | _ => 0

/-- One entry of ORDER LIST, at a position counted from 0 (R32). -/
def State.orderLine (s : State) (k i : Nat) (e : OrderEntry) : List Byte :=
  u8 (i + 1) ++ u16 e.title ++ u32 (s.catalogue e.title) ++ u8 (s.formatCode e.title) ++
    flagByte e.rush ++ dateField e.added ++ flagByte e.oversize ++ u8 e.state.code ++ u16 e.state.plan ++
    e.state.itemCopy ++ u8 (if e.state = .hold then s.holdPlace e.title k else 0)

/-- A list whose members are written with their place. -/
def listPlaces {α : Type} (f : Nat → α → List Byte) (l : List α) : List Byte :=
  u16 l.length ++ (l.zipIdx.flatMap (fun e => f e.2 e.1))

/-- ORDER LIST (R32). An empty list still sends its count and its length, both 0 (log entry 36). -/
def answerOrderList (patron : Nat) (s : State) : Reply × State :=
  match s.findPatron patron with
  | .error e => refuse s e
  | .ok (k, p) =>
    accept (s.usePatron patron) (listPlaces (s.orderLine k) p.orders ++ u8 p.orders.length)

/-- ORDER_LIST. -/
def execOrderList (tag patron : Nat) (s : State) : Answer :=
  .next (s.serve 0x23 tag (u16 patron) (answerOrderList patron))

/-- Why a sweep made now would pass the patron over: none 0, PAUSED 1, AT_LIMIT 2, and PAUSED for a patron that
is both (R39; log entry 38). -/
def State.passReason (s : State) (k : Nat) : Nat :=
  match s.patron k with
  | some p => if p.state = .paused then 1 else if p.setLimit ≤ p.setCount then 2 else 0
  | none => 0

/-- The added date of the patron's entry for a title (R39). -/
def State.addedDate (s : State) (k t : Nat) : Option Nat :=
  match s.patron k with
  | some p => (p.orders.find? (fun e => decide (e.title = t))).map (·.added)
  | none => none

/-- One patron of HOLD LIST, at a place counted from 0 (R39). -/
def State.holdLine (s : State) (t i k : Nat) : List Byte :=
  u8 (i + 1) ++ u16 k ++ u32 (s.patronNumber k) ++ dateField? (s.addedDate k t) ++ u8 (s.passReason k)

/-- HOLD LIST (R39). -/
def answerHoldList (title : Nat) (s : State) : Reply × State :=
  match s.findTitle title with
  | .error e => refuse s e
  | .ok (t, r) =>
    if r.format ≠ .pbraille then refuse s .state
    else
      accept (s.useTitle title)
        (listPlaces (s.holdLine t) r.holds ++ u8 r.shelf ++ flagByte r.withdrawn ++
          flagByte (decide (Config.trayRoom ≤ s.setItems)))

/-- HOLD_LIST. -/
def execHoldList (tag title : Nat) (s : State) : Answer :=
  .next (s.serve 0x24 tag (u16 title) (answerHoldList title))

end Sys2Proof.Machine
end

