-- ==== Sys2Proof/Machine/Rack.lean ====
section
/-!
DEFINITION. The Duplication Rack's reports and requests (chapter 5).
-/

namespace Sys2Proof.Machine

/-! ## Reports -/

/-- A socket event of the running part; a socket the rack does not have is no command of the part. -/
def State.socketEvent (s : State) (n : Nat) (f : State → State) : Answer :=
  if n = 0 ∨ Config.slots < n then .fault (.noSuchSocket n)
  else if s.run ≠ .running then .next s
  else .next (f s).takeTrigger

/-- What a report meets: nothing without a cartridge, a discarded report in FAULT, PROTOCOL when it answers
no operation in hand, else the operation it answers (R85, R86, R108). A late report that comes once SLOT CLEAR has
made the slot IDENT is judged like any other (log entry 48). -/
def State.report (s : State) (n : Nat) (answers : CartOp → Bool) (f : CartOp → State → State) : State :=
  match (s.slot n).state, (s.slot n).op with
  | .empty, _ => s
  | .fault, _ => s
  | _, some o => if answers o.op then f o.op s else s.slotFault n .protocol
  | _, none => s.slotFault n .protocol

/-! ## CARTRIDGE_INSERT and CARTRIDGE_REMOVE (R89, R106) -/

/-- A cartridge enters an EMPTY socket: identification begins (R89). -/
def State.insertCartridge (s : State) (n : Nat) : State :=
  if (s.slot n).state = .empty then s.setSlot n { (s.slot n).beginIdent with present := true } else s

/-- Only the presence of a cartridge changes while the part does not run (R113). -/
def State.setPresent (s : State) (n : Nat) (present : Bool) : State :=
  s.setSlot n { s.slot n with present := present }

/-- CARTRIDGE_INSERT. -/
def execCartridgeInsert (slot : Nat) (s : State) : Answer :=
  if slot = 0 ∨ Config.slots < slot then .fault (.noSuchSocket slot)
  else if s.run ≠ .running then .next (s.setPresent slot true)
  else .next (s.insertCartridge slot)

/-- CARTRIDGE_REMOVE. An empty socket has none to remove (log entry 4). -/
def execCartridgeRemove (slot : Nat) (s : State) : Answer :=
  if slot = 0 ∨ Config.slots < slot then .fault (.noSuchSocket slot)
  else if s.run ≠ .running then .next (s.setPresent slot false)
  else if (s.slot slot).state = .empty then .next s
  else .next (s.removeCartridge slot).takeTrigger

/-! ## IDENTITY_READ_DONE (R89, R195) -/

/-- The record kept while block 0 is read (R84, R89). Until the marker is known it is recorded as DIRTY (log
entry 42). -/
def Identity.record (i : Identity) : Cartridge :=
  { serial := i.serial, cls := i.cls, cycles := i.cycles, tab := i.tab, marker := .dirty, planTag := 0,
    lastUsed := 0 }

/-- The identity read ends: the slot goes on to page 0, or faults HEADER_BAD with no serial (R89). -/
def State.identityRead (s : State) (n : Nat) (i : Option Identity) : State :=
  match i with
  | none => s.slotFault n .headerBad
  | some i => s.setSlot n ({ s.slot n with cart := some i.record, identPages := [] }.issue (.readPage 0 0))

/-- IDENTITY_READ_DONE. -/
def execIdentityReadDone (slot : Nat) (ok : Bool) (area : List Byte) (s : State) : Answer :=
  s.socketEvent slot fun s =>
    s.report slot (fun o => decide (o = .readIdentity)) fun _ s => s.identityRead slot (identityOf ok area)

/-! ## PAGE_READ_DONE (R88, R94, R98, R100, R195, R196) -/

/-- Identification with a marker (R88, R89). -/
def State.identifyAs (s : State) (n : Nat) (m : Marker) (plan last : Nat) : State :=
  match (s.slot n).cart with
  | some c => s.identified n { c with marker := m, planTag := plan, lastUsed := last }
  | none => s.slotFault n .headerBad

/-- A page of block 0 arrives at identification: a blank stamp, a directory whose further pages are read,
or neither (R88, R195, R196). -/
def State.identPage (s : State) (n : Nat) (ok : Bool) (page : List Byte) : State :=
  match (s.slot n).cart with
  | none => s.slotFault n .headerBad
  | some c =>
    let pages := (s.slot n).identPages ++ [page]
    let first := pages.headD []
    if !ok || page.length ≠ Config.pageBytes then s.identifyAs n .dirty 0 0
    else if stampValid first c.cls c.cycles then s.identifyAs n .blank 0 0
    else if !hasMarker first 2 || 3 < directoryPages first then s.identifyAs n .dirty 0 0
    else if pages.length < directoryPages first then
      s.setSlot n ({ s.slot n with identPages := pages }.issue (.readPage 0 pages.length))
    else
      match directoryOf pages c.cls c.cycles with
      | some (plan, last) => s.identifyAs n .written plan last
      | none => s.identifyAs n .dirty 0 0

/-- The stamp is read back: the phase has ended with the marker BLANK, or HEADER_BAD (R94). -/
def State.stampRead (s : State) (n : Nat) (ok : Bool) (page : List Byte) : State :=
  let sl := s.slot n
  if ok && sl.pages.head? = some page then
    (s.setSlot n
      { sl with
        op := none, cart := sl.cart.map (fun c => c.mark .blank), eraseStep := .ended, pages := [] }).afterOp n
  else s.slotFault n .headerBad

/-- A page of the block or spare in hand is read back; after the last the block verifies or does not
(R98). A pending hold is made with the verify to be made again (R103, R104). -/
def State.verifyRead (s : State) (n : Nat) (ok : Bool) (page : List Byte) : State :=
  let sl := s.slot n
  match s.placementOf sl with
  | none => s
  | some p =>
    let sl :=
      { sl with op := none, back := sl.back + 1, backOk := sl.backOk && ok && decide (page = sl.expected p sl.back) }
    let t := s.setSlot n sl
    if sl.holdPending then t.setSlot n sl.hold
    else if sl.back < Config.blockPages then t.goOn n
    else if sl.backOk then t.blockVerified n p
    else t.takeSpare n p

/-- A page of the directory is read back; after the last the slot reaches DONE or faults (R100). -/
def State.directoryRead (s : State) (n : Nat) (ok : Bool) (page : List Byte) : State :=
  let sl := s.slot n
  let sl :=
    { sl with op := none, back := sl.back + 1, backOk := sl.backOk && ok && decide (sl.pages[sl.back]? = some page) }
  let t := s.setSlot n sl
  if sl.back < sl.pages.length then t.goOn n
  else if sl.backOk then t.reachDone n
  else t.slotFault n .headerBad

/-- A page read ends, by the phase it was made in, or under the finishing mark (R98, R107). -/
def State.pageRead (s : State) (n : Nat) (ok : Bool) (page : List Byte) : State :=
  let sl := s.slot n
  if sl.finishing then s.finishRead n ok page
  else
    match sl.state with
    | .ident => s.identPage n ok page
    | .preErase => s.stampRead n ok page
    | .erasing => s.stampRead n ok page
    | .verifying => s.verifyRead n ok page
    | .directory => s.directoryRead n ok page
    | _ => s

/-- PAGE_READ_DONE. -/
def execPageReadDone (slot : Nat) (ok : Bool) (page : List Byte) (s : State) : Answer :=
  s.socketEvent slot fun s => s.report slot CartOp.isPageRead fun _ s => s.pageRead slot ok page

/-! ## PERMIT_REPLY (R85) -/

/-- The write a permit was granted for is issued. An erase or program has now started; the erase of block 0
that begins the program phase leaves the marker DIRTY (R85, R96, R108). The first write since identification
keeps the record that stood before it, for the case that the cartridge refuses it (log entry 46). -/
def Slot.startWrite (sl : Slot) (w : WriteOp) : Slot :=
  Slot.issue
    { sl with
      started := true, unstarted := if sl.started then none else sl.cart,
      cart := if sl.state = .programming then sl.cart.map (fun c => c.mark .dirty) else sl.cart }
    (.write w)

/-- The permit is granted: the write is issued, unless the slot finishes or is to be held (R85, R103,
R106); or it is refused for the write tab (R85). -/
def State.permitReply (s : State) (n : Nat) (granted : Bool) (w : WriteOp) : State :=
  let sl := s.slot n
  if !granted then s.slotFault n .writeProtected
  else if sl.finishing then s.finished n
  else if sl.holdPending then s.setSlot n sl.hold
  else s.setSlot n (sl.startWrite w)

def CartOp.isPermit (op : CartOp) : Bool :=
  match op with
  | .grantPermit _ => true
  | _ => false

/-- PERMIT_REPLY. -/
def execPermitReply (slot : Nat) (granted : Bool) (s : State) : Answer :=
  s.socketEvent slot fun s =>
    s.report slot CartOp.isPermit fun o s =>
      match o with
      | .grantPermit w => s.permitReply slot granted w
      | _ => s

/-- The slot as it was before the write in hand, where that was the first since identification: refused, it
was not executed, so nothing has started and the marker read stands (R85, R108). -/
def Slot.notStarted (sl : Slot) : Slot :=
  match sl.unstarted with
  | some c => { sl with cart := some c, started := false, unstarted := none }
  | none => sl

/-- The cartridge refuses the write in hand for want of a permit (R85, R108; log entry 46). -/
def State.writeRefused (s : State) (n : Nat) : State :=
  (s.setSlot n (s.slot n).notStarted).slotFault n .protocol

/-! ## PAGE_PROGRAM_DONE (R94, R96, R98, R100) -/

/-- The program cursor after a page: the next page, or the next frame (R96). -/
def Slot.pageDone (sl : Slot) (p : Placement) : Slot :=
  let c := sl.cursor
  if c.page + 1 < p.framePages c.image c.frame then { sl with cursor := { c with page := c.page + 1 } }
  else { sl with cursor := { c with frame := c.frame + 1, page := 0, inBuffer := false } }

/-- The directory's next page to write, or the read-back once all are written (R100). -/
def Slot.directoryDone (sl : Slot) : Slot :=
  if sl.back + 1 < sl.pages.length then { sl with back := sl.back + 1 }
  else { sl with back := 0, readingBack := true, backOk := true }

/-- A program ends, by the phase it was made in; refused for want of a permit it is a PROTOCOL fault
(R85). -/
def State.programDone (s : State) (n : Nat) (ok : Bool) : State :=
  let sl := { s.slot n with op := none }
  if !ok then s.writeRefused n
  else if sl.finishing then s.finished n
  else
    match sl.state with
    | .preErase => (s.setSlot n { sl with eraseStep := .stampBack }).afterOp n
    | .erasing => (s.setSlot n { sl with eraseStep := .stampBack }).afterOp n
    | .programming =>
      match s.placementOf sl with
      | some p => (s.setSlot n (sl.pageDone p)).afterOp n
      | none => s
    | .directory => (s.setSlot n sl.directoryDone).goOn n
    | _ => s

def CartOp.isProgram (op : CartOp) : Bool :=
  match op with
  | .write (.program _ _ _) => true
  | _ => false

/-- PAGE_PROGRAM_DONE. -/
def execPageProgramDone (slot : Nat) (ok : Bool) (s : State) : Answer :=
  s.socketEvent slot fun s => s.report slot CartOp.isProgram fun _ s => s.programDone slot ok

/-! ## ERASE_DONE (R93, R94, R96) -/

/-- The erase cursor after an erase: the next of the set, or mark a cycle (R93, R94). -/
def Slot.nextErase (sl : Slot) : EraseStep :=
  match sl.eraseStep with
  | .erase i => if i + 1 < sl.eraseOps then .erase (i + 1) else .mark
  | st => st

/-- An erase ends. One that ends while its suspend is in hand is complete, and the suspend still to be
reported; under the finishing mark the mark stands until then (log entry 17). -/
def State.eraseDone (s : State) (n : Nat) (ok : Bool) (op : CartOp) : State :=
  let sl := s.slot n
  if !ok then s.writeRefused n
  else if op = .suspend then
    s.setSlot n { sl with suspended := none, eraseStep := if sl.finishing then sl.eraseStep else sl.nextErase }
  else if sl.finishing then s.finished n
  else
    match sl.state with
    | .preErase => (s.setSlot n { sl with op := none, eraseStep := sl.nextErase }).afterOp n
    | .erasing => (s.setSlot n { sl with op := none, eraseStep := sl.nextErase }).afterOp n
    | .programming => (s.setSlot n { sl with op := none, cursor := { sl.cursor with erased := true } }).afterOp n
    | _ => s

/-- An operation that ERASE_DONE answers: an erase, or a suspend whose erase has not been suspended yet. -/
def Slot.awaitsErase (sl : Slot) (op : CartOp) : Bool :=
  match op with
  | .write (.eraseBlock _) => true
  | .write (.eraseGroup _) => true
  | .write .fullErase => true
  | .suspend => sl.suspended.isSome
  | _ => false

/-- ERASE_DONE. -/
def execEraseDone (slot : Nat) (ok : Bool) (s : State) : Answer :=
  s.socketEvent slot fun s => s.report slot (s.slot slot).awaitsErase fun o s => s.eraseDone slot ok o

/-! ## MARK_CYCLE_DONE (R87, R94) -/

/-- Mark a cycle completes: the count rises, a worn counter faults, and the stamp is next (R87, R94). -/
def State.markDone (s : State) (n : Nat) : State :=
  let sl := s.slot n
  let sl := { sl with op := none, cart := sl.cart.map (fun c => { c with cycles := c.cycles + 1 }) }
  let t := s.setSlot n sl
  if Config.wornCycles ≤ (sl.cart.map (·.cycles)).getD 0 then t.slotFault n .worn
  else if sl.finishing then t.finished n
  else (t.setSlot n { sl with eraseStep := .stamp }).afterOp n

/-- MARK_CYCLE_DONE. -/
def execMarkCycleDone (slot : Nat) (s : State) : Answer :=
  s.socketEvent slot fun s => s.report slot (fun o => decide (o = .markCycle)) fun _ s => s.markDone slot

/-! ## SUSPEND_DONE and RESUME_DONE (R103, R104, R106) -/

/-- A suspend completes: the slot rests HELD with its erase suspended, or finishes (R103, R106). -/
def State.suspendDone (s : State) (n : Nat) : State :=
  if (s.slot n).finishing then s.finished n else s.setSlot n (s.slot n).hold

/-- SUSPEND_DONE. -/
def execSuspendDone (slot : Nat) (s : State) : Answer :=
  s.socketEvent slot fun s => s.report slot (fun o => decide (o = .suspend)) fun _ s => s.suspendDone slot

/-- A resume completes: the erase is in hand again with its running time, and suspended again for a hold
accepted meanwhile (R86, R103, R104; log entry 62). Under the finishing mark the erase is seen through and the mark
stands (log entry 59). The released PRE_ERASE slot is offered to the queue here too: the list of what each step holds
puts JOB_MATCHING within RESUME_DONE. -/
def State.resumeDone (s : State) (n : Nat) : State :=
  let sl := s.slot n
  if sl.holdPending then s.setSlot n (sl.issue .suspend)
  else
    let t := s.setSlot n { sl with op := sl.suspended, suspended := none }
    if sl.state = .preErase then t.matchJobs else t

/-- RESUME_DONE. -/
def execResumeDone (slot : Nat) (s : State) : Answer :=
  s.socketEvent slot fun s => s.report slot (fun o => decide (o = .resume)) fun _ s => s.resumeDone slot

/-! ## CART_OP_TIMEOUT and REPORT_ANSWERING_NO_OPERATION (R85, R86) -/

/-- An operation's limit has passed: at identification the identity is unreadable or the page unread, and
elsewhere the slot faults TIMEOUT (R86). -/
def State.timeOut (s : State) (n : Nat) (op : CartOp) : State :=
  match (s.slot n).state, op with
  | .ident, .readIdentity => s.slotFault n .headerBad
  | .ident, _ => s.identifyAs n .dirty 0 0
  | _, _ => s.slotFault n .timeout

/-- The operation in hand has run for `ran` microseconds; it acts once its limit is reached (R86; log entry
18). -/
def State.runFor (s : State) (n ran : Nat) : State :=
  match (s.slot n).op with
  | none => s
  | some o =>
    if ran < o.op.limit then
      s.setSlot n { s.slot n with op := some { o with elapsed := max o.elapsed ran } }
    else s.timeOut n o.op

/-- CART_OP_TIMEOUT. -/
def execCartOpTimeout (slot ran : Nat) (s : State) : Answer := s.socketEvent slot fun s => s.runFor slot ran

/-- REPORT_ANSWERING_NO_OPERATION: PROTOCOL, but a report after a fault is discarded (R85, R86). -/
def execReportAnsweringNoOperation (slot : Nat) (s : State) : Answer :=
  s.socketEvent slot fun s => s.report slot (fun _ => false) fun _ s => s

/-! ## Slot requests (R103, R104, R110 to R112) -/

/-- A slot number of 1 to 8 (R103, R104, R110, R111). -/
def slotNumber (n : Nat) : Bool := decide (1 ≤ n ∧ n ≤ Config.slots)

def CartOp.isExtentErase (op : CartOp) : Bool :=
  match op with
  | .write (.eraseBlock _) => true
  | .write (.eraseGroup _) => true
  | _ => false

/-- A slot in an erase phase is held: an erase in hand is suspended, another operation completes first, a permit and
a resume too (R103; log entry 62). -/
def Slot.holdErase (sl : Slot) : Slot :=
  match sl.op with
  | some o =>
    if o.op.isExtentErase then { sl with suspended := some o, holdPending := true }.issue .suspend
    else { sl with holdPending := true }
  | none => sl.hold

/-- A slot in PROGRAMMING is held: an operation completes first, a waiting frame read is withdrawn, a
granted one completes and is discarded (R103). -/
def State.holdProgram (s : State) (n : Nat) : State :=
  let granted := s.readGranted n
  let t := s.loseRead n .awaited
  let sl := t.slot n
  if sl.op.isSome || granted then t.setSlot n { sl with holdPending := true, awaiting := granted }
  else t.setSlot n sl.hold

/-- The state and whether an erase is suspended once an accepted hold is made; none refuses (R103). -/
def State.holdSlot (s : State) (n : Nat) : Option State :=
  let sl := s.slot n
  if sl.holdPending then none
  else
    match sl.state with
    | .preErase => if sl.eraseKind = .full then none else some (s.setSlot n sl.holdErase)
    | .erasing => if sl.eraseKind = .full then none else some (s.setSlot n sl.holdErase)
    | .programming => some (s.holdProgram n)
    | .verifying =>
      some (s.setSlot n (if sl.op.isSome then { sl with holdPending := true } else sl.hold))
    | .waitImage => some (s.setSlot n sl.hold)
    | _ => none

/-- SLOT HOLD: the reply gives the remembered phase and whether an erase is suspended (R103). -/
def answerSlotHold (slot : Nat) (s : State) : Reply × State :=
  if !slotNumber slot then refuse s .range
  else
    match s.holdSlot slot with
    | none => refuse s .state
    | some t =>
      accept t
        (u8 (((s.slot slot).state.phase.map Phase.code).getD 0) ++ flagByte (t.slot slot).suspended.isSome)

/-- SLOT_HOLD. -/
def execSlotHold (tag slot : Nat) (s : State) : Answer :=
  .next (s.serve 0x41 tag (u8 slot) (answerSlotHold slot))

/-- A released erase phase: a suspended erase is resumed, else the phase goes on; a PRE_ERASE slot is
offered to the queue (R104). -/
def State.releaseErase (s : State) (n : Nat) : State :=
  let sl := s.slot n
  let t := if sl.suspended.isSome then s.setSlot n (sl.issue .resume) else s.goOn n
  if sl.state = .preErase then t.matchJobs else t

/-- A HELD slot returns to its remembered phase (R104). A frame part-way programmed is read again. -/
def State.releaseSlot (s : State) (n : Nat) (p : Phase) : State :=
  let sl := s.slot n
  let sl :=
    { sl with
      state := p.slotState, remembered := none, cursor := { sl.cursor with inBuffer := false } }
  let t := s.setSlot n sl
  match p with
  | .preErase => t.releaseErase n
  | .erasing => t.releaseErase n
  | .programming => t.goProgram n
  | .verifying =>
    match t.placementOf sl with
    | some q => t.setSlot n (sl.beginVerify q)
    | none => t
  | .waitImage =>
    match t.placementOf sl with
    | some q => t.beginBlock n q
    | none => t

/-- SLOT RELEASE (R104). -/
def answerSlotRelease (slot : Nat) (s : State) : Reply × State :=
  if !slotNumber slot then refuse s .range
  else
    match (s.slot slot).state, (s.slot slot).remembered with
    | .held, some p => accept (s.releaseSlot slot p) []
    | _, _ => refuse s .state

/-- SLOT_RELEASE. -/
def execSlotRelease (tag slot : Nat) (s : State) : Answer :=
  .next (s.serve 0x42 tag (u8 slot) (answerSlotRelease slot))

/-- The states in which SLOT CLEAR is accepted (R110). -/
def Slot.clearable (sl : Slot) : Bool :=
  match sl.state with
  | .fault => true
  | .idleBlank => true
  | .idleDirty => !sl.finishing
  | _ => false

/-- SLOT CLEAR (R110). -/
def answerSlotClear (slot : Nat) (s : State) : Reply × State :=
  if !slotNumber slot then refuse s .range
  else if (s.slot slot).clearable then accept (s.setSlot slot (s.slot slot).beginIdent) []
  else refuse s .state

/-- SLOT_CLEAR. -/
def execSlotClear (tag slot : Nat) (s : State) : Answer :=
  .next (s.serve 0x43 tag (u8 slot) (answerSlotClear slot))

/-- A fault record's fields, absent ones sent as 0 (R108, R111). -/
def FaultRecord.fields (r : FaultRecord) : List Byte :=
  let c := r.cursor.getD (0, 0, 0)
  u8 r.cause.code ++ u8 ((r.phase.map FaultPhase.code).getD 0) ++ u8 c.1 ++ u32 c.2.1 ++ u32 c.2.2 ++
    u32 (r.serial.getD 0) ++ u16 (r.plan.getD 0) ++ dateField r.date ++ timeField r.time

/-- SLOT FAULT GET: the record, or none (R111). -/
def answerSlotFaultGet (slot : Nat) (s : State) : Reply × State :=
  if !slotNumber slot then refuse s .range
  else
    match (s.slot slot).fault with
    | some r => accept s r.fields
    | none => accept s []

/-- SLOT_FAULT_GET. -/
def execSlotFaultGet (tag slot : Nat) (s : State) : Answer :=
  .next (s.serve 0x44 tag (u8 slot) (answerSlotFaultGet slot))

/-! ## SLOT STATUS (R112) -/

/-- The phase a status describes: the slot's own state, or the remembered phase of a HELD slot. -/
def Slot.phase (sl : Slot) : SlotState :=
  match sl.state, sl.remembered with
  | .held, some p => p.slotState
  | st, _ => st

/-- Erase operations done, of the set (R112). -/
def Slot.erasesDone (sl : Slot) : Nat :=
  match sl.eraseStep with
  | .erase i => i
  | _ => sl.eraseOps

/-- The erase fields: kind, operations done, operations in the set; 0 outside an erase phase (R112). -/
def Slot.eraseFields (sl : Slot) : List Byte :=
  match sl.phase with
  | .preErase => u8 sl.eraseKind.code ++ u16 sl.erasesDone ++ u16 sl.eraseOps
  | .erasing => u8 sl.eraseKind.code ++ u16 sl.erasesDone ++ u16 sl.eraseOps
  | _ => u8 0 ++ u16 0 ++ u16 0

/-- Program, verify and directory phases; WAIT_IMAGE waits within the program phase (R112). -/
def SlotState.programs (st : SlotState) : Bool :=
  match st with
  | .programming => true
  | .verifying => true
  | .waitImage => true
  | .directory => true
  | _ => false

/-- Placement index, image block, cartridge block and next frame; 0 outside those phases (R112). While a spare is in
hand the cartridge block is the spare, which R112 leaves open (log entry 53). -/
def State.programFields (s : State) (sl : Slot) : List Byte :=
  match sl.phase.programs, s.placementOf sl with
  | true, some p =>
    u8 (sl.cursor.placement + 1) ++ u32 sl.cursor.image ++ u32 (sl.target p) ++ u32 sl.cursor.frame
  | _, _ => u8 0 ++ u32 0 ++ u32 0 ++ u32 0

/-- In WAIT_IMAGE the title and image block waited on; 0 elsewhere (R112). -/
def State.waitFields (s : State) (sl : Slot) : List Byte :=
  match sl.state, s.placementOf sl with
  | .waitImage, some p => u16 p.title ++ u32 sl.cursor.image
  | _, _ => u16 0 ++ u32 0

/-- The cartridge's serial, class, cycle count, write tab and marker; 0 without one (R112). -/
def Slot.cartFields (sl : Slot) : List Byte :=
  match sl.cart with
  | some c => u32 c.serial ++ u8 c.cls.code ++ u32 c.cycles ++ flagByte c.tab ++ u8 c.marker.code
  | none => u32 0 ++ u8 0 ++ u32 0 ++ u8 0 ++ u8 0

/-- Reserve blocks left; without a job the whole reserve (R112; log entry 64). -/
def Slot.reserveLeft (sl : Slot) : Nat :=
  match sl.cart with
  | some c => c.cls.reserve - sl.sparesTaken
  | none => 0

/-- The bound plan, or in DONE the plan and item, or the dispatched indication (R112). -/
def Slot.jobFields (sl : Slot) : List Byte :=
  let d := sl.doneItem.getD (0, 0)
  u16 (sl.job.getD d.1) ++ u16 d.2 ++ flagByte sl.dispatched

/-- The status of one slot (R112). -/
def State.slotFields (s : State) (n : Nat) : List Byte :=
  let sl := s.slot n
  u8 sl.state.code ++ u8 ((sl.remembered.map Phase.code).getD 0) ++
    flagByte (decide (sl.state = .held) && sl.suspended.isSome) ++
    flagByte sl.finishing ++ sl.cartFields ++ sl.jobFields ++ sl.eraseFields ++ s.programFields sl ++
    u8 sl.sparesTaken ++ u8 sl.reserveLeft ++ s.waitFields sl

/-- SLOT STATUS: one slot, or all eight for 0 (R112). -/
def answerSlotStatus (slot : Nat) (s : State) : Reply × State :=
  if Config.slots < slot then refuse s .range
  else accept s (listField s.slotFields (if slot = 0 then slotNumbers else [slot]))

/-- SLOT_STATUS. -/
def execSlotStatus (tag slot : Nat) (s : State) : Answer :=
  .next (s.serve 0x40 tag (u8 slot) (answerSlotStatus slot))

end Sys2Proof.Machine
end

