-- ==== Sys2Proof/Machine/Startup.lean ====
section
/-!
DEFINITION. The starts: the RESTART request, the reset input, the loss and return of main power, and the
staged rebuild they share (R191 to R193).
-/

namespace Sys2Proof.Machine

/-! ## What every start ends (R191) -/

/-- A slot that has lost its working state; only the socket's cartridge stays (R113). -/
def Slot.lapse (sl : Slot) : Slot := { Slot.bare with present := sl.present }

/-- Every operation that takes time ends where it stands: cartridge operations, frame reads and writes, the
pass, the close, the roll and what follows it, the reader's read (R191; R60, R83, R113, R132, R154, R166,
R173). An open batch stays for stage 5. -/
def State.endWork (s : State) : State :=
  let s := s.setPlanner { s.planner with pass := none, rerun := false, due := false }
  let s := s.setStore { s.store with banks := List.replicate Config.banks Bank.idle }
  let s := s.setRack (s.rack.map Slot.lapse)
  let s := s.setMail { s.mail with close := none, heldClose := false, waitingClose := false }
  let s := s.setReturns { s.returns with identifying := false, kept := none }
  s.setCalendar { s.calendar with roll := none, within60 := false, follow := .nothing }

/-- Stage 1: the receiver, the queue, the event summary, the enables and the contexts are cleared and the
attention output is released. The outgoing pipe is not touched (R192). -/
def State.clearLink (s : State) : State :=
  s.setLink
    { s.link with
      frame := [], incoming := [], queue := [], events := Events.clear, patronCtx := none, titleCtx := none }

/-- The outgoing pipe is emptied (R191). -/
def State.emptyPipe (s : State) : State := s.setLink { s.link with pipe := [] }

/-! ## Stages 2 to 6 (R192) -/

/-- Stage 2 of a lost start: record memory is made empty and CLOCK_STOPPED raised (R192). The image flash
and the cartridges in the sockets are not record memory. -/
def State.emptyRecords (s : State) : State :=
  let s := s.setRecords Records.empty
  let s := s.setPlanner Planner.empty
  let s := s.setStore { Store.empty with flash := s.store.flash }
  let s := s.setMail Mail.empty
  let s := s.setReturns { Returns.empty with present := s.returns.present }
  let s := s.setCalendar Calendar.empty
  let s := s.setLink { s.link with settings := Settings.default }
  s.raise .clockStopped

/-- The plans bound to a slot. -/
def State.boundPlans (s : State) (slot : Nat) : List Nat :=
  (s.planner.plans.filter (fun e => decide (e.2.state = .inSlot slot))).map (·.1)

/-- Stage 3: every IN_SLOT plan returns to QUEUED, in descending slot number, each at the head of its group
(R60). -/
def State.rebuildPlans (s : State) : State :=
  (slotNumbers.reverse.flatMap s.boundPlans).foldl State.returnPlan s

/-- A FILLING image with its blocks given back (R83). -/
def Image.discard (e : Image) : Image := if e.resident then e else { e with blocks := [], filled := 0, sum := 0#32 }

/-- One discarded image is given new blocks, as many as it had (R83). -/
def State.refill (s : State) (e : Nat × Nat) : State :=
  s.onImage e.1 (fun m => if m.resident then m else { m with blocks := allocateBlocks s.heldBlocks e.2 })

/-- All FILLING images are discarded first, then re-created in Fetch Queue order (R83). -/
def State.recreateFilling (s : State) : State :=
  let counts := s.store.fetches.map (fun f => (f.title, s.imageBlocks f.title))
  let s := s.setStore { s.store with images := s.store.images.map (fun e => (e.1, e.2.discard)) }
  counts.foldl State.refill s

/-- QUEUED plans that place a title (R66). -/
def State.queuedPlacing (s : State) (t : Nat) : Nat :=
  s.planner.plans.countP (fun e =>
    decide (e.2.state = .queued) && e.2.placements.any (fun q => decide (q.title = t)))

/-- Each entry holds one pin for each QUEUED plan that places its title (R66). -/
def State.recountPins (s : State) : State :=
  s.setStore
    { s.store with images := s.store.images.map (fun e => (e.1, { e.2 with pins := s.queuedPlacing e.1 })) }

/-- Stage 4 (R83, R78). -/
def State.rebuildImages (s : State) : State :=
  let s := s.recreateFilling
  let s := s.setStore
    { s.store with
      fetches := s.store.fetches.map (fun f => { f with state := .waiting, next := 0 }),
      banks := List.replicate Config.banks Bank.idle }
  let s := s.recountPins
  if s.store.fetches.isEmpty then s else s.raise .fetchWanted

/-- Stage 5: an open batch that holds an entry is stored (R132). -/
def State.rebuildMail (s : State) : State :=
  match s.mail.openBatch with
  | some m => if m.entries.isEmpty then s.setMail { s.mail with openBatch := none } else s.storeBatch m
  | none => s

/-- The start test will begin a roll at the end of this start (R167). -/
def State.rollDue (s : State) : Bool := s.calendar.clock.running && s.startTest

/-- Stage 6: a pending result that no roll will complete is completed now (R154). -/
def State.rebuildReturns (s : State) : State := if s.rollDue then s else s.completePending

/-! ## Stage 7 (R192) -/

/-- A slot with a cartridge begins identification; one without is EMPTY (R113). -/
def Slot.startUp (sl : Slot) : Slot :=
  if sl.present then { Slot.bare.beginIdent with present := true } else Slot.bare

/-- The reader after a start: PENDING_ROLL behind a pending result, and reading a cartridge in its socket
(R154). While a cartridge is being read behind a pending result neither the cartridge-removed nor the waiting
indication is given, which R154 leaves open until the read ends (log entry 49). -/
def Returns.startUp (r : Returns) : Returns :=
  { r with
    reader := if r.pending.isSome then .pendingRoll else if r.present then .reading else .empty,
    identifying := r.present, removed := r.pending.isSome && !r.present, kept := none }

/-- The rebuild ends: requests are served, the start test is made, the planning trigger is taken, and the
slots and the reader begin reading what stands in them (R192). -/
def State.beginService (s : State) : State :=
  let s := s.setRun .running
  let s := if s.rollDue then s.beginRoll else s
  let s := s.noteTrigger.takeTrigger
  let s := s.setRack (s.rack.map Slot.startUp)
  s.setReturns s.returns.startUp

/-- Stages 3 to 7, from record memory as it stands (R192). -/
def State.rebuild (s : State) : State :=
  s.rebuildPlans.rebuildImages.rebuildMail.rebuildReturns.beginService

/-! ## RESTART (R191) -/

/-- Every request before a position has its reply formed. -/
def formedBefore (q : List Request) (i : Nat) : Bool :=
  (q.take i).all (fun r =>
    match r.stage with
    | .formed _ => true
    | _ => false)

/-- Replies placed one after another from the oldest on (R180). -/
def State.placeReplies (s : State) (n : Nat) : State :=
  match n with
  | 0 => s
  | n + 1 => s.placeReply.placeReplies n

/-- RESTART taken: its OK reply follows the earlier replies into the pipe, the requests behind it are
dropped, and the restart runs (R191). While an earlier reply is not formed it waits (R180; log entry 19). -/
def State.restart (s : State) (tag : Nat) : State :=
  match s.takeRequest 0x03 tag [] with
  | (s, none) => s
  | (s, some i) =>
    if formedBefore s.link.queue i then
      ((s.formReply i { status := .ok, fields := [] }).placeReplies (i + 1)).endWork.clearLink.rebuild
    else s

/-- RESTART. -/
def execRestart (tag : Nat) (s : State) : Answer := .next (s.restart tag)

/-! ## The reset input (R191) -/

/-- The beginning of a restart by the reset input, where the part stays while it is held (R191). -/
def State.assertReset (s : State) : State := (s.endWork.clearLink.emptyPipe).setRun .resetHeld

/-- RESET_ASSERT. An input already asserted, or a part without power, is not changed (log entry 4). -/
def execResetAssert (s : State) : Answer := if s.run = .running then .next s.assertReset else .next s

/-- RESET_RELEASE: the rebuild begins; requests received meanwhile stand in the queue (R191, R192). -/
def execResetRelease (s : State) : Answer := if s.run = .resetHeld then .next s.rebuild else .next s

/-! ## Main power (R186, R191 to R193) -/

/-- Main power is lost: record memory and the clock stay with the backup supply (R1, R155). -/
def State.losePower (s : State) : State := (s.endWork.clearLink.emptyPipe).setRun .off

/-- POWER_LOSS. -/
def execPowerLoss (s : State) : Answer := .next s.losePower

/-- The backup indication is taken (R186). -/
def State.takeBackup (s : State) (held good : Bool) : State :=
  let s := s.setLink { s.link with backup := { held := held, good := good, first := true } }
  if good then s else s.raise .backupLow

/-- A power-on start. A loss of power during a start is followed by one, so it is made from any state (R191;
log entry 20). A reset input still asserted as power returns does not delay it (log entry 50). -/
def State.powerOn (s : State) (held good : Bool) : State :=
  let s := s.losePower.takeBackup held good
  (if held then s else s.emptyRecords).rebuild

/-- POWER_ON_START. -/
def execPowerOnStart (held good : Bool) (s : State) : Answer := .next (s.powerOn held good)

end Sys2Proof.Machine
end

