-- ==== Sys2Proof/Machine/Dispatch.lean ====
section
/-!
DEFINITION. One arm per command: the command's meaning, its effect on everything but the queue.
-/

namespace Sys2Proof.Machine

def exec (i : Instr) (s : State) : Host.Outcome State Fault Refusal :=
  match i with
  | .frameReceive bytes => Sys2Proof.Machine.execFrameReceive bytes s
  | .frameDiscard => Sys2Proof.Machine.execFrameDiscard s
  | .replyPlace => Sys2Proof.Machine.execReplyPlace s
  | .unknownRequest tag code body => Sys2Proof.Machine.execUnknownRequest tag code body s
  | .identify tag => Sys2Proof.Machine.execIdentify tag s
  | .status tag => Sys2Proof.Machine.execStatus tag s
  | .restart tag => Sys2Proof.Machine.execRestart tag s
  | .eventsRead tag => Sys2Proof.Machine.execEventsRead tag s
  | .eventsReadReply => Sys2Proof.Machine.execEventsReadReply s
  | .eventsEnable tag enables => Sys2Proof.Machine.execEventsEnable tag enables s
  | .contextSet tag patron title => Sys2Proof.Machine.execContextSet tag patron title s
  | .settingsPut tag cartDays setDays floor window hour minute key => Sys2Proof.Machine.execSettingsPut tag cartDays setDays floor window hour minute key s
  | .settingsGet tag => Sys2Proof.Machine.execSettingsGet tag s
  | .patronPutCreate tag number media playerClass cartLimit setLimit key => Sys2Proof.Machine.execPatronPutCreate tag number media playerClass cartLimit setLimit key s
  | .patronPutUpdate tag patron number media playerClass cartLimit setLimit key => Sys2Proof.Machine.execPatronPutUpdate tag patron number media playerClass cartLimit setLimit key s
  | .patronGet tag patron => Sys2Proof.Machine.execPatronGet tag patron s
  | .patronPause tag patron year month day => Sys2Proof.Machine.execPatronPause tag patron year month day s
  | .patronClose tag patron => Sys2Proof.Machine.execPatronClose tag patron s
  | .titlePutCreate tag catalogue format pages check volumes => Sys2Proof.Machine.execTitlePutCreate tag catalogue format pages check volumes s
  | .titlePutUpdate tag title catalogue format pages check volumes => Sys2Proof.Machine.execTitlePutUpdate tag title catalogue format pages check volumes s
  | .titleGet tag title => Sys2Proof.Machine.execTitleGet tag title s
  | .titleWithdraw tag title flag => Sys2Proof.Machine.execTitleWithdraw tag title flag s
  | .copiesAdjustAdd tag title action count => Sys2Proof.Machine.execCopiesAdjustAdd tag title action count s
  | .copiesAdjustRemove tag title count => Sys2Proof.Machine.execCopiesAdjustRemove tag title count s
  | .copiesAdjustFound tag title copy => Sys2Proof.Machine.execCopiesAdjustFound tag title copy s
  | .loanGet tag loan => Sys2Proof.Machine.execLoanGet tag loan s
  | .loanList tag patron => Sys2Proof.Machine.execLoanList tag patron s
  | .writtenOffList tag => Sys2Proof.Machine.execWrittenOffList tag s
  | .orderAdd tag patron title rush reread position => Sys2Proof.Machine.execOrderAdd tag patron title rush reread position s
  | .orderDrop tag patron title => Sys2Proof.Machine.execOrderDrop tag patron title s
  | .orderMove tag patron fromPos toPos => Sys2Proof.Machine.execOrderMove tag patron fromPos toPos s
  | .orderList tag patron => Sys2Proof.Machine.execOrderList tag patron s
  | .holdList tag title => Sys2Proof.Machine.execHoldList tag title s
  | .planNow tag => Sys2Proof.Machine.execPlanNow tag s
  | .passPatronStep => Sys2Proof.Machine.execPassPatronStep s
  | .planGet tag plan => Sys2Proof.Machine.execPlanGet tag plan s
  | .planCancel tag plan => Sys2Proof.Machine.execPlanCancel tag plan s
  | .queueList tag => Sys2Proof.Machine.execQueueList tag s
  | .fetchNext tag => Sys2Proof.Machine.execFetchNext tag s
  | .imageData tag fetch frame data => Sys2Proof.Machine.execImageData tag fetch frame data s
  | .fetchAbandon tag fetch => Sys2Proof.Machine.execFetchAbandon tag fetch s
  | .preload tag title => Sys2Proof.Machine.execPreload tag title s
  | .imageDrop tag title => Sys2Proof.Machine.execImageDrop tag title s
  | .imageList tag => Sys2Proof.Machine.execImageList tag s
  | .fetchList tag => Sys2Proof.Machine.execFetchList tag s
  | .fillWriteComplete bank => Sys2Proof.Machine.execFillWriteComplete bank s
  | .frameReadComplete bank => Sys2Proof.Machine.execFrameReadComplete bank s
  | .cartridgeInsert slot => Sys2Proof.Machine.execCartridgeInsert slot s
  | .cartridgeRemove slot => Sys2Proof.Machine.execCartridgeRemove slot s
  | .identityReadDone slot ok area => Sys2Proof.Machine.execIdentityReadDone slot ok area s
  | .pageReadDone slot ok page => Sys2Proof.Machine.execPageReadDone slot ok page s
  | .permitReply slot granted => Sys2Proof.Machine.execPermitReply slot granted s
  | .pageProgramDone slot ok => Sys2Proof.Machine.execPageProgramDone slot ok s
  | .eraseDone slot ok => Sys2Proof.Machine.execEraseDone slot ok s
  | .markCycleDone slot => Sys2Proof.Machine.execMarkCycleDone slot s
  | .suspendDone slot => Sys2Proof.Machine.execSuspendDone slot s
  | .resumeDone slot => Sys2Proof.Machine.execResumeDone slot s
  | .cartOpTimeout slot ran => Sys2Proof.Machine.execCartOpTimeout slot ran s
  | .slotStatus tag slot => Sys2Proof.Machine.execSlotStatus tag slot s
  | .slotHold tag slot => Sys2Proof.Machine.execSlotHold tag slot s
  | .slotRelease tag slot => Sys2Proof.Machine.execSlotRelease tag slot s
  | .slotClear tag slot => Sys2Proof.Machine.execSlotClear tag slot s
  | .slotFaultGet tag slot => Sys2Proof.Machine.execSlotFaultGet tag slot s
  | .shelfPulled tag item => Sys2Proof.Machine.execShelfPulled tag item s
  | .mailLabel tag item => Sys2Proof.Machine.execMailLabel tag item s
  | .trayList tag => Sys2Proof.Machine.execTrayList tag s
  | .manifestGet tag batch => Sys2Proof.Machine.execManifestGet tag batch s
  | .alarmPut tag entry weekdays hour minute => Sys2Proof.Machine.execAlarmPut tag entry weekdays hour minute s
  | .alarmGet tag => Sys2Proof.Machine.execAlarmGet tag s
  | .clockTick => Sys2Proof.Machine.execClockTick s
  | .dispatchCartridgeItem => Sys2Proof.Machine.execDispatchCartridgeItem s
  | .dispatchSetItem => Sys2Proof.Machine.execDispatchSetItem s
  | .readerInsert => Sys2Proof.Machine.execReaderInsert s
  | .readerRemove => Sys2Proof.Machine.execReaderRemove s
  | .readerIdentityDone ok area => Sys2Proof.Machine.execReaderIdentityDone ok area s
  | .readerReadTimeout ran => Sys2Proof.Machine.execReaderReadTimeout ran s
  | .readerGet tag => Sys2Proof.Machine.execReaderGet tag s
  | .returnVolumeLoan tag loan volume => Sys2Proof.Machine.execReturnVolumeLoan tag loan volume s
  | .returnVolumeLate tag title copy volume => Sys2Proof.Machine.execReturnVolumeLate tag title copy volume s
  | .binList tag bin => Sys2Proof.Machine.execBinList tag bin s
  | .binTake tag bin count => Sys2Proof.Machine.execBinTake tag bin count s
  | .clockGet tag => Sys2Proof.Machine.execClockGet tag s
  | .clockStop tag => Sys2Proof.Machine.execClockStop tag s
  | .clockSet tag year month day hour minute second => Sys2Proof.Machine.execClockSet tag year month day hour minute second s
  | .clockStart tag => Sys2Proof.Machine.execClockStart tag s
  | .closedDayPutUsed tag entry month day weekday => Sys2Proof.Machine.execClosedDayPutUsed tag entry month day weekday s
  | .closedDayPutClear tag entry => Sys2Proof.Machine.execClosedDayPutClear tag entry s
  | .closedDayGet tag => Sys2Proof.Machine.execClosedDayGet tag s
  | .remindersRead tag => Sys2Proof.Machine.execRemindersRead tag s
  | .rollLoanStep => Sys2Proof.Machine.execRollLoanStep s
  | .rollPatronStep => Sys2Proof.Machine.execRollPatronStep s
  | .rollDeferralClear => Sys2Proof.Machine.execRollDeferralClear s
  | .rollFinish => Sys2Proof.Machine.execRollFinish s
  | .rollEndPlanningTrigger => Sys2Proof.Machine.execRollEndPlanningTrigger s
  | .heldCloseRelease => Sys2Proof.Machine.execHeldCloseRelease s
  | .pendingResultComplete => Sys2Proof.Machine.execPendingResultComplete s
  | .powerOnStart held good => Sys2Proof.Machine.execPowerOnStart held good s
  | .powerLoss => Sys2Proof.Machine.execPowerLoss s
  | .resetAssert => Sys2Proof.Machine.execResetAssert s
  | .resetRelease => Sys2Proof.Machine.execResetRelease s
  | .reportAnsweringNoOperation slot => Sys2Proof.Machine.execReportAnsweringNoOperation slot s

end Sys2Proof.Machine
end

