-- ==== Sys2Proof/WellFormed.lean ====
section
/-!
DEFINITION. Which commands can be sent: a request's fields fit the widths of chapter 10, a report names a
socket or a bank the part has and carries as many bytes as were read. A command outside these is no event
of the part.
-/

namespace Sys2Proof

/-- A 1-byte field (10.2). -/
def byteField (n : Nat) : Bool := decide (n < 256)

/-- A 2-byte field (10.2). -/
def halfField (n : Nat) : Bool := decide (n < 65536)

/-- A 4-byte field (10.2). -/
def wordField (n : Nat) : Bool := decide (n < 4294967296)

/-- A rack socket, 1 to 8 (R184). -/
def socket (n : Nat) : Bool := decide (1 ≤ n ∧ n ≤ Config.slots)

/-- Longest body: LEN counts CODE and TAG beside it (R176). -/
def bodyMax : Nat := Config.lenMax - 2

/-- A good read carries the whole of what was read (R195). -/
def reported (n : Nat) (ok : Bool) (bytes : List Byte) : Bool := !ok || decide (bytes.length = n)

/-- The command can be sent. -/
def Instr.wellFormed (i : Instr) : Bool :=
  match i with
  | .frameReceive _ => true
  | .frameDiscard => true
  | .replyPlace => true
  | .unknownRequest tag code body => byteField tag && byteField code && decide (body.length ≤ bodyMax)
  | .identify tag => byteField tag
  | .status tag => byteField tag
  | .restart tag => byteField tag
  | .eventsRead tag => byteField tag
  | .eventsReadReply => true
  | .eventsEnable tag enables => byteField tag && halfField enables
  | .contextSet tag patron title => byteField tag && halfField patron && halfField title
  | .settingsPut tag cartDays setDays floor window hour minute key =>
    byteField tag && byteField cartDays && byteField setDays && halfField floor && byteField window &&
      byteField hour && byteField minute && halfField key
  | .settingsGet tag => byteField tag
  | .patronPutCreate tag number media playerClass cartLimit setLimit key =>
    byteField tag && wordField number && byteField media && byteField playerClass &&
      byteField cartLimit && byteField setLimit && halfField key
  | .patronPutUpdate tag patron number media playerClass cartLimit setLimit key =>
    byteField tag && halfField patron && wordField number && byteField media && byteField playerClass &&
      byteField cartLimit && byteField setLimit && halfField key
  | .patronGet tag patron => byteField tag && halfField patron
  | .patronPause tag patron year month day =>
    byteField tag && halfField patron && halfField year && byteField month && byteField day
  | .patronClose tag patron => byteField tag && halfField patron
  | .titlePutCreate tag catalogue format pages check volumes =>
    byteField tag && wordField catalogue && byteField format && wordField pages && wordField check &&
      byteField volumes
  | .titlePutUpdate tag title catalogue format pages check volumes =>
    byteField tag && halfField title && wordField catalogue && byteField format && wordField pages &&
      wordField check && byteField volumes
  | .titleGet tag title => byteField tag && halfField title
  | .titleWithdraw tag title flag => byteField tag && halfField title && byteField flag
  | .copiesAdjustAdd tag title action count =>
    byteField tag && halfField title && byteField action && byteField count &&
      decide (action ≠ 2 ∧ action ≠ 3)
  | .copiesAdjustRemove tag title count => byteField tag && halfField title && byteField count
  | .copiesAdjustFound tag title copy => byteField tag && halfField title && byteField copy
  | .loanGet tag loan => byteField tag && halfField loan
  | .loanList tag patron => byteField tag && halfField patron
  | .writtenOffList tag => byteField tag
  | .orderAdd tag patron title rush reread position =>
    byteField tag && halfField patron && halfField title && byteField rush && byteField reread &&
      byteField position
  | .orderDrop tag patron title => byteField tag && halfField patron && halfField title
  | .orderMove tag patron fromPos toPos =>
    byteField tag && halfField patron && byteField fromPos && byteField toPos
  | .orderList tag patron => byteField tag && halfField patron
  | .holdList tag title => byteField tag && halfField title
  | .planNow tag => byteField tag
  | .passPatronStep => true
  | .planGet tag plan => byteField tag && halfField plan
  | .planCancel tag plan => byteField tag && halfField plan
  | .queueList tag => byteField tag
  | .fetchNext tag => byteField tag
  | .imageData tag fetch frame data =>
    byteField tag && byteField fetch && wordField frame && decide (data.length ≤ bodyMax - 5)
  | .fetchAbandon tag fetch => byteField tag && byteField fetch
  | .preload tag title => byteField tag && halfField title
  | .imageDrop tag title => byteField tag && halfField title
  | .imageList tag => byteField tag
  | .fetchList tag => byteField tag
  | .fillWriteComplete bank => decide (bank < Config.banks)
  | .frameReadComplete bank => decide (bank < Config.banks)
  | .cartridgeInsert slot => socket slot
  | .cartridgeRemove slot => socket slot
  | .identityReadDone slot ok area => socket slot && reported 12 ok area
  | .pageReadDone slot ok page => socket slot && reported Config.pageBytes ok page
  | .permitReply slot _ => socket slot
  | .pageProgramDone slot _ => socket slot
  | .eraseDone slot _ => socket slot
  | .markCycleDone slot => socket slot
  | .suspendDone slot => socket slot
  | .resumeDone slot => socket slot
  | .cartOpTimeout slot _ => socket slot
  | .slotStatus tag slot => byteField tag && byteField slot
  | .slotHold tag slot => byteField tag && byteField slot
  | .slotRelease tag slot => byteField tag && byteField slot
  | .slotClear tag slot => byteField tag && byteField slot
  | .slotFaultGet tag slot => byteField tag && byteField slot
  | .shelfPulled tag item => byteField tag && halfField item
  | .mailLabel tag item => byteField tag && halfField item
  | .trayList tag => byteField tag
  | .manifestGet tag batch => byteField tag && halfField batch
  | .alarmPut tag entry weekdays hour minute =>
    byteField tag && byteField entry && byteField weekdays && byteField hour && byteField minute
  | .alarmGet tag => byteField tag
  | .clockTick => true
  | .dispatchCartridgeItem => true
  | .dispatchSetItem => true
  | .readerInsert => true
  | .readerRemove => true
  | .readerIdentityDone ok area => reported 12 ok area
  | .readerReadTimeout _ => true
  | .readerGet tag => byteField tag
  | .returnVolumeLoan tag loan volume => byteField tag && halfField loan && byteField volume
  | .returnVolumeLate tag title copy volume =>
    byteField tag && halfField title && byteField copy && byteField volume
  | .binList tag bin => byteField tag && byteField bin
  | .binTake tag bin count => byteField tag && byteField bin && byteField count
  | .clockGet tag => byteField tag
  | .clockStop tag => byteField tag
  | .clockSet tag year month day hour minute second =>
    byteField tag && halfField year && byteField month && byteField day && byteField hour &&
      byteField minute && byteField second
  | .clockStart tag => byteField tag
  | .closedDayPutUsed tag entry month day weekday =>
    byteField tag && byteField entry && byteField month && byteField day && byteField weekday
  | .closedDayPutClear tag entry => byteField tag && byteField entry
  | .closedDayGet tag => byteField tag
  | .remindersRead tag => byteField tag
  | .rollLoanStep => true
  | .rollPatronStep => true
  | .rollDeferralClear => true
  | .rollFinish => true
  | .rollEndPlanningTrigger => true
  | .heldCloseRelease => true
  | .pendingResultComplete => true
  | .powerOnStart _ _ => true
  | .powerLoss => true
  | .resetAssert => true
  | .resetRelease => true
  | .reportAnsweringNoOperation slot => socket slot

end Sys2Proof
end

