-- ==== Sys2Proof/Safety.lean ====
section
/-!
DEFINITION. The terms in which claims about the part are stated: the frame that carries a request, when a
request is served, what a planning trigger leaves, and the conditions a safe run keeps.
-/

namespace Sys2Proof

/-- The request that carries a command: its CODE, TAG and BODY (10.3). A command that is not a request has
none. -/
def Instr.request (i : Instr) : Option (Nat × Nat × List Byte) :=
  open Machine in
  match i with
  | .frameReceive _ => none
  | .frameDiscard => none
  | .replyPlace => none
  | .unknownRequest tag code body => if judge code body = .served then none else some (code, tag, body)
  | .identify tag => some (0x01, tag, [])
  | .status tag => some (0x02, tag, [])
  | .restart tag => some (0x03, tag, [])
  | .eventsRead tag => some (0x04, tag, [])
  | .eventsReadReply => none
  | .eventsEnable tag enables => some (0x05, tag, u16 enables)
  | .contextSet tag patron title => some (0x06, tag, u16 patron ++ u16 title)
  | .settingsPut tag cartDays setDays floor window hour minute key =>
    some (0x07, tag,
      u8 cartDays ++ u8 setDays ++ u16 floor ++ u8 window ++ u8 hour ++ u8 minute ++ u16 key)
  | .settingsGet tag => some (0x08, tag, [])
  | .patronPutCreate tag number media playerClass cartLimit setLimit key =>
    some (0x10, tag,
      u32 number ++ u8 media ++ u8 playerClass ++ u8 cartLimit ++ u8 setLimit ++ u16 key)
  | .patronPutUpdate tag patron number media playerClass cartLimit setLimit key =>
    some (0x10, tag,
      u16 patron ++ u32 number ++ u8 media ++ u8 playerClass ++ u8 cartLimit ++ u8 setLimit ++ u16 key)
  | .patronGet tag patron => some (0x11, tag, u16 patron)
  | .patronPause tag patron year month day => some (0x12, tag, u16 patron ++ u16 year ++ u8 month ++ u8 day)
  | .patronClose tag patron => some (0x13, tag, u16 patron)
  | .titlePutCreate tag catalogue format pages check volumes =>
    some (0x14, tag,
      u32 catalogue ++ u8 format ++ u32 pages ++ u32 check ++ u8 volumes)
  | .titlePutUpdate tag title catalogue format pages check volumes =>
    some (0x14, tag,
      u16 title ++ u32 catalogue ++ u8 format ++ u32 pages ++ u32 check ++ u8 volumes)
  | .titleGet tag title => some (0x15, tag, u16 title)
  | .titleWithdraw tag title flag => some (0x16, tag, u16 title ++ u8 flag)
  | .copiesAdjustAdd tag title action count => some (0x17, tag, u16 title ++ u8 action ++ u8 count)
  | .copiesAdjustRemove tag title count => some (0x17, tag, u16 title ++ u8 2 ++ u8 count)
  | .copiesAdjustFound tag title copy => some (0x17, tag, u16 title ++ u8 3 ++ u8 copy)
  | .loanGet tag loan => some (0x18, tag, u16 loan)
  | .loanList tag patron => some (0x19, tag, u16 patron)
  | .writtenOffList tag => some (0x1A, tag, [])
  | .orderAdd tag patron title rush reread position =>
    some (0x20, tag,
      u16 patron ++ u16 title ++ u8 rush ++ u8 reread ++ u8 position)
  | .orderDrop tag patron title => some (0x21, tag, u16 patron ++ u16 title)
  | .orderMove tag patron fromPos toPos => some (0x22, tag, u16 patron ++ u8 fromPos ++ u8 toPos)
  | .orderList tag patron => some (0x23, tag, u16 patron)
  | .holdList tag title => some (0x24, tag, u16 title)
  | .planNow tag => some (0x28, tag, [])
  | .passPatronStep => none
  | .planGet tag plan => some (0x29, tag, u16 plan)
  | .planCancel tag plan => some (0x2A, tag, u16 plan)
  | .queueList tag => some (0x2B, tag, [])
  | .fetchNext tag => some (0x30, tag, [])
  | .imageData tag fetch frame data => some (0x31, tag, u8 fetch ++ u32 frame ++ data)
  | .fetchAbandon tag fetch => some (0x32, tag, u8 fetch)
  | .preload tag title => some (0x33, tag, u16 title)
  | .imageDrop tag title => some (0x34, tag, u16 title)
  | .imageList tag => some (0x35, tag, [])
  | .fetchList tag => some (0x36, tag, [])
  | .fillWriteComplete _ => none
  | .frameReadComplete _ => none
  | .cartridgeInsert _ => none
  | .cartridgeRemove _ => none
  | .identityReadDone _ _ _ => none
  | .pageReadDone _ _ _ => none
  | .permitReply _ _ => none
  | .pageProgramDone _ _ => none
  | .eraseDone _ _ => none
  | .markCycleDone _ => none
  | .suspendDone _ => none
  | .resumeDone _ => none
  | .cartOpTimeout _ _ => none
  | .slotStatus tag slot => some (0x40, tag, u8 slot)
  | .slotHold tag slot => some (0x41, tag, u8 slot)
  | .slotRelease tag slot => some (0x42, tag, u8 slot)
  | .slotClear tag slot => some (0x43, tag, u8 slot)
  | .slotFaultGet tag slot => some (0x44, tag, u8 slot)
  | .shelfPulled tag item => some (0x50, tag, u16 item)
  | .mailLabel tag item => some (0x51, tag, u16 item)
  | .trayList tag => some (0x52, tag, [])
  | .manifestGet tag batch => some (0x53, tag, u16 batch)
  | .alarmPut tag entry weekdays hour minute =>
    some (0x54, tag,
      u8 entry ++ u8 weekdays ++ u8 hour ++ u8 minute)
  | .alarmGet tag => some (0x55, tag, [])
  | .clockTick => none
  | .dispatchCartridgeItem => none
  | .dispatchSetItem => none
  | .readerInsert => none
  | .readerRemove => none
  | .readerIdentityDone _ _ => none
  | .readerReadTimeout _ => none
  | .readerGet tag => some (0x58, tag, [])
  | .returnVolumeLoan tag loan volume => some (0x59, tag, u16 loan ++ u8 volume)
  | .returnVolumeLate tag title copy volume => some (0x59, tag, u16 title ++ u8 copy ++ u8 volume)
  | .binList tag bin => some (0x5A, tag, u8 bin)
  | .binTake tag bin count => some (0x5B, tag, u8 bin ++ u8 count)
  | .clockGet tag => some (0x60, tag, [])
  | .clockStop tag => some (0x61, tag, [])
  | .clockSet tag year month day hour minute second =>
    some (0x62, tag,
      u16 year ++ u8 month ++ u8 day ++ u8 hour ++ u8 minute ++ u8 second)
  | .clockStart tag => some (0x63, tag, [])
  | .closedDayPutUsed tag entry month day weekday =>
    some (0x64, tag,
      u8 entry ++ u8 month ++ u8 day ++ u8 weekday)
  | .closedDayPutClear tag entry => some (0x64, tag, u8 entry)
  | .closedDayGet tag => some (0x65, tag, [])
  | .remindersRead tag => some (0x66, tag, [])
  | .rollLoanStep => none
  | .rollPatronStep => none
  | .rollDeferralClear => none
  | .rollFinish => none
  | .rollEndPlanningTrigger => none
  | .heldCloseRelease => none
  | .pendingResultComplete => none
  | .powerOnStart _ _ => none
  | .powerLoss => none
  | .resetAssert => none
  | .resetRelease => none
  | .reportAnsweringNoOperation _ => none

end Sys2Proof

namespace Sys2Proof.Machine

/-- The Link Port serves the command now: the part runs, no EVENTS READ is being served, and the oldest
request not yet served, at a place of the queue, is the one that carries the command (R179). -/
def State.serves (s : State) (i : Nat) (c : Instr) : Prop :=
  s.run = .running ∧ s.link.events.reading = false ∧ oldestWaiting s.link.queue = some i ∧
    ∃ code tag body, c.request = some (code, tag, body) ∧
      s.link.queue[i]? = some { code := code, tag := tag, body := body, stage := .waiting }

/-- No planning trigger is left untaken: so it is between commands (R49). -/
def State.quiet (s : State) : Prop := s.planner.due = false

/-- The reply of the request at a place is formed OK with these fields, and nothing else is changed. -/
def State.replied (s : State) (i : Nat) (fields : List Byte) : State :=
  s.formReply i { status := .ok, fields := fields }

/-- The request at a place has its reply formed OK with these fields. -/
def State.answered (s : State) (i : Nat) (fields : List Byte) : Prop :=
  (s.link.queue[i]?).map (·.stage) = some (.formed (u8 0 ++ fields))

/-- A planning trigger is met and taken, in one event (R49). -/
def State.triggered (s : State) : State := s.noteTrigger.takeTrigger

/-- The attention output is asserted exactly while an enabled flag is set in either half (R190). -/
def State.attentionRight (s : State) : Prop :=
  s.link.events.attention = true ↔
    ∃ f : Flag, (s.link.events.main.getLsbD f.bit || s.link.events.pending.getLsbD f.bit) = true ∧
      s.link.events.enables.getLsbD f.bit = true

/-- The settings stand in their ranges (R183). -/
def Settings.inRange (x : Settings) : Prop :=
  7 ≤ x.cartDays ∧ x.cartDays ≤ 120 ∧ 7 ≤ x.setDays ∧ x.setDays ≤ 120 ∧ x.floor ≤ 1000 ∧
    4 ≤ x.window ∧ x.window ≤ 24 ∧ x.rollHour ≤ 23 ∧ x.rollMinute ≤ 59

/-- The clock holds a date and a time of the calendar, and does not run at its last second (R155). -/
def Clock.right (c : Clock) : Prop :=
  c.day ≤ Config.lastDay ∧ c.time.valid = true ∧ (c.running = true → c.atEnd = false)

/-- Eight slots, four banks, four alarms, twenty-four closed-day entries, and fifteen copy places of every
paper title (R184, R78, R121, R162, R18). -/
def State.shaped (s : State) : Prop :=
  s.rack.length = 8 ∧ s.store.banks.length = 4 ∧ s.mail.alarms.length = 4 ∧
    s.calendar.closedDays.length = 24 ∧
    ∀ e ∈ s.records.titles, e.2.format = .pbraille → e.2.copies.length = Config.copyMax

/-- Every table's indexes rise, so equal tables are equal data. -/
def State.ordered (s : State) : Prop :=
  s.records.patrons.rising = true ∧ s.records.titles.rising = true ∧ s.records.loans.rising = true ∧
    s.planner.plans.rising = true ∧ s.store.images.rising = true

/-- The slot has recorded no more spares than it has taken, and taken no more than its cartridge's reserve; a
slot that reads an identity area has taken none; and only a block or group erase is ever suspended (R84, R85,
R89, R98). -/
def Slot.sparesRight (sl : Slot) : Prop :=
  sl.spares.length ≤ sl.sparesTaken ∧ (∀ c, sl.cart = some c → sl.sparesTaken ≤ c.cls.reserve) ∧
    (∀ o, sl.op = some o → o.op = .readIdentity → sl.sparesTaken = 0) ∧
    ∀ o, sl.suspended = some o → o.op.isExtentErase = true

/-- Read histories, Order Lists, Hold Queues, the Written-off List, the Reminder List, manifests, Return Bins,
fetches, set items and spare maps stand within the sizes the manual gives them, a history names no catalogue number
twice, and a slot suspends erases only
(R5, R24, R34, R22, R174, R129, R144, R69, R114, R84, R85). -/
def State.bounded (s : State) : Prop :=
  (∀ e ∈ s.records.patrons, e.2.history.length ≤ Config.historyMax ∧ e.2.history.Nodup ∧
    e.2.orders.length ≤ Config.orderMax) ∧
    (∀ e ∈ s.records.titles, e.2.holds.length ≤ Config.holdMax) ∧
    s.records.lost.length ≤ Config.writtenOffMax ∧ s.calendar.reminders.length ≤ Config.reminderMax ∧
    s.mail.manifests.length ≤ Config.manifestMax ∧ s.returns.reuse.length ≤ Config.binMax ∧
    s.returns.inspect.length ≤ Config.binMax ∧ s.store.fetches.length ≤ Config.fetchMax ∧
    s.setItems ≤ Config.trayRoom ∧ ∀ sl ∈ s.rack, sl.sparesRight

/-- Records stand at the indexes the tables have, and no patron number and no catalogue number is held
twice (R6, R14, 00_scope.md, Identifiers). -/
def State.numbered (s : State) : Prop :=
  (∀ e ∈ s.records.patrons, 1 ≤ e.1 ∧ e.1 ≤ Config.patronMax) ∧
    (∀ e ∈ s.records.titles, 1 ≤ e.1 ∧ e.1 ≤ Config.titleMax) ∧
    (∀ e ∈ s.records.loans, 1 ≤ e.1 ∧ e.1 ≤ Config.loanMax) ∧
    (s.records.patrons.map (fun e => e.2.number)).Nodup ∧
    (s.records.titles.map (fun e => e.2.catalogue)).Nodup

/-- An EVENTS READ is being served exactly while one request of the queue stands so, and never two (R188). -/
def State.oneServed (s : State) : Prop :=
  s.link.queue.countP (fun r => decide (r.stage = .serving)) = if s.link.events.reading then 1 else 0

/-! ## Counts and bindings between records -/

/-- Hold Queues and Order Lists agree (R34, R24, R10): a patron stands in a title's queue once, and exactly if it
has a HOLD entry for the title; an Order List names a title once, and a CLOSED patron's is empty. -/
def State.holdsRight (s : State) : Prop :=
  (∀ e ∈ s.records.titles, e.2.holds.Nodup ∧
    ∀ k ∈ e.2.holds, ∃ p, s.patron k = some p ∧ ∃ o ∈ p.orders, o.title = e.1 ∧ o.state = .hold) ∧
  ∀ e ∈ s.records.patrons, (e.2.orders.map (·.title)).Nodup ∧ (e.2.state = .closed → e.2.orders = []) ∧
    ∀ o ∈ e.2.orders, o.state = .hold → ∃ r, s.title o.title = some r ∧ e.1 ∈ r.holds

/-- A plan that is QUEUED or IN_SLOT: it pins its titles (R52, R66). -/
def PlanState.pins (st : PlanState) : Bool :=
  match st with
  | .queued => true
  | .inSlot _ => true
  | .mailing _ => false

/-- A plan has the rush flag. -/
def State.isRush (s : State) (n : Nat) : Bool := ((s.plan n).map (·.rush)).getD false

/-- A slot holds a job only in a state that binds one (R84). -/
def Slot.jobRight (sl : Slot) : Prop :=
  sl.job.isSome = true →
    sl.state = .erasing ∨ sl.state = .programming ∨ sl.state = .verifying ∨ sl.state = .waitImage ∨
      sl.state = .directory ∨ (sl.state = .held ∧ sl.remembered ≠ some .preErase)

/-- The Job Queue holds exactly the QUEUED plans, each once, rush plans first (R53). -/
def State.queueRight (s : State) : Prop :=
  s.planner.queue.Nodup ∧ (∀ n, n ∈ s.planner.queue ↔ ∃ p, s.plan n = some p ∧ p.state = .queued) ∧
    s.planner.queue.Pairwise (fun m n => s.isRush n = true → s.isRush m = true)

/-- Slots and IN_SLOT plans bind one another (R84). While the part does not run the slots have lost their jobs,
and the plans wait for the rebuild (R113, R60). -/
def State.slotsRight (s : State) : Prop :=
  (∀ n p k, s.plan n = some p → p.state = .inSlot k →
    k ∈ slotNumbers ∧ (s.run = .running → (s.slot k).job = some n)) ∧
  ∀ k ∈ slotNumbers, (s.slot k).jobRight ∧
    ∀ n, (s.slot k).job = some n → ∃ p, s.plan n = some p ∧ p.state = .inSlot k

/-- Tray items have numbers of their own; cartridge items and MAILING plans name one another, and one patron
(R114, R101). -/
def State.trayRight (s : State) : Prop :=
  (s.mail.tray.map (·.number)).Nodup ∧
  (∀ x ∈ s.mail.tray, ∀ n serial, x.kind = .cartridge n serial →
    ∃ p, s.plan n = some p ∧ p.state = .mailing x.number ∧ p.patron = x.patron) ∧
  ∀ n p item, s.plan n = some p → p.state = .mailing item →
    ∃ x ∈ s.mail.tray, x.number = item ∧ ∃ serial, x.kind = .cartridge n serial

/-- Every live plan stands in its one place, and the Plan Table, the Job Queue and the tray within their sizes:
64 plans, 24 of them QUEUED or IN_SLOT, 32 set items and 64 cartridge items (R51, R53, R114). -/
def State.plansBound (s : State) : Prop :=
  s.queueRight ∧ s.slotsRight ∧ s.trayRight ∧ s.planner.plans.length ≤ Config.planMax ∧
    s.planner.queue.length ≤ 24 ∧ s.planner.plans.countP (fun e => e.2.state.pins) ≤ 24 ∧
    s.setItems ≤ Config.trayRoom ∧ s.mail.tray.countP (fun x => !x.kind.isSet) ≤ Config.planMax

/-- The fill writes handed to a bank whose fetch still stands (R78). -/
def Bank.liveFills (k : Bank) : List FillOp :=
  k.fills ++
    match k.current with
    | some (.fill f) => if f.live then [f] else []
    | _ => []

/-- A bank arbiter of one piece: an idle one has nothing waiting, and its reads, the granted one among them, and its
last-served slot are of slots 1 to 8 (R78). -/
def Bank.right (k : Bank) : Prop :=
  (k.current = none → k.fills = [] ∧ k.reads = []) ∧ k.lastServed ∈ slotNumbers ∧
    (∀ r ∈ k.reads, r.slot ∈ slotNumbers) ∧ ∀ r, k.current = some (.read r) → r.slot ∈ slotNumbers

/-- The image store is of one piece: the blocks the images hold are blocks of the store and all different, so that
they never exceed the pool (R62, R63); at most 192 images (R64); the recency order lists the RESIDENT titles, each
once (R65); the Fetch Queue has one entry for each FILLING image, at most 16, of distinct ids (R69); and a
fetch has at most one fill write outstanding, for its own title (R78). At most 2 fetches stream, and while any
does exactly one is the older (R69). Every bank is of one piece (R78). -/
def State.imagesRight (s : State) : Prop :=
  s.heldBlocks.Nodup ∧ (∀ b ∈ s.heldBlocks, b < Config.storeBlocks) ∧
    s.heldBlocks.length ≤ Config.storeBlocks ∧
    s.store.images.length ≤ Config.imageMax ∧ s.store.recency.Nodup ∧
    (∀ t, t ∈ s.store.recency ↔ ∃ e, s.image t = some e ∧ e.resident = true) ∧
    s.store.fetches.length ≤ Config.fetchMax ∧ (s.store.fetches.map (·.id)).Nodup ∧
    (s.store.fetches.map (·.title)).Nodup ∧
    (∀ t, t ∈ s.store.fetches.map (·.title) ↔ ∃ e, s.image t = some e ∧ e.resident = false) ∧
    ((s.store.banks.flatMap Bank.liveFills).map (·.fetch)).Nodup ∧
    (s.streams ≤ 2 ∧
      s.store.fetches.countP (fun f => decide (f.state = .streaming true)) = min 1 s.streams) ∧
    (∀ f ∈ s.store.banks.flatMap Bank.liveFills, ∃ g, s.fetch f.fetch = some g ∧ g.title = f.title) ∧
    ∀ k ∈ s.store.banks, k.right

/-- QUEUED and IN_SLOT plans that place a title. -/
def State.livePlacing (s : State) (t : Nat) : Nat :=
  s.planner.plans.countP (fun e => e.2.state.pins && e.2.placements.any (fun q => decide (q.title = t)))

/-- Every image has one pin for each QUEUED or IN_SLOT plan that places its title, and such a plan places
distinct titles that all have an image (R66, R52). -/
def State.pinsRight (s : State) : Prop :=
  (∀ e ∈ s.store.images, e.2.pins = s.livePlacing e.1) ∧
    ∀ e ∈ s.planner.plans, e.2.state.pins = true →
      (e.2.placements.map (·.title)).Nodup ∧ ∀ q ∈ e.2.placements, s.image q.title ≠ none

/-- A patron's cartridge count is the number of its live plans and cartridge loans, and its set count the number
of its set items and set loans (R4); their patron's record is not FREE, and a CLOSED patron has neither plan
nor set item (R10, R12). -/
def State.countsRight (s : State) : Prop :=
  (∀ e ∈ s.records.patrons,
    e.2.cartCount = s.planner.plans.countP (fun q => decide (q.2.patron = e.1)) +
      s.records.loans.countP (fun l => decide (l.2.patron = e.1) && !l.2.kind.isSet) ∧
    e.2.setCount = s.mail.tray.countP (fun x => decide (x.patron = e.1) && x.kind.isSet) +
      s.records.loans.countP (fun l => decide (l.2.patron = e.1) && l.2.kind.isSet) ∧
    (e.2.state = .closed → (∀ q ∈ s.planner.plans, q.2.patron ≠ e.1) ∧
      ∀ x ∈ s.mail.tray, x.kind.isSet = true → x.patron ≠ e.1)) ∧
  (∀ q ∈ s.planner.plans, s.patron q.2.patron ≠ none) ∧ (∀ l ∈ s.records.loans, s.patron l.2.patron ≠ none) ∧
    ∀ x ∈ s.mail.tray, x.kind.isSet = true → s.patron x.patron ≠ none

/-- What a safe run keeps at every step. -/
def State.safe (s : State) : Prop :=
  s.quiet ∧ s.attentionRight ∧ s.link.queue.length ≤ Config.requestMax ∧ s.link.settings.inRange ∧
    s.calendar.clock.right ∧ s.shaped ∧ s.ordered ∧ flashWf s.store.flash = true ∧ s.bounded ∧
    s.numbered ∧ s.oneServed ∧ s.holdsRight ∧ s.plansBound ∧ s.imagesRight ∧ s.pinsRight ∧ s.countsRight

/-- A request that a day roll holds back (R168 and the table after it). -/
def heldByRoll (i : Instr) : Bool :=
  match i with
  | .frameReceive _ => false
  | .frameDiscard => false
  | .replyPlace => false
  | .unknownRequest _ _ _ => false
  | .identify _ => false
  | .status _ => false
  | .restart _ => false
  | .eventsRead _ => false
  | .eventsReadReply => false
  | .eventsEnable _ _ => false
  | .contextSet _ _ _ => false
  | .settingsPut _ _ _ _ _ _ _ _ => false
  | .settingsGet _ => false
  | .patronPutCreate _ _ _ _ _ _ _ => true
  | .patronPutUpdate _ _ _ _ _ _ _ _ => true
  | .patronGet _ _ => false
  | .patronPause _ _ _ _ _ => true
  | .patronClose _ _ => true
  | .titlePutCreate _ _ _ _ _ _ => false
  | .titlePutUpdate _ _ _ _ _ _ _ => false
  | .titleGet _ _ => false
  | .titleWithdraw _ _ _ => false
  | .copiesAdjustAdd _ _ _ _ => true
  | .copiesAdjustRemove _ _ _ => true
  | .copiesAdjustFound _ _ _ => true
  | .loanGet _ _ => false
  | .loanList _ _ => false
  | .writtenOffList _ => false
  | .orderAdd _ _ _ _ _ _ => true
  | .orderDrop _ _ _ => true
  | .orderMove _ _ _ _ => true
  | .orderList _ _ => false
  | .holdList _ _ => false
  | .planNow _ => false
  | .passPatronStep => false
  | .planGet _ _ => false
  | .planCancel _ _ => true
  | .queueList _ => false
  | .fetchNext _ => false
  | .imageData _ _ _ _ => false
  | .fetchAbandon _ _ => true
  | .preload _ _ => false
  | .imageDrop _ _ => false
  | .imageList _ => false
  | .fetchList _ => false
  | .fillWriteComplete _ => false
  | .frameReadComplete _ => false
  | .cartridgeInsert _ => false
  | .cartridgeRemove _ => false
  | .identityReadDone _ _ _ => false
  | .pageReadDone _ _ _ => false
  | .permitReply _ _ => false
  | .pageProgramDone _ _ => false
  | .eraseDone _ _ => false
  | .markCycleDone _ => false
  | .suspendDone _ => false
  | .resumeDone _ => false
  | .cartOpTimeout _ _ => false
  | .slotStatus _ _ => false
  | .slotHold _ _ => false
  | .slotRelease _ _ => false
  | .slotClear _ _ => false
  | .slotFaultGet _ _ => false
  | .shelfPulled _ _ => false
  | .mailLabel _ _ => false
  | .trayList _ => false
  | .manifestGet _ _ => false
  | .alarmPut _ _ _ _ _ => false
  | .alarmGet _ => false
  | .clockTick => false
  | .dispatchCartridgeItem => false
  | .dispatchSetItem => false
  | .readerInsert => false
  | .readerRemove => false
  | .readerIdentityDone _ _ => false
  | .readerReadTimeout _ => false
  | .readerGet _ => false
  | .returnVolumeLoan _ _ _ => true
  | .returnVolumeLate _ _ _ _ => true
  | .binList _ _ => false
  | .binTake _ _ _ => false
  | .clockGet _ => false
  | .clockStop _ => true
  | .clockSet _ _ _ _ _ _ _ => true
  | .clockStart _ => true
  | .closedDayPutUsed _ _ _ _ _ => false
  | .closedDayPutClear _ _ => false
  | .closedDayGet _ => false
  | .remindersRead _ => false
  | .rollLoanStep => false
  | .rollPatronStep => false
  | .rollDeferralClear => false
  | .rollFinish => false
  | .rollEndPlanningTrigger => false
  | .heldCloseRelease => false
  | .pendingResultComplete => false
  | .powerOnStart _ _ => false
  | .powerLoss => false
  | .resetAssert => false
  | .resetRelease => false
  | .reportAnsweringNoOperation _ => false

/-! ## What a start leaves -/

/-- The start test finds a roll due (R167): the clock runs, and the last-roll date is earlier than the day
before today, or earlier than today with the roll time of today reached. -/
def State.rollOverdue (s : State) : Bool :=
  s.calendar.clock.running &&
    (lastBefore (s.calendar.lastRoll.map (· + 1)) s.today ||
      (lastBefore s.calendar.lastRoll s.today &&
        decide (60 * s.link.settings.rollHour + s.link.settings.rollMinute ≤ 60 * s.now.hour + s.now.minute)))

/-- What a start's beginning makes of the part (R191): every operation that takes time ends where it stands, the
pipe is emptied and the link cleared, the slots keep only the cartridges in their sockets (R113), and every
record, plan, image, fetch, item, bin and setting is as it was. -/
def WorkEnded (s t : State) : Prop :=
  t.pending = s.pending ∧ t.drawn = s.drawn ∧ t.records = s.records ∧
    t.link =
      { frame := [], incoming := [], queue := [], pipe := [], events := Events.clear, patronCtx := none,
        titleCtx := none, settings := s.link.settings, backup := s.link.backup } ∧
    t.planner = { s.planner with pass := none, rerun := false, due := false } ∧
    t.store = { s.store with banks := List.replicate 4 Bank.idle } ∧
    t.rack = s.rack.map (fun sl => { Slot.bare with present := sl.present }) ∧
    t.mail = { s.mail with close := none, heldClose := false, waitingClose := false } ∧
    t.returns = { s.returns with identifying := false, kept := none } ∧
    t.calendar = { s.calendar with roll := none, within60 := false, follow := .nothing }

/-- The plans bound to slots, in ascending slot number: the order in which a start leaves them at the heads of
their groups (R60). -/
def State.bound (s : State) : List Nat := (slotNumbers.reverse.flatMap s.boundPlans).reverse

/-- The pending result that this start completes: the one stored, where no roll is due (R154, R167). -/
def State.completing (s : State) : Option Pending := if s.rollOverdue then none else s.returns.pending

/-- What stages 3 to 7 of a start make of record memory and the sockets (R192). Every IN_SLOT plan is QUEUED, its
group's head its place (R60), and no plan is changed otherwise. The images and fetches are kept, the FILLING
ones with nothing filled and the fetches WAITING (R83), and every image holds one pin for each QUEUED plan
that places its title (R66). An open batch with an entry is stored as a manifest (R132). The records of
patrons, titles and loans, the Written-off List, the bins and the result record are changed by the completion
of a pending result that no roll will complete, and by nothing else (R154). A roll runs exactly if one is due
(R167), every slot and the reader read what stands in their sockets (R113, R154), and the settings, the
clock, the alarms and the image flash are as they were. -/
def Rebuilt (s t : State) : Prop :=
  t.run = .running ∧ t.pending = s.pending ∧ t.drawn = s.drawn ∧
    t.planner.plans = s.planner.plans.map (fun e => (e.1, { e.2 with
      state := match e.2.state with
        | .inSlot k => if k ∈ slotNumbers then .queued else .inSlot k
        | st => st })) ∧
    t.planner.lastPlan = s.planner.lastPlan ∧
    t.planner.queue = s.bound.filter s.isRush ++ s.planner.queue.take (s.rushJobs s.planner.queue) ++
      (s.bound.filter (fun n => !s.isRush n) ++ s.planner.queue.drop (s.rushJobs s.planner.queue)) ∧
    t.store.fetches = s.store.fetches.map (fun f => { f with state := .waiting, next := 0 }) ∧
    t.store.lastFetch = s.store.lastFetch ∧ t.store.recency = s.store.recency ∧
    t.store.images.map (·.1) = s.store.images.map (·.1) ∧
    (∀ k e, s.image k = some e → ∃ f, t.image k = some f ∧ f.resident = e.resident ∧
      (e.resident = true → f.blocks = e.blocks ∧ f.filled = e.filled ∧ f.sum = e.sum) ∧
      (e.resident = false → f.filled = 0 ∧ f.sum = 0#32)) ∧
    (∀ e ∈ t.store.images, e.2.pins = t.queuedPlacing e.1) ∧ t.store.flash = s.store.flash ∧
    t.records = (match s.completing with
      | some p => (s.relate p.serial).2.records
      | none => s.records) ∧
    (s.completing = none → t.returns = { s.returns with
      reader := if s.returns.pending.isSome then .pendingRoll else if s.returns.present then .reading else .empty,
      identifying := s.returns.present, removed := s.returns.pending.isSome && !s.returns.present,
      kept := none }) ∧
    (∀ p, s.completing = some p → t.returns.pending = none ∧
      t.returns.reader = (if s.returns.present then .reading else .empty) ∧
      ∃ x : BinEntry, x.serial = some p.serial ∧
        ((t.returns.reuse = s.returns.reuse ∧ t.returns.inspect = s.returns.inspect) ∨
          (t.returns.reuse = x :: s.returns.reuse ∧ t.returns.inspect = s.returns.inspect) ∨
          (t.returns.reuse = s.returns.reuse ∧ t.returns.inspect = x :: s.returns.inspect))) ∧
    t.mail.tray = s.mail.tray ∧ t.mail.alarms = s.mail.alarms ∧ t.mail.lastItem = s.mail.lastItem ∧
    t.mail.lastBatch = s.mail.lastBatch ∧ t.mail.openBatch = none ∧
    t.mail.manifests = (match s.mail.openBatch with
      | some m => if m.entries = [] then s.mail.manifests else storeManifest s.mail.manifests m
      | none => s.mail.manifests) ∧
    t.calendar.roll.map (·.date) = (if s.rollOverdue then some s.today else none) ∧
    t.calendar.clock = s.calendar.clock ∧ t.calendar.lastRoll = s.calendar.lastRoll ∧
    t.calendar.closedDays = s.calendar.closedDays ∧ t.calendar.reminders = s.calendar.reminders ∧
    t.link.settings = s.link.settings ∧
    t.rack = s.rack.map (fun sl =>
      if sl.present then { Slot.bare.beginIdent with present := true } else Slot.bare)

end Sys2Proof.Machine
end

