-- ==== Sys2Proof/Certificates/Slice0/Obligations.lean ====
section
/-!
DEFINITION. The statements about the model for the provers. A request's statements take a state in which the
Link Port serves it now (`State.serves`, R179) and in which no planning trigger is left untaken
(`State.quiet`, R49); that the first can be brought about, and that the second always holds, are statements
of their own. A reply is given byte by byte: where 10.2 does not list a field's width or a list's layout, the
bytes are the model's reading (log entries 10 to 14, and 52 for a set flag). A statement that rests on another choice
of the model names its log entry.
-/

open Sys2Proof Sys2Proof.Machine

/-! ## The part as a whole -/

/-- A step runs the command at the front of the queue on the state with the queue's rest, and idles on an
empty queue. That the part has no step of its own on an empty queue is the model's choice (log entry 9), with
the bounds it leaves unstated (log entry 15). -/
def Obligations.StepRunsFrontCommand : Prop :=
  (∀ (c : Instr) (s : State), step (s.setPending (c :: s.pending)) = exec c s) ∧
    ∀ s : State, s.pending = [] → step s = .next s

/-- Every command that can be sent completes; one outside stops only for a socket or a bank the part does
not have (log entry 30).
No command touches the queue of the commands that wait. -/
def Obligations.CommandsCompleteAndLeaveTheirQueue : Prop :=
  ((∀ (c : Instr) (s : State), c.wellFormed = true → ∃ t, exec c s = .next t) ∧
    ∀ (c : Instr) (s : State), (∃ t, exec c s = .next t) ∨
      (∃ n, (n = 0 ∨ 8 < n) ∧ exec c s = .fault (.noSuchSocket n)) ∨
        ∃ n, 4 ≤ n ∧ exec c s = .fault (.noSuchBank n)) ∧
  (∀ (c : Instr) (s t : State), exec c s = .next t → t.pending = s.pending)

/-- What the part holds right after reset is safe. -/
def Obligations.ResetIsSafe : Prop := State.reset.safe

/-- R190: after every command the attention output is asserted exactly while an enabled flag is set in the main
half or the pending half. While the part is held at the beginning of a start, or has no main power, no flag is
enabled and the output is released. -/
def Obligations.StepKeepsAttentionRight : Prop :=
  (∀ s t : State, step s = .next t → s.attentionRight → t.attentionRight) ∧
  ∀ s t : State, step s = .next t → s.attentionRight → (s.run ≠ .running → s.link.events.enables = 0#15) →
    t.run ≠ .running → t.link.events.enables = 0#15 ∧ t.link.events.attention = false

/-- R178: never more than 4 requests are pending.
R188: one EVENTS READ at most is being served, and the pending half is in use exactly meanwhile.
R183, R155: the settings stay in their ranges, and the clock holds a date and time of the calendar and
never runs at its last second.
R49: a planning trigger is taken at the event; none is left between commands. -/
def Obligations.StepKeepsRequestsSettingsClockTriggers : Prop :=
  ((∀ s t : State, step s = .next t → s.link.queue.length ≤ 4 → t.link.queue.length ≤ 4) ∧
    ∀ s t : State, step s = .next t → s.oneServed → t.oneServed) ∧
  ((∀ s t : State, step s = .next t → s.link.settings.inRange → t.link.settings.inRange) ∧
    ∀ s t : State, step s = .next t → s.calendar.clock.right → t.calendar.clock.right) ∧
  ∀ s t : State, step s = .next t → s.quiet → t.quiet

/-- The part keeps its slots, banks, alarms, closed-day entries and copy places, and every table its one
canonical form.
The image flash keeps its one canonical form.
R6, R7, R14, R15: records stand at the indexes of their tables, and no two patron records hold one
number and no two title records one catalogue number. -/
def Obligations.StepKeepsFormsAndNumbers : Prop :=
  ((∀ s t : State, step s = .next t → s.shaped → t.shaped) ∧
    ∀ s t : State, step s = .next t → s.ordered → t.ordered) ∧
  (∀ s t : State, step s = .next t → flashWf s.store.flash = true → flashWf t.store.flash = true) ∧
  ∀ s t : State, step s = .next t → s.ordered → s.numbered → t.numbered

/-- Read histories (48, no catalogue number twice, R5), Order Lists (24, R24), Hold Queues (8, R34), the Written-off
List (256, R22), the Reminder List (64, R174), manifests (4, R129), Return Bins (40 each, R144), fetches (16, R69) and
set items (32, R114) stay within the sizes the manual gives them, a slot records no more spares than it took of its
cartridge's reserve (R84, R98), and what it suspends is a block or group erase (R85). The Plan Table, the Job Queue
and cartridge items are bounded by StepKeepsPlansBound, the Resident Image Table by StepKeepsImagesPinned. -/
def Obligations.StepKeepsListsBounded : Prop :=
  ∀ s t : State, step s = .next t → s.bounded → t.bounded

/-- R53: the Job Queue holds exactly the QUEUED plans, each once and rush plans first. R84, R60: an IN_SLOT plan is
bound to exactly one slot, that slot holds it, and no slot holds another's; while the part does not run the
slots have lost their jobs. R114, R101: cartridge items and MAILING plans name one another. R51, R53, R114: at
most 64 plans, 24 of them QUEUED or IN_SLOT, 24 in the queue, 32 set items and 64 cartridge items. -/
def Obligations.StepKeepsPlansBound : Prop :=
  ∀ s t : State, step s = .next t → s.shaped → s.ordered → s.plansBound → t.plansBound

/-- R62, R63: the store blocks of the images are of the store's 131,072 and all different, so no block is held twice
and the blocks held never exceed the pool.
R64, R65, R69, R78: at most 192 images; the recency order lists the RESIDENT titles and the Fetch Queue the
FILLING ones, each once; a fetch has one fill write outstanding at most; at most 2 fetches stream, and while any
does exactly one of them is the older; an idle bank has nothing waiting, and the reads of a bank and its last-served
slot are of slots 1 to 8.
R66, R52: every image has one pin for each QUEUED or IN_SLOT plan that places its title, and every title such a
plan places has an image. -/
def Obligations.StepKeepsImagesPinned : Prop :=
  (∀ s t : State, step s = .next t → s.shaped → s.ordered → s.holdsRight → s.imagesRight → t.imagesRight) ∧
  ∀ s t : State, step s = .next t → s.shaped → s.ordered → s.plansBound → s.holdsRight → s.pinsRight →
    t.pinsRight

/-- R34, R24, R10: a patron stands in a title's Hold Queue exactly while its HOLD entry for the title stands, an
Order List names a title once, and a CLOSED patron's is empty.
R4, R10, R12: a patron's cartridge count is the number of its live plans and cartridge loans, and its set count
the number of its set items and set loans; whoever they name has a record that is not FREE. -/
def Obligations.StepKeepsCountsRight : Prop :=
  (∀ s t : State, step s = .next t → s.ordered → s.holdsRight → t.holdsRight) ∧
  ∀ s t : State, step s = .next t → s.shaped → s.ordered → s.plansBound → s.countsRight → t.countsRight

/-- Whose turn a request is (R178, R179; the reading of a request command is log entry 7). With none
waiting the command stands for a frame completed and taken at once, lost with LINK_FAULT while 4 requests
are pending; behind another request, behind an EVENTS READ being served, or while the part does not run,
it changes nothing. -/
def Obligations.RequestTurns : Prop :=
  ∀ (c : Instr) (s : State) (code tag : Nat) (body : List Byte), c.request = some (code, tag, body) →
    (s.run = .running → oldestWaiting s.link.queue = none → s.link.queue.length < 4 →
      exec c s = exec c (s.setQueue
        (s.link.queue ++ [{ code := code, tag := tag, body := body, stage := .waiting }]))) ∧
    (s.run = .running → oldestWaiting s.link.queue = none → 4 ≤ s.link.queue.length →
      exec c s = .next (s.raise .linkFault)) ∧
    (∀ i, oldestWaiting s.link.queue = some i →
      s.link.queue[i]? ≠ some { code := code, tag := tag, body := body, stage := .waiting } →
      exec c s = .next s) ∧
    (∀ i, oldestWaiting s.link.queue = some i → s.link.events.reading = true → exec c s = .next s) ∧
    (s.run ≠ .running → exec c s = .next s)

/-- R179: a request that is refused changes nothing and sets no context: only its reply is formed. -/
def Obligations.RefusedRequestsChangeNothing : Prop :=
  ∀ (c : Instr) (s t : State) (i : Nat) (reply : List Byte), s.serves i c → s.quiet → exec c s = .next t →
    t.link.queue[i]?.map (·.stage) = some (.formed reply) → reply.head? ≠ some 0#8 →
    t = s.setQueue (setStage s.link.queue i (.formed reply))

/-- R168 and the table after it: each request held back by a day roll, and taken while one runs, is refused
ROLLING where it would be accepted with the roll IDLE, and changes nothing. -/
def Obligations.RollHoldsBackRequests : Prop :=
  ∀ (c : Instr) (s t : State) (i : Nat) (fields : List Byte), heldByRoll c = true → s.serves i c →
    s.quiet → s.rolling = true →
    exec c (s.setCalendar { s.calendar with roll := none }) = .next t → t.answered i fields →
    exec c s = .next (s.formReply i { status := .rolling, fields := [] })

/-- R48, R49: a trigger taken while a pass runs marks it to run again; one taken while the Planner is IDLE
begins a pass over the Service List, or ends one with nobody on it at once (log entry 6).
R47: the event that clears a FILL_LOW deferral changes nothing else but that it is a planning trigger
(log entry 5). -/
def Obligations.PlanningTriggerTaken : Prop :=
  (∀ s : State, s.quiet →
    (∀ l, s.planner.pass = some l → s.triggered = s.setPlanner { s.planner with rerun := true }) ∧
    (s.planner.pass = none → s.serviceList = [] →
      s.triggered = s.setPlanner { s.planner with rerun := false }) ∧
    (s.planner.pass = none → s.serviceList ≠ [] →
      s.triggered = s.setPlanner { s.planner with rerun := false, pass := some s.serviceList })) ∧
  (∀ (s : State) (k : Nat),
    (∀ p, s.patron k = some p → p.deferral = .fillLow →
      s.clearFillLow k = (s.setPatron k { p with deferral := .none }).noteTrigger) ∧
    (∀ p, s.patron k = some p → p.deferral ≠ .fillLow → s.clearFillLow k = s) ∧
    (s.patron k = none → s.clearFillLow k = s))

/-! ## Link Port -/

/-- R176, R178: a good frame that the receiver takes from HUNT becomes a pending request, the newest, or is
discarded with LINK_FAULT while 4 requests are pending.
R177: a bad frame is discarded with LINK_FAULT and its bytes scanned again from the byte after its sync,
so that a good frame it had swallowed is received whole. -/
def Obligations.FramesReceivedAndDiscarded : Prop :=
  (∀ (s : State) (code tag : Nat) (body : List Byte), s.run ≠ .off → s.link.frame = [] →
    s.link.incoming = [] → code < 256 → tag < 256 → body.length ≤ 4110 →
    exec (.frameReceive (frameBytes code tag body)) s = .next
      (if s.link.queue.length < 4 then
        s.setQueue (s.link.queue ++ [{ code := code, tag := tag, body := body, stage := .waiting }])
      else s.raise .linkFault)) ∧
  ∀ (s : State) (sync : Byte) (rest junk : List Byte) (code tag : Nat) (body : List Byte),
    s.link.frame = sync :: rest → judgeFrame s.link.frame = .bad →
    rest ++ s.link.incoming = junk ++ frameBytes code tag body → 0xD3#8 ∉ junk → code < 256 → tag < 256 →
    body.length ≤ 4110 → s.link.queue.length < 4 →
    exec .frameDiscard s = .next ((s.raise .linkFault).setLink
      { (s.raise .linkFault).link with
        frame := [], incoming := [],
        queue := s.link.queue ++ [{ code := code, tag := tag, body := body, stage := .waiting }] })

/-- R180: the oldest pending request's reply, once formed, is placed, with the request's CODE with the top
bit set and its TAG, and the request is pending no longer; no other reply passes it.
R179: a code that is no request of the part is answered UNKNOWN, and a body length that a request does
not admit LENGTH, by the status alone. -/
def Obligations.RequestsRejectedRepliesPlaced : Prop :=
  ((∀ (s : State) (r : Request) (rest : List Request) (reply : List Byte), s.link.queue = r :: rest →
    r.stage = .formed reply → r.code < 128 →
    exec .replyPlace s = .next (s.setLink
      { s.link with
        queue := rest, pipe := s.link.pipe ++ [frameBytes (r.code + 128) r.tag reply] })) ∧
  (∀ (s : State) (r : Request) (rest : List Request), s.link.queue = r :: rest →
    (∀ reply, r.stage ≠ .formed reply) → exec .replyPlace s = .next s) ∧
  ∀ s : State, s.link.queue = [] → exec .replyPlace s = .next s) ∧
  (∀ (s : State) (i tag code : Nat) (body : List Byte), s.serves i (.unknownRequest tag code body) → s.quiet →
    exec (.unknownRequest tag code body) s = .next (s.formReply i
      { status := if bodyLengths code = none then .unknown else .length, fields := [] }))

/-- The reads that carry no fields answer the state they find and change nothing (R23, R59, R82, R121, R131, R153,
R157, R163, R183). The layouts are the model's where 10.2 is silent (log entries 10 to 14). The reads that name a
loan, plan, batch, slot or bin answer what they name and change nothing; they touch no context (R21, R58, R111, R112,
R130, R148, R181).
The count and number of an empty Written-off List, TRAY LIST's number of selected items left, CLOCK GET's step of the
roll, and that ALARM GET and CLOSED DAY GET send no entry numbers are the model's too (log entries 36, 43, 45, 44),
and so are the byte of a set flag (52), the program cursor SLOT STATUS shows in DIRECTORY (47), the cartridge block it
gives while a spare is in hand (53), the spares it shows of a slot without a job (64) and what READER GET shows while
a start's read is still in progress (49). -/
def Obligations.ReadsChangeNothing : Prop :=
  (∀ (s : State) (i tag : Nat), s.quiet →
    (s.serves i (.settingsGet tag) → exec (.settingsGet tag) s = .next (s.replied i s.link.settings.fields)) ∧
    (s.serves i (.writtenOffList tag) → exec (.writtenOffList tag) s = .next
      (s.replied i (listField Lost.line s.records.lost ++ u16 s.records.lost.length))) ∧
    (s.serves i (.queueList tag) → exec (.queueList tag) s = .next (s.replied i
      (listField s.queueLine s.planner.queue ++ u8 (s.plansIn 0) ++ u8 (s.plansIn 1) ++ u8 (s.plansIn 2) ++
        u8 s.planner.code ++ u16 (s.deferred .fillLow) ++ u16 (s.deferred .storeSpace)))) ∧
    (s.serves i (.imageList tag) → exec (.imageList tag) s = .next (s.replied i s.imageListFields)) ∧
    (s.serves i (.fetchList tag) →
      exec (.fetchList tag) s = .next (s.replied i (listField s.fetchLine s.store.fetches))) ∧
    (s.serves i (.trayList tag) → exec (.trayList tag) s = .next (s.replied i s.trayFields)) ∧
    (s.serves i (.alarmGet tag) →
      exec (.alarmGet tag) s = .next (s.replied i (listField Alarm.fields s.mail.alarms))) ∧
    (s.serves i (.readerGet tag) → exec (.readerGet tag) s = .next (s.replied i s.returns.fields)) ∧
    (s.serves i (.clockGet tag) → exec (.clockGet tag) s = .next (s.replied i s.clockFields)) ∧
    (s.serves i (.closedDayGet tag) →
      exec (.closedDayGet tag) s = .next (s.replied i (listField closedFields s.calendar.closedDays)))) ∧
  (∀ (s : State) (i tag : Nat), s.quiet →
    (∀ n l, s.serves i (.loanGet tag n) → 1 ≤ n → n ≤ 20480 → s.loan n = some l →
      exec (.loanGet tag n) s = .next (s.replied i l.fields)) ∧
    (∀ n p, s.serves i (.planGet tag n) → 1 ≤ n → s.plan n = some p →
      exec (.planGet tag n) s = .next (s.replied i
        (u16 n ++ u16 p.patron ++ u8 p.cls.code ++ flagByte p.rush ++
          listField s.placementLine p.placements ++ u16 p.used ++ u16 p.fill ++ u8 p.faults ++
          u8 p.state.code ++ u8 p.state.slot ++ u16 p.state.item ++ u32 (s.patronNumber p.patron) ++
          u8 (s.queuePlace n)))) ∧
    (∀ n m, s.serves i (.manifestGet tag n) →
      (n = 0 ∧ s.mail.manifests.getLast? = some m ∨
        n ≠ 0 ∧ s.mail.manifests.find? (fun x => decide (x.number = n)) = some m) →
      exec (.manifestGet tag n) s = .next (s.replied i
        (u16 m.number ++ dateField m.date ++ timeField m.time ++ u8 m.entries.length ++
          listField ManifestEntry.line m.entries ++ listField (fun x => u16 x.number) s.mail.manifests))) ∧
    (∀ n, s.serves i (.slotStatus tag n) → 1 ≤ n → n ≤ 8 →
      exec (.slotStatus tag n) s = .next (s.replied i (u16 1 ++ s.slotFields n))) ∧
    (s.serves i (.slotStatus tag 0) →
      exec (.slotStatus tag 0) s = .next (s.replied i (listField s.slotFields [1, 2, 3, 4, 5, 6, 7, 8]))) ∧
    (∀ n, s.serves i (.slotFaultGet tag n) → 1 ≤ n → n ≤ 8 →
      exec (.slotFaultGet tag n) s = .next (s.replied i
        (match (s.slot n).fault with
          | some r => r.fields
          | none => []))) ∧
    (s.serves i (.binList tag 1) → exec (.binList tag 1) s = .next (s.replied i
      (u16 s.returns.reuse.length ++ binLines 1 s.returns.reuse ++ u8 s.returns.reuse.length ++
        u8 s.returns.inspect.length))) ∧
    (s.serves i (.binList tag 2) → exec (.binList tag 2) s = .next (s.replied i
      (u16 s.returns.inspect.length ++ binLines 1 s.returns.inspect ++ u8 s.returns.reuse.length ++
        u8 s.returns.inspect.length))))

/-- R2, R181: a patron read (PATRON GET, LOAN LIST, ORDER LIST) names its record by index or by the context; it is
refused RANGE above 2,047 and NO_RECORD for a clear context or a FREE record, and an accepted one leaves the
context at the record it named.
R2, R181, R16, R39: the same of the title reads (TITLE GET, HOLD LIST), above 8,191; HOLD LIST of a title with an
image is refused STATE.
That ORDER LIST of an empty list sends its count and length, and which reason HOLD LIST gives of two, are the
model's (log entries 36, 38). -/
def Obligations.RecordReadsNameAndSetContext : Prop :=
  (∀ (s : State) (i tag n : Nat), s.quiet →
    (∀ c : Instr, c = .patronGet tag n ∨ c = .loanList tag n ∨ c = .orderList tag n → s.serves i c →
      (2047 < n → exec c s = .next (s.formReply i { status := .range, fields := [] })) ∧
      (n = 0 → s.link.patronCtx = none →
        exec c s = .next (s.formReply i { status := .noRecord, fields := [] })) ∧
      ∀ k, n ≤ 2047 → n = k ∧ n ≠ 0 ∨ n = 0 ∧ s.link.patronCtx = some k → s.patron k = none →
        exec c s = .next (s.formReply i { status := .noRecord, fields := [] })) ∧
    (∀ k, n ≤ 2047 → n = k ∧ n ≠ 0 ∨ n = 0 ∧ s.link.patronCtx = some k →
      let t := s.setLink { s.link with patronCtx := some k }
      ∀ p, s.patron k = some p →
        (s.serves i (.patronGet tag n) → exec (.patronGet tag n) s = .next (t.replied i
          (p.fields ++ u8 p.orders.length ++ u8 ((s.loansOf k).countP (fun e => !e.2.kind.isSet)) ++
            u8 ((s.loansOf k).countP (fun e => e.2.kind.isSet))))) ∧
        (s.serves i (.loanList tag n) → exec (.loanList tag n) s = .next (t.replied i
          (listField loanLine ((s.loansOf k).take 10)))) ∧
        (s.serves i (.orderList tag n) → exec (.orderList tag n) s = .next (t.replied i
          (listPlaces (s.orderLine k) p.orders ++ u8 p.orders.length))))) ∧
  (∀ (s : State) (i tag n : Nat), s.quiet →
    (∀ c : Instr, c = .titleGet tag n ∨ c = .holdList tag n → s.serves i c →
      (8191 < n → exec c s = .next (s.formReply i { status := .range, fields := [] })) ∧
      (n = 0 → s.link.titleCtx = none →
        exec c s = .next (s.formReply i { status := .noRecord, fields := [] })) ∧
      ∀ k, n ≤ 8191 → n = k ∧ n ≠ 0 ∨ n = 0 ∧ s.link.titleCtx = some k → s.title k = none →
        exec c s = .next (s.formReply i { status := .noRecord, fields := [] })) ∧
    (∀ k, n ≤ 8191 → n = k ∧ n ≠ 0 ∨ n = 0 ∧ s.link.titleCtx = some k →
      let t := s.setLink { s.link with titleCtx := some k }
      ∀ r, s.title k = some r →
        (s.serves i (.titleGet tag n) → exec (.titleGet tag n) s = .next (t.replied i
          (r.baseFields ++ s.imageFields k ++ r.places ++ u8 r.owned ++ u8 r.shelf ++ u8 r.missing ++
            listField u16 r.holds))) ∧
        (s.serves i (.holdList tag n) → r.format ≠ .pbraille →
          exec (.holdList tag n) s = .next (s.formReply i { status := .state, fields := [] })) ∧
        (s.serves i (.holdList tag n) → r.format = .pbraille →
          exec (.holdList tag n) s = .next (t.replied i
            (listPlaces (s.holdLine k) r.holds ++ u8 r.shelf ++ flagByte r.withdrawn ++
              flagByte (decide (32 ≤ s.setItems)))))))

/-- R187, R188: from the taking of an EVENTS READ to the forming of its reply flags are raised in the pending
half alone; the reply gives the main half and the enables, and moves the pending half to the main half. -/
def Obligations.EventsReadSplitsFlags : Prop :=
  (∀ (s : State) (i tag : Nat), s.serves i (.eventsRead tag) → s.attentionRight →
    exec (.eventsRead tag) s = .next (s.setLink
      { s.link with
        queue := setStage s.link.queue i .serving, events := { s.link.events with reading := true } })) ∧
  (∀ (s : State) (f : Flag), s.link.events.reading = true →
    (s.raise f).link.events.main = s.link.events.main ∧
      (s.raise f).link.events.pending = s.link.events.pending ||| f.mask) ∧
  (∀ (s : State) (f : Flag), s.link.events.reading = false →
    (s.raise f).link.events.main = s.link.events.main ||| f.mask ∧
      (s.raise f).link.events.pending = s.link.events.pending) ∧
  ∀ (s : State) (i : Nat) (r : Request), s.link.queue[i]? = some r → r.stage = .serving →
    (∀ j q, j < i → s.link.queue[j]? = some q → q.stage ≠ .serving) →
    exec .eventsReadReply s = .next ((s.replied i
      (u16 s.link.events.main.toNat ++ u16 s.link.events.enables.toNat)).setEvents
        { main := s.link.events.pending, pending := 0#15, enables := s.link.events.enables, reading := false,
          attention := decide (s.link.events.pending &&& s.link.events.enables ≠ 0#15) })

/-- R189, R190: EVENTS ENABLE replaces the enable set whole, brings the attention output into line, answers
the set and the flags of either half, and changes no flag; a start clears the set. -/
def Obligations.EventsEnableReplacesSet : Prop :=
  (∀ (s : State) (i tag x : Nat), s.serves i (.eventsEnable tag x) → s.quiet →
    let flags := s.link.events.main ||| s.link.events.pending
    exec (.eventsEnable tag x) s = .next ((s.setEvents
      { s.link.events with
        enables := BitVec.ofNat 15 x, attention := decide (flags &&& BitVec.ofNat 15 x ≠ 0#15) }).replied i
          (u16 (BitVec.ofNat 15 x).toNat ++ u16 flags.toNat))) ∧
  (∀ (s t : State) (held good : Bool), exec (.powerOnStart held good) s = .next t →
    t.link.events.enables = 0#15) ∧
  (∀ s t : State, s.run = .running → exec .resetAssert s = .next t → t.link.events.enables = 0#15) ∧
  ∀ (s t : State) (i tag : Nat), s.serves i (.restart tag) →
    (∀ r ∈ s.link.queue.take i, ∃ reply, r.stage = .formed reply) → exec (.restart tag) s = .next t →
    t.link.events.enables = 0#15

/-- R184: IDENTIFY answers the part code 460, revision 1, 8 slots, 131,072 blocks in 4 banks, and the
capacities 2,047, 8,191 and 20,480, whatever the state, and changes nothing.
R185, R186: STATUS answers the state it finds, and moves the stage of the backup indication to LATER and
nothing else.
R182: CONTEXT SET writes both contexts, 0 clearing one; the patron field is checked first, and a refusal
leaves both.
R183: SETTINGS PUT writes the record whole, each value outside its range clamped to the nearest bound, and
answers the record as stored. -/
def Obligations.IdentifyStatusContextsSettings : Prop :=
  (∀ (s : State) (i tag : Nat), s.serves i (.identify tag) → s.quiet →
    exec (.identify tag) s = .next (s.replied i
      [0xCC#8, 0x01#8, 0x01#8, 0x08#8, 0x00#8, 0x00#8, 0x02#8, 0x00#8, 0x04#8, 0xFF#8, 0x07#8, 0xFF#8,
        0x1F#8, 0x00#8, 0x50#8])) ∧
  (∀ (s : State) (i tag : Nat), s.serves i (.status tag) → s.quiet →
    exec (.status tag) s = .next ((s.setLink
      { s.link with backup := { s.link.backup with first := false } }).replied i
        (u8 (if s.calendar.clock.running then 0 else 1) ++ u8 (if s.calendar.roll.isSome then 1 else 0) ++
          flagByte s.calendar.within60 ++ u8 s.planner.queue.length ++ u8 s.planner.plans.length ++
          u32 s.freeBlocks ++ u8 (s.mail.tray.countP (fun x => !x.kind.isSet)) ++
          u8 (s.mail.tray.countP (fun x => x.kind.isSet)) ++ u8 s.returns.reuse.length ++
          u8 s.returns.inspect.length ++
          u8 (if s.link.backup.first then (if s.link.backup.held then 0 else 1)
            else if s.link.backup.good then 2 else 3)))) ∧
  (∀ (s : State) (i tag p t : Nat), s.serves i (.contextSet tag p t) → s.quiet →
    (2047 < p → exec (.contextSet tag p t) s = .next (s.formReply i { status := .range, fields := [] })) ∧
    (1 ≤ p → p ≤ 2047 → s.patron p = none →
      exec (.contextSet tag p t) s = .next (s.formReply i { status := .noRecord, fields := [] })) ∧
    (p = 0 ∨ p ≤ 2047 ∧ s.patron p ≠ none →
      (8191 < t → exec (.contextSet tag p t) s = .next (s.formReply i { status := .range, fields := [] })) ∧
      (1 ≤ t → t ≤ 8191 → s.title t = none →
        exec (.contextSet tag p t) s = .next (s.formReply i { status := .noRecord, fields := [] })) ∧
      (t = 0 ∨ t ≤ 8191 ∧ s.title t ≠ none →
        exec (.contextSet tag p t) s = .next ((s.setLink
          { s.link with
            patronCtx := if p = 0 then none else some p,
            titleCtx := if t = 0 then none else some t }).replied i
              (u16 p ++ u16 t ++ u32 (s.patronNumber p) ++ u32 (s.catalogue t)))))) ∧
  (∀ (s : State) (i tag cart set floor window hour minute key : Nat),
    s.serves i (.settingsPut tag cart set floor window hour minute key) → s.quiet →
    ∃ x : Settings,
      x.cartDays = max 7 (min 120 cart) ∧ x.setDays = max 7 (min 120 set) ∧ x.floor = min 1000 floor ∧
      x.window = max 4 (min 24 window) ∧ x.rollHour = min 23 hour ∧ x.rollMinute = min 59 minute ∧
      x.centreKey = key ∧
      exec (.settingsPut tag cart set floor window hour minute key) s =
        .next ((s.setLink { s.link with settings := x }).replied i
          (u8 x.cartDays ++ u8 x.setDays ++ u16 x.floor ++ u8 x.window ++ u8 x.rollHour ++ u8 x.rollMinute ++
            u16 x.centreKey)))

/-! ## Starts -/

/-- R191, R1, R113: the reset input ends every operation where it stands, empties the pipe and clears the
link, and leaves every record, plan, image, fetch, item, bin and setting as it stands; the part then waits at
the beginning of the restart. A part not running has no work to end, and the input changes nothing of it (log
entry 4).
R191, R1, R155: a loss of main power ends the same work; record memory and the clock stay. -/
def Obligations.ResetAndPowerLossEndWork : Prop :=
  ((∀ s : State, s.run = .running → ∃ t, exec .resetAssert s = .next t ∧ t.run = .resetHeld ∧
    WorkEnded s t) ∧
  ∀ s : State, s.run ≠ .running → exec .resetAssert s = .next s) ∧
  (∀ s : State, ∃ t, exec .powerLoss s = .next t ∧ t.run = .off ∧ WorkEnded s t)

/-- R191, R192, R60, R66, R83, R113, R167: the release of the reset input runs the rebuild and requests
received meanwhile stand in the queue; a power-on start with the backup held runs the same rebuild, takes
the backup indication (R186) and comes up with an empty queue and an empty pipe. That a release of an input not
held changes nothing (log entry 4), that a power-on start is made from any state (log entry 20) and does not wait
for a reset input still held (log entry 50), and that a reader with a pending result does not count the cartridge
in its socket as removed until it is read (log entry 49), are the model's. -/
def Obligations.StartRebuilds : Prop :=
  (∀ s : State, s.run = .resetHeld → s.ordered → s.calendar.roll = none →
    ∃ t, exec .resetRelease s = .next t ∧ Rebuilt s t ∧ t.link.queue = s.link.queue ∧
      t.link.backup = s.link.backup) ∧
  (∀ s : State, s.run ≠ .resetHeld → exec .resetRelease s = .next s) ∧
  ∀ (s : State) (good : Bool), s.ordered →
    ∃ t, exec (.powerOnStart true good) s = .next t ∧ Rebuilt s t ∧ t.link.queue = [] ∧ t.link.pipe = [] ∧
      t.link.patronCtx = none ∧ t.link.titleCtx = none ∧ t.link.events.enables = 0#15 ∧
      t.link.events.attention = false ∧ t.link.backup = { held := true, good := good, first := true } ∧
      (good = false → t.link.events.main.getLsbD Flag.backupLow.bit = true)

/-- R1, R192: a power-on start with the backup lost leaves record memory empty, the settings at their
defaults, the clock STOPPED at 2000-01-01 00:00:00 with CLOCK_STOPPED raised, and the image flash as it is.
R192: a power-on start with the backup lost, no cartridge in any socket and an erased flash gives the
state right after reset. The GOOD sample and the erased byte are the model's choices (log entries 1, 2). -/
def Obligations.LostStartEmptiesRecordMemory : Prop :=
  (∀ (s : State) (good : Bool), ∃ t, exec (.powerOnStart false good) s = .next t ∧ t.run = .running ∧
    t.records = { patrons := [], titles := [], loans := [], lost := [] } ∧ t.planner.plans = [] ∧
    t.planner.queue = [] ∧ t.planner.lastPlan = 0 ∧ t.store.images = [] ∧ t.store.fetches = [] ∧
    t.store.flash = s.store.flash ∧ t.mail.tray = [] ∧ t.mail.manifests = [] ∧ t.returns.reuse = [] ∧
    t.returns.inspect = [] ∧ t.returns.pending = none ∧ t.returns.result = none ∧
    t.calendar.clock = { day := 0, time := { hour := 0, minute := 0, second := 0 }, running := false, prescaler := 0 } ∧
    t.calendar.lastRoll = none ∧ t.calendar.roll = none ∧ t.calendar.reminders = [] ∧
    t.link.settings =
      { cartDays := 42, setDays := 56, floor := 300, window := 12, rollHour := 2, rollMinute := 0, centreKey := 0 } ∧
    t.link.events.main.getLsbD Flag.clockStopped.bit = true ∧
    t.link.backup = { held := false, good := good, first := true }) ∧
  (∀ s : State, s.pending = [] → s.drawn = 0 → s.rack.length = 8 → (∀ sl ∈ s.rack, sl.present = false) →
    s.returns.present = false → s.store.flash = [] → exec (.powerOnStart false true) s = .next State.reset)

/-- R191, R192: a RESTART whose turn it is, every earlier reply formed, has the earlier replies and its own OK
reply placed in the pipe, which the restart leaves; the requests behind it are dropped, and the rebuild runs
on record memory as it stands. That it waits for the earlier replies, and that the pipe has room for them all,
is the model's reading (log entry 19). -/
def Obligations.RestartPlacesRepliesAndRebuilds : Prop :=
  ∀ (s : State) (i tag : Nat) (bodies : List (List Byte)), s.serves i (.restart tag) → s.ordered →
    (s.link.queue.take i).map (·.stage) = bodies.map Stage.formed →
    ∃ t, exec (.restart tag) s = .next t ∧ Rebuilt s t ∧ t.link.queue = [] ∧ t.link.frame = [] ∧
      t.link.incoming = [] ∧ t.link.patronCtx = none ∧ t.link.titleCtx = none ∧
      t.link.events.enables = 0#15 ∧ t.link.backup = s.link.backup ∧
      t.link.pipe = s.link.pipe ++
        ((s.link.queue.take i).zip bodies).map (fun e => frameBytes (replyCode e.1.code) e.1.tag e.2) ++
          [frameBytes 0x83 tag [0x00#8]]

/-! ## Record Store -/

/-- R6, R49, R181: an accepted PATRON PUT in its CREATE form takes the lowest-numbered FREE record, holds the
fields sent with the limits clamped and everything else at its first value, becomes the patron context, and
is a planning trigger.
R14, R181: an accepted TITLE PUT in its CREATE form takes the lowest-numbered FREE record, not withdrawn,
AVAILABLE with no failures, every copy place ABSENT, and becomes the title context.
What of each record the reply carries is the model's (log entries 34, 35). -/
def Obligations.RecordsCreatedInLowestFree : Prop :=
  (∀ (s : State) (i tag number media cart set key k : Nat) (c : Cls),
    s.serves i (.patronPutCreate tag number media c.code cart set key) → s.quiet → s.ordered → s.numbered →
    1 ≤ number → number ≤ 99999999 → (mediaOf media).nonempty = true →
    (∀ e ∈ s.records.patrons, e.2.number ≠ number) → 1 ≤ k → k ≤ 2047 → s.patron k = none →
    (∀ j, 1 ≤ j → j < k → s.patron j ≠ none) → s.rolling = false →
    let p : Patron :=
      { number := number, state := .active, media := mediaOf media, cls := c,
        cartLimit := max 1 (min 6 cart), setLimit := min 4 set, cartCount := 0, setCount := 0, key := key,
        pauseUntil := none, lastService := none, deferral := .none, history := [], orders := [] }
    exec (.patronPutCreate tag number media c.code cart set key) s = .next
      ((((s.setPatron k p).setLink { s.link with patronCtx := some k }).replied i
        (u16 k ++ p.fields)).triggered)) ∧
  (∀ (s : State) (i tag cat pages check vols k : Nat) (f : Format),
    s.serves i (.titlePutCreate tag cat f.code pages check vols) → s.quiet → s.ordered → s.numbered →
    cat ≠ 0 → (f.hasImage = true → 1 ≤ pages ∧ pages ≤ 16711168) →
    (∀ e ∈ s.records.titles, e.2.catalogue ≠ cat) → 1 ≤ k → k ≤ 8191 → s.title k = none →
    (∀ j, 1 ≤ j → j < k → s.title j ≠ none) →
    let r : Title :=
      { catalogue := cat, format := f, withdrawn := false, pages := if f.hasImage then pages else 0,
        check := if f.hasImage then BitVec.ofNat 32 check else 0#32, bad := false, failures := 0,
        volumes := if f.hasImage then 0 else max 1 (min 40 vols),
        copies := if f.hasImage then [] else List.replicate 15 .absent, holds := [] }
    exec (.titlePutCreate tag cat f.code pages check vols) s = .next
      (((s.setTitle k r).setLink { s.link with titleCtx := some k }).replied i (u16 k ++ r.fields)))

/-- R7, R33, R36, R47, R49: an accepted PATRON PUT in its UPDATE form writes its fields over the record; a
changed class clears the oversize marks and a FILL_LOW deferral, a raised set limit of an ACTIVE patron
sweeps the queues that hold it, and it is a planning trigger. What
of the record the reply carries is the model's (log entry 34).
R9, R36, R49: an accepted PATRON PAUSE with a date later than today makes the patron PAUSED until it; with
no date it makes a PAUSED patron ACTIVE and sweeps the queues that hold it; either is a planning trigger. -/
def Obligations.PatronUpdatedPausedResumed : Prop :=
  (∀ (s : State) (i tag n number media cart set key k : Nat) (c : Cls) (r : Patron),
    s.serves i (.patronPutUpdate tag n number media c.code cart set key) → s.quiet →
    n ≤ 2047 → n = k ∧ n ≠ 0 ∨ n = 0 ∧ s.link.patronCtx = some k → s.patron k = some r →
    1 ≤ number → number ≤ 99999999 → (mediaOf media).nonempty = true → r.state ≠ .closed →
    (∀ e ∈ s.records.patrons, e.2.number = number → e.1 = k) → s.rolling = false →
    let p : Patron :=
      { r with
        number := number, media := mediaOf media, cls := c, cartLimit := max 1 (min 6 cart),
        setLimit := min 4 set, key := key,
        orders := if c = r.cls then r.orders else r.orders.map (fun e => { e with oversize := false }) }
    let u := if c = r.cls then s.setPatron k p else (s.setPatron k p).clearFillLow k
    let v := if r.setLimit < min 4 set ∧ r.state = .active then u.sweepPatron k else u
    exec (.patronPutUpdate tag n number media c.code cart set key) s = .next
      (((v.setLink { v.link with patronCtx := some k }).replied i (v.patronFields k)).triggered)) ∧
  ∀ (s : State) (i tag n y m d k : Nat) (r : Patron), s.serves i (.patronPause tag n y m d) → s.quiet →
    n ≤ 2047 → n = k ∧ n ≠ 0 ∨ n = 0 ∧ s.link.patronCtx = some k → s.patron k = some r →
    r.state ≠ .closed → s.rolling = false →
    (validDate y m d = true → s.today < dayNumber y m d →
      exec (.patronPause tag n y m d) s = .next
        ((((s.setPatron k { r with state := .paused, pauseUntil := some (dayNumber y m d) }).setLink
          { s.link with patronCtx := some k }).replied i []).triggered)) ∧
    (y = 0 ∧ m = 0 ∧ d = 0 → r.state = .paused →
      let v := (s.setPatron k { r with state := .active, pauseUntil := none }).sweepPatron k
      exec (.patronPause tag n y m d) s = .next
        (((v.setLink { v.link with patronCtx := some k }).replied i []).triggered)) ∧
    (y = 0 ∧ m = 0 ∧ d = 0 → r.state = .active →
      exec (.patronPause tag n y m d) s = .next
        (((s.setLink { s.link with patronCtx := some k }).replied i []).triggered)) ∧
    ((validDate y m d = false ∧ ¬(y = 0 ∧ m = 0 ∧ d = 0)) ∨
        (validDate y m d = true ∧ dayNumber y m d ≤ s.today) →
      exec (.patronPause tag n y m d) s = .next (s.formReply i { status := .range, fields := [] }))

/-- R10, R4, R24, R34: an accepted PATRON CLOSE leaves the patron CLOSED with no entry, no deferral and no
pause-until date, no live plan of the patron, none of its set items in the tray, and the patron in no Hold
Queue; its loans, history and number stay. Its cartridge count drops by its plans and its set count by its set
items, whose copies go back to the shelf, where the sweep may hand them out again. Whether the close of a deferred
patron that cancels no plan is a planning trigger is the model's choice (log entry 63). -/
def Obligations.PatronClosedAndReleased : Prop :=
  ∀ (s : State) (i tag n k : Nat) (r : Patron), s.serves i (.patronClose tag n) → s.quiet → s.ordered →
    n ≤ 2047 → n = k ∧ n ≠ 0 ∨ n = 0 ∧ s.link.patronCtx = some k → s.patron k = some r →
    r.state ≠ .closed → s.rolling = false →
    ∃ t p, exec (.patronClose tag n) s = .next t ∧
      t.answered i (u8 (s.plansOf k).length ++ u8 (s.setsOf k).length ++ u8 r.orders.length ++
        u8 (s.holdsOf k).length ++ u8 (s.loansOf k).length) ∧ t.patron k = some p ∧ p.state = .closed ∧
      p.orders = [] ∧ p.deferral = .none ∧ p.pauseUntil = none ∧ p.number = r.number ∧
      p.history = r.history ∧ (∀ e ∈ t.planner.plans, e.2.patron ≠ k) ∧
      (∀ x ∈ t.mail.tray, x.patron = k → x.kind.isSet = false) ∧
      (∀ e ∈ t.records.titles, k ∉ e.2.holds) ∧ t.records.loans = s.records.loans ∧
      t.records.lost = s.records.lost ∧ t.link.patronCtx = some k ∧ t.link.settings = s.link.settings ∧
      t.calendar = s.calendar ∧ t.returns = s.returns ∧ t.store.flash = s.store.flash ∧
      (s.shaped → s.plansBound → p.cartCount = r.cartCount - (s.plansOf k).length ∧
        p.setCount = r.setCount - (s.setsOf k).length ∧
        ∀ x ∈ s.setsOf k, ∀ ti c u, x.kind = .set ti c → s.title ti = some u → u.format = .pbraille →
          1 ≤ c → c ≤ 15 → ∃ w, t.title ti = some w ∧
            (w.copies[c - 1]? = some .shelf ∨ w.copies[c - 1]? = some .item))

/-- R15, R13: an accepted TITLE PUT in its UPDATE form. Of a paper title it writes catalogue number and
volumes; of another it writes catalogue number, pages and check, a changed check making the title AVAILABLE
with no failures. A change of pages or check is refused PINNED while the image is pinned and STATE while it
is FILLING.
R17, R36: TITLE WITHDRAW sets or clears the withdrawn mark and nothing else of the record; clearing it on a
withdrawn title with a copy on the shelf sweeps that title. What of the record the
reply carries is the model's (log entry 35). -/
def Obligations.TitleUpdatedAndWithdrawn : Prop :=
  (∀ (s : State) (i tag n cat pages check vols k : Nat) (r : Title),
    s.serves i (.titlePutUpdate tag n cat r.format.code pages check vols) → s.quiet → n ≤ 8191 →
    n = k ∧ n ≠ 0 ∨ n = 0 ∧ s.link.titleCtx = some k → s.title k = some r → cat ≠ 0 →
    (∀ e ∈ s.records.titles, e.2.catalogue = cat → e.1 = k) →
    (r.format = .pbraille →
      let u := { r with catalogue := cat, volumes := max 1 (min 40 vols) }
      exec (.titlePutUpdate tag n cat r.format.code pages check vols) s = .next
        (((s.setTitle k u).setLink { s.link with titleCtx := some k }).replied i u.fields)) ∧
    (r.format ≠ .pbraille → 1 ≤ pages → pages ≤ 16711168 →
      let new := BitVec.ofNat 32 check
      let u := { r with
        catalogue := cat, pages := pages, check := new, bad := if new = r.check then r.bad else false,
        failures := if new = r.check then r.failures else 0 }
      let marks (v : State) := if r.pages = pages then v else v.clearOversizeOf k
      (s.image k = none ∨ r.pages = pages ∧ new = r.check →
        exec (.titlePutUpdate tag n cat r.format.code pages check vols) s = .next
          (((marks (s.setTitle k u)).setLink { s.link with titleCtx := some k }).replied i u.fields)) ∧
      ∀ e, s.image k = some e → ¬(r.pages = pages ∧ new = r.check) →
        (0 < e.pins → exec (.titlePutUpdate tag n cat r.format.code pages check vols) s =
          .next (s.formReply i { status := .pinned, fields := [] })) ∧
        (e.pins = 0 → e.resident = false →
          exec (.titlePutUpdate tag n cat r.format.code pages check vols) s =
            .next (s.formReply i { status := .state, fields := [] })) ∧
        (e.pins = 0 → e.resident = true →
          exec (.titlePutUpdate tag n cat r.format.code pages check vols) s = .next
            (((marks (((s.removeImage k).spaceFreed).setTitle k u)).setLink
              { s.link with titleCtx := some k }).replied i u.fields).triggered))) ∧
  (∀ (s : State) (i tag n flag k : Nat) (r : Title), s.serves i (.titleWithdraw tag n flag) → s.quiet →
    n ≤ 8191 → n = k ∧ n ≠ 0 ∨ n = 0 ∧ s.link.titleCtx = some k → s.title k = some r →
    let u := s.setTitle k { r with withdrawn := decide (flag ≠ 0) }
    let v := if r.withdrawn = true ∧ flag = 0 ∧ .shelf ∈ r.copies then u.sweep [k] else u
    exec (.titleWithdraw tag n flag) s = .next
      (((v.setLink { v.link with titleCtx := some k }).replied i []).takeTrigger))

/-- R19, R18: ADD makes the lowest-numbered ABSENT places SHELF, as many as asked for and as there are;
REMOVE makes the highest-numbered SHELF places ABSENT; FOUND moves a MISSING copy to SHELF and removes its
Written-off List entry. ADD and FOUND sweep the title. That FOUND answers 1 as the count applied is the
model's reading (log entry 24), and so is the copy list of the reply (log entry 35). -/
def Obligations.CopiesAdjusted : Prop :=
  ∀ (s : State) (i tag n k : Nat) (r : Title), s.quiet → n ≤ 8191 →
    n = k ∧ n ≠ 0 ∨ n = 0 ∧ s.link.titleCtx = some k → s.title k = some r → r.format = .pbraille →
    s.rolling = false →
    (∀ count copies, s.serves i (.copiesAdjustAdd tag n 1 count) → 1 ≤ count → r.owned < 15 →
      (∀ j, copies[j]? = (r.copies[j]?).map (fun c =>
        if c = .absent ∧ (r.copies.take j).countP (fun d => decide (d = .absent)) < min count (15 - r.owned)
        then .shelf else c)) →
      let v := (s.setTitle k { r with copies := copies }).sweep [k]
      exec (.copiesAdjustAdd tag n 1 count) s = .next
        (((v.setLink { v.link with titleCtx := some k }).replied i
          (u8 (min count (15 - r.owned)) ++ v.copyFields k)).takeTrigger)) ∧
    (∀ count copies, s.serves i (.copiesAdjustRemove tag n count) → 1 ≤ count → count ≤ r.shelf →
      (∀ j, copies[j]? = (r.copies[j]?).map (fun c =>
        if c = .shelf ∧ (r.copies.drop (j + 1)).countP (fun d => decide (d = .shelf)) < count
        then .absent else c)) →
      let v := s.setTitle k { r with copies := copies }
      exec (.copiesAdjustRemove tag n count) s = .next
        ((v.setLink { v.link with titleCtx := some k }).replied i (u8 count ++ v.copyFields k))) ∧
    (∀ c, s.serves i (.copiesAdjustFound tag n c) → 1 ≤ c → c ≤ 15 → r.copies[c - 1]? = some .missing →
      let v := ((s.setTitle k { r with copies := r.copies.set (c - 1) .shelf }).setLost
        (s.records.lost.filter (fun l => !l.isCopy k c))).sweep [k]
      exec (.copiesAdjustFound tag n c) s = .next
        (((v.setLink { v.link with titleCtx := some k }).replied i (u8 1 ++ v.copyFields k)).takeTrigger)) ∧
    ∀ action count, s.serves i (.copiesAdjustAdd tag n action count) → action = 0 ∨ 3 < action →
      exec (.copiesAdjustAdd tag n action count) s =
        .next (s.formReply i { status := .range, fields := [] })

/-! ## Order Desk -/

/-- R26, R27, R28, R34, R49, R181: an accepted ORDER ADD creates one entry at its place, WAITING for a title
with an image. For a paper title the lowest-numbered shelf copy is allocated at once where the patron and
the tray can take it, and otherwise the patron joins the tail of the Hold Queue. -/
def Obligations.OrderAddedAtItsPlace : Prop :=
  ∀ (s : State) (i tag n m rush reread position k t : Nat) (p : Patron) (r : Title),
    s.serves i (.orderAdd tag n m rush reread position) → s.quiet →
    n ≤ 2047 → n = k ∧ n ≠ 0 ∨ n = 0 ∧ s.link.patronCtx = some k → s.patron k = some p →
    m ≤ 8191 → m = t ∧ m ≠ 0 ∨ m = 0 ∧ s.link.titleCtx = some t → s.title t = some r →
    p.state ≠ .closed → r.withdrawn = false → p.media.holds r.format = true →
    (∀ e ∈ p.orders, e.title ≠ t) → s.onLoan k t r.catalogue = false →
    (r.catalogue ∈ p.history → reread ≠ 0) → p.orders.length < 24 → s.rolling = false →
    let place := if position = 0 ∨ p.orders.length < position then p.orders.length + 1 else position
    let entry (st : EntryState) : OrderEntry :=
      { title := t, rush := decide (rush ≠ 0), added := s.today, oversize := false, state := st }
    let added (st : EntryState) := (s.setPatron k
      { p with orders := p.orders.take (place - 1) ++ entry st :: p.orders.drop (place - 1) }).clearFillLow k
    let done (v : State) (reply : List Byte) :=
      ((v.setLink { v.link with patronCtx := some k, titleCtx := some t }).replied i reply).triggered
    (r.format ≠ .pbraille → exec (.orderAdd tag n m rush reread position) s = .next
      (done (added .waiting) (u8 place ++ [0#8, 0#8, 0#8, 0#8, 0#8]))) ∧
    (∀ c, r.format = .pbraille → p.state = .active → p.setCount < p.setLimit → s.setItems < 32 →
      r.shelfCopy = some c → exec (.orderAdd tag n m rush reread position) s = .next
        (done ((added (.allocated s.nextItem c)).allocate k t c)
          (u8 place ++ u8 3 ++ u16 s.nextItem ++ u8 c ++ u8 0))) ∧
    (r.format = .pbraille → r.holds.length < 8 → k ∉ r.holds →
      (p.state = .paused ∨ p.setLimit ≤ p.setCount ∨ 32 ≤ s.setItems ∨ r.shelfCopy = none) →
      exec (.orderAdd tag n m rush reread position) s = .next
        (done ((added .hold).setTitle t { r with holds := r.holds ++ [k] })
          (u8 place ++ [2#8, 0#8, 0#8, 0#8] ++ u8 (r.holds.length + 1))))

/-- R29, R34, R36, R117: ORDER DROP removes the entry. A PLANNED one is refused STATE; a HOLD one leaves the Hold
Queue; an ALLOCATED one has its set item withdrawn, and the titles this can serve are swept.
R31, R24: ORDER MOVE takes out the entry at one place and inserts it at another, clamped to the list; the
others keep their order. A from-position of 0 or beyond the list is refused RANGE. -/
def Obligations.OrdersDroppedAndMoved : Prop :=
  (∀ (s : State) (i tag n m k t : Nat) (p : Patron) (e : OrderEntry),
    s.serves i (.orderDrop tag n m) → s.quiet →
    n ≤ 2047 → n = k ∧ n ≠ 0 ∨ n = 0 ∧ s.link.patronCtx = some k → s.patron k = some p →
    m ≤ 8191 → m = t ∧ m ≠ 0 ∨ m = 0 ∧ s.link.titleCtx = some t → s.title t ≠ none →
    p.orders.find? (fun e => decide (e.title = t)) = some e → s.rolling = false →
    let u := (s.setPatron k { p with orders := p.orders.filter (fun e => decide (e.title ≠ t)) }).clearFillLow k
    let done (v : State) (reply : List Byte) :=
      ((v.setLink { v.link with patronCtx := some k, titleCtx := some t }).replied i reply).triggered
    (e.state = .waiting →
      exec (.orderDrop tag n m) s = .next (done u [0#8, 0#8, 0#8, 0#8])) ∧
    (e.state = .hold →
      exec (.orderDrop tag n m) s = .next (done (u.leaveHold k t) [2#8, 0#8, 0#8, 0#8])) ∧
    (∀ j c x, e.state = .allocated j c → s.item j = some x →
      let v := u.withdrawSet x
      exec (.orderDrop tag n m) s = .next (done
        (v.sweep (v.titlesWhere (fun j r => decide (j = t) || queueHolds k j r || shelfAndQueue j r)))
        (u8 3 ++ u16 j ++ u8 c))) ∧
    (∀ plan, e.state = .planned plan →
      exec (.orderDrop tag n m) s = .next (s.formReply i { status := .state, fields := [] }))) ∧
  (∀ (s : State) (i tag n a b k : Nat) (p : Patron), s.serves i (.orderMove tag n a b) → s.quiet →
    n ≤ 2047 → n = k ∧ n ≠ 0 ∨ n = 0 ∧ s.link.patronCtx = some k → s.patron k = some p →
    (a = 0 ∨ p.orders.length < a →
      exec (.orderMove tag n a b) s = .next (s.formReply i { status := .range, fields := [] })) ∧
    ∀ e, 1 ≤ a → p.orders[a - 1]? = some e → s.rolling = false →
      let place := max 1 (min p.orders.length b)
      let others := p.orders.eraseIdx (a - 1)
      let u := if a = place then s
        else (s.setPatron k
          { p with orders := others.take (place - 1) ++ e :: others.drop (place - 1) }).clearFillLow k
      exec (.orderMove tag n a b) s = .next
        ((u.setLink { u.link with patronCtx := some k }).replied i (u8 place ++ u16 e.title)).triggered)

/-- R35, R36, R38, R18, R114: one allocation of the hold sweep. The first patron of a title's queue that is ACTIVE,
below its set limit, with tray room left, takes the lowest-numbered shelf copy: it leaves the queue, the
copy moves to ITEM, a set item joins the tray in AWAITING_PULL under the next number, the set count rises,
the entry is ALLOCATED, and HOLD_FILLED is raised. A withdrawn title, an empty shelf or a queue with no
such patron is left alone. -/
def Obligations.SweepAllocatesToFirstAble : Prop :=
  ∀ (s : State) (t fuel : Nat) (r : Title), s.title t = some r →
    let able (p : Nat) : Bool :=
      match s.patron p with
      | some q => decide (q.state = .active ∧ q.setCount < q.setLimit ∧ s.setItems < 32)
      | none => false
    (r.withdrawn = true ∨ r.shelfCopy = none ∨ r.holds.find? able = none → s.sweepTitle t (fuel + 1) = s) ∧
    ∀ c p, r.withdrawn = false → r.shelfCopy = some c → r.holds.find? able = some p →
      let u := s.setTitle t
        { r with holds := r.holds.filter (fun q => decide (q ≠ p)), copies := r.copies.set (c - 1) .item }
      let v := (u.setMail { u.mail with
        tray := u.mail.tray ++ [{ number := s.nextItem, patron := p, kind := .set t c, state := .awaitingPull }],
        lastItem := s.nextItem }).raiseSets p
      s.sweepTitle t (fuel + 1) =
        ((v.setEntry p t (.allocated s.nextItem c)).raise .holdFilled).sweepTitle t fuel

/-! ## Planner -/

/-- R57, R49: PLAN NOW is a planning trigger and answers STARTED (0) or RERUN (1) with the numbers of live
plans and of plans in the queue. R55, R33, R4: an accepted PLAN CANCEL ends the plan without fault. It leaves
the Plan Table, the Job Queue, its slot and the tray, its entries return to WAITING and the patron's
cartridge count drops by one; loans, titles, the calendar and the bins are not touched. -/
def Obligations.PlanNowAndPlanCancel : Prop :=
  (∀ (s : State) (i tag : Nat), s.serves i (.planNow tag) → s.quiet →
    exec (.planNow tag) s = .next (s.replied i
      (u8 (if s.planner.pass = none then 0 else 1) ++ u8 s.planner.plans.length ++
        u8 s.planner.queue.length)).triggered) ∧
  ∀ (s : State) (i tag n : Nat) (p : Plan) (r : Patron), s.serves i (.planCancel tag n) → s.quiet →
    s.ordered → n ≠ 0 → s.plan n = some p → s.patron p.patron = some r → s.rolling = false →
    (∀ m ∈ slotNumbers, (s.slot m).job = some n → p.state = .inSlot m) →
    (n ∈ s.planner.queue → p.state = .queued) →
    ∃ t q, exec (.planCancel tag n) s = .next t ∧
      t.answered i (u8 p.state.code ++ u16 p.patron ++ u16 p.state.item ++ u32 (s.itemSerial p.state.item)) ∧
      t.plan n = none ∧ n ∉ t.planner.queue ∧ (∀ m ∈ slotNumbers, (t.slot m).job ≠ some n) ∧
      (∀ x ∈ t.mail.tray, p.state ≠ .mailing x.number) ∧ t.patron p.patron = some q ∧
      q.cartCount = r.cartCount - 1 ∧ q.number = r.number ∧ q.history = r.history ∧
      q.orders = r.orders.map (fun e => if e.state = .planned n then { e with state := .waiting } else e) ∧
      t.records.titles = s.records.titles ∧ t.records.loans = s.records.loans ∧
      t.records.lost = s.records.lost ∧ t.calendar = s.calendar ∧ t.returns = s.returns ∧
      t.store.flash = s.store.flash ∧ t.link.settings = s.link.settings

/-- R48: the step of a running pass. The stop test ends the pass at 64 live plans or 16 queued ones; a patron
no longer ACTIVE, no longer below its limit, or deferred is passed over; another is packed, and its plan
committed when it passes the floor test (R44) and admission (R50), else the patron deferred (R47). A pass at
the end of its list begins again if the re-run mark is set, and ends otherwise; that the stop test's end does so
too is the model's reading (log entry 31), with an empty Service List ending the pass at once (log entry 6) and
a step with no pass running changing nothing (log entry 4). -/
def Obligations.PassTakesNextPatron : Prop :=
  ∀ s : State, s.quiet →
    (s.run ≠ .running ∨ s.planner.pass = none → exec .passPatronStep s = .next s) ∧
    ∀ k rest, s.run = .running → s.planner.pass = some (k :: rest) →
      let ended (v : State) :=
        if v.planner.rerun then v.beginPass else v.setPlanner { v.planner with pass := none }
      let last (v : State) := if rest = [] then ended v else v
      let u := s.setPlanner { s.planner with pass := some rest }
      (64 ≤ s.planner.plans.length ∨ 16 ≤ s.planner.queue.length →
        exec .passPatronStep s = .next (ended s)) ∧
      (s.planner.plans.length < 64 → s.planner.queue.length < 16 →
        (s.patron k = none → exec .passPatronStep s = .next (last u)) ∧
        ∀ p, s.patron k = some p →
          (p.state ≠ .active ∨ p.cartLimit ≤ p.cartCount ∨ p.deferral ≠ .none →
            exec .passPatronStep s = .next (last u)) ∧
          (p.state = .active → p.cartCount < p.cartLimit → p.deferral = .none →
            let w := s.pack p
            let marked := { p with orders := markOversize w.oversize p.orders }
            let m := u.setPatron k marked
            let plan := planOf k w.taken
            (w.taken = [] → exec .passPatronStep s = .next (last m)) ∧
            (w.taken ≠ [] → p.cartCount ≠ 0 → plan.fill < s.link.settings.floor →
              exec .passPatronStep s = .next (last (u.setPatron k { marked with deferral := .fillLow }))) ∧
            (w.taken ≠ [] → p.cartCount = 0 ∨ s.link.settings.floor ≤ plan.fill →
              m.admissible plan.titles = false →
              exec .passPatronStep s = .next (last (u.setPatron k { marked with deferral := .storeSpace }))) ∧
            (w.taken ≠ [] → p.cartCount = 0 ∨ s.link.settings.floor ≤ plan.fill →
              m.admissible plan.titles = true →
              exec .passPatronStep s = .next (last (m.commit plan).takeTrigger))))

/-- R42, R43: the candidates are the entries at positions 1 to W of the Order List that are WAITING and whose
title is not withdrawn, is AVAILABLE and has an image in a format of the patron's media set, the rush entries first,
each group in position order. The walk takes them in that order, with the player's capacity as its room: after 8
titles it takes no more; a candidate larger than the capacity is marked oversize; one that fits the room left is
taken and lowers it; another is passed over.
R44, R45: the titles taken are placed in their order one after another from block 1, each with the blocks its pages
need; the cartridge is of the smallest class that holds them, no larger than the patron's player, the fill is the
used per-mille rounded down, and the plan has the rush flag exactly if a title taken came from a rush entry.
R46: the Service List holds the patrons that are ACTIVE, below their limit and without deferral, with a candidate
that carries no oversize mark in the window; those without a last-service date come first, then the oldest date,
and of equal dates the lowest index. -/
def Obligations.PlanFitsItsCartridge : Prop :=
  ∀ s : State,
    let fits (p : Patron) (e : OrderEntry) : Prop := e.state = .waiting ∧
      ∃ t, s.title e.title = some t ∧ t.format.hasImage = true ∧ p.media.holds t.format = true ∧
        t.withdrawn = false ∧ t.bad = false
    let within (p : Patron) : List OrderEntry := p.orders.take s.link.settings.window
    (∀ p e, s.candidate p e = true ↔ fits p e) ∧
    (∀ p, s.candidates p =
      (within p).filter (fun e => s.candidate p e && e.rush) ++
        (within p).filter (fun e => s.candidate p e && !e.rush)) ∧
    (∀ p, ∃ w : Nat → Walk, w 0 = { taken := [], oversize := [], room := p.cls.usable } ∧
      s.pack p = w (s.candidates p).length ∧
      ∀ j e t, (s.candidates p)[j]? = some e → s.title e.title = some t →
        let size := (t.pages + 511) / 512
        (8 ≤ (w j).taken.length → w (j + 1) = w j) ∧
        ((w j).taken.length < 8 →
          (p.cls.usable < size → w (j + 1) = { w j with oversize := (w j).oversize ++ [e.title] }) ∧
          (size ≤ p.cls.usable → size ≤ (w j).room → w (j + 1) =
            { w j with
              taken := (w j).taken ++ [{ title := e.title, pages := t.pages, rush := e.rush }],
              room := (w j).room - size }) ∧
          (size ≤ p.cls.usable → (w j).room < size → w (j + 1) = w j))) ∧
    (∀ (l : List Nat) (orders : List OrderEntry) (j : Nat), (markOversize l orders)[j]? =
      (orders[j]?).map (fun e => if e.title ∈ l then { e with oversize := true } else e)) ∧
    (∀ (k : Nat) (p : Patron), (s.pack p).taken ≠ [] →
      let taken := (s.pack p).taken
      let plan := planOf k taken
      plan.patron = k ∧ plan.faults = 0 ∧ plan.state = .queued ∧ plan.placements ≠ [] ∧
      plan.placements.length ≤ 8 ∧
      (plan.placements.map (·.title)).Sublist ((s.candidates p).map (·.title)) ∧
      plan.placements.map (fun q => (q.title, q.pages)) = taken.map (fun x => (x.title, x.pages)) ∧
      (plan.rush = true ↔ ∃ x ∈ taken, x.rush = true) ∧
      (∀ j q, plan.placements[j]? = some q →
        q.start = 1 + ((plan.placements.take j).map (·.blocks)).sum ∧ q.blocks = (q.pages + 511) / 512 ∧
        ∃ t, s.title q.title = some t ∧ t.pages = q.pages ∧ t.withdrawn = false ∧ t.bad = false ∧
          t.format.hasImage = true ∧ p.media.holds t.format = true) ∧
      plan.used = (plan.placements.map (·.blocks)).sum ∧ plan.used ≤ plan.cls.usable ∧
      plan.cls.rank ≤ p.cls.rank ∧ (∀ c : Cls, plan.used ≤ c.usable → plan.cls.rank ≤ c.rank) ∧
      plan.fill = plan.used * 1000 / plan.cls.usable) ∧
    (s.ordered →
      (∀ k, k ∈ s.serviceList ↔ ∃ p, s.patron k = some p ∧ p.state = .active ∧ p.cartCount < p.cartLimit ∧
        p.deferral = .none ∧ ∃ e ∈ within p, fits p e ∧ e.oversize = false) ∧
      s.serviceList.Pairwise (fun k m => ∀ p q, s.patron k = some p → s.patron m = some q →
        (p.lastService = none ∧ q.lastService ≠ none) ∨
          (∃ d e, p.lastService = some d ∧ q.lastService = some e ∧ d < e) ∨
          (p.lastService = q.lastService ∧ k < m)))

/-- R50, R51, R33, R4, R66, R53: a commit takes the next plan number, binds the patron's entries of the placed titles
to it, raises the cartridge count by one, adds one pin to every placed title, raises FETCH_WANTED if a title
needed an image, and touches no title record, loan or setting. The plan is QUEUED and joins the tail of its group
in the Job Queue, rush plans before the others; where matching finds it an available slot it leaves the queue at
once and is IN_SLOT there. -/
def Obligations.CommitRecordsPlan : Prop :=
  ∀ (s : State) (k : Nat) (p : Patron) (plan : Plan), s.patron k = some p → plan.patron = k →
    p.deferral = .none → (plan.placements.map (·.title)).Nodup →
    let n := s.nextPlan
    let t := s.commit plan
    t.planner.lastPlan = n ∧ (∃ q, t.plan n = some q ∧ q = { plan with state := q.state }) ∧
    t.patron k = some
      { p with
        cartCount := p.cartCount + 1,
        orders := p.orders.map (fun e =>
          if e.title ∈ plan.placements.map (·.title) then { e with state := .planned n } else e) } ∧
    (∀ q ∈ plan.placements, t.pins q.title = s.pins q.title + 1) ∧
    ((∃ q ∈ plan.placements, s.image q.title = none) →
      (t.link.events.main ||| t.link.events.pending).getLsbD Flag.fetchWanted.bit = true) ∧
    t.records.titles = s.records.titles ∧ t.records.loans = s.records.loans ∧
    t.records.lost = s.records.lost ∧ t.mail = s.mail ∧ t.returns = s.returns ∧ t.calendar = s.calendar ∧
    t.store.flash = s.store.flash ∧ t.link.queue = s.link.queue ∧ t.link.settings = s.link.settings ∧
    (plan.state = .queued → n ∉ s.planner.queue →
      let group := s.rushJobs s.planner.queue
      let joined :=
        if plan.rush then s.planner.queue.take group ++ n :: s.planner.queue.drop group
        else s.planner.queue ++ [n]
      t.planner.queue.Sublist joined ∧
      (n ∈ t.planner.queue ∧ t.plan n = some plan ∨
        n ∉ t.planner.queue ∧ ∃ m ∈ slotNumbers, t.plan n = some { plan with state := .inSlot m } ∧
          (t.slot m).job = some n) ∧
      ((∀ m ∈ slotNumbers, (s.slot m).available = false) →
        t.planner.queue = joined ∧ t.plan n = some plan ∧ t.rack = s.rack))

/-! ## Image Store -/

/-- R61, R62, R63, R71: the flash gives back the bytes last stored and every other byte as it was; and while the
pool holds enough blocks an allocation gives as many as asked for, all different, none of them held, none
outside the store. Image block 0 goes to the bank with the most free blocks, the lowest number among equals, and
each next block to the next bank of the cycle that has a free one; a block taken is the lowest free of its
bank. -/
def Obligations.StoreKeepsBytesAndBlocks : Prop :=
  (∀ (m : List Host.Cell) (a x : Nat) (bytes : List Byte),
    flashByte (flashWrite m a bytes) x =
      if a ≤ x ∧ x < a + bytes.length then bytes.getD (x - a) Config.erasedByte else flashByte m x) ∧
  (∀ (used : List Nat) (n : Nat), used.Nodup → (∀ b ∈ used, b < 131072) → used.length + n ≤ 131072 →
    (allocateBlocks used n).length = n ∧ (allocateBlocks used n).Nodup ∧
      ∀ b ∈ allocateBlocks used n, b ∉ used ∧ b < 131072) ∧
  (∀ (used : List Nat) (n : Nat),
    let free (b : Nat) := 32768 - used.countP (fun x => decide (x / 32768 = b))
    ∃ b, b < 4 ∧ (∀ k, k < 4 → free k ≤ free b) ∧ (∀ k, k < b → free k < free b) ∧
      allocateBlocks used n = allocateFrom used b n) ∧
  (∀ (used : List Nat) (b : Nat), allocateFrom used b 0 = []) ∧
  ∀ (used : List Nat) (b n : Nat), b < 4 → (∃ x, x < 131072 ∧ x ∉ used) →
    ∃ d x, d < 4 ∧ x / 32768 = (b + d) % 4 ∧ x ∉ used ∧
      (∀ y, y / 32768 = (b + d) % 4 → y < x → y ∈ used) ∧
      (∀ j y, j < d → y / 32768 = (b + j) % 4 → y ∈ used) ∧
      allocateFrom used b (n + 1) = x :: allocateFrom (x :: used) ((b + d + 1) % 4) n

/-- R50, R62, R64, R67: admission and eviction. A plan, or a PRELOAD, is admitted exactly if its titles without an
image need no more blocks than are free or held by the unpinned RESIDENT images of other titles, no more entries
than are free or held by those, and no more fetches than the 16 leave. Eviction walks the recency order from its
least recent end and removes the images of no pin whose title is not admitted, one by one, passing over the others,
until the free blocks and entries are enough; it removes none where they are so at once, and one that removes any
clears the STORE_SPACE deferrals and is a planning trigger. After an admission has been granted it finds enough. -/
def Obligations.AdmissionAndEviction : Prop :=
  (∀ (s : State) (titles : List (Nat × Nat)),
    let needed := titles.filter (fun e => decide (s.image e.1 = none))
    let out := s.store.images.filter (fun e =>
      e.2.resident && decide (e.2.pins = 0) && decide (∀ x ∈ titles, x.1 ≠ e.1))
    let held := s.store.images.flatMap (fun e => e.2.blocks)
    (s.admissible titles = true ↔
      (needed.map (·.2)).sum ≤ (131072 - held.length) + (out.map (fun e => e.2.blocks.length)).sum ∧
      needed.length ≤ (192 - s.store.images.length) + out.length ∧
      needed.length ≤ 16 - s.store.fetches.length)) ∧
  ∀ (s : State) (titles : List Nat) (blocks places : Nat), s.ordered →
    let t := s.evict titles s.store.recency blocks places
    let out (x : Nat) : Bool := decide (x ∉ titles) &&
      match s.image x with
      | some e => decide (e.pins = 0)
      | none => true
    let kept (gone : List Nat) : Table Image := s.store.images.filter (fun e => decide (e.1 ∉ gone))
    let room (gone : List Nat) : Prop :=
      blocks ≤ 131072 - ((kept gone).flatMap (fun e => e.2.blocks)).length ∧ places ≤ 192 - (kept gone).length
    (room [] → t = s) ∧
    ∃ walked rest, s.store.recency = walked ++ rest ∧
      (rest = [] ∨ room (walked.filter out)) ∧
      (∀ pre x post, walked = pre ++ x :: post → ¬room (pre.filter out)) ∧
      (walked.filter out = [] → t = s) ∧
      (walked.filter out ≠ [] → t = ((s.setStore { s.store with
        images := kept (walked.filter out),
        recency := s.store.recency.filter (fun x => decide (x ∉ walked.filter out)) }).setRecords
          { s.records with
            patrons := s.records.patrons.map (fun e =>
              (e.1, if e.2.deferral = .storeSpace then { e.2 with deferral := .none } else e.2)) }).setPlanner
          { s.planner with due := true }) ∧
      (∀ plan : List (Nat × Nat), titles = plan.map (·.1) → s.imagesRight → s.admissible plan = true →
        blocks = ((plan.filter (fun e => decide (s.image e.1 = none))).map (·.2)).sum →
        places = (plan.filter (fun e => decide (s.image e.1 = none))).length → room (walked.filter out))

/-- R70: FETCH NEXT starts the first WAITING fetch, younger than any stream running, at frame 0. With 2 streams
running or none waiting it is refused STATE with both numbers.
R72, R61, R71, R179: an IMAGE DATA is judged by the first case that applies; a frame at its stream's next
place is handed to the bank of its block, only the pages of the image with it, and its reply waits; a frame
behind one still being written waits unserved. The next frame in the DUPLICATE reply is the model's (log entry 51). -/
def Obligations.StreamsStartedAndFed : Prop :=
  (∀ (s : State) (i tag : Nat), s.serves i (.fetchNext tag) → s.quiet →
    (∀ f r, s.store.fetches.find? (fun f => decide (f.state = .waiting)) = some f → s.streams < 2 →
      s.title f.title = some r →
      exec (.fetchNext tag) s = .next ((s.setFetches (s.store.fetches.map (fun g =>
        if g.id = f.id then { g with state := .streaming (decide (s.streams = 0)), next := 0 } else g))).replied i
          (u8 f.id ++ u32 r.catalogue ++ u16 f.title ++ u32 r.pages ++ u32 f.expected ++ u8 f.retries ++
            u8 (if 0 < s.pins f.title then 0 else 1)))) ∧
    (2 ≤ s.streams ∨ (∀ f ∈ s.store.fetches, f.state ≠ .waiting) →
      exec (.fetchNext tag) s = .next (s.formReply i
        { status := .state,
          fields := u8 s.streams ++ u8 (s.store.fetches.countP (fun f => decide (f.state = .waiting))) }))) ∧
  (∀ (s : State) (i tag id fr : Nat) (data : List Byte), s.serves i (.imageData tag id fr data) → s.quiet →
    let reply (r : Reply) := exec (.imageData tag id fr data) s = .next (s.formReply i r)
    (data.length ≠ 4096 → reply { status := .length, fields := [] }) ∧
    (data.length = 4096 → s.fillOutstanding id = true → exec (.imageData tag id fr data) s = .next s) ∧
    (data.length = 4096 → s.fillOutstanding id = false →
      (s.fetch id = none → reply { status := .noRecord, fields := [] }) ∧
      ∀ f, s.fetch id = some f →
        (f.expected ≤ fr → reply { status := .range, fields := [] }) ∧
        (fr < f.expected → f.state = .waiting → reply { status := .state, fields := [] }) ∧
        (fr < f.expected → f.state ≠ .waiting → fr < f.next →
          reply { status := .ok, fields := [0#8] ++ u32 f.next ++ [0#8, 0#8] }) ∧
        (fr < f.expected → f.state ≠ .waiting → f.next < fr →
          reply { status := .sequence, fields := u32 f.next }) ∧
        (∀ e r, fr < f.expected → f.state ≠ .waiting → fr = f.next → s.image f.title = some e →
          s.title f.title = some r →
          exec (.imageData tag id fr data) s = .next
            ((s.setQueue (setStage s.link.queue i (.writing id))).handFill
              { fetch := id, title := f.title, frame := fr, block := e.blocks.getD (fr / 64) 0,
                place := fr % 64,
                data := if fr + 1 = (r.pages + 7) / 8 ∧ r.pages % 8 ≠ 0 then data.take (512 * (r.pages % 8))
                  else data,
                live := true }))))

/-- R71 to R75, R77, R79: the completion of a bank's fill write stores the frame. Of a fetch that still stands, a
frame before the last raises the sum, the frames filled and the next frame, and notifies the slots; the last frame
makes the image RESIDENT when the sum is the check, the slots in WAIT_IMAGE on any block of it going on in
PROGRAMMING, returns the fetch to WAITING at the head of the queue with one
retry more when it is not, and at retries 2 makes the title IMAGE_BAD. A mismatch aborts every slot that has read
from the entry, no plan's faults rising, and a slot whose first read still waits has it withdrawn and goes back to
WAIT_IMAGE, which is the model's choice (log entry 57). A fetch that has ended has its reply NO_RECORD. The work of
the completion before the bank's grant (log entry 25), the bytes of the pages beyond the image (log entry 2) and the
reply's other fields (log entries 12, 39) are the model's. -/
def Obligations.FillWriteCompletes : Prop :=
  ∀ (s : State) (b : Nat) (f : FillOp), s.run = .running → s.quiet → b < 4 →
    (s.bank b).current = some (.fill f) →
    let stored := s.setStore { s.store with
      flash := flashWrite s.store.flash (f.block * 262144 + f.place * 4096)
        (f.data ++ List.replicate (4096 - f.data.length) Config.erasedByte) }
    (f.live = false ∨ s.fetch f.fetch = none →
      exec (.fillWriteComplete b) s = .next
        (((stored.formWriting f.fetch { status := .noRecord, fields := [] }).grantNext b).takeTrigger)) ∧
    ∀ g e r, f.live = true → s.fetch f.fetch = some g → s.image f.title = some e →
      s.title f.title = some r →
      let sum := e.sum + wordSum f.data
      (g.next + 1 ≠ g.expected →
        let counted := (stored.setImage f.title { e with sum := sum, filled := e.filled + 1 }).setFetches
          (s.store.fetches.map (fun h => if h.id = f.fetch then { h with next := h.next + 1 } else h))
        exec (.fillWriteComplete b) s = .next
          ((((slotNumbers.foldl (fun v n => v.notify f.title n) counted).formWriting f.fetch
            { status := .ok, fields := [0#8] ++ u32 (g.next + 1) ++ [0#8, 0#8] }).grantNext b).takeTrigger)) ∧
      (g.next + 1 = g.expected → sum = r.check →
        ∃ t, exec (.fillWriteComplete b) s = .next t ∧
          t.image f.title = some { e with resident := true, sum := sum, filled := e.filled + 1 } ∧
          t.title f.title = some { r with failures := 0 } ∧
          (∀ i q, s.link.queue[i]? = some q → q.stage = .writing f.fetch →
            (∀ j y, j < i → s.link.queue[j]? = some y → y.stage ≠ .writing f.fetch) →
            t.answered i ([1#8] ++ u32 g.expected ++ u8 f.fetch ++ [0#8])) ∧
          (∀ h ∈ t.store.fetches, h.id ≠ f.fetch) ∧
          t.store.recency = s.store.recency.filter (fun x => decide (x ≠ f.title)) ++ [f.title] ∧
          (s.shaped → ∀ n ∈ slotNumbers, (t.slot n).state =
            if (s.slot n).state = .waitImage ∧ (s.placementOf (s.slot n)).map (·.title) = some f.title ∧
              (s.slot n).cursor.image < e.blocks.length then .programming else (s.slot n).state) ∧
          t.store.flash = stored.store.flash) ∧
      (g.next + 1 = g.expected → sum ≠ r.check → g.retries < 2 →
        ∃ t blocks, exec (.fillWriteComplete b) s = .next t ∧
          t.image f.title = some { e with resident := false, blocks := blocks, filled := 0, sum := 0#32 } ∧
          t.title f.title = some { r with failures := r.failures + 1 } ∧
          t.store.fetches.head? = some { g with state := .waiting, next := 0, retries := g.retries + 1 } ∧
          (t.link.events.main ||| t.link.events.pending).getLsbD Flag.fetchWanted.bit = true ∧
          t.store.flash = stored.store.flash ∧
          (∀ j p, s.plan j = some p → ∃ q, t.plan j = some q ∧ q = { p with state := q.state }) ∧
          (s.shaped → ∀ n ∈ slotNumbers,
            (s.hasRead f.title n = true → (t.slot n).readMark = false ∧
              ((t.slot n).state = .idleDirty ∨ (t.slot n).state = .preErase ∨ (t.slot n).state = .erasing) ∧
              (t.slot n).cart = (s.slot n).cart.map (fun c =>
                { c with marker := .dirty, planTag := 0, lastUsed := 0 })) ∧
            (s.hasRead f.title n = false → s.readWaiting n = true →
              (s.placementOf (s.slot n)).map (·.title) = some f.title →
              t.slot n = { s.slot n with state := .waitImage } ∧ t.readWaiting n = false)) ∧
          (∀ i q, s.link.queue[i]? = some q → q.stage = .writing f.fetch →
            (∀ j y, j < i → s.link.queue[j]? = some y → y.stage ≠ .writing f.fetch) →
            t.answered i ([2#8] ++ u32 g.expected ++ u8 f.fetch ++ u8 g.retries))) ∧
      (g.next + 1 = g.expected → sum ≠ r.check → 2 ≤ g.retries → s.ordered →
        ∃ t, exec (.fillWriteComplete b) s = .next t ∧ t.image f.title = none ∧
          t.title f.title = some { r with bad := true, failures := 3 } ∧
          (∀ h ∈ t.store.fetches, h.id ≠ f.fetch) ∧
          (∀ x ∈ t.planner.plans, ∀ q ∈ x.2.placements, q.title ≠ f.title) ∧
          t.store.flash = stored.store.flash)

/-- R78, R79, R96, R103: the completion of a bank's frame read. A slot that takes the frame puts it in its block
buffer and asks for the permit of its next page; a frame awaited by a slot to be held is discarded and the
slot HELD; one awaited under the finishing mark is discarded and the mark clears; another is discarded. The
bank then grants its next operation. That a granted read is awaited before the slot is HELD, or its mark clear,
is the model's reading (log entry 8), as is that a frame partly programmed before a hold is read again and
programmed on from the cursor's page (log entry 33). What the bank grants is BanksGrantTheirOperations; the slot
HELD keeps no record for a write still to be refused (log entry 46). -/
def Obligations.FrameReadCompletes : Prop :=
  ∀ (s : State) (b : Nat) (r : ReadOp), s.run = .running → s.quiet → s.shaped → b < 4 → 1 ≤ r.slot →
    r.slot ≤ 8 → (s.bank b).current = some (.read r) →
    let sl := s.slot r.slot
    let frame := flashRead s.store.flash (r.block * 262144 + r.place * 4096) 4096
    (∀ p, r.fate = .deliver → sl.cursor.erased = true → s.placementOf sl = some p →
      sl.cursor.frame < p.blockFrames sl.cursor.image → sl.buffer.length = sl.cursor.frame →
      exec (.frameReadComplete b) s = .next (((s.setSlot r.slot
        { sl with
          buffer := sl.buffer ++ [frame], cursor := { sl.cursor with inBuffer := true },
          op := some
            { op := .grantPermit (.program (sl.target p) (8 * sl.cursor.frame + sl.cursor.page)
                ((frame.drop (512 * sl.cursor.page)).take 512)),
              elapsed := 0 } }).grantNext b).takeTrigger)) ∧
    (r.fate = .awaited → sl.finishing = false → sl.holdPending = true →
      exec (.frameReadComplete b) s = .next (((s.setSlot r.slot
        { sl with
          state := .held, remembered := sl.state.phase, holdPending := false, op := none,
          awaiting := false, unstarted := none }).grantNext b).takeTrigger)) ∧
    (r.fate = .awaited → sl.finishing = true →
      exec (.frameReadComplete b) s = .next (((s.setSlot r.slot
        { sl with
          op := none, suspended := none, awaiting := false, finishing := false,
          readBack := none }).matchJobs.grantNext b).takeTrigger)) ∧
    (r.fate = .dropped → exec (.frameReadComplete b) s = .next ((s.grantNext b).takeTrigger))

/-- R78, R79, R96: the arbiter of a bank. Of the fill writes that wait it grants the one of the older stream, of which
there is one at most, and with only the younger stream's waiting that one; with no fill write waiting, the read of
the first waiting slot counting upward cyclically from the slot after the one it last served, which becomes the one
last served and has its read-from-image mark set; and with nothing waiting it is idle. An operation handed to an
idle bank is granted at once, and otherwise waits behind those of its kind, in the bank that holds its block. A slot
that loses its read has one that waits withdrawn and one granted discarded at its end, the last-served slot staying;
so has a stream its fill write. -/
def Obligations.BanksGrantTheirOperations : Prop :=
  (∀ (s : State) (b : Nat),
    let k := s.bank b
    let older (f : FillOp) : Prop := ∃ g, s.fetch f.fetch = some g ∧ g.state = .streaming true
    (∀ pre f post, k.fills = pre ++ f :: post →
      (older f ∧ ∀ x ∈ pre, ¬older x) ∨ (pre = [] ∧ ∀ x ∈ k.fills, ¬older x) →
      s.grantNext b = s.setBank b
        { k with current := some (.fill f), fills := k.fills.filter (fun x => decide (x.fetch ≠ f.fetch)) }) ∧
    (∀ pre r post d, k.fills = [] → k.reads = pre ++ r :: post → k.right → (∀ x ∈ pre, x.slot ≠ r.slot) →
      d < 8 → r.slot = (k.lastServed + d) % 8 + 1 →
      (∀ e x, e < d → x ∈ k.reads → x.slot ≠ (k.lastServed + e) % 8 + 1) →
      s.grantNext b = (s.setBank b
        { k with
          current := some (.read r), reads := k.reads.filter (fun x => decide (x.slot ≠ r.slot)),
          lastServed := r.slot }).setSlot r.slot { s.slot r.slot with readMark := true }) ∧
    (k.fills = [] → k.reads = [] → s.grantNext b = s.setBank b { k with current := none })) ∧
  (∀ (s : State) (f : FillOp),
    let k := s.bank (f.block / 32768)
    (k.current = none → s.handFill f = s.setBank (f.block / 32768) { k with current := some (.fill f) }) ∧
    (k.current ≠ none → s.handFill f = s.setBank (f.block / 32768) { k with fills := k.fills ++ [f] })) ∧
  (∀ (s : State) (r : ReadOp),
    let k := s.bank (r.block / 32768)
    (k.current = none → s.handRead r = (s.setBank (r.block / 32768)
      { k with
        current := some (.read r), reads := k.reads.filter (fun x => decide (x.slot ≠ r.slot)),
        lastServed := r.slot }).setSlot r.slot { s.slot r.slot with readMark := true }) ∧
    (k.current ≠ none → s.handRead r = s.setBank (r.block / 32768) { k with reads := k.reads ++ [r] })) ∧
  (∀ (s : State) (n : Nat) (fate : ReadFate),
    ((∃ l, s.loseRead n fate = s.setStore { s.store with banks := l }) ∧
      (s.loseRead n fate).store.banks.length = s.store.banks.length ∧
      ∀ b, ∃ c, (s.loseRead n fate).bank b =
          { s.bank b with current := c, reads := (s.bank b).reads.filter (fun x => decide (x.slot ≠ n)) } ∧
        (∀ r, (s.bank b).current = some (.read r) → r.slot = n → r.fate ≠ .dropped →
          c = some (.read { r with fate := fate })) ∧
        ((∀ r, (s.bank b).current = some (.read r) → r.slot = n → r.fate = .dropped) →
          c = (s.bank b).current)) ∧
    (s.readWaiting n = true ↔ ∃ k ∈ s.store.banks, ∃ r ∈ k.reads, r.slot = n) ∧
    (s.readGranted n = true ↔
      ∃ k ∈ s.store.banks, ∃ r, k.current = some (.read r) ∧ r.slot = n ∧ r.fate ≠ .dropped)) ∧
  ∀ (s : State) (id : Nat),
    ((∃ l, s.loseFill id = s.setStore { s.store with banks := l }) ∧
      (s.loseFill id).store.banks.length = s.store.banks.length ∧
      ∀ b, ∃ c, (s.loseFill id).bank b =
          { s.bank b with current := c, fills := (s.bank b).fills.filter (fun x => decide (x.fetch ≠ id)) } ∧
        (∀ f, (s.bank b).current = some (.fill f) → f.fetch = id → c = some (.fill { f with live := false })) ∧
        ((∀ f, (s.bank b).current = some (.fill f) → f.fetch ≠ id) → c = (s.bank b).current)) ∧
    (s.fillOutstanding id = true ↔ ∃ k ∈ s.store.banks, (∃ f ∈ k.fills, f.fetch = id) ∨
      ∃ f, k.current = some (.fill f) ∧ f.fetch = id ∧ f.live = true)

/-- R77, R96, R97: reading behind a fill. Image block j of a FILLING image is readable once all its 64 frames are
filled, but for the image's last block, and every block of a RESIDENT one is. A slot that comes to a block becomes
PROGRAMMING and hands the read of the frame at its cursor to the bank of the block where it is readable, and waits
in WAIT_IMAGE with nothing issued where it is not. A notice for a title reaches the slots in WAIT_IMAGE whose
placement is of that title and no other slot: those whose block is readable come to it, with one read of the frame
at their cursor waiting in a bank or granted, and the others wait on. -/
def Obligations.SlotsReadBehindFill : Prop :=
  (∀ (s : State) (t j : Nat), s.readable t j = true ↔ ∃ e, s.image t = some e ∧
    ((e.resident = true ∧ j < e.blocks.length) ∨
      (e.resident = false ∧ j + 1 < e.blocks.length ∧ 64 * (j + 1) ≤ e.filled))) ∧
  (∀ (s : State) (n : Nat) (p : Placement),
    let sl := s.slot n
    (∀ e block, s.readable p.title sl.cursor.image = true → s.image p.title = some e →
      e.blocks[sl.cursor.image]? = some block →
      s.beginBlock n p = (s.setSlot n { sl with state := .programming }).handRead
        { slot := n, block := block, place := sl.cursor.frame, fate := .deliver }) ∧
    (s.readable p.title sl.cursor.image = false →
      s.beginBlock n p = s.setSlot n { sl with state := .waitImage }) ∧
    (∀ t, sl.state = .waitImage → s.placementOf sl = some p → p.title = t → s.notify t n = s.beginBlock n p)) ∧
  (∀ (s : State) (t n : Nat), (s.slot n).state ≠ .waitImage ∨
      (∀ p, s.placementOf (s.slot n) = some p → p.title ≠ t) → s.notify t n = s) ∧
  ∀ (s : State) (t : Nat), s.shaped → s.imagesRight →
    let v := slotNumbers.foldl (fun v n => v.notify t n) s
    (∃ banks rack, v = (s.setStore { s.store with banks := banks }).setRack rack) ∧ v.shaped ∧
    ∀ n ∈ slotNumbers,
      (∀ p e block, (s.slot n).state = .waitImage → s.placementOf (s.slot n) = some p → p.title = t →
        s.readable t (s.slot n).cursor.image = true → s.image t = some e →
        e.blocks[(s.slot n).cursor.image]? = some block →
        (∃ mark, v.slot n = { s.slot n with state := .programming, readMark := mark }) ∧
        ∃ k ∈ v.store.banks, ∃ r : ReadOp, (r ∈ k.reads ∨ k.current = some (.read r)) ∧
          r = { slot := n, block := block, place := (s.slot n).cursor.frame, fate := .deliver }) ∧
      ((s.slot n).state ≠ .waitImage ∨ (∀ p, s.placementOf (s.slot n) = some p → p.title ≠ t) ∨
          s.readable t (s.slot n).cursor.image = false → v.slot n = s.slot n)

/-- R80, R81, R76, R67, R62: PRELOAD admits a title whose image is not there, evicting where it must, and raises
FETCH_WANTED; IMAGE DROP removes an unpinned RESIDENT image and refuses a pinned or FILLING one; FETCH
ABANDON makes the title IMAGE_BAD with its failures unchanged, and its image, its fetch and every plan that
places it are gone. -/
def Obligations.ImagesPreloadedDroppedAbandoned : Prop :=
  (∀ (s : State) (i tag n k : Nat) (r : Title), s.serves i (.preload tag n) → s.quiet → n ≤ 8191 →
    n = k ∧ n ≠ 0 ∨ n = 0 ∧ s.link.titleCtx = some k → s.title k = some r → r.format ≠ .pbraille →
    r.bad = false → r.withdrawn = false → s.image k = none →
    let blocks := (r.pages + 511) / 512
    (s.admissible [(k, blocks)] = false →
      exec (.preload tag n) s = .next (s.formReply i { status := .full, fields := [] })) ∧
    (s.admissible [(k, blocks)] = true →
      let v := s.evict [k] s.store.recency blocks 1
      let u := (((v.setImage k
          { resident := false, blocks := allocateBlocks v.heldBlocks blocks, filled := 0, sum := 0#32,
            pins := 0 }).addFetch k ((r.pages + 7) / 8)).raise .fetchWanted)
      exec (.preload tag n) s = .next
        (((u.setLink { u.link with titleCtx := some k }).replied i
          (u8 v.nextFetch ++ u16 blocks ++ u32 ((r.pages + 7) / 8) ++
            u8 (s.store.images.length - v.store.images.length))).takeTrigger))) ∧
  (∀ (s : State) (i tag n k : Nat) (r : Title), s.serves i (.imageDrop tag n) → s.quiet → n ≤ 8191 →
    n = k ∧ n ≠ 0 ∨ n = 0 ∧ s.link.titleCtx = some k → s.title k = some r →
    (s.image k = none →
      exec (.imageDrop tag n) s = .next (s.formReply i { status := .noRecord, fields := [] })) ∧
    ∀ e, s.image k = some e →
      (0 < e.pins → exec (.imageDrop tag n) s = .next (s.formReply i { status := .pinned, fields := [] })) ∧
      (e.pins = 0 → e.resident = false →
        exec (.imageDrop tag n) s = .next (s.formReply i { status := .state, fields := [] })) ∧
      (e.pins = 0 → e.resident = true →
        let v := (s.setStore { s.store with
          images := s.store.images.del k,
          recency := s.store.recency.filter (fun x => decide (x ≠ k)) }).spaceFreed
        exec (.imageDrop tag n) s = .next
          ((v.setLink { v.link with titleCtx := some k }).replied i (u16 e.blocks.length)).triggered)) ∧
  ∀ (s : State) (i tag id : Nat) (f : Fetch) (r : Title), s.serves i (.fetchAbandon tag id) → s.quiet →
    s.ordered → s.fetch id = some f → s.title f.title = some r → s.rolling = false →
    ∃ t, exec (.fetchAbandon tag id) s = .next t ∧
      t.answered i (u16 f.title ++ u8 (s.plansPlacing f.title).length) ∧ t.image f.title = none ∧
      t.title f.title = some { r with bad := true } ∧ (∀ h ∈ t.store.fetches, h.id ≠ id) ∧
      (∀ x ∈ t.planner.plans, ∀ q ∈ x.2.placements, q.title ≠ f.title) ∧
      (s.plansPlacing f.title ≠ [] →
        (t.link.events.main ||| t.link.events.pending).getLsbD Flag.planFailed.bit = true) ∧
      t.store.flash = s.store.flash ∧ t.records.loans = s.records.loans ∧ t.calendar = s.calendar

/-! ## Duplication Rack -/

/-- R89, R106, R110, R84, R113: a cartridge inserted into an EMPTY socket, and an accepted SLOT CLEAR, make the slot
IDENT with nothing but its fault record left and the identity read issued. A removal makes it EMPTY, the fault
record staying, and returns a bound plan to the head of its group, a planning trigger, with matching tried; that a
removal which ends a finishing mark tries none is the model's choice (log entry 58). While the part does not run
only the presence of the cartridge changes (log entry 32). An insertion into a socket that has a cartridge, and a
removal from one that has none, change nothing (log entry 4). -/
def Obligations.CartridgesInsertedRemovedCleared : Prop :=
  ∀ (s : State) (n : Nat), 1 ≤ n → n ≤ 8 → s.shaped → s.quiet →
    let sl := s.slot n
    let reading (present : Bool) : Slot :=
      { Slot.bare with
        present := present, state := .ident, op := some { op := .readIdentity, elapsed := 0 },
        fault := sl.fault }
    (s.run = .running → sl.state = .empty →
      exec (.cartridgeInsert n) s = .next (s.setSlot n (reading true))) ∧
    (s.run = .running → sl.state ≠ .empty → exec (.cartridgeInsert n) s = .next s) ∧
    (s.run = .running → sl.state ≠ .empty → sl.job = none →
      exec (.cartridgeRemove n) s = .next
        ((s.loseRead n .dropped).setSlot n { Slot.bare with fault := sl.fault })) ∧
    (∀ job p, s.run = .running → sl.state ≠ .empty → sl.job = some job → s.plan job = some p →
      exec (.cartridgeRemove n) s = .next
        (((((s.loseRead n .dropped).setSlot n { Slot.bare with fault := sl.fault }).setPlan job
          { p with state := .queued }).joinHead job p.rush).noteTrigger.matchJobs.takeTrigger)) ∧
    (s.run = .running → sl.state = .empty → exec (.cartridgeRemove n) s = .next s) ∧
    (s.run ≠ .running →
      exec (.cartridgeInsert n) s = .next (s.setSlot n { sl with present := true }) ∧
      exec (.cartridgeRemove n) s = .next (s.setSlot n { sl with present := false })) ∧
    ∀ i tag, s.serves i (.slotClear tag n) →
      (sl.state = .fault ∨ sl.state = .idleBlank ∨ (sl.state = .idleDirty ∧ sl.finishing = false) →
        exec (.slotClear tag n) s = .next ((s.setSlot n (reading sl.present)).replied i [])) ∧
      (sl.state ≠ .fault → sl.state ≠ .idleBlank → ¬(sl.state = .idleDirty ∧ sl.finishing = false) →
        exec (.slotClear tag n) s = .next (s.formReply i { status := .state, fields := [] }))

/-- R89, R88, R195, R146, R22: identification. A bad identity read, a serial of 0 or an unknown class faults
HEADER_BAD; a good one is recorded, with the marker DIRTY until block 0 is read (log entry 42), and page 0 read. A
valid stamp is BLANK, a valid directory, all its pages read, WRITTEN with its plan tag and last used block, and
anything else, a page that could not be read too, DIRTY. Then the first outcome that fits: a serial on loan
faults ON_LOAN; a finished cartridge seated again, its plan's item naming it, is DONE; a serial bound to a tray
item or another slot faults CONFLICT; else it leaves the bins and the Written-off List, a worn cartridge faults
WORN, and another is IDLE by its marker and matching is tried. -/
def Obligations.CartridgeIdentified : Prop :=
  ∀ (s : State) (n : Nat), 1 ≤ n → n ≤ 8 → s.shaped → s.quiet → s.run = .running →
    (s.slot n).state = .ident → (s.slot n).finishing = false →
    let sl := s.slot n
    (∀ ok area, sl.op.map (·.op) = some .readIdentity →
      (∀ c, ok = true → area.length = 12 → leAt area 0 4 ≠ 0 → leAt area 4 1 = Cls.code c →
        exec (.identityReadDone n ok area) s = .next (s.setSlot n
          { sl with
            cart := some
              { serial := leAt area 0 4, cls := c, cycles := leAt area 8 4, tab := decide (leAt area 5 1 ≠ 0),
                marker := .dirty, planTag := 0, lastUsed := 0 },
            identPages := [], op := some { op := .readPage 0 0, elapsed := 0 } })) ∧
      (ok = false ∨ area.length ≠ 12 ∨ leAt area 0 4 = 0 ∨ (∀ c : Cls, leAt area 4 1 ≠ c.code) →
        exec (.identityReadDone n ok area) s = .next (s.slotFault n .headerBad).takeTrigger)) ∧
    ∀ c b p ok page, sl.op.map (·.op) = some (.readPage b p) → sl.cart = some c →
      let held (c : Cartridge) : Slot := { sl with cart := some c, op := none, identPages := [] }
      let elsewhere := (s.serialSlot c.serial (fun k => decide (k ≠ n))).isSome
      let outcome (m : Marker) (tag last : Nat) (t : State) : Prop :=
        let c := { c with marker := m, planTag := tag, lastUsed := last }
        let u := s.setSlot n (held c)
        let freed := (u.unbin c.serial).unlose c.serial
        let names (item : Nat) : Prop := m = .written ∧ (∃ q, s.plan tag = some q ∧ q.state = .mailing item) ∧
          ∃ x job, s.item item = some x ∧ x.kind = .cartridge job c.serial
        ((s.serialLoan c.serial).isSome = true → t = u.slotFault n .onLoan) ∧
        (s.serialLoan c.serial = none →
          (∀ item, names item → elsewhere = false →
            t = u.setSlot n { held c with state := .done, doneItem := some (tag, item), dispatched := false }) ∧
          ((∀ item, ¬names item) ∨ elsewhere = true →
            (s.serialItem c.serial).isSome = true ∨ elsewhere = true → t = u.slotFault n .conflict) ∧
          (s.serialItem c.serial = none → elsewhere = false →
            (10000 ≤ c.cycles → t = freed.slotFault n .worn) ∧
            (c.cycles < 10000 → t = (freed.setSlot n
              { held c with state := if m = .blank then .idleBlank else .idleDirty }).matchJobs)))
      let gives (m : Marker) (tag last : Nat) : Prop :=
        ∃ t, exec (.pageReadDone n ok page) s = .next t.takeTrigger ∧ outcome m tag last t
      let pages := sl.identPages ++ [page]
      let first := pages.headD []
      (ok = false ∨ page.length ≠ 512 → gives .dirty 0 0) ∧
      (ok = true → page.length = 512 → stampValid first c.cls c.cycles = true → gives .blank 0 0) ∧
      (ok = true → page.length = 512 → stampValid first c.cls c.cycles = false →
        (hasMarker first 2 = false ∨ 3 < directoryPages first → gives .dirty 0 0) ∧
        (hasMarker first 2 = true → directoryPages first ≤ 3 →
          (pages.length < directoryPages first → exec (.pageReadDone n ok page) s = .next (s.setSlot n
            { sl with identPages := pages, op := some { op := .readPage 0 pages.length, elapsed := 0 } })) ∧
          (directoryPages first ≤ pages.length →
            (directoryOf pages c.cls c.cycles = none → gives .dirty 0 0) ∧
            ∀ tag last, directoryOf pages c.cls c.cycles = some (tag, last) → gives .written tag last)))

/-- R91, R92, R84, R93, R95, R96: job matching. A slot is available in IDLE_BLANK, in PRE_ERASE, and in IDLE_DIRTY
without the finishing mark. A plan gets an available slot of its own class, else of the smallest larger class no
larger than the player class its patron's record holds, and of those of one class the one with the lowest cycle
count, the lowest-numbered of equals. The try takes the jobs in queue order, each against what the jobs before it
have left, and passes over one that no slot fits. The binding takes the plan out of the queue, a planning trigger
where it had 16, makes it IN_SLOT, and has the slot hold the job with no read mark, no spare and its cursor at the
beginning: IDLE_BLANK goes on to PROGRAMMING with the permit for the erase of block 0, IDLE_DIRTY begins its
marker's erase phase in ERASING, and PRE_ERASE goes on in ERASING with its erase cursor and the operation in hand.
A slot still IDLE_DIRTY and unbound after the walk begins the same erase phase in PRE_ERASE. -/
def Obligations.JobsMatchedToSlots : Prop :=
  let free (s : State) (n : Nat) (r : Cartridge) : Prop := n ∈ slotNumbers ∧ (s.slot n).cart = some r ∧
    ((s.slot n).state = .idleBlank ∨ (s.slot n).state = .preErase ∨
      ((s.slot n).state = .idleDirty ∧ (s.slot n).finishing = false))
  let fits (s : State) (p : Plan) (r : Cartridge) : Prop := r.cls = p.cls ∨
    (p.cls.rank < r.cls.rank ∧ ∃ q, s.patron p.patron = some q ∧ r.cls.rank ≤ q.cls.rank)
  let begun (sl : Slot) (st : SlotState) (x : Slot) : Prop :=
    (∀ c, sl.cart = some c → c.marker = .written → x =
      { sl with
        state := st, eraseStep := .erase 0, eraseKind := .extent c.lastUsed,
        op := some
          { op := .grantPermit (if 31 ≤ c.lastUsed then .eraseGroup 0 else .eraseBlock 0), elapsed := 0 } }) ∧
    (∀ c, sl.cart = some c → c.marker = .dirty → x =
      { sl with
        state := st, eraseStep := .erase 0, eraseKind := .full,
        op := some { op := .grantPermit .fullErase, elapsed := 0 } })
  (∀ (s : State) (p : Plan),
    (∀ n, s.slotFor p = some n ↔ ∃ r, free s n r ∧ fits s p r ∧ ∀ m q, free s m q → fits s p q →
      r.cls.rank < q.cls.rank ∨
        (r.cls = q.cls ∧ (r.cycles < q.cycles ∨ (r.cycles = q.cycles ∧ n ≤ m)))) ∧
    (s.slotFor p = none ↔ ∀ m q, free s m q → ¬fits s p q)) ∧
  (∀ (s : State) (n job : Nat) (p : Plan), s.plan job = some p → job ∈ s.planner.queue →
    let sl := s.slot n
    let fresh : Slot :=
      { sl with
        job := some job, readMark := false, spares := [], sparesTaken := 0, spare := none,
        cursor := Cursor.zero, buffer := [] }
    ∃ x, s.bind n job = (s.setPlanner
        { s.planner with
          plans := s.planner.plans.put job { p with state := .inSlot n },
          queue := s.planner.queue.filter (fun m => decide (m ≠ job)),
          due := s.planner.due || decide (s.planner.queue.length = 16) }).setSlot n x ∧
      (sl.state = .idleBlank → x =
        { fresh with
          state := .programming, eraseKind := .skipped,
          op := some { op := .grantPermit (.eraseBlock 0), elapsed := 0 } }) ∧
      (sl.state = .preErase → x = { fresh with state := .erasing }) ∧
      (sl.state = .idleDirty → begun fresh .erasing x)) ∧
  ∀ s : State, s.shaped → ∃ w : Nat → State, w 0 = s ∧
    (∀ j job, s.planner.queue[j]? = some job →
      (s.plan job = none → w (j + 1) = w j) ∧
      ∀ p, s.plan job = some p →
        ((w j).slotFor p = none → w (j + 1) = w j) ∧
        ∀ n, (w j).slotFor p = some n → w (j + 1) = (w j).bind n job) ∧
    let u := w s.planner.queue.length
    ∃ rack, s.matchJobs = u.setRack rack ∧ rack.length = 8 ∧ ∀ n ∈ slotNumbers,
      ((u.slot n).state = .idleDirty → (u.slot n).finishing = false →
        begun (u.slot n) .preErase (s.matchJobs.slot n)) ∧
      ((u.slot n).state ≠ .idleDirty ∨ (u.slot n).finishing = true → s.matchJobs.slot n = u.slot n)

/-- R94, R98, R99, R100, R101: the read-back. A page of a block in VERIFYING is followed by the next, also one that
disagrees, the block being judged after its last page (log entry 27). A block that verifies leads to the next image
block; after a placement's last block its title becomes the most recent and the read mark clears, and the next
placement begins, or the directory with its first page's permit asked for, the program cursor staying where it is
(log entry 47) and all its pages composed then from the records as they stand, which is the model's choice of the
moment (log entry 60). A block that does not verify takes the lowest untaken reserve block as its spare, programmed
from the buffer, or the slot faults NO_SPARE. The stamp that reads back as written leaves the marker BLANK and the
slot IDLE_BLANK with matching tried, or in PROGRAMMING with the erase of block 0. A directory page is followed by
the next, and one that reads back as written brings the slot to DONE: the plan MAILING, a cartridge item in
AWAITING_LABEL, the marker WRITTEN, the pins released and SLOT_DONE raised. A stamp or directory that does not
faults HEADER_BAD. -/
def Obligations.PagesReadBack : Prop :=
  ∀ (s : State) (n : Nat) (ok : Bool) (page : List Byte) (b k : Nat), 1 ≤ n → n ≤ 8 → s.shaped → s.quiet →
    s.run = .running → (s.slot n).finishing = false → (s.slot n).holdPending = false →
    (s.slot n).op.map (·.op) = some (.readPage b k) →
    let sl := s.slot n
    let gives (t : State) : Prop := exec (.pageReadDone n ok page) s = .next t
    (∀ p, sl.state = .verifying → s.placementOf sl = some p →
      let good := sl.backOk && ok && decide (page = sl.expected p sl.back)
      (sl.back + 1 < 512 → gives (s.setSlot n
        { sl with
          back := sl.back + 1, backOk := good,
          op := some { op := .readPage (sl.target p) (sl.back + 1), elapsed := 0 } })) ∧
      (512 ≤ sl.back + 1 → good = true →
        let done : Slot :=
          { sl with back := sl.back + 1, backOk := true, op := none, buffer := [], spare := none }
        (sl.cursor.image + 1 < p.blocks →
          gives ((s.setSlot n
            { done with
              cursor :=
                { sl.cursor with
                  image := sl.cursor.image + 1, frame := 0, page := 0, inBuffer := false } }).beginBlock n
            p).takeTrigger) ∧
        (p.blocks ≤ sl.cursor.image + 1 →
          let recent := s.toRecent p.title
          let next : Slot :=
            { done with
              readMark := false,
              cursor :=
                { sl.cursor with
                  placement := sl.cursor.placement + 1, image := 0, frame := 0, page := 0,
                  inBuffer := false } }
          (∀ e, s.image p.title = some e → e.resident = true →
            recent = s.setStore { s.store with
              recency := s.store.recency.filter (fun x => decide (x ≠ p.title)) ++ [p.title] }) ∧
          (∀ q, s.placementOf next = some q → gives ((recent.setSlot n next).beginBlock n q).takeTrigger) ∧
          ∀ job c q, s.placementOf next = none → sl.job = some job → sl.cart = some c → s.plan job = some q →
            let pages := (s.directory sl job q c).pages
            gives ((recent.setSlot n
              { done with
                state := .directory, readMark := false, pages := pages, back := 0, readingBack := false,
                op := some { op := .grantPermit (.program 0 0 (pages.getD 0 [])), elapsed := 0 } })))) ∧
      (∀ c, 512 ≤ sl.back + 1 → good = false → sl.cart = some c → sl.cursor.erased = true →
        0 < p.blockFrames sl.cursor.image →
        (sl.sparesTaken < c.cls.reserve →
          let spare := c.cls.reserveStart + sl.sparesTaken
          gives (s.setSlot n
            { sl with
              state := .programming, back := sl.back + 1, backOk := false, spare := some spare,
              sparesTaken := sl.sparesTaken + 1,
              spares := sl.spares.filter (fun e => decide (e.1 ≠ p.start + sl.cursor.image)) ++
                [(p.start + sl.cursor.image, spare)],
              cursor := { sl.cursor with frame := 0, page := 0, inBuffer := false },
              op := some { op := .grantPermit (.program spare 0 (sl.bufferPage 0 0)), elapsed := 0 } })) ∧
        (c.cls.reserve ≤ sl.sparesTaken →
          gives ((s.setSlot n
            { sl with back := sl.back + 1, backOk := false, op := none }).slotFault n .noSpare).takeTrigger))) ∧
    (sl.state = .preErase ∨ sl.state = .erasing →
      let good := ok && decide (sl.pages.head? = some page)
      (good = false → gives (s.slotFault n .headerBad).takeTrigger) ∧
      ∀ c, good = true → sl.cart = some c →
        let blank : Slot :=
          { sl with
            cart := some { c with marker := .blank, planTag := 0, lastUsed := 0 }, eraseStep := .ended,
            pages := [], op := none }
        (sl.state = .preErase →
          gives (s.setSlot n { blank with state := .idleBlank }).matchJobs.takeTrigger) ∧
        (sl.state = .erasing →
          gives (s.setSlot n
            { blank with
              state := .programming, cursor := Cursor.zero,
              op := some { op := .grantPermit (.eraseBlock 0), elapsed := 0 } }))) ∧
    (sl.state = .directory → sl.back + 1 < sl.pages.length → sl.readingBack = true →
      gives (s.setSlot n
        { sl with
          back := sl.back + 1, backOk := sl.backOk && ok && decide (sl.pages[sl.back]? = some page),
          op := some { op := .readPage 0 (sl.back + 1), elapsed := 0 } })) ∧
    (sl.state = .directory → sl.pages.length = sl.back + 1 →
      let good := sl.backOk && ok && decide (sl.pages[sl.back]? = some page)
      let read := s.setSlot n { sl with back := sl.back + 1, backOk := good, op := none }
      (good = false → gives (read.slotFault n .headerBad).takeTrigger) ∧
      ∀ job c p, good = true → sl.job = some job → sl.cart = some c → s.plan job = some p →
        ∃ t, gives t ∧
          t.plan job = some { p with state := .mailing s.nextItem } ∧
          t.mail.tray = s.mail.tray ++
            [{ number := s.nextItem, patron := p.patron, kind := .cartridge job c.serial,
               state := .awaitingLabel }] ∧
          t.mail.lastItem = s.nextItem ∧ (t.slot n).state = .done ∧ (t.slot n).job = none ∧
          (t.slot n).op = none ∧ (t.slot n).doneItem = some (job, s.nextItem) ∧
          (t.slot n).cart = some { c with marker := .written, planTag := job, lastUsed := p.used } ∧
          (∀ m ∈ slotNumbers, m ≠ n → t.slot m = s.slot m) ∧
          (∀ x, (p.placements.map (·.title)).Nodup → t.pins x =
            s.pins x - if x ∈ p.placements.map (·.title) then 1 else 0) ∧
          (t.link.events.main ||| t.link.events.pending).getLsbD Flag.slotDone.bit = true ∧
          t.records.titles = s.records.titles ∧ t.records.loans = s.records.loans ∧
          t.store.flash = s.store.flash)

/-- R85, R87, R93, R94, R96, R98, R100, R106, R107: the writes, and what is left of them once the job is taken away. A
granted permit issues the write it was asked for, a refused one faults WRITE_PROTECTED; the erase of block 0 leaves
the marker DIRTY. A page programmed moves the cursor to the next page, whose permit is asked for; after a frame's last
page the next frame is read, or the spare's next frame is programmed, and after the block's last frame it is verified;
the stamp programmed is read back, and a directory page is followed by the next, or by the read-back. An erase done
moves on to the next of the set, or to mark a cycle; a cycle marked raises the count and writes the stamp, or faults
WORN at 10,000. A write refused for want of a permit faults PROTOCOL, also an erase whose suspend is in hand and a
write completing after an unbinding; the first write since identification keeps the record before it, which its
refusal goes back to, nothing having started (log entry 46). The stamp bears the date on which its permit is asked for
(log entry 40). The job taken away leaves the slot IDLE_DIRTY and its cartridge DIRTY, with the finishing mark while
an operation or a granted frame read (log entry 8) is in hand, and no spare taken (the model's choice, log entry 64).
Under the mark nothing more is issued, and the report that the operation in hand has completed clears the mark, with
matching tried, but for two that leave the mark set: RESUME_DONE, after which the resumed erase is seen through, the
model's choice (log entry 59), and ERASE_DONE while a suspend is in hand, which clears only what is suspended (log
entry 17). That an ERASE_DONE which crosses the suspend is taken for the end of the erase, and refused faults
PROTOCOL, is the model's reading too (log entry 17). A fault found in the report is still a fault, with no matching
tried for the mark it ends (log entry 58), and what a page read is judged by is kept for that (log entry 41). -/
def Obligations.WritesTakePermitsAndAdvance : Prop :=
  ∀ (s : State) (n : Nat), 1 ≤ n → n ≤ 8 → s.shaped → s.quiet → s.run = .running →
    (s.slot n).state ≠ .empty → (s.slot n).state ≠ .fault →
    let sl := s.slot n
    ((s.slot n).finishing = false → (s.slot n).holdPending = false →
    (∀ w, sl.op.map (·.op) = some (.grantPermit w) →
      exec (.permitReply n true) s = .next (s.setSlot n
        { sl with
          started := true, unstarted := if sl.started then none else sl.cart,
          op := some { op := .write w, elapsed := 0 },
          cart := if sl.state = .programming then
              sl.cart.map (fun c => { c with marker := .dirty, planTag := 0, lastUsed := 0 })
            else sl.cart }) ∧
      exec (.permitReply n false) s = .next (s.slotFault n .writeProtected).takeTrigger) ∧
    (∀ b k data, sl.op.map (·.op) = some (.write (.program b k data)) →
      let gives (t : State) : Prop := exec (.pageProgramDone n true) s = .next t
      (∀ p, sl.state = .programming → s.placementOf sl = some p → sl.cursor.erased = true →
        sl.cursor.frame < p.blockFrames sl.cursor.image →
        (sl.cursor.page + 1 < p.framePages sl.cursor.image sl.cursor.frame →
          sl.cursor.inBuffer = true ∨ sl.spare.isSome = true → gives (s.setSlot n
            { sl with
              cursor := { sl.cursor with page := sl.cursor.page + 1 },
              op := some
                { op := .grantPermit (.program (sl.target p) (8 * sl.cursor.frame + (sl.cursor.page + 1))
                    (sl.bufferPage sl.cursor.frame (sl.cursor.page + 1))),
                  elapsed := 0 } })) ∧
        (p.framePages sl.cursor.image sl.cursor.frame ≤ sl.cursor.page + 1 →
          let next : Slot :=
            { sl with
              op := none,
              cursor := { sl.cursor with frame := sl.cursor.frame + 1, page := 0, inBuffer := false } }
          (p.blockFrames sl.cursor.image ≤ sl.cursor.frame + 1 → gives (s.setSlot n
            { next with
              state := .verifying, back := 0, backOk := true,
              op := some { op := .readPage (sl.target p) 0, elapsed := 0 } })) ∧
          (sl.cursor.frame + 1 < p.blockFrames sl.cursor.image →
            (∀ spare, sl.spare = some spare → gives (s.setSlot n
              { next with
                op := some
                  { op := .grantPermit
                      (.program spare (8 * (sl.cursor.frame + 1)) (sl.bufferPage (sl.cursor.frame + 1) 0)),
                    elapsed := 0 } })) ∧
            (∀ e, sl.spare = none → s.image p.title = some e → s.readable p.title sl.cursor.image = true →
              gives ((s.setSlot n next).handRead
                { slot := n, block := e.blocks.getD sl.cursor.image 0, place := sl.cursor.frame + 1,
                  fate := .deliver })) ∧
            (sl.spare = none → s.readable p.title sl.cursor.image = false →
              gives (s.setSlot n { next with state := .waitImage }))))) ∧
      (sl.state = .preErase ∨ sl.state = .erasing → gives (s.setSlot n
        { sl with eraseStep := .stampBack, op := some { op := .readPage 0 0, elapsed := 0 } })) ∧
      (sl.state = .directory → sl.readingBack = false →
        (sl.back + 1 < sl.pages.length → gives (s.setSlot n
          { sl with
            back := sl.back + 1,
            op := some
              { op := .grantPermit (.program 0 (sl.back + 1) (sl.pages.getD (sl.back + 1) [])),
                elapsed := 0 } })) ∧
        (sl.pages.length ≤ sl.back + 1 → gives (s.setSlot n
          { sl with
            back := 0, readingBack := true, backOk := true,
            op := some { op := .readPage 0 0, elapsed := 0 } })))) ∧
    (∀ w j, sl.op.map (·.op) = some (.write w) → (∀ b k data, w ≠ .program b k data) →
      (sl.state = .preErase ∨ sl.state = .erasing) → sl.eraseStep = .erase j →
      (j + 1 < sl.eraseOps → exec (.eraseDone n true) s = .next (s.setSlot n
        { sl with
          eraseStep := .erase (j + 1),
          op := some { op := .grantPermit (sl.eraseAt (j + 1)), elapsed := 0 } })) ∧
      (sl.eraseOps ≤ j + 1 → exec (.eraseDone n true) s = .next (s.setSlot n
        { sl with eraseStep := .mark, op := some { op := .markCycle, elapsed := 0 } }))) ∧
    (∀ w p, sl.op.map (·.op) = some (.write w) → (∀ b k data, w ≠ .program b k data) →
      sl.state = .programming → s.placementOf sl = some p → sl.cursor = Cursor.zero →
      0 < p.blockFrames 0 → sl.spare = none →
      exec (.eraseDone n true) s = .next ((s.setSlot n
        { sl with op := none, cursor := { Cursor.zero with erased := true } }).beginBlock n p).takeTrigger) ∧
    (∀ c, sl.op.map (·.op) = some .markCycle → sl.cart = some c →
      (sl.state = .preErase ∨ sl.state = .erasing) →
      let d := { c with cycles := c.cycles + 1 }
      let stamp := stampPage c.cls (c.cycles + 1) s.today
      (c.cycles + 1 < 10000 → exec (.markCycleDone n) s = .next (s.setSlot n
        { sl with
          cart := some d, eraseStep := .stamp, pages := [stamp],
          op := some { op := .grantPermit (.program 0 0 stamp), elapsed := 0 } })) ∧
      (10000 ≤ c.cycles + 1 → exec (.markCycleDone n) s =
        .next ((s.setSlot n { sl with cart := some d, op := none }).slotFault n .worn).takeTrigger))) ∧
    (let before : Slot :=
        match sl.unstarted with
        | some c => { sl with cart := some c, started := false, unstarted := none }
        | none => sl
      let refused (c : Instr) : Prop :=
        exec c s = .next ((s.setSlot n before).slotFault n .protocol).takeTrigger
      (∀ b k data, sl.op.map (·.op) = some (.write (.program b k data)) →
        refused (.pageProgramDone n false)) ∧
      (∀ w, sl.op.map (·.op) = some (.write w) → (∀ b k data, w ≠ .program b k data) →
        refused (.eraseDone n false)) ∧
      (sl.op.map (·.op) = some .suspend → sl.suspended.isSome = true → refused (.eraseDone n false))) ∧
    (let granted := s.readGranted n
      let judged : Option ReadBack :=
        if sl.state = .erasing then some { cause := .headerBad, page := sl.pages.head? }
        else if sl.state = .directory ∧ sl.pages.length ≤ sl.back + 1 then
          some { cause := .headerBad, page := if sl.backOk then sl.pages[sl.back]? else none }
        else if sl.state = .verifying ∧ 512 ≤ sl.back + 1 then
          ((s.placementOf sl).bind fun p => sl.cart.bind fun c =>
            if c.cls.reserve ≤ sl.sparesTaken then
              some { cause := .noSpare, page := if sl.backOk then some (sl.expected p sl.back) else none }
            else none)
        else none
      let reading := sl.op.any (fun o => o.op.isPageRead)
      let stopping := sl.op.any (fun o => decide (o.op = .suspend ∨ o.op = .resume))
      (∀ job p, p.state = .inSlot n → sl.job = some job → s.leavePlace job p = s.unbind n) ∧
      s.unbind n = (s.loseRead n .awaited).setSlot n
        { sl with
          state := .idleDirty, job := none, remembered := none, holdPending := false,
          cart := sl.cart.map (fun c => { c with marker := .dirty, planTag := 0, lastUsed := 0 }),
          cursor := Cursor.zero, buffer := [], readMark := false, spares := [], sparesTaken := 0,
          spare := none, back := 0, readingBack := false, backOk := true, pages := [], identPages := [],
          unstarted := none, doneItem := none, dispatched := false,
          suspended := if stopping then sl.suspended else none,
          awaiting := granted, finishing := sl.op.isSome || granted,
          readBack := if reading then judged else none }) ∧
    (sl.finishing = true →
      let cleared : Slot :=
        { sl with op := none, suspended := none, awaiting := false, finishing := false, readBack := none }
      let ends (c : Instr) (x : Slot) : Prop := exec c s = .next (s.setSlot n x).matchJobs.takeTrigger
      let faults (c : Instr) (cause : FaultCause) : Prop := exec c s = .next (s.slotFault n cause).takeTrigger
      (∀ w, sl.op.map (·.op) = some (.grantPermit w) →
        ends (.permitReply n true) cleared ∧ faults (.permitReply n false) .writeProtected) ∧
      (∀ b k data, sl.op.map (·.op) = some (.write (.program b k data)) →
        ends (.pageProgramDone n true) cleared) ∧
      (∀ w, sl.op.map (·.op) = some (.write w) → (∀ b k data, w ≠ .program b k data) →
        ends (.eraseDone n true) cleared) ∧
      (∀ c, sl.op.map (·.op) = some .markCycle → sl.cart = some c →
        let d := { c with cycles := c.cycles + 1 }
        (c.cycles + 1 < 10000 → ends (.markCycleDone n) { cleared with cart := some d }) ∧
        (10000 ≤ c.cycles + 1 → exec (.markCycleDone n) s =
          .next ((s.setSlot n { sl with cart := some d, op := none }).slotFault n .worn).takeTrigger)) ∧
      (sl.op.map (·.op) = some .suspend → ends (.suspendDone n) cleared ∧
        (sl.suspended.isSome = true →
          exec (.eraseDone n true) s = .next (s.setSlot n { sl with suspended := none }))) ∧
      (sl.op.map (·.op) = some .resume → sl.holdPending = false → sl.state = .idleDirty →
        exec (.resumeDone n) s = .next (s.setSlot n { sl with op := sl.suspended, suspended := none })) ∧
      ∀ b k ok page, sl.op.map (·.op) = some (.readPage b k) →
        (sl.readBack = none → ends (.pageReadDone n ok page) cleared) ∧
        ∀ r, sl.readBack = some r →
          (ok = true → r.page = some page → ends (.pageReadDone n ok page) cleared) ∧
          (ok = false ∨ r.page ≠ some page → faults (.pageReadDone n ok page) r.cause))

/-- R103, R104, R86: holds. In the erase phase of a WRITTEN marker an erase in hand is suspended, and the completed
suspend makes the slot HELD with its phase remembered; another operation completes first, as it does in PROGRAMMING
and VERIFYING, where a waiting frame read is withdrawn and a granted one discarded; WAIT_IMAGE is held at once. A
full erase, a pending hold and every other state refuse SLOT HOLD with STATE, and a slot not HELD refuses SLOT
RELEASE so. A release goes back to the remembered phase: a suspended erase is resumed with its running time, an
erase phase goes on from its erase cursor, programming from its program cursor or its spare, a verify from its first
page, and a wait asks for its block again. A released PRE_ERASE slot is offered to the Job Queue. Four points are
the model's readings: that a granted frame read is awaited before the slot is HELD (log entry 8), that a permit or a
resume in hand completes before the hold is made, a resumed erase being suspended again (log entry 62), that a
release into PROGRAMMING reads the frame at the cursor again (log entry 33), and that a released stamp bears the
date on which its permit is asked for (log entry 40). -/
def Obligations.SlotsHeldAndReleased : Prop :=
  ∀ (s : State) (n : Nat), 1 ≤ n → n ≤ 8 → s.shaped → s.quiet → s.run = .running →
    let sl := s.slot n
    let erase := sl.state = .preErase ∨ sl.state = .erasing
    let suspended := if sl.suspended.isSome then 1#8 else 0#8
    let held (x : Slot) : Slot :=
      { x with
        state := .held, remembered := x.state.phase, holdPending := false, op := none, awaiting := false,
        unstarted := none }
    (∀ i tag, s.serves i (.slotHold tag n) →
      let accepts (t : State) (reply : List Byte) := exec (.slotHold tag n) s = .next (t.replied i reply)
      let phase := if sl.state = .preErase then 0#8 else 1#8
      (∀ o, erase → sl.eraseKind ≠ .full → sl.holdPending = false → sl.op = some o →
        (o.op.isExtentErase = true → accepts (s.setSlot n
          { sl with suspended := some o, holdPending := true, op := some { op := .suspend, elapsed := 0 } })
            [phase, 1#8]) ∧
        (o.op.isExtentErase = false →
          accepts (s.setSlot n { sl with holdPending := true }) [phase, suspended])) ∧
      (erase → sl.eraseKind ≠ .full → sl.holdPending = false → sl.op = none →
        accepts (s.setSlot n (held sl)) [phase, suspended]) ∧
      (sl.state = .programming → sl.holdPending = false →
        (sl.op.isSome = true ∨ s.readGranted n = true →
          accepts ((s.loseRead n .awaited).setSlot n
            { sl with holdPending := true, awaiting := s.readGranted n }) [2#8, suspended]) ∧
        (sl.op = none → s.readGranted n = false →
          accepts ((s.loseRead n .awaited).setSlot n (held sl)) [2#8, suspended])) ∧
      (sl.state = .verifying → sl.holdPending = false →
        (sl.op.isSome = true → accepts (s.setSlot n { sl with holdPending := true }) [3#8, suspended]) ∧
        (sl.op = none → accepts (s.setSlot n (held sl)) [3#8, suspended])) ∧
      (sl.state = .waitImage → sl.holdPending = false →
        accepts (s.setSlot n (held sl)) [4#8, suspended]) ∧
      (sl.holdPending = true ∨ sl.state = .directory ∨ sl.state = .held ∨ sl.state = .empty ∨
          sl.state = .ident ∨ sl.state = .idleBlank ∨ sl.state = .idleDirty ∨ sl.state = .done ∨
          sl.state = .fault ∨ (erase ∧ sl.eraseKind = .full) →
        exec (.slotHold tag n) s = .next (s.formReply i { status := .state, fields := [] }))) ∧
    (sl.op.map (·.op) = some .suspend → sl.finishing = false → sl.state ≠ .empty → sl.state ≠ .fault →
      exec (.suspendDone n) s = .next (s.setSlot n (held sl))) ∧
    (sl.holdPending = true → sl.finishing = false →
      (∀ w, erase ∨ sl.state = .programming → sl.op.map (·.op) = some (.grantPermit w) →
        exec (.permitReply n true) s = .next (s.setSlot n (held sl))) ∧
      (∀ w j, erase → sl.op.map (·.op) = some (.write w) → (∀ b k data, w ≠ .program b k data) →
        sl.eraseStep = .erase j → exec (.eraseDone n true) s = .next (s.setSlot n (held
          { sl with eraseStep := if j + 1 < sl.eraseOps then .erase (j + 1) else .mark }))) ∧
      (∀ c, erase → sl.op.map (·.op) = some .markCycle → sl.cart = some c → c.cycles + 1 < 10000 →
        exec (.markCycleDone n) s = .next (s.setSlot n (held
          { sl with cart := some { c with cycles := c.cycles + 1 }, eraseStep := .stamp }))) ∧
      (∀ b k data p, sl.state = .programming → sl.op.map (·.op) = some (.write (.program b k data)) →
        s.placementOf sl = some p → sl.cursor.page + 1 < p.framePages sl.cursor.image sl.cursor.frame →
        exec (.pageProgramDone n true) s = .next (s.setSlot n (held
          { sl with cursor := { sl.cursor with page := sl.cursor.page + 1 } }))) ∧
      (∀ b k p page, sl.state = .verifying → sl.op.map (·.op) = some (.readPage b k) →
        s.placementOf sl = some p →
        exec (.pageReadDone n true page) s = .next (s.setSlot n (held
          { sl with
            back := sl.back + 1,
            backOk := sl.backOk && decide (page = sl.expected p sl.back) })))) ∧
    (∀ i tag, s.serves i (.slotRelease tag n) →
      let accepts (t : State) := exec (.slotRelease tag n) s = .next (t.replied i []).takeTrigger
      let back (st : SlotState) : Slot :=
        { sl with state := st, remembered := none, cursor := { sl.cursor with inBuffer := false } }
      let issues (st : SlotState) (x : Slot → Slot) (op : CartOp) : State :=
        s.setSlot n { x (back st) with op := some { op := op, elapsed := 0 } }
      let resumes (t : SlotState → State) : Prop :=
        (sl.remembered = some .erasing → accepts (t .erasing)) ∧
        (sl.remembered = some .preErase → accepts (t .preErase).matchJobs)
      (sl.state = .held →
        (sl.suspended.isSome = true → resumes (fun st => issues st id .resume)) ∧
        (sl.suspended = none →
          (∀ j, sl.eraseStep = .erase j → resumes (fun st => issues st id (.grantPermit (sl.eraseAt j)))) ∧
          (sl.eraseStep = .mark → resumes (fun st => issues st id .markCycle)) ∧
          (∀ c, sl.eraseStep = .stamp → sl.cart = some c →
            let stamp := stampPage c.cls c.cycles s.today
            resumes (fun st =>
              issues st (fun x => { x with pages := [stamp] }) (.grantPermit (.program 0 0 stamp)))) ∧
          (sl.eraseStep = .stampBack → resumes (fun st => issues st id (.readPage 0 0))) ∧
          (sl.eraseStep = .ended →
            (sl.remembered = some .erasing → accepts (issues .programming
              (fun x => { x with cursor := Cursor.zero }) (.grantPermit (.eraseBlock 0)))) ∧
            (sl.remembered = some .preErase → accepts (s.setSlot n (back .idleBlank)).matchJobs))) ∧
        (sl.remembered = some .programming →
          (sl.cursor.erased = false → accepts (issues .programming id (.grantPermit (.eraseBlock 0)))) ∧
          ∀ p, sl.cursor.erased = true → s.placementOf sl = some p →
            (p.blockFrames sl.cursor.image ≤ sl.cursor.frame → accepts (issues .verifying
              (fun x => { x with back := 0, backOk := true }) (.readPage (sl.target p) 0))) ∧
            (sl.cursor.frame < p.blockFrames sl.cursor.image →
              (∀ spare, sl.spare = some spare → accepts (issues .programming id (.grantPermit
                (.program spare (8 * sl.cursor.frame + sl.cursor.page)
                  (sl.bufferPage sl.cursor.frame sl.cursor.page))))) ∧
              (sl.spare = none → accepts ((s.setSlot n (back .programming)).beginBlock n p)))) ∧
        (∀ p, sl.remembered = some .verifying → s.placementOf sl = some p →
          accepts (issues .verifying (fun x => { x with back := 0, backOk := true })
            (.readPage (sl.target p) 0))) ∧
        (∀ p, sl.remembered = some .waitImage → s.placementOf sl = some p →
          accepts ((s.setSlot n (back .waitImage)).beginBlock n p))) ∧
      (sl.state ≠ .held →
        exec (.slotRelease tag n) s = .next (s.formReply i { status := .state, fields := [] }))) ∧
    (sl.op.map (·.op) = some .resume →
      (sl.state = .erasing → sl.holdPending = false →
        exec (.resumeDone n) s = .next (s.setSlot n { sl with op := sl.suspended, suspended := none })) ∧
      (sl.state = .preErase → sl.holdPending = false → exec (.resumeDone n) s =
        .next (s.setSlot n { sl with op := sl.suspended, suspended := none }).matchJobs.takeTrigger) ∧
      (erase → sl.holdPending = true → exec (.resumeDone n) s =
        .next (s.setSlot n { sl with op := some { op := .suspend, elapsed := 0 } })))

/-- R85, R86, R108, R109: slot faults. An operation past its limit faults TIMEOUT, but at identification an identity
read faults HEADER_BAD and a page counts as not read; before its limit only its running time advances (log entry 18).
A report that answers no operation in hand faults PROTOCOL. That neither does anything where no operation runs, no
cartridge stands or the part does not run is the model's reading (log entry 4), as is that a late report after SLOT
CLEAR is judged like any (log entry 48). A fault makes the slot FAULT without job, operation or frame read, keeps its
fault record and raises SLOT_FAULT; that one which ends a finishing mark tries no matching is the model's choice (log
entry 58), and so is that a fault leaves no spare taken (log entry 64). The plan it had rises by one fault and goes back to
the head of its group, where matching is tried, or at 3 fails: it is gone with PLAN_FAILED raised, its entries WAITING
and its patron's count one less. -/
def Obligations.SlotsFault : Prop :=
  (∀ (s : State) (n ran : Nat), 1 ≤ n → n ≤ 8 → s.quiet →
    (s.run ≠ .running ∨ (s.slot n).op = none → exec (.cartOpTimeout n ran) s = .next s) ∧
    ∀ o, s.run = .running → (s.slot n).op = some o →
      (ran < o.op.limit → exec (.cartOpTimeout n ran) s = .next (s.setSlot n
        { s.slot n with op := some { o with elapsed := max o.elapsed ran } })) ∧
      (o.op.limit ≤ ran → (s.slot n).state ≠ .ident →
        exec (.cartOpTimeout n ran) s = .next (s.slotFault n .timeout).takeTrigger) ∧
      (o.op.limit ≤ ran → (s.slot n).state = .ident →
        (o.op = .readIdentity ∨ (s.slot n).cart = none →
          exec (.cartOpTimeout n ran) s = .next (s.slotFault n .headerBad).takeTrigger) ∧
        ∀ c, o.op ≠ .readIdentity → (s.slot n).cart = some c →
          exec (.cartOpTimeout n ran) s =
            .next (s.identified n { c with marker := .dirty, planTag := 0, lastUsed := 0 }).takeTrigger)) ∧
  (∀ (s : State) (n : Nat), 1 ≤ n → n ≤ 8 → s.quiet →
    (s.run = .running → (s.slot n).state ≠ .empty → (s.slot n).state ≠ .fault →
      exec (.reportAnsweringNoOperation n) s = .next (s.slotFault n .protocol).takeTrigger) ∧
    (s.run ≠ .running ∨ (s.slot n).state = .empty ∨ (s.slot n).state = .fault →
      exec (.reportAnsweringNoOperation n) s = .next s)) ∧
  ∀ (s : State) (n : Nat) (cause : FaultCause), 1 ≤ n → n ≤ 8 → s.shaped →
    let sl := s.slot n
    let t := s.slotFault n cause
    ∃ r : FaultRecord, r.cause = cause ∧ r.plan = sl.job ∧ r.serial = sl.cart.map (·.serial) ∧
      r.date = s.today ∧ r.time = s.now ∧ r.phase = sl.faultPhase ∧ r.cursor = s.faultCursor sl ∧
      (let failed : Slot :=
        { sl with
          state := .fault, fault := some r,
          cart := sl.cart.map (fun c =>
            if sl.started then { c with marker := .dirty, planTag := 0, lastUsed := 0 } else c),
          job := none, op := none, suspended := none, awaiting := false, finishing := false,
          remembered := none, holdPending := false, cursor := Cursor.zero, buffer := [], readMark := false,
          spares := [], sparesTaken := 0, spare := none, back := 0, readingBack := false, backOk := true,
          pages := [], identPages := [], readBack := none, unstarted := none, doneItem := none,
          dispatched := false }
      let u := ((s.loseRead n .dropped).setSlot n failed).raise .slotFault
      t.slot n = failed ∧
      (t.link.events.main ||| t.link.events.pending).getLsbD Flag.slotFault.bit = true ∧
      (sl.job = none → t = u ∧ t.planner = s.planner ∧ t.records = s.records ∧
        ∀ m ∈ slotNumbers, m ≠ n → t.slot m = s.slot m) ∧
      (∀ job, sl.job = some job → s.plan job = none → t = u) ∧
      ∀ job p, sl.job = some job → s.plan job = some p →
        (p.faults + 1 < 3 →
          t = ((u.setPlan job { p with faults := p.faults + 1, state := .queued }).joinHead job
            p.rush).matchJobs ∧
          ∃ q, t.plan job = some q ∧ q = { p with faults := p.faults + 1, state := q.state } ∧
            (q.state = .queued ∧ job ∈ t.planner.queue ∨
              ∃ m ∈ slotNumbers, m ≠ n ∧ q.state = .inSlot m ∧ job ∉ t.planner.queue) ∧
            t.records = s.records) ∧
        (3 ≤ p.faults + 1 → t = (u.setPlan job { p with faults := p.faults + 1 }).failPlan job ∧
          (s.ordered → t.plan job = none ∧ (job ∉ s.planner.queue → job ∉ t.planner.queue) ∧
            (t.link.events.main ||| t.link.events.pending).getLsbD Flag.planFailed.bit = true ∧
            ∀ x, s.patron p.patron = some x → ∃ y, t.patron p.patron = some y ∧
              y.cartCount = x.cartCount - 1 ∧
              y.orders = x.orders.map (fun e =>
                if e.state = .planned job then { e with state := .waiting } else e))))

/-! ## Mail Desk -/

/-- R118, R119, R121, R197: SHELF PULLED moves a set item from AWAITING_PULL to AWAITING_LABEL; MAIL LABEL prints
the named item, or for 0 the oldest AWAITING_LABEL, which becomes LABELLED at the clock's date and time, and
prints a LABELLED one again with the time it has; ALARM PUT replaces one alarm, ANY kept and other values
clamped. That ALARM PUT's reply gives the entry's number before the entry is the model's (log entry 44). -/
def Obligations.MailRequestsAnswered : Prop :=
  ∀ (s : State) (i tag : Nat), s.quiet →
    (∀ n x, s.serves i (.shelfPulled tag n) → n ≠ 0 → s.item n = some x →
      (∀ t c, x.kind = .set t c → x.state = .awaitingPull →
        exec (.shelfPulled tag n) s = .next ((s.setMail { s.mail with
          tray := s.mail.tray.map (fun y => if y.number = n then { y with state := .awaitingLabel } else y)
          }).replied i (u16 n ++ u32 (s.patronNumber x.patron) ++ u32 (s.catalogue t) ++ u8 c))) ∧
      (x.kind.isSet = false ∨ x.state ≠ .awaitingPull →
        exec (.shelfPulled tag n) s = .next (s.formReply i { status := .state, fields := [] }))) ∧
    (∀ n x, s.serves i (.mailLabel tag n) →
      (n ≠ 0 ∧ s.item n = some x ∨
        n = 0 ∧ s.mail.tray.find? (fun y => decide (y.state = .awaitingLabel)) = some x) →
      (x.state = .awaitingLabel →
        exec (.mailLabel tag n) s = .next ((s.setMail { s.mail with
          tray := s.mail.tray.map (fun y =>
            if y.number = x.number then { y with state := .labelled s.today s.now } else y)
          }).replied i (s.label x s.today s.now))) ∧
      (∀ date time, x.state = .labelled date time →
        exec (.mailLabel tag n) s = .next (s.replied i (s.label x date time))) ∧
      (x.state = .awaitingPull →
        exec (.mailLabel tag n) s = .next (s.formReply i { status := .state, fields := [] }))) ∧
    ∀ n w h m, s.serves i (.alarmPut tag n w h m) → 1 ≤ n → n ≤ 4 →
      let a : Alarm :=
        { weekdays := BitVec.ofNat 7 w, hour := if h = 255 then none else some (min 23 h),
          minute := if m = 255 then none else some (min 59 m) }
      exec (.alarmPut tag n w h m) s = .next
        ((s.setMail { s.mail with alarms := s.mail.alarms.set (n - 1) a }).replied i (u8 n ++ a.fields))

/-- R124 to R129, R102, R5, R18, R20, R123, R164, R165: the dispatch of the next selected item. Its loan is opened in
the lowest-numbered FREE record, due by the due-date computation; the entries bound to its plan, or to the item,
leave the patron's Order List, which ends a FILL_LOW deferral; its titles join the patron's read history, a title
already in it moving to newest and the oldest of 48 dropping out for a new one, and the service date is the
close's; its manifest entry joins the open batch, which the first dispatch opens with the next batch number, after
65,535 with 1; a cartridge's plan ends and the slot that holds it records the dispatch; a set's copy moves to LOAN.
Nothing else changes while a selected item remains. After the last one, or when those left have been withdrawn, the
close ends, at either of the two commands (log entry 21): the open batch is stored as the newest manifest, the
oldest of 4 dropped, BATCH_CLOSED is raised, and if a set went the titles with a copy on the shelf and a queue are
swept; with nothing dispatched PICKUP_EMPTY is raised. A waiting close is then taken: held behind a roll, dropped on
the last date (log entry 22), begun with the LABELLED items in tray order, or ended with PICKUP_EMPTY where there
are none. -/
def Obligations.ItemsDispatched : Prop :=
  let ended (u : State) (anySet : Bool) (batch : Option Manifest) : State :=
    let shut := u.setMail { u.mail with close := none }
    let v : State := match batch with
      | some b =>
        let stored := (shut.setMail { shut.mail with
          openBatch := none,
          manifests := (if u.mail.manifests.length < 4 then u.mail.manifests
            else u.mail.manifests.drop (u.mail.manifests.length - 3)) ++ [b] }).raise .batchClosed
        if anySet then stored.sweep (stored.titlesWhere (fun _ x => x.copies.contains .shelf && !x.holds.isEmpty))
        else stored
      | none => shut.raise .pickupEmpty
    let w := v.setMail { v.mail with waitingClose := false }
    let labelled : List Nat := (v.mail.tray.filter (fun y => y.state.isLabelled)).map (·.number)
    if u.mail.waitingClose = false then v
    else if u.rolling then w.setMail { w.mail with heldClose := true }
    else if u.today = 73048 then w
    else if labelled = [] then w.raise .pickupEmpty
    else w.setMail { w.mail with
      close := some { selection := labelled, date := u.today, time := u.now, anySet := false } }
  (∀ (s : State) (c : Close) (m k : Nat) (rest : List Nat) (x : Item) (r : Patron), s.run = .running →
    s.quiet → s.shaped → s.ordered → s.numbered → s.mail.close = some c → c.selection = m :: rest →
    s.item m = some x → s.patron x.patron = some r → 1 ≤ k → k ≤ 20480 → s.loan k = none →
    (∀ j, 1 ≤ j → j < k → s.loan j ≠ none) →
    let left (q : Patron) (orders : List OrderEntry) : Prop :=
      q.orders.map (·.title) = orders.map (·.title) ∧ ((∃ m' ∈ rest, m' ≠ m) → q.orders = orders) ∧
        q.deferral = if r.deferral = .fillLow then .none else r.deferral
    let number := if 65535 ≤ s.mail.lastBatch then 1 else s.mail.lastBatch + 1
    let batch (e : ManifestEntry) : Manifest :=
      match s.mail.openBatch with
      | some b => { b with entries := b.entries ++ [e] }
      | none => { number := number, date := c.date, time := c.time, entries := [e] }
    let served (orders : List OrderEntry) (history : List Nat) : Patron :=
      { r with
        orders := orders, history := history, lastService := some c.date,
        deferral := if r.deferral = .fillLow then .none else r.deferral }
    let mail (b : Manifest) (anySet : Bool) : Mail :=
      { s.mail with
        tray := s.mail.tray.filter (fun y => decide (y.number ≠ m)),
        close := some { c with selection := rest.filter (fun j => decide (j ≠ m)), anySet := anySet },
        openBatch := some b, lastBatch := if s.mail.openBatch = none then number else s.mail.lastBatch }
    let goesOn (c : Instr) (u : State) (anySet : Bool) (b : Manifest) : Prop :=
      ((∃ m' ∈ rest, m' ≠ m) → exec c s = .next u.takeTrigger) ∧
      ((∀ m' ∈ rest, m' = m) → exec c s = .next (ended u anySet (some b)).takeTrigger)
    (∀ plan serial p, x.kind = .cartridge plan serial → s.plan plan = some p →
      let cats := p.placements.map (fun q => s.catalogue q.title)
      let loan : Loan :=
        { kind := .cartridge serial cats, patron := x.patron, overdue := false, dispatch := c.date,
          due := s.dueDate false c.date, stage := 0 }
      let entry : ManifestEntry := { item := m, patronNumber := r.number, what := .inl serial, loan := k }
      (∃ t q b, exec .dispatchCartridgeItem s = .next t ∧ t.loan k = some loan ∧
        t.plan plan = none ∧ t.patron x.patron = some q ∧ q.history = cats.foldl historyAdd r.history ∧
        q.lastService = some c.date ∧ q.cartCount = r.cartCount ∧
        left q (r.orders.filter (fun e => decide (e.state ≠ .planned plan))) ∧
        (t.mail.openBatch = some b ∨ b ∈ t.mail.manifests) ∧ entry ∈ b.entries ∧
        (∀ n ∈ slotNumbers, (s.slot n).state = .done → (s.slot n).doneItem.map (·.2) = some m →
          (t.slot n).dispatched = true ∧ (t.slot n).doneItem = none)) ∧
      ∃ rack, rack.length = 8 ∧
        (∀ n ∈ slotNumbers, rack[n - 1]? = some
          (if (s.slot n).state = .done ∧ (s.slot n).doneItem.map (·.2) = some m then
            { s.slot n with doneItem := none, dispatched := true } else s.slot n)) ∧
        goesOn .dispatchCartridgeItem
          ((((s.setRecords { s.records with
            patrons := s.records.patrons.put x.patron (served
              (r.orders.filter (fun e => decide (e.state ≠ .planned plan))) (cats.foldl historyAdd r.history)),
            loans := s.records.loans.put k loan }).setPlanner
              { s.planner with plans := s.planner.plans.del plan, due := true }).setRack rack).setMail
                (mail (batch entry) c.anySet)) c.anySet (batch entry)) ∧
    (∀ title copy ti, x.kind = .set title copy → s.title title = some ti → ti.format = .pbraille →
      1 ≤ copy → copy ≤ 15 →
      let loan : Loan :=
        { kind := .set title copy ti.volumes [], patron := x.patron, overdue := false, dispatch := c.date,
          due := s.dueDate true c.date, stage := 0 }
      let entry : ManifestEntry :=
        { item := m, patronNumber := r.number, what := .inr (ti.catalogue, copy), loan := k }
      (∃ t q b u, exec .dispatchSetItem s = .next t ∧ t.loan k = some loan ∧
        t.title title = some u ∧ u.copies[copy - 1]? = some (.loan k) ∧ t.patron x.patron = some q ∧
        q.history = historyAdd r.history ti.catalogue ∧ q.lastService = some c.date ∧
        left q (r.orders.filter (fun e => decide (e.state ≠ .allocated m copy))) ∧
        (t.mail.openBatch = some b ∨ b ∈ t.mail.manifests) ∧ entry ∈ b.entries) ∧
      goesOn .dispatchSetItem
        (((s.setRecords { s.records with
          patrons := s.records.patrons.put x.patron (served
            (r.orders.filter (fun e => decide (e.state ≠ .allocated m copy))) (historyAdd r.history ti.catalogue)),
          titles := s.records.titles.put title { ti with copies := ti.copies.set (copy - 1) (.loan k) },
          loans := s.records.loans.put k loan }).setPlanner
            { s.planner with due := decide (r.deferral = .fillLow) }).setMail (mail (batch entry) true))
        true (batch entry))) ∧
  (∀ (s : State) (c : Close), s.run = .running → s.quiet → s.mail.close = some c → c.selection = [] →
    exec .dispatchCartridgeItem s = .next (ended s c.anySet s.mail.openBatch).takeTrigger ∧
    exec .dispatchSetItem s = .next (ended s c.anySet s.mail.openBatch).takeTrigger) ∧
  (∀ (h : List Nat) (cat : Nat),
    (cat ∈ h → historyAdd h cat = h.filter (fun x => decide (x ≠ cat)) ++ [cat]) ∧
    (cat ∉ h → h.length < 48 → historyAdd h cat = h ++ [cat]) ∧
    (cat ∉ h → h.length = 48 → historyAdd h cat = h.tail ++ [cat])) ∧
  ∀ (s : State) (isSet : Bool) (day : Nat),
    let first := day + if isSet then s.link.settings.setDays else s.link.settings.cartDays
    (73048 < first → s.dueDate isSet day = 73048) ∧
    (first ≤ 73048 → ∃ j, j ≤ 14 ∧ s.dueDate isSet day = first + j ∧ first + j ≤ 73048 ∧
      (∀ k, k < j → s.calendar.closed (first + k) = true) ∧
      (j = 14 ∨ s.calendar.closed (first + j) = false ∨ first + j = 73048))

/-! ## Returns Desk -/

/-- R133 to R139, R141, R142, R145, R154, R4, R20, R22: the reader. A cartridge put into an EMPTY reader is read;
removal empties it, or marks a pending result's cartridge removed. A bad read, and one past its 2 ms, is UNREADABLE. A
serial in a bin is ALREADY_BINNED, and one of a tray item or a rack slot is CONFLICT; neither is pushed and no record
changes. A related serial read during a day roll waits as the pending result. Any other is classified: CHECKED_IN with
its loan freed and the patron's count one less, LATE with its Written-off List entry removed, UNKNOWN without either,
and WORN from 10,000 cycles whatever it was. CHECKED_IN and LATE go on top of REUSE, or of INSPECT as SPILL where
REUSE holds 40, the others on top of INSPECT, and to NO_BIN where neither has room. RETURN_READ tells of each result,
and BIN_FULL of the push that fills a bin. What the read gave, the write tab too, is kept with the result, and is gone
with the cartridge. A read begun at a start, while a pending result stands, classifies nothing: the cartridge is the
pending one, or, of another serial, unreadable or past its 2 ms, counts as removed with another in its place. That an
insertion into a reader not EMPTY begins no read, that a report with no read in hand is discarded (log entry 4) and
that a read before its limit goes on (log entry 18) are the model's reading. -/
def Obligations.ReaderReadsReturns : Prop :=
  ∀ s : State, s.quiet → s.run = .running →
    let r := s.returns
    (r.reader = .empty →
      exec .readerInsert s =
        .next (s.setReturns { r with present := true, reader := .reading, identifying := true, kept := none })) ∧
    (r.reader ≠ .empty → exec .readerInsert s = .next (s.setReturns { r with present := true })) ∧
    (r.reader ≠ .pendingRoll →
      exec .readerRemove s =
        .next (s.setReturns { r with present := false, reader := .empty, identifying := false, kept := none })) ∧
    (r.reader = .pendingRoll →
      exec .readerRemove s =
        .next (s.setReturns { r with present := false, identifying := false, removed := true, kept := none })) ∧
    (∀ ran, ran < 2000 → exec (.readerReadTimeout ran) s = .next s) ∧
    (∀ ran, 2000 ≤ ran → exec (.readerReadTimeout ran) s = exec (.readerIdentityDone false []) s) ∧
    (∀ ok area, r.identifying = false → exec (.readerIdentityDone ok area) s = .next s) ∧
    (∀ p, r.reader = .pendingRoll → r.identifying = true → r.pending = some p →
      (∀ ok area x, identityOf ok area = some x → exec (.readerIdentityDone ok area) s = .next (s.setReturns
        { r with identifying := false, kept := some x, removed := decide (x.serial ≠ p.serial) })) ∧
      (∀ ok area, identityOf ok area = none → exec (.readerIdentityDone ok area) s = .next (s.setReturns
        { r with identifying := false, kept := none, removed := true })) ∧
      ∀ ran, 2000 ≤ ran → exec (.readerReadTimeout ran) s = .next (s.setReturns
        { r with identifying := false, kept := none, removed := true })) ∧
    (r.reader = .reading → r.identifying = true →
      let found (i : Option Identity) (o : ReturnOutcome) (c : Option Classification) (loan patron : Option Nat)
          (bin : Option BinName) (depth : Option Nat) (spill : Bool) : Result :=
        { serial := i.map (·.serial), cls := i.map (·.cls), cycles := i.map (·.cycles), outcome := o,
          classification := c, loan := loan, patron := patron, bin := bin, depth := depth, spill := spill,
          heldBy := none, date := s.today, time := s.now }
      let tells (u : State) (i : Option Identity) (reuse inspect : List BinEntry) (x : Result) : State :=
        (u.setReturns { r with
          reader := .result, identifying := false, kept := i, reuse := reuse, inspect := inspect,
          result := some x }).raise .returnRead
      let fills (depth : Nat) (u : State) : State := if depth = 39 then u.raise .binFull else u
      let binned (c : Instr) (u : State) (i : Option Identity) (k : Classification)
          (loan patron : Option Nat) : Prop :=
        let gives (t : State) : Prop := exec c s = .next t.takeTrigger
        let entry (reason : BinReason) : BinEntry :=
          { serial := i.map (·.serial), reason := reason, date := s.today }
        let onInspect (reason : BinReason) (spill : Bool) : Prop :=
          gives (tells (fills r.inspect.length u) i r.reuse (entry reason :: r.inspect)
            (found i k.outcome k loan patron (some .inspect) (some (r.inspect.length + 1)) spill))
        let nowhere (spill : Bool) : Prop :=
          gives (tells u i r.reuse r.inspect (found i .noBin k loan patron none none spill))
        (k = .checkedIn ∨ k = .late →
          (r.reuse.length < 40 → gives (tells (fills r.reuse.length u) i (entry k.reason :: r.reuse) r.inspect
            (found i k.outcome k loan patron (some .reuse) (some (r.reuse.length + 1)) false))) ∧
          (40 ≤ r.reuse.length → (r.inspect.length < 40 → onInspect .spill true) ∧
            (40 ≤ r.inspect.length → nowhere true))) ∧
        (k ≠ .checkedIn → k ≠ .late → (r.inspect.length < 40 → onInspect k.reason false) ∧
          (40 ≤ r.inspect.length → nowhere false))
      (∀ ok area, identityOf ok area = none →
        binned (.readerIdentityDone ok area) s none .unreadable none none) ∧
      (∀ ran, 2000 ≤ ran → binned (.readerReadTimeout ran) s none .unreadable none none) ∧
      ∀ ok area x, identityOf ok area = some x →
        let read := Instr.readerIdentityDone ok area
        let ends (o : ReturnOutcome) : Prop := exec read s = .next
          (tells s (some x) r.reuse r.inspect (found (some x) o none none none none none false))
        let known := (s.serialItem x.serial).isSome || (s.serialSlot x.serial (fun _ => true)).isSome
        (s.binned x.serial = true → ends .alreadyBinned) ∧
        (s.binned x.serial = false → known = true → ends .conflict) ∧
        (s.binned x.serial = false → known = false →
          (s.rolling = true → s.related x.serial = true → exec read s = .next (s.setReturns
            { r with
              reader := .pendingRoll, identifying := false, removed := false, kept := some x,
              pending := some
                { serial := x.serial, cls := x.cls, cycles := x.cycles, date := s.today, time := s.now } })) ∧
          (s.related x.serial = false →
            binned read s (some x) (if 10000 ≤ x.cycles then .worn else .unknown) none none) ∧
          (∀ l, s.rolling = false → s.serialLoan x.serial = none → s.lostSerial x.serial = some l →
            binned read (s.setLost (s.records.lost.filter (fun e => !e.isSerial x.serial))) (some x)
              (if 10000 ≤ x.cycles then .worn else .late) none (some l.patron)) ∧
          ∀ id l p, s.rolling = false → s.serialLoan x.serial = some (id, l) → s.loan id = some l →
            s.patron l.patron = some p →
            binned read (((s.freeLoan id).dropCarts l.patron).noteTrigger) (some x)
              (if 10000 ≤ x.cycles then .worn else .checkedIn) (some id) (some l.patron) ∧
            (s.ordered → ∃ t q, exec read s = .next t ∧ t.loan id = none ∧ t.patron l.patron = some q ∧
              q.cartCount = p.cartCount - 1 ∧ q.orders = p.orders ∧ q.history = p.history ∧
              t.records.titles = s.records.titles ∧ t.records.lost = s.records.lost ∧
              (t.link.events.main ||| t.link.events.pending).getLsbD Flag.returnRead.bit = true)))

/-- R149, R150, R151, R147: RETURN VOLUME adds a volume to its set; the last one frees the loan, lowers the
patron's set count and puts the copy on the shelf, then sweeps; one already in changes nothing. In the late
form the volume joins the Written-off List entry, and the last one removes the entry and puts the copy on
the shelf. BIN TAKE removes entries from the top of a bin. The bytes of the indications are log entry 12. -/
def Obligations.VolumesReturnedAndBinsTaken : Prop :=
  (∀ (s : State) (i tag loan v t c total : Nat) (returned : List Nat) (l : Loan),
    s.serves i (.returnVolumeLoan tag loan v) → s.quiet → s.rolling = false → 1 ≤ loan → loan ≤ 20480 →
    s.loan loan = some l → l.kind = .set t c total returned → 1 ≤ v → v ≤ total →
    (v ∈ returned → exec (.returnVolumeLoan tag loan v) s = .next
      (s.replied i (u16 loan ++ u8 v ++ u8 returned.length ++ u8 total ++ [0#8, 0#8, 0#8]))) ∧
    (v ∉ returned → returned.length + 1 < total → exec (.returnVolumeLoan tag loan v) s = .next
      ((s.setLoan loan { l with kind := .set t c total (returned ++ [v]) }).replied i
        (u16 loan ++ u8 v ++ u8 (returned.length + 1) ++ u8 total ++ [0#8, 0#8, 0#8]))) ∧
    (v ∉ returned → total ≤ returned.length + 1 →
      let u := (((s.freeLoan loan).dropSets l.patron).moveCopy t c .shelf).noteTrigger
      let w := u.sweep (u.titlesWhere (fun j r => decide (j = t) || queueHolds l.patron j r))
      exec (.returnVolumeLoan tag loan v) s = .next ((w.replied i
        (u16 loan ++ u8 v ++ u8 total ++ u8 total ++ [1#8] ++ u8 c ++ u8 (w.placeCode t c))).takeTrigger))) ∧
  (∀ (s : State) (i tag n k c v patron date total : Nat) (returned : List Nat) (r : Title),
    s.serves i (.returnVolumeLate tag n c v) → s.quiet → s.rolling = false → n ≤ 8191 →
    n = k ∧ n ≠ 0 ∨ n = 0 ∧ s.link.titleCtx = some k → s.title k = some r → r.format = .pbraille →
    1 ≤ c → c ≤ 15 → s.records.lost.find? (fun l => l.isCopy k c) =
      some { kind := .set k c total returned, patron := patron, date := date } → 1 ≤ v → v ≤ total →
    let done (w : State) (reply : List Byte) :=
      (w.setLink { w.link with titleCtx := some k }).replied i (u16 k ++ u8 c ++ u8 v ++ reply)
    (v ∈ returned → exec (.returnVolumeLate tag n c v) s = .next
      (done s (u8 returned.length ++ u8 total ++ [0#8]))) ∧
    (v ∉ returned → returned.length + 1 < total → exec (.returnVolumeLate tag n c v) s = .next
      (done (s.addLate k c v) (u8 (returned.length + 1) ++ u8 total ++ [0#8]))) ∧
    (v ∉ returned → total ≤ returned.length + 1 →
      let w := ((s.setLost (s.records.lost.filter (fun l => !l.isCopy k c))).moveCopy k c .shelf).sweep [k]
      exec (.returnVolumeLate tag n c v) s = .next
        (done w (u8 total ++ u8 total ++ [1#8])).takeTrigger)) ∧
  ∀ (s : State) (i tag count : Nat), s.quiet →
    (s.serves i (.binTake tag 1 count) →
      let l := s.returns.reuse
      let n := min (min 40 count) l.length
      exec (.binTake tag 1 count) s = .next ((s.setReturns { s.returns with reuse := l.drop n }).replied i
        (u8 n ++ u16 n ++ (l.take n).flatMap BinEntry.fields ++ u8 (l.length - n)))) ∧
    (s.serves i (.binTake tag 2 count) →
      let l := s.returns.inspect
      let n := min (min 40 count) l.length
      exec (.binTake tag 2 count) s = .next ((s.setReturns { s.returns with inspect := l.drop n }).replied i
        (u8 n ++ u16 n ++ (l.take n).flatMap BinEntry.fields ++ u8 (l.length - n))))

/-! ## Calendar -/

/-- R158 to R163, R175, R167: CLOCK STOP, CLOCK SET and CLOCK START, CLOSED DAY PUT in both forms, and REMINDERS
READ; a date stored and read back is itself (R161), its day number at most 73,048. That CLOSED DAY
PUT's reply gives the entry's number before the entry, and REMINDERS READ of an empty list its two counts, is the
model's (log entries 44, 36). -/
def Obligations.CalendarRequestsServed : Prop :=
  (∀ (s : State) (i tag : Nat), s.quiet →
    let c := s.calendar
    (s.serves i (.clockStop tag) → c.roll = none →
      (c.clock.running = true → exec (.clockStop tag) s = .next (((s.setCalendar
        { c with clock := { c.clock with running := false, prescaler := 0 }, within60 := false }).raise
          .clockStopped).replied i (dateField c.clock.day ++ timeField c.clock.time))) ∧
      (c.clock.running = false → exec (.clockStop tag) s = .next
        (s.replied i (dateField c.clock.day ++ timeField c.clock.time)))) ∧
    (∀ y mo d h mi se, s.serves i (.clockSet tag y mo d h mi se) →
      (c.clock.running = true → exec (.clockSet tag y mo d h mi se) s =
        .next (s.formReply i { status := .clockRunning, fields := [] })) ∧
      (c.clock.running = false → c.roll = none → validDate y mo d = true → h ≤ 23 → mi ≤ 59 → se ≤ 59 →
        let day := dayNumber y mo d
        let time : TimeOfDay := { hour := h, minute := mi, second := se }
        exec (.clockSet tag y mo d h mi se) s = .next ((s.setCalendar
          { c with clock := { day := day, time := time, running := false, prescaler := 0 } }).replied i
            (dateField day ++ timeField time ++ u8 ((day + 5) % 7))))) ∧
    (s.serves i (.clockStart tag) → c.clock.running = false → c.clock.atEnd = false → c.roll = none →
      let t := s.setCalendar { c with clock := { c.clock with running := true, prescaler := 1 } }
      exec (.clockStart tag) s = .next ((if t.rollOverdue then t.beginRoll else t).replied i
        (dateField c.clock.day ++ timeField c.clock.time ++ [if t.rollOverdue then 1#8 else 0#8]))) ∧
    (∀ n mo d w, s.serves i (.closedDayPutUsed tag n mo d w) → 1 ≤ n → n ≤ 24 →
      (mo = 255 ∨ 1 ≤ mo ∧ mo ≤ 12) → (d = 255 ∨ 1 ≤ d ∧ d ≤ 31) → (w = 255 ∨ w ≤ 6) →
      exec (.closedDayPutUsed tag n mo d w) s = .next ((s.setCalendar
        { c with closedDays := c.closedDays.set (n - 1) (some
          { month := if mo = 255 then none else some mo, day := if d = 255 then none else some d,
            weekday := if w = 255 then none else some w }) }).replied i
              (u8 n ++ u8 1 ++ u8 mo ++ u8 d ++ u8 w))) ∧
    (∀ n, s.serves i (.closedDayPutClear tag n) → 1 ≤ n → n ≤ 24 →
      exec (.closedDayPutClear tag n) s = .next ((s.setCalendar
        { c with closedDays := c.closedDays.set (n - 1) none }).replied i (u8 n ++ [0#8, 0#8, 0#8, 0#8]))) ∧
    (s.serves i (.remindersRead tag) →
      exec (.remindersRead tag) s = .next ((s.setCalendar
        { c with reminders := c.reminders.drop 16 }).replied i
          (listField s.reminderLine (c.reminders.take 16) ++ u8 (c.reminders.length - 16))))) ∧
  (∀ y m d, validDate y m d = true → dateOf (dayNumber y m d) = (y, m, d) ∧ dayNumber y m d ≤ 73048) ∧
  dayNumber 2000 1 1 = 0 ∧ weekday 0 = 5

/-- R155, R156, R122, R123, R124, R165 to R167: the tick. A stopped clock has none. A running one advances by a
second, and stops by itself with CLOCK_STOPPED at the end of the calendar. At a minute boundary the next
minute is tested for ROLL_SOON, a roll due begins with today as its date, and an alarm that matches is a
close call. When both fall on one minute, which is first is free (log entry 3), and the close call is held
behind the roll or begins before it. A close call that meets a close in progress waits behind it. That a part
which does not run hands no boundary on (log entry 32), and that at the end of the calendar CLOCK_STOPPED is raised
in reset too and not without power (log entries 56, 32), is the model's reading. -/
def Obligations.ClockTicks : Prop :=
  ∀ s : State, s.quiet → s.calendar.clock.right →
    let c := s.calendar.clock
    let n := c.time.next
    let day := if n.2 then c.day + 1 else c.day
    let ticked : Clock := { day := day, time := n.1, running := true, prescaler := 2 }
    (c.running = false → exec .clockTick s = .next s) ∧
    (c.running = true → c.time.second < 59 → ticked.atEnd = false →
      exec .clockTick s = .next (s.setCalendar { s.calendar with clock := ticked })) ∧
    (c.running = true → ticked.atEnd = true → s.run = .off →
      exec .clockTick s = .next (s.setCalendar
        { s.calendar with
          clock := { ticked with running := false, prescaler := 0 }, within60 := false })) ∧
    (c.running = true → ticked.atEnd = true → s.run ≠ .off →
      exec .clockTick s = .next ((s.setCalendar
        { s.calendar with
          clock := { ticked with running := false, prescaler := 0 }, within60 := false }).raise
            .clockStopped)) ∧
    (c.running = true → c.time.second = 59 → s.run ≠ .running →
      exec .clockTick s = .next (s.setCalendar { s.calendar with clock := ticked })) ∧
    (c.running = true → c.time.second = 59 → s.run = .running →
      let due := s.link.settings.rollMinuteIs n.1.hour n.1.minute && lastBefore s.calendar.lastRoll day &&
        !s.rolling
      let next := nextMinute day n.1
      let fires := decide (day ≠ 73048) && s.mail.alarms.any (fun a => a.fires day n.1.hour n.1.minute)
      ∃ t, exec .clockTick s = .next t ∧ t.calendar.clock = ticked ∧ t.records = s.records ∧
        t.rolling = (s.rolling || due) ∧
        (due = true → (t.calendar.roll.map (·.date)) = some day) ∧
        t.calendar.within60 = (s.link.settings.rollMinuteIs next.2.1 next.2.2 &&
          lastBefore s.calendar.lastRoll next.1 && !s.rolling && decide (next.1 < 73048)) ∧
        (t.calendar.within60 = true →
          (t.link.events.main ||| t.link.events.pending).getLsbD Flag.rollSoon.bit = true) ∧
        t.mail.tray = s.mail.tray ∧
        (fires = false → t.mail = s.mail) ∧
        (fires = true → s.rolling = true → t.mail = { s.mail with heldClose := true }) ∧
        (fires = true → s.rolling = false → due = false → s.mail.close = none → s.labelled ≠ [] →
          t.mail = { s.mail with
            close := some { selection := s.labelled, date := day, time := n.1, anySet := false } }) ∧
        (fires = true → s.rolling = false → due = false → s.mail.close = none → s.labelled = [] →
          t.mail = s.mail ∧
            (t.link.events.main ||| t.link.events.pending).getLsbD Flag.pickupEmpty.bit = true) ∧
        (fires = true → s.rolling = false → due = false → s.mail.close ≠ none →
          t.mail = { s.mail with waitingClose := true }) ∧
        (fires = true → due = true → s.mail.close ≠ none →
          t.mail = { s.mail with heldClose := true } ∨ t.mail = { s.mail with waitingClose := true }) ∧
        (fires = true → due = true → s.mail.close = none → s.labelled ≠ [] →
          t.drawn = s.drawn + 1 ∧
          (t.mail = { s.mail with heldClose := true } ∨
            t.mail = { s.mail with
              close := some { selection := s.labelled, date := day, time := n.1, anySet := false } })))

/-- R169, R170, R171, R172, R22, R174: the steps of a roll. A loan past due becomes OVERDUE and rises to the stage
its days reach, with a reminder for each stage, and at 90 days is written off; a patron paused until the roll
date becomes ACTIVE, and a CLOSED one with no loan is freed with the context that names it; every deferral
is cleared; and the finish leaves the last-roll date, ROLL_DONE and REMINDERS. A stage for whose reminder the
Reminder List has no room is not reached. The roll stands at the next loan or patron there is, and passes to the
patrons and the deferrals when none is left, in the step of the last one, which is the model's choice (log entry
55). That the four steps change nothing with no roll running is the
model's reading (log entry 4). -/
def Obligations.RollStepsWalkTheRecords : Prop :=
  ∀ (s : State) (date : Nat), s.run = .running → s.quiet →
    let at_ (p : RollPlace) : Prop := s.calendar.roll = some { date := date, place := p }
    let stands (p : RollPlace) := s.setCalendar { s.calendar with roll := some { date := date, place := p } }
    let taken (e : Nat × Patron) : Prop :=
      (e.2.state = .paused ∧ ∃ d, e.2.pauseUntil = some d ∧ d ≤ date) ∨
        (e.2.state = .closed ∧ ∀ l ∈ s.records.loans, l.2.patron ≠ e.1)
    (∀ k, ((∃ e ∈ s.records.loans, k ≤ e.1) → s.setRoll date (.loans k) = stands (.loans k)) ∧
      ((∀ e ∈ s.records.loans, e.1 < k) → s.setRoll date (.loans k) = s.setRoll date (.patrons 1)) ∧
      ((∃ e ∈ s.records.patrons, k ≤ e.1 ∧ taken e) → s.setRoll date (.patrons k) = stands (.patrons k)) ∧
      ((∀ e ∈ s.records.patrons, k ≤ e.1 → ¬taken e) → s.setRoll date (.patrons k) = stands .deferrals)) ∧
    (∀ k, at_ (.loans k) → s.loanFrom k = none →
      exec .rollLoanStep s = .next (s.setRoll date (.patrons 1))) ∧
    (∀ k, at_ (.patrons k) → s.rollPatronFrom date k = none →
      exec .rollPatronStep s = .next (stands .deferrals)) ∧
    (∀ k id l, at_ (.loans k) → s.loanFrom k = some id → s.loan id = some l →
      (date ≤ l.due → exec .rollLoanStep s = .next (s.setRoll date (.loans (id + 1)))) ∧
      (l.due < date → l.stage ≤ 3 → date - l.due < 90 →
        let d := date - l.due
        let reached := if 42 ≤ d then 3 else if 21 ≤ d then 2 else if 7 ≤ d then 1 else 0
        let stage := max l.stage (min reached (l.stage + (64 - s.calendar.reminders.length)))
        let raised := (List.range (stage - l.stage)).map (fun j =>
          ({ loan := id, patron := l.patron, stage := l.stage + 1 + j, date := date } : Reminder))
        exec .rollLoanStep s = .next
          (((s.setCalendar { s.calendar with reminders := s.calendar.reminders ++ raised }).setLoan id
            { l with overdue := true, stage := stage }).setRoll date (.loans (id + 1)))) ∧
      (∀ r, l.due + 90 ≤ date → s.ordered → s.patron l.patron = some r →
        ∃ t q, exec .rollLoanStep s = .next t ∧ t.loan id = none ∧ t.patron l.patron = some q ∧
          t.records.lost.getLast? = some (l.lost date) ∧
          (l.stage ≤ 3 → t.calendar.reminders = s.calendar.reminders ++
            (List.range (min (3 - l.stage) (64 - s.calendar.reminders.length))).map (fun j =>
              { loan := id, patron := l.patron, stage := l.stage + 1 + j, date := date })) ∧
          (l.kind.isSet = false → q.cartCount = r.cartCount - 1 ∧ q.setCount = r.setCount) ∧
          (∀ ti c v vs u, l.kind = .set ti c v vs → s.title ti = some u → u.format = .pbraille →
            s.shaped → 1 ≤ c → c ≤ 15 → q.cartCount = r.cartCount ∧
              ∃ w, t.title ti = some w ∧ w.copies[c - 1]? = some .missing))) ∧
    (∀ k n p, at_ (.patrons k) → s.rollPatronFrom date k = some n → s.patron n = some p →
      (p.state = .paused → exec .rollPatronStep s = .next
        ((((s.setPatron n { p with state := .active, pauseUntil := none }).sweepPatron n).setRoll date
          (.patrons (n + 1))).takeTrigger)) ∧
      (p.state = .closed → s.ordered →
        ∃ t, exec .rollPatronStep s = .next t ∧ t.patron n = none ∧
          t.link.patronCtx = (if s.link.patronCtx = some n then none else s.link.patronCtx) ∧
          t.records.titles = s.records.titles ∧ t.records.loans = s.records.loans)) ∧
    (at_ .deferrals → exec .rollDeferralClear s = .next
      ((s.setRecords { s.records with
        patrons := s.records.patrons.map (fun e => (e.1, { e.2 with deferral := .none })) }).setCalendar
          { s.calendar with roll := some { date := date, place := .finish } })) ∧
    (at_ .finish →
      ∃ t, exec .rollFinish s = .next t ∧ t.calendar =
          { s.calendar with lastRoll := some date, roll := none, follow := .trigger } ∧
        t.records = s.records ∧
        t.mail = { s.mail with heldClose := s.mail.heldClose && decide (s.today ≠ 73048) } ∧
        (t.link.events.main ||| t.link.events.pending).getLsbD Flag.rollDone.bit = true ∧
        ((∃ x ∈ s.calendar.reminders, x.date = date) →
          (t.link.events.main ||| t.link.events.pending).getLsbD Flag.reminders.bit = true)) ∧
    (s.calendar.roll = none → exec .rollLoanStep s = .next s ∧ exec .rollPatronStep s = .next s ∧
      exec .rollDeferralClear s = .next s ∧ exec .rollFinish s = .next s)

/-- R172, R49, R123, R124, R165, R135 to R139, R141, R142, R154: the work that follows a roll, in its order. A
planning trigger is taken; the held close is released as a close call, but not on the last date: with nothing
LABELLED it ends with PICKUP_EMPTY, behind a close in progress it waits, and while the next roll runs it is held
again. The pending result is completed, steps 4 to 6 of the classification, against the records as they stand: a
serial on loan is checked in, one in the Written-off List late, another UNKNOWN, and from 10,000 cycles WORN. It is
pushed as any classification is, to INSPECT as SPILL where REUSE is full and to NO_BIN where both are, and is
neither ALREADY_BINNED nor CONFLICT, those being steps 2 and 3; where a rack slot records the serial, of several the
lowest-numbered, which is the model's choice (log entry 61), nothing is pushed, the held-by-rack field names the
slot and the spill flag is clear, which is the model's too (log entry 54). The reader then holds the result, or,
the cartridge having been removed, is EMPTY, or READING where another stands in the socket; a read begun at a start
that has not ended goes on as the reading of a fresh cartridge (log entry 23). That a command whose work is not due
changes nothing is the model's reading (log entry 4). -/
def Obligations.WorkFollowsTheRoll : Prop :=
  ∀ s : State, s.run = .running → s.quiet →
    let follow (v : State) (f : Follow) := v.setCalendar { v.calendar with follow := f }
    let afterClose : Follow := if s.returns.pending.isSome then .pendingResult else .nothing
    (s.calendar.follow = .trigger → exec .rollEndPlanningTrigger s = .next
      (follow s (if s.mail.heldClose then .heldClose else afterClose)).triggered) ∧
    (s.calendar.follow ≠ .trigger → exec .rollEndPlanningTrigger s = .next s) ∧
    (s.calendar.follow = .heldClose → s.today ≠ 73048 →
      let released := s.setMail { s.mail with heldClose := false }
      let gives (t : State) : Prop := exec .heldCloseRelease s = .next (follow t afterClose)
      (s.rolling = true → gives (s.setMail { s.mail with heldClose := true })) ∧
      (s.rolling = false → s.mail.close ≠ none → gives (released.setMail
        { released.mail with waitingClose := true })) ∧
      (s.rolling = false → s.mail.close = none →
        (s.labelled ≠ [] → gives (released.setMail
          { released.mail with
            close := some { selection := s.labelled, date := s.today, time := s.now, anySet := false } })) ∧
        (s.labelled = [] → gives (released.raise .pickupEmpty)))) ∧
    (s.calendar.follow = .heldClose → s.today = 73048 →
      exec .heldCloseRelease s = .next (follow (s.setMail { s.mail with heldClose := false }) afterClose)) ∧
    (s.calendar.follow ≠ .heldClose → exec .heldCloseRelease s = .next s) ∧
    (s.calendar.follow ≠ .pendingResult ∨ s.rolling = true → exec .pendingResultComplete s = .next s) ∧
    (s.calendar.follow = .pendingResult → s.rolling = false → s.returns.pending = none →
      exec .pendingResultComplete s = .next (follow s .nothing)) ∧
    (∀ p, s.calendar.follow = .pendingResult → s.rolling = false → s.returns.pending = some p →
      let r := s.returns
      let reader : ReaderState :=
        if r.identifying then .reading
        else if r.removed then (if r.present then .reading else .empty) else .result
      let tells (u : State) (reuse inspect : List BinEntry) (x : Result) : State :=
        (u.setReturns { r with
          pending := none, reader := reader,
          identifying := r.identifying || (r.removed && r.present), removed := false,
          kept := if reader = .result then r.kept else none, reuse := reuse, inspect := inspect,
          result := some x }).raise .returnRead
      let fills (depth : Nat) (u : State) : State := if depth = 39 then u.raise .binFull else u
      let gives (t : State) : Prop := exec .pendingResultComplete s = .next (follow t .nothing).takeTrigger
      let records (n : Nat) : Prop := n ∈ slotNumbers ∧ (s.slot n).cart.map (·.serial) = some p.serial
      let completes (u : State) (k : Classification) (loan patron : Option Nat) : Prop :=
        let found (o : ReturnOutcome) (bin : Option BinName) (depth : Option Nat) (spill : Bool)
            (heldBy : Option Nat) : Result :=
          { serial := some p.serial, cls := some p.cls, cycles := some p.cycles, outcome := o,
            classification := some k, loan := loan, patron := patron, bin := bin, depth := depth,
            spill := spill, heldBy := heldBy, date := s.today, time := s.now }
        let entry (reason : BinReason) : BinEntry :=
          { serial := some p.serial, reason := reason, date := s.today }
        let onInspect (reason : BinReason) (spill : Bool) : Prop :=
          gives (tells (fills r.inspect.length u) r.reuse (entry reason :: r.inspect)
            (found k.outcome (some .inspect) (some (r.inspect.length + 1)) spill none))
        (∀ n, records n → (∀ m, records m → n ≤ m) →
          gives (tells u r.reuse r.inspect (found k.outcome none none false (some n)))) ∧
        ((∀ m, ¬records m) →
          (k = .checkedIn ∨ k = .late →
            (r.reuse.length < 40 → gives (tells (fills r.reuse.length u) (entry k.reason :: r.reuse) r.inspect
              (found k.outcome (some .reuse) (some (r.reuse.length + 1)) false none))) ∧
            (40 ≤ r.reuse.length → (r.inspect.length < 40 → onInspect .spill true) ∧
              (40 ≤ r.inspect.length →
                gives (tells u r.reuse r.inspect (found .noBin none none true none))))) ∧
          (k ≠ .checkedIn → k ≠ .late → (r.inspect.length < 40 → onInspect k.reason false) ∧
            (40 ≤ r.inspect.length →
              gives (tells u r.reuse r.inspect (found .noBin none none false none)))))
      let worn (k : Classification) : Classification := if 10000 ≤ p.cycles then .worn else k
      (s.serialLoan p.serial = none → s.lostSerial p.serial = none → completes s (worn .unknown) none none) ∧
      (∀ l, s.serialLoan p.serial = none → s.lostSerial p.serial = some l →
        completes (s.setLost (s.records.lost.filter (fun e => !e.isSerial p.serial))) (worn .late) none
          (some l.patron)) ∧
      ∀ id l, s.serialLoan p.serial = some (id, l) →
        completes (((s.freeLoan id).dropCarts l.patron).noteTrigger) (worn .checkedIn) (some id)
          (some l.patron)) ∧
    ∀ p id l r, s.calendar.follow = .pendingResult → s.rolling = false → s.ordered →
      s.returns.pending = some p → s.serialSlot p.serial (fun _ => true) = none →
      s.serialLoan p.serial = some (id, l) → s.loan id = some l → s.patron l.patron = some r →
      p.cycles < 10000 → s.returns.reuse.length < 40 → s.returns.identifying = false →
      s.returns.removed = false →
      ∃ t q, exec .pendingResultComplete s = .next t ∧ t.loan id = none ∧ t.patron l.patron = some q ∧
        q.cartCount = r.cartCount - 1 ∧ t.calendar = { s.calendar with follow := .nothing } ∧
        t.returns = { s.returns with
          pending := none, reader := .result, identifying := false, removed := false,
          reuse := { serial := some p.serial, reason := .checkedIn, date := s.today } :: s.returns.reuse,
          result := some
            { serial := some p.serial, cls := some p.cls, cycles := some p.cycles, outcome := .checkedIn,
              classification := some .checkedIn, loan := some id, patron := some l.patron,
              bin := some .reuse, depth := some (s.returns.reuse.length + 1), spill := false,
              heldBy := none, date := s.today, time := s.now } } ∧
        (t.link.events.main ||| t.link.events.pending).getLsbD Flag.returnRead.bit = true
end

