-- ==== Sys2Proof/Laws/State.lean ====
section
/-!
SUPPORT. One lemma per field per update of the state: what a setter writes and what it leaves.
-/

namespace Sys2Proof.Machine

@[simp] theorem State.setPending_pending (s : State) (x : List Instr) : (s.setPending x).pending = x := rfl
@[simp] theorem State.setPending_run (s : State) (x : List Instr) : (s.setPending x).run = s.run := rfl
@[simp] theorem State.setPending_link (s : State) (x : List Instr) : (s.setPending x).link = s.link := rfl
@[simp] theorem State.setPending_records (s : State) (x : List Instr) : (s.setPending x).records = s.records := rfl
@[simp] theorem State.setPending_planner (s : State) (x : List Instr) : (s.setPending x).planner = s.planner := rfl
@[simp] theorem State.setPending_store (s : State) (x : List Instr) : (s.setPending x).store = s.store := rfl
@[simp] theorem State.setPending_rack (s : State) (x : List Instr) : (s.setPending x).rack = s.rack := rfl
@[simp] theorem State.setPending_mail (s : State) (x : List Instr) : (s.setPending x).mail = s.mail := rfl
@[simp] theorem State.setPending_returns (s : State) (x : List Instr) : (s.setPending x).returns = s.returns := rfl
@[simp] theorem State.setPending_calendar (s : State) (x : List Instr) : (s.setPending x).calendar = s.calendar := rfl
@[simp] theorem State.setPending_drawn (s : State) (x : List Instr) : (s.setPending x).drawn = s.drawn := rfl
@[simp] theorem State.setPending_self (s : State) : s.setPending s.pending = s := rfl
@[simp] theorem State.setPending_setPending (s : State) (x y : List Instr) : (s.setPending x).setPending y = s.setPending y := rfl

@[simp] theorem State.setRun_pending (s : State) (x : RunState) : (s.setRun x).pending = s.pending := rfl
@[simp] theorem State.setRun_run (s : State) (x : RunState) : (s.setRun x).run = x := rfl
@[simp] theorem State.setRun_link (s : State) (x : RunState) : (s.setRun x).link = s.link := rfl
@[simp] theorem State.setRun_records (s : State) (x : RunState) : (s.setRun x).records = s.records := rfl
@[simp] theorem State.setRun_planner (s : State) (x : RunState) : (s.setRun x).planner = s.planner := rfl
@[simp] theorem State.setRun_store (s : State) (x : RunState) : (s.setRun x).store = s.store := rfl
@[simp] theorem State.setRun_rack (s : State) (x : RunState) : (s.setRun x).rack = s.rack := rfl
@[simp] theorem State.setRun_mail (s : State) (x : RunState) : (s.setRun x).mail = s.mail := rfl
@[simp] theorem State.setRun_returns (s : State) (x : RunState) : (s.setRun x).returns = s.returns := rfl
@[simp] theorem State.setRun_calendar (s : State) (x : RunState) : (s.setRun x).calendar = s.calendar := rfl
@[simp] theorem State.setRun_drawn (s : State) (x : RunState) : (s.setRun x).drawn = s.drawn := rfl
@[simp] theorem State.setRun_self (s : State) : s.setRun s.run = s := rfl
@[simp] theorem State.setRun_setRun (s : State) (x y : RunState) : (s.setRun x).setRun y = s.setRun y := rfl

@[simp] theorem State.setLink_pending (s : State) (x : Link) : (s.setLink x).pending = s.pending := rfl
@[simp] theorem State.setLink_run (s : State) (x : Link) : (s.setLink x).run = s.run := rfl
@[simp] theorem State.setLink_link (s : State) (x : Link) : (s.setLink x).link = x := rfl
@[simp] theorem State.setLink_records (s : State) (x : Link) : (s.setLink x).records = s.records := rfl
@[simp] theorem State.setLink_planner (s : State) (x : Link) : (s.setLink x).planner = s.planner := rfl
@[simp] theorem State.setLink_store (s : State) (x : Link) : (s.setLink x).store = s.store := rfl
@[simp] theorem State.setLink_rack (s : State) (x : Link) : (s.setLink x).rack = s.rack := rfl
@[simp] theorem State.setLink_mail (s : State) (x : Link) : (s.setLink x).mail = s.mail := rfl
@[simp] theorem State.setLink_returns (s : State) (x : Link) : (s.setLink x).returns = s.returns := rfl
@[simp] theorem State.setLink_calendar (s : State) (x : Link) : (s.setLink x).calendar = s.calendar := rfl
@[simp] theorem State.setLink_drawn (s : State) (x : Link) : (s.setLink x).drawn = s.drawn := rfl
@[simp] theorem State.setLink_self (s : State) : s.setLink s.link = s := rfl
@[simp] theorem State.setLink_setLink (s : State) (x y : Link) : (s.setLink x).setLink y = s.setLink y := rfl

@[simp] theorem State.setRecords_pending (s : State) (x : Records) : (s.setRecords x).pending = s.pending := rfl
@[simp] theorem State.setRecords_run (s : State) (x : Records) : (s.setRecords x).run = s.run := rfl
@[simp] theorem State.setRecords_link (s : State) (x : Records) : (s.setRecords x).link = s.link := rfl
@[simp] theorem State.setRecords_records (s : State) (x : Records) : (s.setRecords x).records = x := rfl
@[simp] theorem State.setRecords_planner (s : State) (x : Records) : (s.setRecords x).planner = s.planner := rfl
@[simp] theorem State.setRecords_store (s : State) (x : Records) : (s.setRecords x).store = s.store := rfl
@[simp] theorem State.setRecords_rack (s : State) (x : Records) : (s.setRecords x).rack = s.rack := rfl
@[simp] theorem State.setRecords_mail (s : State) (x : Records) : (s.setRecords x).mail = s.mail := rfl
@[simp] theorem State.setRecords_returns (s : State) (x : Records) : (s.setRecords x).returns = s.returns := rfl
@[simp] theorem State.setRecords_calendar (s : State) (x : Records) : (s.setRecords x).calendar = s.calendar := rfl
@[simp] theorem State.setRecords_drawn (s : State) (x : Records) : (s.setRecords x).drawn = s.drawn := rfl
@[simp] theorem State.setRecords_self (s : State) : s.setRecords s.records = s := rfl
@[simp] theorem State.setRecords_setRecords (s : State) (x y : Records) : (s.setRecords x).setRecords y = s.setRecords y := rfl

@[simp] theorem State.setPlanner_pending (s : State) (x : Planner) : (s.setPlanner x).pending = s.pending := rfl
@[simp] theorem State.setPlanner_run (s : State) (x : Planner) : (s.setPlanner x).run = s.run := rfl
@[simp] theorem State.setPlanner_link (s : State) (x : Planner) : (s.setPlanner x).link = s.link := rfl
@[simp] theorem State.setPlanner_records (s : State) (x : Planner) : (s.setPlanner x).records = s.records := rfl
@[simp] theorem State.setPlanner_planner (s : State) (x : Planner) : (s.setPlanner x).planner = x := rfl
@[simp] theorem State.setPlanner_store (s : State) (x : Planner) : (s.setPlanner x).store = s.store := rfl
@[simp] theorem State.setPlanner_rack (s : State) (x : Planner) : (s.setPlanner x).rack = s.rack := rfl
@[simp] theorem State.setPlanner_mail (s : State) (x : Planner) : (s.setPlanner x).mail = s.mail := rfl
@[simp] theorem State.setPlanner_returns (s : State) (x : Planner) : (s.setPlanner x).returns = s.returns := rfl
@[simp] theorem State.setPlanner_calendar (s : State) (x : Planner) : (s.setPlanner x).calendar = s.calendar := rfl
@[simp] theorem State.setPlanner_drawn (s : State) (x : Planner) : (s.setPlanner x).drawn = s.drawn := rfl
@[simp] theorem State.setPlanner_self (s : State) : s.setPlanner s.planner = s := rfl
@[simp] theorem State.setPlanner_setPlanner (s : State) (x y : Planner) : (s.setPlanner x).setPlanner y = s.setPlanner y := rfl

@[simp] theorem State.setStore_pending (s : State) (x : Store) : (s.setStore x).pending = s.pending := rfl
@[simp] theorem State.setStore_run (s : State) (x : Store) : (s.setStore x).run = s.run := rfl
@[simp] theorem State.setStore_link (s : State) (x : Store) : (s.setStore x).link = s.link := rfl
@[simp] theorem State.setStore_records (s : State) (x : Store) : (s.setStore x).records = s.records := rfl
@[simp] theorem State.setStore_planner (s : State) (x : Store) : (s.setStore x).planner = s.planner := rfl
@[simp] theorem State.setStore_store (s : State) (x : Store) : (s.setStore x).store = x := rfl
@[simp] theorem State.setStore_rack (s : State) (x : Store) : (s.setStore x).rack = s.rack := rfl
@[simp] theorem State.setStore_mail (s : State) (x : Store) : (s.setStore x).mail = s.mail := rfl
@[simp] theorem State.setStore_returns (s : State) (x : Store) : (s.setStore x).returns = s.returns := rfl
@[simp] theorem State.setStore_calendar (s : State) (x : Store) : (s.setStore x).calendar = s.calendar := rfl
@[simp] theorem State.setStore_drawn (s : State) (x : Store) : (s.setStore x).drawn = s.drawn := rfl
@[simp] theorem State.setStore_self (s : State) : s.setStore s.store = s := rfl
@[simp] theorem State.setStore_setStore (s : State) (x y : Store) : (s.setStore x).setStore y = s.setStore y := rfl

@[simp] theorem State.setRack_pending (s : State) (x : List Slot) : (s.setRack x).pending = s.pending := rfl
@[simp] theorem State.setRack_run (s : State) (x : List Slot) : (s.setRack x).run = s.run := rfl
@[simp] theorem State.setRack_link (s : State) (x : List Slot) : (s.setRack x).link = s.link := rfl
@[simp] theorem State.setRack_records (s : State) (x : List Slot) : (s.setRack x).records = s.records := rfl
@[simp] theorem State.setRack_planner (s : State) (x : List Slot) : (s.setRack x).planner = s.planner := rfl
@[simp] theorem State.setRack_store (s : State) (x : List Slot) : (s.setRack x).store = s.store := rfl
@[simp] theorem State.setRack_rack (s : State) (x : List Slot) : (s.setRack x).rack = x := rfl
@[simp] theorem State.setRack_mail (s : State) (x : List Slot) : (s.setRack x).mail = s.mail := rfl
@[simp] theorem State.setRack_returns (s : State) (x : List Slot) : (s.setRack x).returns = s.returns := rfl
@[simp] theorem State.setRack_calendar (s : State) (x : List Slot) : (s.setRack x).calendar = s.calendar := rfl
@[simp] theorem State.setRack_drawn (s : State) (x : List Slot) : (s.setRack x).drawn = s.drawn := rfl
@[simp] theorem State.setRack_self (s : State) : s.setRack s.rack = s := rfl
@[simp] theorem State.setRack_setRack (s : State) (x y : List Slot) : (s.setRack x).setRack y = s.setRack y := rfl

@[simp] theorem State.setMail_pending (s : State) (x : Mail) : (s.setMail x).pending = s.pending := rfl
@[simp] theorem State.setMail_run (s : State) (x : Mail) : (s.setMail x).run = s.run := rfl
@[simp] theorem State.setMail_link (s : State) (x : Mail) : (s.setMail x).link = s.link := rfl
@[simp] theorem State.setMail_records (s : State) (x : Mail) : (s.setMail x).records = s.records := rfl
@[simp] theorem State.setMail_planner (s : State) (x : Mail) : (s.setMail x).planner = s.planner := rfl
@[simp] theorem State.setMail_store (s : State) (x : Mail) : (s.setMail x).store = s.store := rfl
@[simp] theorem State.setMail_rack (s : State) (x : Mail) : (s.setMail x).rack = s.rack := rfl
@[simp] theorem State.setMail_mail (s : State) (x : Mail) : (s.setMail x).mail = x := rfl
@[simp] theorem State.setMail_returns (s : State) (x : Mail) : (s.setMail x).returns = s.returns := rfl
@[simp] theorem State.setMail_calendar (s : State) (x : Mail) : (s.setMail x).calendar = s.calendar := rfl
@[simp] theorem State.setMail_drawn (s : State) (x : Mail) : (s.setMail x).drawn = s.drawn := rfl
@[simp] theorem State.setMail_self (s : State) : s.setMail s.mail = s := rfl
@[simp] theorem State.setMail_setMail (s : State) (x y : Mail) : (s.setMail x).setMail y = s.setMail y := rfl

@[simp] theorem State.setReturns_pending (s : State) (x : Returns) : (s.setReturns x).pending = s.pending := rfl
@[simp] theorem State.setReturns_run (s : State) (x : Returns) : (s.setReturns x).run = s.run := rfl
@[simp] theorem State.setReturns_link (s : State) (x : Returns) : (s.setReturns x).link = s.link := rfl
@[simp] theorem State.setReturns_records (s : State) (x : Returns) : (s.setReturns x).records = s.records := rfl
@[simp] theorem State.setReturns_planner (s : State) (x : Returns) : (s.setReturns x).planner = s.planner := rfl
@[simp] theorem State.setReturns_store (s : State) (x : Returns) : (s.setReturns x).store = s.store := rfl
@[simp] theorem State.setReturns_rack (s : State) (x : Returns) : (s.setReturns x).rack = s.rack := rfl
@[simp] theorem State.setReturns_mail (s : State) (x : Returns) : (s.setReturns x).mail = s.mail := rfl
@[simp] theorem State.setReturns_returns (s : State) (x : Returns) : (s.setReturns x).returns = x := rfl
@[simp] theorem State.setReturns_calendar (s : State) (x : Returns) : (s.setReturns x).calendar = s.calendar := rfl
@[simp] theorem State.setReturns_drawn (s : State) (x : Returns) : (s.setReturns x).drawn = s.drawn := rfl
@[simp] theorem State.setReturns_self (s : State) : s.setReturns s.returns = s := rfl
@[simp] theorem State.setReturns_setReturns (s : State) (x y : Returns) : (s.setReturns x).setReturns y = s.setReturns y := rfl

@[simp] theorem State.setCalendar_pending (s : State) (x : Calendar) : (s.setCalendar x).pending = s.pending := rfl
@[simp] theorem State.setCalendar_run (s : State) (x : Calendar) : (s.setCalendar x).run = s.run := rfl
@[simp] theorem State.setCalendar_link (s : State) (x : Calendar) : (s.setCalendar x).link = s.link := rfl
@[simp] theorem State.setCalendar_records (s : State) (x : Calendar) : (s.setCalendar x).records = s.records := rfl
@[simp] theorem State.setCalendar_planner (s : State) (x : Calendar) : (s.setCalendar x).planner = s.planner := rfl
@[simp] theorem State.setCalendar_store (s : State) (x : Calendar) : (s.setCalendar x).store = s.store := rfl
@[simp] theorem State.setCalendar_rack (s : State) (x : Calendar) : (s.setCalendar x).rack = s.rack := rfl
@[simp] theorem State.setCalendar_mail (s : State) (x : Calendar) : (s.setCalendar x).mail = s.mail := rfl
@[simp] theorem State.setCalendar_returns (s : State) (x : Calendar) : (s.setCalendar x).returns = s.returns := rfl
@[simp] theorem State.setCalendar_calendar (s : State) (x : Calendar) : (s.setCalendar x).calendar = x := rfl
@[simp] theorem State.setCalendar_drawn (s : State) (x : Calendar) : (s.setCalendar x).drawn = s.drawn := rfl
@[simp] theorem State.setCalendar_self (s : State) : s.setCalendar s.calendar = s := rfl
@[simp] theorem State.setCalendar_setCalendar (s : State) (x y : Calendar) : (s.setCalendar x).setCalendar y = s.setCalendar y := rfl

@[simp] theorem State.setDrawn_pending (s : State) (x : Nat) : (s.setDrawn x).pending = s.pending := rfl
@[simp] theorem State.setDrawn_run (s : State) (x : Nat) : (s.setDrawn x).run = s.run := rfl
@[simp] theorem State.setDrawn_link (s : State) (x : Nat) : (s.setDrawn x).link = s.link := rfl
@[simp] theorem State.setDrawn_records (s : State) (x : Nat) : (s.setDrawn x).records = s.records := rfl
@[simp] theorem State.setDrawn_planner (s : State) (x : Nat) : (s.setDrawn x).planner = s.planner := rfl
@[simp] theorem State.setDrawn_store (s : State) (x : Nat) : (s.setDrawn x).store = s.store := rfl
@[simp] theorem State.setDrawn_rack (s : State) (x : Nat) : (s.setDrawn x).rack = s.rack := rfl
@[simp] theorem State.setDrawn_mail (s : State) (x : Nat) : (s.setDrawn x).mail = s.mail := rfl
@[simp] theorem State.setDrawn_returns (s : State) (x : Nat) : (s.setDrawn x).returns = s.returns := rfl
@[simp] theorem State.setDrawn_calendar (s : State) (x : Nat) : (s.setDrawn x).calendar = s.calendar := rfl
@[simp] theorem State.setDrawn_drawn (s : State) (x : Nat) : (s.setDrawn x).drawn = x := rfl
@[simp] theorem State.setDrawn_self (s : State) : s.setDrawn s.drawn = s := rfl
@[simp] theorem State.setDrawn_setDrawn (s : State) (x y : Nat) : (s.setDrawn x).setDrawn y = s.setDrawn y := rfl

/-- Two states with the same fields are the same. -/
theorem State.same {s t : State} (h1 : s.pending = t.pending) (h2 : s.run = t.run) (h3 : s.link = t.link)
    (h4 : s.records = t.records) (h5 : s.planner = t.planner) (h6 : s.store = t.store) (h7 : s.rack = t.rack)
    (h8 : s.mail = t.mail) (h9 : s.returns = t.returns) (h10 : s.calendar = t.calendar)
    (h11 : s.drawn = t.drawn) : s = t := by
  cases s
  cases t
  simp_all

end Sys2Proof.Machine
end

