-- ==== Sys2Proof/Laws/Events.lean ====
section
/-!
SUPPORT. What each operation on the event flags leaves (R187 to R190).
-/

namespace Sys2Proof.Machine

@[simp] theorem Events.drive_main (e : Events) : e.drive.main = e.main := rfl
@[simp] theorem Events.drive_pending (e : Events) : e.drive.pending = e.pending := rfl
@[simp] theorem Events.drive_enables (e : Events) : e.drive.enables = e.enables := rfl
@[simp] theorem Events.drive_reading (e : Events) : e.drive.reading = e.reading := rfl
@[simp] theorem Events.drive_attention (e : Events) : e.drive.attention = e.asserted := rfl
@[simp] theorem Events.drive_asserted (e : Events) : e.drive.asserted = e.asserted := rfl
@[simp] theorem Events.drive_drive (e : Events) : e.drive.drive = e.drive := rfl

@[simp] theorem Events.raise_enables (e : Events) (f : Flag) : (e.raise f).enables = e.enables := by
  unfold Events.raise; split <;> rfl

@[simp] theorem Events.raise_reading (e : Events) (f : Flag) : (e.raise f).reading = e.reading := by
  unfold Events.raise; split <;> rfl

/-- A flag raised stands in one half or the other. -/
theorem Events.raise_holds (e : Events) (f : Flag) :
    ((e.raise f).main ||| (e.raise f).pending).getLsbD f.bit = true := by
  unfold Events.raise
  split <;> cases f <;> simp [Flag.mask, Flag.bit]

/-- After any operation the attention output is in line. -/
theorem Events.raise_attention (e : Events) (f : Flag) : (e.raise f).attention = (e.raise f).asserted := by
  unfold Events.raise; split <;> rfl

theorem Events.reply_attention (e : Events) : e.reply.attention = e.reply.asserted := rfl
theorem Events.enable_attention (e : Events) (x : FlagSet) : (e.enable x).attention = (e.enable x).asserted := rfl
theorem Events.take_attention (e : Events) : e.take.attention = e.take.asserted := rfl

/-- Raising a flag twice is raising it once (R187). -/
theorem Events.raise_raise (e : Events) (f : Flag) : (e.raise f).raise f = e.raise f := by
  cases h : e.reading <;>
    simp [Events.raise, Events.drive, h, Events.asserted, BitVec.or_assoc]

end Sys2Proof.Machine
end

