-- ==== Sys2Proof/Laws/Flash.lean ====
section
/-!
SUPPORT. The image flash keeps its one canonical form: addresses strictly rising, no cell equal to the erased
byte.
-/

namespace Sys2Proof.Machine

theorem flashWf_nil : flashWf [] = true := rfl

theorem flashWf_cons (c : Host.Cell) (m : List Host.Cell) :
    flashWf (c :: m) = true ↔ c.2 ≠ Config.erasedByte ∧ (∀ d ∈ m, c.1 < d.1) ∧ flashWf m = true := by
  obtain ⟨a, v⟩ := c
  simp [flashWf, and_assoc]

/-- Joined forms are a form when every address of the first lies below every one of the second. -/
theorem flashWf_append (m n : List Host.Cell) (hm : flashWf m = true) (hn : flashWf n = true)
    (h : ∀ c ∈ m, ∀ d ∈ n, c.1 < d.1) : flashWf (m ++ n) = true := by
  induction m with
  | nil => exact hn
  | cons c m ih =>
    rw [flashWf_cons] at hm
    rw [List.cons_append, flashWf_cons]
    refine ⟨hm.1, fun d hd => ?_, ih hm.2.2 (fun e he => h e (by simp [he]))⟩
    rcases List.mem_append.1 hd with hd | hd
    · exact hm.2.1 d hd
    · exact h c (by simp) d hd

theorem flashWf_filter (m : List Host.Cell) (q : Host.Cell → Bool) (h : flashWf m = true) :
    flashWf (m.filter q) = true := by
  induction m with
  | nil => rfl
  | cons c m ih =>
    rw [flashWf_cons] at h
    rw [List.filter_cons]
    split
    · rw [flashWf_cons]
      exact ⟨h.1, fun d hd => h.2.1 d (List.mem_filter.1 hd).1, ih h.2.2⟩
    · exact ih h.2.2

theorem cellsFrom_mem (a : Nat) (bytes : List Byte) {c : Host.Cell} (h : c ∈ cellsFrom a bytes) :
    a ≤ c.1 ∧ c.1 < a + bytes.length := by
  induction bytes generalizing a with
  | nil => simp [cellsFrom] at h
  | cons v rest ih =>
    simp only [cellsFrom] at h
    split at h
    · have := ih (a + 1) h
      simp only [List.length_cons]
      omega
    · rcases List.mem_cons.1 h with rfl | h
      · simp
      · have := ih (a + 1) h
        simp only [List.length_cons]
        omega

theorem cellsFrom_wf (a : Nat) (bytes : List Byte) : flashWf (cellsFrom a bytes) = true := by
  induction bytes generalizing a with
  | nil => rfl
  | cons v rest ih =>
    simp only [cellsFrom]
    split
    · exact ih (a + 1)
    · rename_i hv
      rw [flashWf_cons]
      exact ⟨hv, fun d hd => (cellsFrom_mem (a + 1) rest hd).1, ih (a + 1)⟩

/-- Storing bytes keeps the canonical form. -/
theorem flashWrite_wf (m : List Host.Cell) (a : Nat) (bytes : List Byte) (h : flashWf m = true) :
    flashWf (flashWrite m a bytes) = true := by
  refine flashWf_append _ _ (flashWf_append _ _ (flashWf_filter m _ h) (cellsFrom_wf a bytes) ?_)
    (flashWf_filter m _ h) ?_
  · intro c hc d hd
    have h1 : c.1 < a := by simpa using (List.mem_filter.1 hc).2
    have := (cellsFrom_mem a bytes hd).1
    omega
  · intro c hc d hd
    have h2 : a + bytes.length ≤ d.1 := by simpa using (List.mem_filter.1 hd).2
    rcases List.mem_append.1 hc with hc | hc
    · have h1 : c.1 < a := by simpa using (List.mem_filter.1 hc).2
      omega
    · have := (cellsFrom_mem a bytes hc).2
      omega

theorem reset_flash_wf : flashWf State.reset.store.flash = true := rfl

end Sys2Proof.Machine
end

