-- ==== Sys2Proof/Laws/Fold.lean ====
section
/-!
SUPPORT. A fold whose steps each leave a part of the state leaves that part.
-/

namespace Sys2Proof.Machine

@[simp] theorem State.foldl_pending {α : Type} (f : State → α → State) (l : List α) (s : State)
    (h : ∀ s x, (f s x).pending = s.pending) : (l.foldl f s).pending = s.pending := by
  induction l generalizing s with
  | nil => rfl
  | cons x l ih => rw [List.foldl_cons, ih, h]

@[simp] theorem State.foldl_run {α : Type} (f : State → α → State) (l : List α) (s : State)
    (h : ∀ s x, (f s x).run = s.run) : (l.foldl f s).run = s.run := by
  induction l generalizing s with
  | nil => rfl
  | cons x l ih => rw [List.foldl_cons, ih, h]

@[simp] theorem State.foldl_drawn {α : Type} (f : State → α → State) (l : List α) (s : State)
    (h : ∀ s x, (f s x).drawn = s.drawn) : (l.foldl f s).drawn = s.drawn := by
  induction l generalizing s with
  | nil => rfl
  | cons x l ih => rw [List.foldl_cons, ih, h]

@[simp] theorem State.foldl_link {α : Type} (f : State → α → State) (l : List α) (s : State)
    (h : ∀ s x, (f s x).link = s.link) : (l.foldl f s).link = s.link := by
  induction l generalizing s with
  | nil => rfl
  | cons x l ih => rw [List.foldl_cons, ih, h]

@[simp] theorem State.foldl_link_queue {α : Type} (f : State → α → State) (l : List α) (s : State)
    (h : ∀ s x, (f s x).link.queue = s.link.queue) : (l.foldl f s).link.queue = s.link.queue := by
  induction l generalizing s with
  | nil => rfl
  | cons x l ih => rw [List.foldl_cons, ih, h]

@[simp] theorem State.foldl_link_queue_length {α : Type} (f : State → α → State) (l : List α) (s : State)
    (h : ∀ s x, (f s x).link.queue.length = s.link.queue.length) : (l.foldl f s).link.queue.length = s.link.queue.length := by
  induction l generalizing s with
  | nil => rfl
  | cons x l ih => rw [List.foldl_cons, ih, h]

@[simp] theorem State.foldl_link_pipe {α : Type} (f : State → α → State) (l : List α) (s : State)
    (h : ∀ s x, (f s x).link.pipe = s.link.pipe) : (l.foldl f s).link.pipe = s.link.pipe := by
  induction l generalizing s with
  | nil => rfl
  | cons x l ih => rw [List.foldl_cons, ih, h]

@[simp] theorem State.foldl_link_frame {α : Type} (f : State → α → State) (l : List α) (s : State)
    (h : ∀ s x, (f s x).link.frame = s.link.frame) : (l.foldl f s).link.frame = s.link.frame := by
  induction l generalizing s with
  | nil => rfl
  | cons x l ih => rw [List.foldl_cons, ih, h]

@[simp] theorem State.foldl_link_incoming {α : Type} (f : State → α → State) (l : List α) (s : State)
    (h : ∀ s x, (f s x).link.incoming = s.link.incoming) : (l.foldl f s).link.incoming = s.link.incoming := by
  induction l generalizing s with
  | nil => rfl
  | cons x l ih => rw [List.foldl_cons, ih, h]

@[simp] theorem State.foldl_link_settings {α : Type} (f : State → α → State) (l : List α) (s : State)
    (h : ∀ s x, (f s x).link.settings = s.link.settings) : (l.foldl f s).link.settings = s.link.settings := by
  induction l generalizing s with
  | nil => rfl
  | cons x l ih => rw [List.foldl_cons, ih, h]

@[simp] theorem State.foldl_link_backup {α : Type} (f : State → α → State) (l : List α) (s : State)
    (h : ∀ s x, (f s x).link.backup = s.link.backup) : (l.foldl f s).link.backup = s.link.backup := by
  induction l generalizing s with
  | nil => rfl
  | cons x l ih => rw [List.foldl_cons, ih, h]

@[simp] theorem State.foldl_link_patronCtx {α : Type} (f : State → α → State) (l : List α) (s : State)
    (h : ∀ s x, (f s x).link.patronCtx = s.link.patronCtx) : (l.foldl f s).link.patronCtx = s.link.patronCtx := by
  induction l generalizing s with
  | nil => rfl
  | cons x l ih => rw [List.foldl_cons, ih, h]

@[simp] theorem State.foldl_link_titleCtx {α : Type} (f : State → α → State) (l : List α) (s : State)
    (h : ∀ s x, (f s x).link.titleCtx = s.link.titleCtx) : (l.foldl f s).link.titleCtx = s.link.titleCtx := by
  induction l generalizing s with
  | nil => rfl
  | cons x l ih => rw [List.foldl_cons, ih, h]

@[simp] theorem State.foldl_link_events_enables {α : Type} (f : State → α → State) (l : List α) (s : State)
    (h : ∀ s x, (f s x).link.events.enables = s.link.events.enables) : (l.foldl f s).link.events.enables = s.link.events.enables := by
  induction l generalizing s with
  | nil => rfl
  | cons x l ih => rw [List.foldl_cons, ih, h]

@[simp] theorem State.foldl_link_events_reading {α : Type} (f : State → α → State) (l : List α) (s : State)
    (h : ∀ s x, (f s x).link.events.reading = s.link.events.reading) : (l.foldl f s).link.events.reading = s.link.events.reading := by
  induction l generalizing s with
  | nil => rfl
  | cons x l ih => rw [List.foldl_cons, ih, h]

@[simp] theorem State.foldl_records {α : Type} (f : State → α → State) (l : List α) (s : State)
    (h : ∀ s x, (f s x).records = s.records) : (l.foldl f s).records = s.records := by
  induction l generalizing s with
  | nil => rfl
  | cons x l ih => rw [List.foldl_cons, ih, h]

@[simp] theorem State.foldl_records_patrons {α : Type} (f : State → α → State) (l : List α) (s : State)
    (h : ∀ s x, (f s x).records.patrons = s.records.patrons) : (l.foldl f s).records.patrons = s.records.patrons := by
  induction l generalizing s with
  | nil => rfl
  | cons x l ih => rw [List.foldl_cons, ih, h]

@[simp] theorem State.foldl_records_titles {α : Type} (f : State → α → State) (l : List α) (s : State)
    (h : ∀ s x, (f s x).records.titles = s.records.titles) : (l.foldl f s).records.titles = s.records.titles := by
  induction l generalizing s with
  | nil => rfl
  | cons x l ih => rw [List.foldl_cons, ih, h]

@[simp] theorem State.foldl_records_loans {α : Type} (f : State → α → State) (l : List α) (s : State)
    (h : ∀ s x, (f s x).records.loans = s.records.loans) : (l.foldl f s).records.loans = s.records.loans := by
  induction l generalizing s with
  | nil => rfl
  | cons x l ih => rw [List.foldl_cons, ih, h]

@[simp] theorem State.foldl_records_lost {α : Type} (f : State → α → State) (l : List α) (s : State)
    (h : ∀ s x, (f s x).records.lost = s.records.lost) : (l.foldl f s).records.lost = s.records.lost := by
  induction l generalizing s with
  | nil => rfl
  | cons x l ih => rw [List.foldl_cons, ih, h]

@[simp] theorem State.foldl_planner {α : Type} (f : State → α → State) (l : List α) (s : State)
    (h : ∀ s x, (f s x).planner = s.planner) : (l.foldl f s).planner = s.planner := by
  induction l generalizing s with
  | nil => rfl
  | cons x l ih => rw [List.foldl_cons, ih, h]

@[simp] theorem State.foldl_planner_plans {α : Type} (f : State → α → State) (l : List α) (s : State)
    (h : ∀ s x, (f s x).planner.plans = s.planner.plans) : (l.foldl f s).planner.plans = s.planner.plans := by
  induction l generalizing s with
  | nil => rfl
  | cons x l ih => rw [List.foldl_cons, ih, h]

@[simp] theorem State.foldl_planner_queue {α : Type} (f : State → α → State) (l : List α) (s : State)
    (h : ∀ s x, (f s x).planner.queue = s.planner.queue) : (l.foldl f s).planner.queue = s.planner.queue := by
  induction l generalizing s with
  | nil => rfl
  | cons x l ih => rw [List.foldl_cons, ih, h]

@[simp] theorem State.foldl_planner_lastPlan {α : Type} (f : State → α → State) (l : List α) (s : State)
    (h : ∀ s x, (f s x).planner.lastPlan = s.planner.lastPlan) : (l.foldl f s).planner.lastPlan = s.planner.lastPlan := by
  induction l generalizing s with
  | nil => rfl
  | cons x l ih => rw [List.foldl_cons, ih, h]

@[simp] theorem State.foldl_planner_pass {α : Type} (f : State → α → State) (l : List α) (s : State)
    (h : ∀ s x, (f s x).planner.pass = s.planner.pass) : (l.foldl f s).planner.pass = s.planner.pass := by
  induction l generalizing s with
  | nil => rfl
  | cons x l ih => rw [List.foldl_cons, ih, h]

@[simp] theorem State.foldl_planner_rerun {α : Type} (f : State → α → State) (l : List α) (s : State)
    (h : ∀ s x, (f s x).planner.rerun = s.planner.rerun) : (l.foldl f s).planner.rerun = s.planner.rerun := by
  induction l generalizing s with
  | nil => rfl
  | cons x l ih => rw [List.foldl_cons, ih, h]

@[simp] theorem State.foldl_planner_due {α : Type} (f : State → α → State) (l : List α) (s : State)
    (h : ∀ s x, (f s x).planner.due = s.planner.due) : (l.foldl f s).planner.due = s.planner.due := by
  induction l generalizing s with
  | nil => rfl
  | cons x l ih => rw [List.foldl_cons, ih, h]

@[simp] theorem State.foldl_store {α : Type} (f : State → α → State) (l : List α) (s : State)
    (h : ∀ s x, (f s x).store = s.store) : (l.foldl f s).store = s.store := by
  induction l generalizing s with
  | nil => rfl
  | cons x l ih => rw [List.foldl_cons, ih, h]

@[simp] theorem State.foldl_store_images {α : Type} (f : State → α → State) (l : List α) (s : State)
    (h : ∀ s x, (f s x).store.images = s.store.images) : (l.foldl f s).store.images = s.store.images := by
  induction l generalizing s with
  | nil => rfl
  | cons x l ih => rw [List.foldl_cons, ih, h]

@[simp] theorem State.foldl_store_recency {α : Type} (f : State → α → State) (l : List α) (s : State)
    (h : ∀ s x, (f s x).store.recency = s.store.recency) : (l.foldl f s).store.recency = s.store.recency := by
  induction l generalizing s with
  | nil => rfl
  | cons x l ih => rw [List.foldl_cons, ih, h]

@[simp] theorem State.foldl_store_fetches {α : Type} (f : State → α → State) (l : List α) (s : State)
    (h : ∀ s x, (f s x).store.fetches = s.store.fetches) : (l.foldl f s).store.fetches = s.store.fetches := by
  induction l generalizing s with
  | nil => rfl
  | cons x l ih => rw [List.foldl_cons, ih, h]

@[simp] theorem State.foldl_store_lastFetch {α : Type} (f : State → α → State) (l : List α) (s : State)
    (h : ∀ s x, (f s x).store.lastFetch = s.store.lastFetch) : (l.foldl f s).store.lastFetch = s.store.lastFetch := by
  induction l generalizing s with
  | nil => rfl
  | cons x l ih => rw [List.foldl_cons, ih, h]

@[simp] theorem State.foldl_store_banks {α : Type} (f : State → α → State) (l : List α) (s : State)
    (h : ∀ s x, (f s x).store.banks = s.store.banks) : (l.foldl f s).store.banks = s.store.banks := by
  induction l generalizing s with
  | nil => rfl
  | cons x l ih => rw [List.foldl_cons, ih, h]

@[simp] theorem State.foldl_store_banks_length {α : Type} (f : State → α → State) (l : List α) (s : State)
    (h : ∀ s x, (f s x).store.banks.length = s.store.banks.length) : (l.foldl f s).store.banks.length = s.store.banks.length := by
  induction l generalizing s with
  | nil => rfl
  | cons x l ih => rw [List.foldl_cons, ih, h]

@[simp] theorem State.foldl_store_flash {α : Type} (f : State → α → State) (l : List α) (s : State)
    (h : ∀ s x, (f s x).store.flash = s.store.flash) : (l.foldl f s).store.flash = s.store.flash := by
  induction l generalizing s with
  | nil => rfl
  | cons x l ih => rw [List.foldl_cons, ih, h]

@[simp] theorem State.foldl_rack {α : Type} (f : State → α → State) (l : List α) (s : State)
    (h : ∀ s x, (f s x).rack = s.rack) : (l.foldl f s).rack = s.rack := by
  induction l generalizing s with
  | nil => rfl
  | cons x l ih => rw [List.foldl_cons, ih, h]

@[simp] theorem State.foldl_rack_length {α : Type} (f : State → α → State) (l : List α) (s : State)
    (h : ∀ s x, (f s x).rack.length = s.rack.length) : (l.foldl f s).rack.length = s.rack.length := by
  induction l generalizing s with
  | nil => rfl
  | cons x l ih => rw [List.foldl_cons, ih, h]

@[simp] theorem State.foldl_mail {α : Type} (f : State → α → State) (l : List α) (s : State)
    (h : ∀ s x, (f s x).mail = s.mail) : (l.foldl f s).mail = s.mail := by
  induction l generalizing s with
  | nil => rfl
  | cons x l ih => rw [List.foldl_cons, ih, h]

@[simp] theorem State.foldl_mail_tray {α : Type} (f : State → α → State) (l : List α) (s : State)
    (h : ∀ s x, (f s x).mail.tray = s.mail.tray) : (l.foldl f s).mail.tray = s.mail.tray := by
  induction l generalizing s with
  | nil => rfl
  | cons x l ih => rw [List.foldl_cons, ih, h]

@[simp] theorem State.foldl_mail_lastItem {α : Type} (f : State → α → State) (l : List α) (s : State)
    (h : ∀ s x, (f s x).mail.lastItem = s.mail.lastItem) : (l.foldl f s).mail.lastItem = s.mail.lastItem := by
  induction l generalizing s with
  | nil => rfl
  | cons x l ih => rw [List.foldl_cons, ih, h]

@[simp] theorem State.foldl_mail_close {α : Type} (f : State → α → State) (l : List α) (s : State)
    (h : ∀ s x, (f s x).mail.close = s.mail.close) : (l.foldl f s).mail.close = s.mail.close := by
  induction l generalizing s with
  | nil => rfl
  | cons x l ih => rw [List.foldl_cons, ih, h]

@[simp] theorem State.foldl_mail_openBatch {α : Type} (f : State → α → State) (l : List α) (s : State)
    (h : ∀ s x, (f s x).mail.openBatch = s.mail.openBatch) : (l.foldl f s).mail.openBatch = s.mail.openBatch := by
  induction l generalizing s with
  | nil => rfl
  | cons x l ih => rw [List.foldl_cons, ih, h]

@[simp] theorem State.foldl_mail_lastBatch {α : Type} (f : State → α → State) (l : List α) (s : State)
    (h : ∀ s x, (f s x).mail.lastBatch = s.mail.lastBatch) : (l.foldl f s).mail.lastBatch = s.mail.lastBatch := by
  induction l generalizing s with
  | nil => rfl
  | cons x l ih => rw [List.foldl_cons, ih, h]

@[simp] theorem State.foldl_mail_manifests {α : Type} (f : State → α → State) (l : List α) (s : State)
    (h : ∀ s x, (f s x).mail.manifests = s.mail.manifests) : (l.foldl f s).mail.manifests = s.mail.manifests := by
  induction l generalizing s with
  | nil => rfl
  | cons x l ih => rw [List.foldl_cons, ih, h]

@[simp] theorem State.foldl_mail_alarms {α : Type} (f : State → α → State) (l : List α) (s : State)
    (h : ∀ s x, (f s x).mail.alarms = s.mail.alarms) : (l.foldl f s).mail.alarms = s.mail.alarms := by
  induction l generalizing s with
  | nil => rfl
  | cons x l ih => rw [List.foldl_cons, ih, h]

@[simp] theorem State.foldl_mail_alarms_length {α : Type} (f : State → α → State) (l : List α) (s : State)
    (h : ∀ s x, (f s x).mail.alarms.length = s.mail.alarms.length) : (l.foldl f s).mail.alarms.length = s.mail.alarms.length := by
  induction l generalizing s with
  | nil => rfl
  | cons x l ih => rw [List.foldl_cons, ih, h]

@[simp] theorem State.foldl_mail_heldClose {α : Type} (f : State → α → State) (l : List α) (s : State)
    (h : ∀ s x, (f s x).mail.heldClose = s.mail.heldClose) : (l.foldl f s).mail.heldClose = s.mail.heldClose := by
  induction l generalizing s with
  | nil => rfl
  | cons x l ih => rw [List.foldl_cons, ih, h]

@[simp] theorem State.foldl_mail_waitingClose {α : Type} (f : State → α → State) (l : List α) (s : State)
    (h : ∀ s x, (f s x).mail.waitingClose = s.mail.waitingClose) : (l.foldl f s).mail.waitingClose = s.mail.waitingClose := by
  induction l generalizing s with
  | nil => rfl
  | cons x l ih => rw [List.foldl_cons, ih, h]

@[simp] theorem State.foldl_returns {α : Type} (f : State → α → State) (l : List α) (s : State)
    (h : ∀ s x, (f s x).returns = s.returns) : (l.foldl f s).returns = s.returns := by
  induction l generalizing s with
  | nil => rfl
  | cons x l ih => rw [List.foldl_cons, ih, h]

@[simp] theorem State.foldl_returns_present {α : Type} (f : State → α → State) (l : List α) (s : State)
    (h : ∀ s x, (f s x).returns.present = s.returns.present) : (l.foldl f s).returns.present = s.returns.present := by
  induction l generalizing s with
  | nil => rfl
  | cons x l ih => rw [List.foldl_cons, ih, h]

@[simp] theorem State.foldl_returns_reader {α : Type} (f : State → α → State) (l : List α) (s : State)
    (h : ∀ s x, (f s x).returns.reader = s.returns.reader) : (l.foldl f s).returns.reader = s.returns.reader := by
  induction l generalizing s with
  | nil => rfl
  | cons x l ih => rw [List.foldl_cons, ih, h]

@[simp] theorem State.foldl_returns_identifying {α : Type} (f : State → α → State) (l : List α) (s : State)
    (h : ∀ s x, (f s x).returns.identifying = s.returns.identifying) : (l.foldl f s).returns.identifying = s.returns.identifying := by
  induction l generalizing s with
  | nil => rfl
  | cons x l ih => rw [List.foldl_cons, ih, h]

@[simp] theorem State.foldl_returns_removed {α : Type} (f : State → α → State) (l : List α) (s : State)
    (h : ∀ s x, (f s x).returns.removed = s.returns.removed) : (l.foldl f s).returns.removed = s.returns.removed := by
  induction l generalizing s with
  | nil => rfl
  | cons x l ih => rw [List.foldl_cons, ih, h]

@[simp] theorem State.foldl_returns_pending {α : Type} (f : State → α → State) (l : List α) (s : State)
    (h : ∀ s x, (f s x).returns.pending = s.returns.pending) : (l.foldl f s).returns.pending = s.returns.pending := by
  induction l generalizing s with
  | nil => rfl
  | cons x l ih => rw [List.foldl_cons, ih, h]

@[simp] theorem State.foldl_returns_result {α : Type} (f : State → α → State) (l : List α) (s : State)
    (h : ∀ s x, (f s x).returns.result = s.returns.result) : (l.foldl f s).returns.result = s.returns.result := by
  induction l generalizing s with
  | nil => rfl
  | cons x l ih => rw [List.foldl_cons, ih, h]

@[simp] theorem State.foldl_returns_reuse {α : Type} (f : State → α → State) (l : List α) (s : State)
    (h : ∀ s x, (f s x).returns.reuse = s.returns.reuse) : (l.foldl f s).returns.reuse = s.returns.reuse := by
  induction l generalizing s with
  | nil => rfl
  | cons x l ih => rw [List.foldl_cons, ih, h]

@[simp] theorem State.foldl_returns_inspect {α : Type} (f : State → α → State) (l : List α) (s : State)
    (h : ∀ s x, (f s x).returns.inspect = s.returns.inspect) : (l.foldl f s).returns.inspect = s.returns.inspect := by
  induction l generalizing s with
  | nil => rfl
  | cons x l ih => rw [List.foldl_cons, ih, h]

@[simp] theorem State.foldl_calendar {α : Type} (f : State → α → State) (l : List α) (s : State)
    (h : ∀ s x, (f s x).calendar = s.calendar) : (l.foldl f s).calendar = s.calendar := by
  induction l generalizing s with
  | nil => rfl
  | cons x l ih => rw [List.foldl_cons, ih, h]

@[simp] theorem State.foldl_calendar_clock {α : Type} (f : State → α → State) (l : List α) (s : State)
    (h : ∀ s x, (f s x).calendar.clock = s.calendar.clock) : (l.foldl f s).calendar.clock = s.calendar.clock := by
  induction l generalizing s with
  | nil => rfl
  | cons x l ih => rw [List.foldl_cons, ih, h]

@[simp] theorem State.foldl_calendar_lastRoll {α : Type} (f : State → α → State) (l : List α) (s : State)
    (h : ∀ s x, (f s x).calendar.lastRoll = s.calendar.lastRoll) : (l.foldl f s).calendar.lastRoll = s.calendar.lastRoll := by
  induction l generalizing s with
  | nil => rfl
  | cons x l ih => rw [List.foldl_cons, ih, h]

@[simp] theorem State.foldl_calendar_closedDays {α : Type} (f : State → α → State) (l : List α) (s : State)
    (h : ∀ s x, (f s x).calendar.closedDays = s.calendar.closedDays) : (l.foldl f s).calendar.closedDays = s.calendar.closedDays := by
  induction l generalizing s with
  | nil => rfl
  | cons x l ih => rw [List.foldl_cons, ih, h]

@[simp] theorem State.foldl_calendar_closedDays_length {α : Type} (f : State → α → State) (l : List α) (s : State)
    (h : ∀ s x, (f s x).calendar.closedDays.length = s.calendar.closedDays.length) : (l.foldl f s).calendar.closedDays.length = s.calendar.closedDays.length := by
  induction l generalizing s with
  | nil => rfl
  | cons x l ih => rw [List.foldl_cons, ih, h]

@[simp] theorem State.foldl_calendar_reminders {α : Type} (f : State → α → State) (l : List α) (s : State)
    (h : ∀ s x, (f s x).calendar.reminders = s.calendar.reminders) : (l.foldl f s).calendar.reminders = s.calendar.reminders := by
  induction l generalizing s with
  | nil => rfl
  | cons x l ih => rw [List.foldl_cons, ih, h]

@[simp] theorem State.foldl_calendar_roll {α : Type} (f : State → α → State) (l : List α) (s : State)
    (h : ∀ s x, (f s x).calendar.roll = s.calendar.roll) : (l.foldl f s).calendar.roll = s.calendar.roll := by
  induction l generalizing s with
  | nil => rfl
  | cons x l ih => rw [List.foldl_cons, ih, h]

@[simp] theorem State.foldl_calendar_within60 {α : Type} (f : State → α → State) (l : List α) (s : State)
    (h : ∀ s x, (f s x).calendar.within60 = s.calendar.within60) : (l.foldl f s).calendar.within60 = s.calendar.within60 := by
  induction l generalizing s with
  | nil => rfl
  | cons x l ih => rw [List.foldl_cons, ih, h]

@[simp] theorem State.foldl_calendar_follow {α : Type} (f : State → α → State) (l : List α) (s : State)
    (h : ∀ s x, (f s x).calendar.follow = s.calendar.follow) : (l.foldl f s).calendar.follow = s.calendar.follow := by
  induction l generalizing s with
  | nil => rfl
  | cons x l ih => rw [List.foldl_cons, ih, h]

end Sys2Proof.Machine
end

