-- ==== Sys2Proof/Laws/Replies.lean ====
section
/-!
SUPPORT. What accepting and refusing a request answer, and what they leave.
-/

namespace Sys2Proof.Machine

@[simp] theorem accept_snd (s : State) (f : List Byte) : (accept s f).2 = s := rfl
@[simp] theorem accept_fst (s : State) (f : List Byte) : (accept s f).1 = { status := .ok, fields := f } := rfl
@[simp] theorem refuse_snd (s : State) (st : Status) : (refuse s st).2 = s := rfl
@[simp] theorem refuse_fst (s : State) (st : Status) : (refuse s st).1 = { status := st, fields := [] } := rfl
@[simp] theorem refuseWith_snd (s : State) (st : Status) (f : List Byte) : (refuseWith s st f).2 = s := rfl
@[simp] theorem refuseWith_fst (s : State) (st : Status) (f : List Byte) :
    (refuseWith s st f).1 = { status := st, fields := f } := rfl

/-- The length of the queue is not changed by a stage. -/
@[simp] theorem setStage_length (q : List Request) (i : Nat) (st : Stage) : (setStage q i st).length = q.length := by
  induction q generalizing i with
  | nil => rfl
  | cons r q ih => cases i <;> simp [setStage, ih]

end Sys2Proof.Machine
end

