-- ==== Sys2Proof/Laws/FramesOps.lean ====
section
/-!
SUPPORT. What each operation of Machine/Ops.lean leaves as it stands: one lemma per operation.
-/

namespace Sys2Proof.Machine

@[simp] theorem State.setPatron_frame (s : State) (i : Nat) (p : Patron) :
    (s.setPatron i p).pending = s.pending ∧
    (s.setPatron i p).run = s.run ∧
    (s.setPatron i p).drawn = s.drawn ∧
    (s.setPatron i p).link = s.link ∧
    (s.setPatron i p).records.titles = s.records.titles ∧
    (s.setPatron i p).records.loans = s.records.loans ∧
    (s.setPatron i p).records.lost = s.records.lost ∧
    (s.setPatron i p).planner = s.planner ∧
    (s.setPatron i p).store = s.store ∧
    (s.setPatron i p).rack = s.rack ∧
    (s.setPatron i p).mail = s.mail ∧
    (s.setPatron i p).returns = s.returns ∧
    (s.setPatron i p).calendar = s.calendar := by
  simp [State.setPatron]

@[simp] theorem State.freePatron_frame (s : State) (i : Nat) :
    (s.freePatron i).pending = s.pending ∧
    (s.freePatron i).run = s.run ∧
    (s.freePatron i).drawn = s.drawn ∧
    (s.freePatron i).link = s.link ∧
    (s.freePatron i).records.titles = s.records.titles ∧
    (s.freePatron i).records.loans = s.records.loans ∧
    (s.freePatron i).records.lost = s.records.lost ∧
    (s.freePatron i).planner = s.planner ∧
    (s.freePatron i).store = s.store ∧
    (s.freePatron i).rack = s.rack ∧
    (s.freePatron i).mail = s.mail ∧
    (s.freePatron i).returns = s.returns ∧
    (s.freePatron i).calendar = s.calendar := by
  simp [State.freePatron]

@[simp] theorem State.setTitle_frame (s : State) (i : Nat) (t : Title) :
    (s.setTitle i t).pending = s.pending ∧
    (s.setTitle i t).run = s.run ∧
    (s.setTitle i t).drawn = s.drawn ∧
    (s.setTitle i t).link = s.link ∧
    (s.setTitle i t).records.patrons = s.records.patrons ∧
    (s.setTitle i t).records.loans = s.records.loans ∧
    (s.setTitle i t).records.lost = s.records.lost ∧
    (s.setTitle i t).planner = s.planner ∧
    (s.setTitle i t).store = s.store ∧
    (s.setTitle i t).rack = s.rack ∧
    (s.setTitle i t).mail = s.mail ∧
    (s.setTitle i t).returns = s.returns ∧
    (s.setTitle i t).calendar = s.calendar := by
  simp [State.setTitle]

@[simp] theorem State.setLoan_frame (s : State) (i : Nat) (l : Loan) :
    (s.setLoan i l).pending = s.pending ∧
    (s.setLoan i l).run = s.run ∧
    (s.setLoan i l).drawn = s.drawn ∧
    (s.setLoan i l).link = s.link ∧
    (s.setLoan i l).records.patrons = s.records.patrons ∧
    (s.setLoan i l).records.titles = s.records.titles ∧
    (s.setLoan i l).records.lost = s.records.lost ∧
    (s.setLoan i l).planner = s.planner ∧
    (s.setLoan i l).store = s.store ∧
    (s.setLoan i l).rack = s.rack ∧
    (s.setLoan i l).mail = s.mail ∧
    (s.setLoan i l).returns = s.returns ∧
    (s.setLoan i l).calendar = s.calendar := by
  simp [State.setLoan]

@[simp] theorem State.freeLoan_frame (s : State) (i : Nat) :
    (s.freeLoan i).pending = s.pending ∧
    (s.freeLoan i).run = s.run ∧
    (s.freeLoan i).drawn = s.drawn ∧
    (s.freeLoan i).link = s.link ∧
    (s.freeLoan i).records.patrons = s.records.patrons ∧
    (s.freeLoan i).records.titles = s.records.titles ∧
    (s.freeLoan i).records.lost = s.records.lost ∧
    (s.freeLoan i).planner = s.planner ∧
    (s.freeLoan i).store = s.store ∧
    (s.freeLoan i).rack = s.rack ∧
    (s.freeLoan i).mail = s.mail ∧
    (s.freeLoan i).returns = s.returns ∧
    (s.freeLoan i).calendar = s.calendar := by
  simp [State.freeLoan]

@[simp] theorem State.setLost_frame (s : State) (l : List Lost) :
    (s.setLost l).pending = s.pending ∧
    (s.setLost l).run = s.run ∧
    (s.setLost l).drawn = s.drawn ∧
    (s.setLost l).link = s.link ∧
    (s.setLost l).records.patrons = s.records.patrons ∧
    (s.setLost l).records.titles = s.records.titles ∧
    (s.setLost l).records.loans = s.records.loans ∧
    (s.setLost l).planner = s.planner ∧
    (s.setLost l).store = s.store ∧
    (s.setLost l).rack = s.rack ∧
    (s.setLost l).mail = s.mail ∧
    (s.setLost l).returns = s.returns ∧
    (s.setLost l).calendar = s.calendar := by
  simp [State.setLost]

@[simp] theorem State.setPlan_frame (s : State) (i : Nat) (p : Plan) :
    (s.setPlan i p).pending = s.pending ∧
    (s.setPlan i p).run = s.run ∧
    (s.setPlan i p).drawn = s.drawn ∧
    (s.setPlan i p).link = s.link ∧
    (s.setPlan i p).records = s.records ∧
    (s.setPlan i p).planner.queue = s.planner.queue ∧
    (s.setPlan i p).planner.lastPlan = s.planner.lastPlan ∧
    (s.setPlan i p).planner.pass = s.planner.pass ∧
    (s.setPlan i p).planner.rerun = s.planner.rerun ∧
    (s.setPlan i p).planner.due = s.planner.due ∧
    (s.setPlan i p).store = s.store ∧
    (s.setPlan i p).rack = s.rack ∧
    (s.setPlan i p).mail = s.mail ∧
    (s.setPlan i p).returns = s.returns ∧
    (s.setPlan i p).calendar = s.calendar := by
  simp [State.setPlan]

@[simp] theorem State.erasePlan_frame (s : State) (i : Nat) :
    (s.erasePlan i).pending = s.pending ∧
    (s.erasePlan i).run = s.run ∧
    (s.erasePlan i).drawn = s.drawn ∧
    (s.erasePlan i).link = s.link ∧
    (s.erasePlan i).records = s.records ∧
    (s.erasePlan i).planner.queue = s.planner.queue ∧
    (s.erasePlan i).planner.lastPlan = s.planner.lastPlan ∧
    (s.erasePlan i).planner.pass = s.planner.pass ∧
    (s.erasePlan i).planner.rerun = s.planner.rerun ∧
    (s.erasePlan i).planner.due = s.planner.due ∧
    (s.erasePlan i).store = s.store ∧
    (s.erasePlan i).rack = s.rack ∧
    (s.erasePlan i).mail = s.mail ∧
    (s.erasePlan i).returns = s.returns ∧
    (s.erasePlan i).calendar = s.calendar := by
  simp [State.erasePlan]

@[simp] theorem State.setImage_frame (s : State) (i : Nat) (e : Image) :
    (s.setImage i e).pending = s.pending ∧
    (s.setImage i e).run = s.run ∧
    (s.setImage i e).drawn = s.drawn ∧
    (s.setImage i e).link = s.link ∧
    (s.setImage i e).records = s.records ∧
    (s.setImage i e).planner = s.planner ∧
    (s.setImage i e).store.recency = s.store.recency ∧
    (s.setImage i e).store.fetches = s.store.fetches ∧
    (s.setImage i e).store.lastFetch = s.store.lastFetch ∧
    (s.setImage i e).store.banks = s.store.banks ∧
    (s.setImage i e).store.flash = s.store.flash ∧
    (s.setImage i e).rack = s.rack ∧
    (s.setImage i e).mail = s.mail ∧
    (s.setImage i e).returns = s.returns ∧
    (s.setImage i e).calendar = s.calendar := by
  simp [State.setImage]

@[simp] theorem State.setFetches_frame (s : State) (l : List Fetch) :
    (s.setFetches l).pending = s.pending ∧
    (s.setFetches l).run = s.run ∧
    (s.setFetches l).drawn = s.drawn ∧
    (s.setFetches l).link = s.link ∧
    (s.setFetches l).records = s.records ∧
    (s.setFetches l).planner = s.planner ∧
    (s.setFetches l).store.images = s.store.images ∧
    (s.setFetches l).store.recency = s.store.recency ∧
    (s.setFetches l).store.lastFetch = s.store.lastFetch ∧
    (s.setFetches l).store.banks = s.store.banks ∧
    (s.setFetches l).store.flash = s.store.flash ∧
    (s.setFetches l).rack = s.rack ∧
    (s.setFetches l).mail = s.mail ∧
    (s.setFetches l).returns = s.returns ∧
    (s.setFetches l).calendar = s.calendar := by
  simp [State.setFetches]

@[simp] theorem State.setSlot_frame (s : State) (n : Nat) (x : Slot) :
    (s.setSlot n x).pending = s.pending ∧
    (s.setSlot n x).run = s.run ∧
    (s.setSlot n x).drawn = s.drawn ∧
    (s.setSlot n x).link = s.link ∧
    (s.setSlot n x).records = s.records ∧
    (s.setSlot n x).planner = s.planner ∧
    (s.setSlot n x).store = s.store ∧
    (s.setSlot n x).rack.length = s.rack.length ∧
    (s.setSlot n x).mail = s.mail ∧
    (s.setSlot n x).returns = s.returns ∧
    (s.setSlot n x).calendar = s.calendar := by
  simp [State.setSlot]

@[simp] theorem State.setBank_frame (s : State) (b : Nat) (x : Bank) :
    (s.setBank b x).pending = s.pending ∧
    (s.setBank b x).run = s.run ∧
    (s.setBank b x).drawn = s.drawn ∧
    (s.setBank b x).link = s.link ∧
    (s.setBank b x).records = s.records ∧
    (s.setBank b x).planner = s.planner ∧
    (s.setBank b x).store.images = s.store.images ∧
    (s.setBank b x).store.recency = s.store.recency ∧
    (s.setBank b x).store.fetches = s.store.fetches ∧
    (s.setBank b x).store.lastFetch = s.store.lastFetch ∧
    (s.setBank b x).store.banks.length = s.store.banks.length ∧
    (s.setBank b x).store.flash = s.store.flash ∧
    (s.setBank b x).rack = s.rack ∧
    (s.setBank b x).mail = s.mail ∧
    (s.setBank b x).returns = s.returns ∧
    (s.setBank b x).calendar = s.calendar := by
  simp [State.setBank]

@[simp] theorem State.onPatron_frame (s : State) (i : Nat) (f : Patron → Patron) :
    (s.onPatron i f).pending = s.pending ∧
    (s.onPatron i f).run = s.run ∧
    (s.onPatron i f).drawn = s.drawn ∧
    (s.onPatron i f).link = s.link ∧
    (s.onPatron i f).records.titles = s.records.titles ∧
    (s.onPatron i f).records.loans = s.records.loans ∧
    (s.onPatron i f).records.lost = s.records.lost ∧
    (s.onPatron i f).planner = s.planner ∧
    (s.onPatron i f).store = s.store ∧
    (s.onPatron i f).rack = s.rack ∧
    (s.onPatron i f).mail = s.mail ∧
    (s.onPatron i f).returns = s.returns ∧
    (s.onPatron i f).calendar = s.calendar := by
  refine ⟨?_, ?_, ?_, ?_, ?_, ?_, ?_, ?_, ?_, ?_, ?_, ?_, ?_⟩ <;>
  (simp only [State.onPatron]; (repeat' split) <;> simp)

@[simp] theorem State.onTitle_frame (s : State) (i : Nat) (f : Title → Title) :
    (s.onTitle i f).pending = s.pending ∧
    (s.onTitle i f).run = s.run ∧
    (s.onTitle i f).drawn = s.drawn ∧
    (s.onTitle i f).link = s.link ∧
    (s.onTitle i f).records.patrons = s.records.patrons ∧
    (s.onTitle i f).records.loans = s.records.loans ∧
    (s.onTitle i f).records.lost = s.records.lost ∧
    (s.onTitle i f).planner = s.planner ∧
    (s.onTitle i f).store = s.store ∧
    (s.onTitle i f).rack = s.rack ∧
    (s.onTitle i f).mail = s.mail ∧
    (s.onTitle i f).returns = s.returns ∧
    (s.onTitle i f).calendar = s.calendar := by
  refine ⟨?_, ?_, ?_, ?_, ?_, ?_, ?_, ?_, ?_, ?_, ?_, ?_, ?_⟩ <;>
  (simp only [State.onTitle]; (repeat' split) <;> simp)

@[simp] theorem State.onImage_frame (s : State) (i : Nat) (f : Image → Image) :
    (s.onImage i f).pending = s.pending ∧
    (s.onImage i f).run = s.run ∧
    (s.onImage i f).drawn = s.drawn ∧
    (s.onImage i f).link = s.link ∧
    (s.onImage i f).records = s.records ∧
    (s.onImage i f).planner = s.planner ∧
    (s.onImage i f).store.recency = s.store.recency ∧
    (s.onImage i f).store.fetches = s.store.fetches ∧
    (s.onImage i f).store.lastFetch = s.store.lastFetch ∧
    (s.onImage i f).store.banks = s.store.banks ∧
    (s.onImage i f).store.flash = s.store.flash ∧
    (s.onImage i f).rack = s.rack ∧
    (s.onImage i f).mail = s.mail ∧
    (s.onImage i f).returns = s.returns ∧
    (s.onImage i f).calendar = s.calendar := by
  refine ⟨?_, ?_, ?_, ?_, ?_, ?_, ?_, ?_, ?_, ?_, ?_, ?_, ?_, ?_, ?_⟩ <;>
  (simp only [State.onImage]; (repeat' split) <;> simp)

@[simp] theorem State.onPlan_frame (s : State) (i : Nat) (f : Plan → Plan) :
    (s.onPlan i f).pending = s.pending ∧
    (s.onPlan i f).run = s.run ∧
    (s.onPlan i f).drawn = s.drawn ∧
    (s.onPlan i f).link = s.link ∧
    (s.onPlan i f).records = s.records ∧
    (s.onPlan i f).planner.queue = s.planner.queue ∧
    (s.onPlan i f).planner.lastPlan = s.planner.lastPlan ∧
    (s.onPlan i f).planner.pass = s.planner.pass ∧
    (s.onPlan i f).planner.rerun = s.planner.rerun ∧
    (s.onPlan i f).planner.due = s.planner.due ∧
    (s.onPlan i f).store = s.store ∧
    (s.onPlan i f).rack = s.rack ∧
    (s.onPlan i f).mail = s.mail ∧
    (s.onPlan i f).returns = s.returns ∧
    (s.onPlan i f).calendar = s.calendar := by
  refine ⟨?_, ?_, ?_, ?_, ?_, ?_, ?_, ?_, ?_, ?_, ?_, ?_, ?_, ?_, ?_⟩ <;>
  (simp only [State.onPlan]; (repeat' split) <;> simp)

end Sys2Proof.Machine
end

