-- ==== Sys2Proof/Laws/FramesFlags.lean ====
section
/-!
SUPPORT. What each operation of Machine/Flags.lean leaves as it stands: one lemma per operation.
-/

namespace Sys2Proof.Machine

@[simp] theorem State.setEvents_frame (s : State) (e : Events) :
    (s.setEvents e).pending = s.pending ∧
    (s.setEvents e).run = s.run ∧
    (s.setEvents e).drawn = s.drawn ∧
    (s.setEvents e).link.queue = s.link.queue ∧
    (s.setEvents e).link.pipe = s.link.pipe ∧
    (s.setEvents e).link.frame = s.link.frame ∧
    (s.setEvents e).link.incoming = s.link.incoming ∧
    (s.setEvents e).link.settings = s.link.settings ∧
    (s.setEvents e).link.backup = s.link.backup ∧
    (s.setEvents e).link.patronCtx = s.link.patronCtx ∧
    (s.setEvents e).link.titleCtx = s.link.titleCtx ∧
    (s.setEvents e).records = s.records ∧
    (s.setEvents e).planner = s.planner ∧
    (s.setEvents e).store = s.store ∧
    (s.setEvents e).rack = s.rack ∧
    (s.setEvents e).mail = s.mail ∧
    (s.setEvents e).returns = s.returns ∧
    (s.setEvents e).calendar = s.calendar := by
  simp [State.setEvents]

@[simp] theorem State.raise_frame (s : State) (f : Flag) :
    (s.raise f).pending = s.pending ∧
    (s.raise f).run = s.run ∧
    (s.raise f).drawn = s.drawn ∧
    (s.raise f).link.queue = s.link.queue ∧
    (s.raise f).link.pipe = s.link.pipe ∧
    (s.raise f).link.frame = s.link.frame ∧
    (s.raise f).link.incoming = s.link.incoming ∧
    (s.raise f).link.settings = s.link.settings ∧
    (s.raise f).link.backup = s.link.backup ∧
    (s.raise f).link.patronCtx = s.link.patronCtx ∧
    (s.raise f).link.titleCtx = s.link.titleCtx ∧
    (s.raise f).records = s.records ∧
    (s.raise f).planner = s.planner ∧
    (s.raise f).store = s.store ∧
    (s.raise f).rack = s.rack ∧
    (s.raise f).mail = s.mail ∧
    (s.raise f).returns = s.returns ∧
    (s.raise f).calendar = s.calendar := by
  simp [State.raise]

end Sys2Proof.Machine
end

