-- ==== Sys2Proof/Laws/FramesLedger.lean ====
section
/-!
SUPPORT. What each operation of Machine/Ledger.lean leaves as it stands: one lemma per operation.
-/

namespace Sys2Proof.Machine

@[simp] theorem State.noteTrigger_frame (s : State) :
    s.noteTrigger.pending = s.pending ∧
    s.noteTrigger.run = s.run ∧
    s.noteTrigger.drawn = s.drawn ∧
    s.noteTrigger.link = s.link ∧
    s.noteTrigger.records = s.records ∧
    s.noteTrigger.planner.plans = s.planner.plans ∧
    s.noteTrigger.planner.queue = s.planner.queue ∧
    s.noteTrigger.planner.lastPlan = s.planner.lastPlan ∧
    s.noteTrigger.planner.pass = s.planner.pass ∧
    s.noteTrigger.planner.rerun = s.planner.rerun ∧
    s.noteTrigger.store = s.store ∧
    s.noteTrigger.rack = s.rack ∧
    s.noteTrigger.mail = s.mail ∧
    s.noteTrigger.returns = s.returns ∧
    s.noteTrigger.calendar = s.calendar := by
  simp [State.noteTrigger]

@[simp] theorem State.clearFillLow_frame (s : State) (p : Nat) :
    (s.clearFillLow p).pending = s.pending ∧
    (s.clearFillLow p).run = s.run ∧
    (s.clearFillLow p).drawn = s.drawn ∧
    (s.clearFillLow p).link = s.link ∧
    (s.clearFillLow p).records.titles = s.records.titles ∧
    (s.clearFillLow p).records.loans = s.records.loans ∧
    (s.clearFillLow p).records.lost = s.records.lost ∧
    (s.clearFillLow p).planner.plans = s.planner.plans ∧
    (s.clearFillLow p).planner.queue = s.planner.queue ∧
    (s.clearFillLow p).planner.lastPlan = s.planner.lastPlan ∧
    (s.clearFillLow p).planner.pass = s.planner.pass ∧
    (s.clearFillLow p).planner.rerun = s.planner.rerun ∧
    (s.clearFillLow p).store = s.store ∧
    (s.clearFillLow p).rack = s.rack ∧
    (s.clearFillLow p).mail = s.mail ∧
    (s.clearFillLow p).returns = s.returns ∧
    (s.clearFillLow p).calendar = s.calendar := by
  refine ⟨?_, ?_, ?_, ?_, ?_, ?_, ?_, ?_, ?_, ?_, ?_, ?_, ?_, ?_, ?_, ?_, ?_⟩ <;>
  (simp only [State.clearFillLow]; (repeat' split) <;> simp)

@[simp] theorem State.spaceFreed_frame (s : State) :
    s.spaceFreed.pending = s.pending ∧
    s.spaceFreed.run = s.run ∧
    s.spaceFreed.drawn = s.drawn ∧
    s.spaceFreed.link = s.link ∧
    s.spaceFreed.records.titles = s.records.titles ∧
    s.spaceFreed.records.loans = s.records.loans ∧
    s.spaceFreed.records.lost = s.records.lost ∧
    s.spaceFreed.planner.plans = s.planner.plans ∧
    s.spaceFreed.planner.queue = s.planner.queue ∧
    s.spaceFreed.planner.lastPlan = s.planner.lastPlan ∧
    s.spaceFreed.planner.pass = s.planner.pass ∧
    s.spaceFreed.planner.rerun = s.planner.rerun ∧
    s.spaceFreed.store = s.store ∧
    s.spaceFreed.rack = s.rack ∧
    s.spaceFreed.mail = s.mail ∧
    s.spaceFreed.returns = s.returns ∧
    s.spaceFreed.calendar = s.calendar := by
  simp [State.spaceFreed]

@[simp] theorem State.raiseCarts_frame (s : State) (p : Nat) :
    (s.raiseCarts p).pending = s.pending ∧
    (s.raiseCarts p).run = s.run ∧
    (s.raiseCarts p).drawn = s.drawn ∧
    (s.raiseCarts p).link = s.link ∧
    (s.raiseCarts p).records.titles = s.records.titles ∧
    (s.raiseCarts p).records.loans = s.records.loans ∧
    (s.raiseCarts p).records.lost = s.records.lost ∧
    (s.raiseCarts p).planner.plans = s.planner.plans ∧
    (s.raiseCarts p).planner.queue = s.planner.queue ∧
    (s.raiseCarts p).planner.lastPlan = s.planner.lastPlan ∧
    (s.raiseCarts p).planner.pass = s.planner.pass ∧
    (s.raiseCarts p).planner.rerun = s.planner.rerun ∧
    (s.raiseCarts p).store = s.store ∧
    (s.raiseCarts p).rack = s.rack ∧
    (s.raiseCarts p).mail = s.mail ∧
    (s.raiseCarts p).returns = s.returns ∧
    (s.raiseCarts p).calendar = s.calendar := by
  simp [State.raiseCarts]

@[simp] theorem State.dropCarts_frame (s : State) (p : Nat) :
    (s.dropCarts p).pending = s.pending ∧
    (s.dropCarts p).run = s.run ∧
    (s.dropCarts p).drawn = s.drawn ∧
    (s.dropCarts p).link = s.link ∧
    (s.dropCarts p).records.titles = s.records.titles ∧
    (s.dropCarts p).records.loans = s.records.loans ∧
    (s.dropCarts p).records.lost = s.records.lost ∧
    (s.dropCarts p).planner.plans = s.planner.plans ∧
    (s.dropCarts p).planner.queue = s.planner.queue ∧
    (s.dropCarts p).planner.lastPlan = s.planner.lastPlan ∧
    (s.dropCarts p).planner.pass = s.planner.pass ∧
    (s.dropCarts p).planner.rerun = s.planner.rerun ∧
    (s.dropCarts p).store = s.store ∧
    (s.dropCarts p).rack = s.rack ∧
    (s.dropCarts p).mail = s.mail ∧
    (s.dropCarts p).returns = s.returns ∧
    (s.dropCarts p).calendar = s.calendar := by
  simp [State.dropCarts]

@[simp] theorem State.raiseSets_frame (s : State) (p : Nat) :
    (s.raiseSets p).pending = s.pending ∧
    (s.raiseSets p).run = s.run ∧
    (s.raiseSets p).drawn = s.drawn ∧
    (s.raiseSets p).link = s.link ∧
    (s.raiseSets p).records.titles = s.records.titles ∧
    (s.raiseSets p).records.loans = s.records.loans ∧
    (s.raiseSets p).records.lost = s.records.lost ∧
    (s.raiseSets p).planner.plans = s.planner.plans ∧
    (s.raiseSets p).planner.queue = s.planner.queue ∧
    (s.raiseSets p).planner.lastPlan = s.planner.lastPlan ∧
    (s.raiseSets p).planner.pass = s.planner.pass ∧
    (s.raiseSets p).planner.rerun = s.planner.rerun ∧
    (s.raiseSets p).store = s.store ∧
    (s.raiseSets p).rack = s.rack ∧
    (s.raiseSets p).mail = s.mail ∧
    (s.raiseSets p).returns = s.returns ∧
    (s.raiseSets p).calendar = s.calendar := by
  simp [State.raiseSets]

@[simp] theorem State.dropSets_frame (s : State) (p : Nat) :
    (s.dropSets p).pending = s.pending ∧
    (s.dropSets p).run = s.run ∧
    (s.dropSets p).drawn = s.drawn ∧
    (s.dropSets p).link = s.link ∧
    (s.dropSets p).records.titles = s.records.titles ∧
    (s.dropSets p).records.loans = s.records.loans ∧
    (s.dropSets p).records.lost = s.records.lost ∧
    (s.dropSets p).planner.plans = s.planner.plans ∧
    (s.dropSets p).planner.queue = s.planner.queue ∧
    (s.dropSets p).planner.lastPlan = s.planner.lastPlan ∧
    (s.dropSets p).planner.pass = s.planner.pass ∧
    (s.dropSets p).planner.rerun = s.planner.rerun ∧
    (s.dropSets p).store = s.store ∧
    (s.dropSets p).rack = s.rack ∧
    (s.dropSets p).mail = s.mail ∧
    (s.dropSets p).returns = s.returns ∧
    (s.dropSets p).calendar = s.calendar := by
  simp [State.dropSets]

@[simp] theorem State.beginPass_frame (s : State) :
    s.beginPass.pending = s.pending ∧
    s.beginPass.run = s.run ∧
    s.beginPass.drawn = s.drawn ∧
    s.beginPass.link = s.link ∧
    s.beginPass.records = s.records ∧
    s.beginPass.planner.plans = s.planner.plans ∧
    s.beginPass.planner.queue = s.planner.queue ∧
    s.beginPass.planner.lastPlan = s.planner.lastPlan ∧
    s.beginPass.planner.due = s.planner.due ∧
    s.beginPass.store = s.store ∧
    s.beginPass.rack = s.rack ∧
    s.beginPass.mail = s.mail ∧
    s.beginPass.returns = s.returns ∧
    s.beginPass.calendar = s.calendar := by
  refine ⟨?_, ?_, ?_, ?_, ?_, ?_, ?_, ?_, ?_, ?_, ?_, ?_, ?_, ?_⟩ <;>
  (simp only [State.beginPass]; (repeat' split) <;> simp)

@[simp] theorem State.takeTrigger_frame (s : State) :
    s.takeTrigger.pending = s.pending ∧
    s.takeTrigger.run = s.run ∧
    s.takeTrigger.drawn = s.drawn ∧
    s.takeTrigger.link = s.link ∧
    s.takeTrigger.records = s.records ∧
    s.takeTrigger.planner.plans = s.planner.plans ∧
    s.takeTrigger.planner.queue = s.planner.queue ∧
    s.takeTrigger.planner.lastPlan = s.planner.lastPlan ∧
    s.takeTrigger.store = s.store ∧
    s.takeTrigger.rack = s.rack ∧
    s.takeTrigger.mail = s.mail ∧
    s.takeTrigger.returns = s.returns ∧
    s.takeTrigger.calendar = s.calendar := by
  refine ⟨?_, ?_, ?_, ?_, ?_, ?_, ?_, ?_, ?_, ?_, ?_, ?_, ?_⟩ <;>
  (simp only [State.takeTrigger]; (repeat' split) <;> simp)

@[simp] theorem State.usePatron_frame (s : State) (i : Nat) :
    (s.usePatron i).pending = s.pending ∧
    (s.usePatron i).run = s.run ∧
    (s.usePatron i).drawn = s.drawn ∧
    (s.usePatron i).link.queue = s.link.queue ∧
    (s.usePatron i).link.pipe = s.link.pipe ∧
    (s.usePatron i).link.frame = s.link.frame ∧
    (s.usePatron i).link.incoming = s.link.incoming ∧
    (s.usePatron i).link.settings = s.link.settings ∧
    (s.usePatron i).link.backup = s.link.backup ∧
    (s.usePatron i).link.titleCtx = s.link.titleCtx ∧
    (s.usePatron i).link.events.enables = s.link.events.enables ∧
    (s.usePatron i).link.events.reading = s.link.events.reading ∧
    (s.usePatron i).records = s.records ∧
    (s.usePatron i).planner = s.planner ∧
    (s.usePatron i).store = s.store ∧
    (s.usePatron i).rack = s.rack ∧
    (s.usePatron i).mail = s.mail ∧
    (s.usePatron i).returns = s.returns ∧
    (s.usePatron i).calendar = s.calendar := by
  refine ⟨?_, ?_, ?_, ?_, ?_, ?_, ?_, ?_, ?_, ?_, ?_, ?_, ?_, ?_, ?_, ?_, ?_, ?_, ?_⟩ <;>
  (simp only [State.usePatron]; (repeat' split) <;> simp)

@[simp] theorem State.useTitle_frame (s : State) (i : Nat) :
    (s.useTitle i).pending = s.pending ∧
    (s.useTitle i).run = s.run ∧
    (s.useTitle i).drawn = s.drawn ∧
    (s.useTitle i).link.queue = s.link.queue ∧
    (s.useTitle i).link.pipe = s.link.pipe ∧
    (s.useTitle i).link.frame = s.link.frame ∧
    (s.useTitle i).link.incoming = s.link.incoming ∧
    (s.useTitle i).link.settings = s.link.settings ∧
    (s.useTitle i).link.backup = s.link.backup ∧
    (s.useTitle i).link.patronCtx = s.link.patronCtx ∧
    (s.useTitle i).link.events.enables = s.link.events.enables ∧
    (s.useTitle i).link.events.reading = s.link.events.reading ∧
    (s.useTitle i).records = s.records ∧
    (s.useTitle i).planner = s.planner ∧
    (s.useTitle i).store = s.store ∧
    (s.useTitle i).rack = s.rack ∧
    (s.useTitle i).mail = s.mail ∧
    (s.useTitle i).returns = s.returns ∧
    (s.useTitle i).calendar = s.calendar := by
  refine ⟨?_, ?_, ?_, ?_, ?_, ?_, ?_, ?_, ?_, ?_, ?_, ?_, ?_, ?_, ?_, ?_, ?_, ?_, ?_⟩ <;>
  (simp only [State.useTitle]; (repeat' split) <;> simp)

@[simp] theorem State.setQueue_frame (s : State) (q : List Request) :
    (s.setQueue q).pending = s.pending ∧
    (s.setQueue q).run = s.run ∧
    (s.setQueue q).drawn = s.drawn ∧
    (s.setQueue q).link.pipe = s.link.pipe ∧
    (s.setQueue q).link.frame = s.link.frame ∧
    (s.setQueue q).link.incoming = s.link.incoming ∧
    (s.setQueue q).link.settings = s.link.settings ∧
    (s.setQueue q).link.backup = s.link.backup ∧
    (s.setQueue q).link.patronCtx = s.link.patronCtx ∧
    (s.setQueue q).link.titleCtx = s.link.titleCtx ∧
    (s.setQueue q).link.events.enables = s.link.events.enables ∧
    (s.setQueue q).link.events.reading = s.link.events.reading ∧
    (s.setQueue q).records = s.records ∧
    (s.setQueue q).planner = s.planner ∧
    (s.setQueue q).store = s.store ∧
    (s.setQueue q).rack = s.rack ∧
    (s.setQueue q).mail = s.mail ∧
    (s.setQueue q).returns = s.returns ∧
    (s.setQueue q).calendar = s.calendar := by
  simp [State.setQueue]

@[simp] theorem State.arrive_frame (s : State) (code tag : Nat) (body : List Byte) :
    (s.arrive code tag body).pending = s.pending ∧
    (s.arrive code tag body).run = s.run ∧
    (s.arrive code tag body).drawn = s.drawn ∧
    (s.arrive code tag body).link.pipe = s.link.pipe ∧
    (s.arrive code tag body).link.frame = s.link.frame ∧
    (s.arrive code tag body).link.incoming = s.link.incoming ∧
    (s.arrive code tag body).link.settings = s.link.settings ∧
    (s.arrive code tag body).link.backup = s.link.backup ∧
    (s.arrive code tag body).link.patronCtx = s.link.patronCtx ∧
    (s.arrive code tag body).link.titleCtx = s.link.titleCtx ∧
    (s.arrive code tag body).records = s.records ∧
    (s.arrive code tag body).planner = s.planner ∧
    (s.arrive code tag body).store = s.store ∧
    (s.arrive code tag body).rack = s.rack ∧
    (s.arrive code tag body).mail = s.mail ∧
    (s.arrive code tag body).returns = s.returns ∧
    (s.arrive code tag body).calendar = s.calendar := by
  refine ⟨?_, ?_, ?_, ?_, ?_, ?_, ?_, ?_, ?_, ?_, ?_, ?_, ?_, ?_, ?_, ?_, ?_⟩ <;>
  (simp only [State.arrive]; (repeat' split) <;> simp)

@[simp] theorem State.takeRequest_frame (s : State) (code tag : Nat) (body : List Byte) :
    (s.takeRequest code tag body).1.pending = s.pending ∧
    (s.takeRequest code tag body).1.run = s.run ∧
    (s.takeRequest code tag body).1.drawn = s.drawn ∧
    (s.takeRequest code tag body).1.link.pipe = s.link.pipe ∧
    (s.takeRequest code tag body).1.link.frame = s.link.frame ∧
    (s.takeRequest code tag body).1.link.incoming = s.link.incoming ∧
    (s.takeRequest code tag body).1.link.settings = s.link.settings ∧
    (s.takeRequest code tag body).1.link.backup = s.link.backup ∧
    (s.takeRequest code tag body).1.link.patronCtx = s.link.patronCtx ∧
    (s.takeRequest code tag body).1.link.titleCtx = s.link.titleCtx ∧
    (s.takeRequest code tag body).1.records = s.records ∧
    (s.takeRequest code tag body).1.planner = s.planner ∧
    (s.takeRequest code tag body).1.store = s.store ∧
    (s.takeRequest code tag body).1.rack = s.rack ∧
    (s.takeRequest code tag body).1.mail = s.mail ∧
    (s.takeRequest code tag body).1.returns = s.returns ∧
    (s.takeRequest code tag body).1.calendar = s.calendar := by
  refine ⟨?_, ?_, ?_, ?_, ?_, ?_, ?_, ?_, ?_, ?_, ?_, ?_, ?_, ?_, ?_, ?_, ?_⟩ <;>
  (simp only [State.takeRequest]; (repeat' split) <;> simp)

@[simp] theorem State.formReply_frame (s : State) (i : Nat) (r : Reply) :
    (s.formReply i r).pending = s.pending ∧
    (s.formReply i r).run = s.run ∧
    (s.formReply i r).drawn = s.drawn ∧
    (s.formReply i r).link.pipe = s.link.pipe ∧
    (s.formReply i r).link.frame = s.link.frame ∧
    (s.formReply i r).link.incoming = s.link.incoming ∧
    (s.formReply i r).link.settings = s.link.settings ∧
    (s.formReply i r).link.backup = s.link.backup ∧
    (s.formReply i r).link.patronCtx = s.link.patronCtx ∧
    (s.formReply i r).link.titleCtx = s.link.titleCtx ∧
    (s.formReply i r).link.events.enables = s.link.events.enables ∧
    (s.formReply i r).link.events.reading = s.link.events.reading ∧
    (s.formReply i r).records = s.records ∧
    (s.formReply i r).planner = s.planner ∧
    (s.formReply i r).store = s.store ∧
    (s.formReply i r).rack = s.rack ∧
    (s.formReply i r).mail = s.mail ∧
    (s.formReply i r).returns = s.returns ∧
    (s.formReply i r).calendar = s.calendar := by
  simp [State.formReply]

end Sys2Proof.Machine
end

