-- ==== Sys2Proof/Laws/FramesHolds.lean ====
section
/-!
SUPPORT. What each operation of Machine/Holds.lean leaves as it stands: one lemma per operation.
-/

namespace Sys2Proof.Machine

@[simp] theorem State.setEntry_frame (s : State) (p t : Nat) (st : EntryState) :
    (s.setEntry p t st).pending = s.pending ∧
    (s.setEntry p t st).run = s.run ∧
    (s.setEntry p t st).drawn = s.drawn ∧
    (s.setEntry p t st).link = s.link ∧
    (s.setEntry p t st).records.titles = s.records.titles ∧
    (s.setEntry p t st).records.loans = s.records.loans ∧
    (s.setEntry p t st).records.lost = s.records.lost ∧
    (s.setEntry p t st).planner.plans = s.planner.plans ∧
    (s.setEntry p t st).planner.queue = s.planner.queue ∧
    (s.setEntry p t st).planner.lastPlan = s.planner.lastPlan ∧
    (s.setEntry p t st).planner.pass = s.planner.pass ∧
    (s.setEntry p t st).planner.rerun = s.planner.rerun ∧
    (s.setEntry p t st).store = s.store ∧
    (s.setEntry p t st).rack = s.rack ∧
    (s.setEntry p t st).mail = s.mail ∧
    (s.setEntry p t st).returns = s.returns ∧
    (s.setEntry p t st).calendar = s.calendar := by
  simp [State.setEntry]

@[simp] theorem State.returnEntries_frame (s : State) (p plan : Nat) :
    (s.returnEntries p plan).pending = s.pending ∧
    (s.returnEntries p plan).run = s.run ∧
    (s.returnEntries p plan).drawn = s.drawn ∧
    (s.returnEntries p plan).link = s.link ∧
    (s.returnEntries p plan).records.titles = s.records.titles ∧
    (s.returnEntries p plan).records.loans = s.records.loans ∧
    (s.returnEntries p plan).records.lost = s.records.lost ∧
    (s.returnEntries p plan).planner.plans = s.planner.plans ∧
    (s.returnEntries p plan).planner.queue = s.planner.queue ∧
    (s.returnEntries p plan).planner.lastPlan = s.planner.lastPlan ∧
    (s.returnEntries p plan).planner.pass = s.planner.pass ∧
    (s.returnEntries p plan).planner.rerun = s.planner.rerun ∧
    (s.returnEntries p plan).store = s.store ∧
    (s.returnEntries p plan).rack = s.rack ∧
    (s.returnEntries p plan).mail = s.mail ∧
    (s.returnEntries p plan).returns = s.returns ∧
    (s.returnEntries p plan).calendar = s.calendar := by
  simp [State.returnEntries]

@[simp] theorem State.removeEntries_frame (s : State) (p : Nat) (leaves : OrderEntry → Bool) :
    (s.removeEntries p leaves).pending = s.pending ∧
    (s.removeEntries p leaves).run = s.run ∧
    (s.removeEntries p leaves).drawn = s.drawn ∧
    (s.removeEntries p leaves).link = s.link ∧
    (s.removeEntries p leaves).records.titles = s.records.titles ∧
    (s.removeEntries p leaves).records.loans = s.records.loans ∧
    (s.removeEntries p leaves).records.lost = s.records.lost ∧
    (s.removeEntries p leaves).planner.plans = s.planner.plans ∧
    (s.removeEntries p leaves).planner.queue = s.planner.queue ∧
    (s.removeEntries p leaves).planner.lastPlan = s.planner.lastPlan ∧
    (s.removeEntries p leaves).planner.pass = s.planner.pass ∧
    (s.removeEntries p leaves).planner.rerun = s.planner.rerun ∧
    (s.removeEntries p leaves).store = s.store ∧
    (s.removeEntries p leaves).rack = s.rack ∧
    (s.removeEntries p leaves).mail = s.mail ∧
    (s.removeEntries p leaves).returns = s.returns ∧
    (s.removeEntries p leaves).calendar = s.calendar := by
  simp [State.removeEntries]

@[simp] theorem State.leaveHold_frame (s : State) (p t : Nat) :
    (s.leaveHold p t).pending = s.pending ∧
    (s.leaveHold p t).run = s.run ∧
    (s.leaveHold p t).drawn = s.drawn ∧
    (s.leaveHold p t).link = s.link ∧
    (s.leaveHold p t).records.patrons = s.records.patrons ∧
    (s.leaveHold p t).records.loans = s.records.loans ∧
    (s.leaveHold p t).records.lost = s.records.lost ∧
    (s.leaveHold p t).planner = s.planner ∧
    (s.leaveHold p t).store = s.store ∧
    (s.leaveHold p t).rack = s.rack ∧
    (s.leaveHold p t).mail = s.mail ∧
    (s.leaveHold p t).returns = s.returns ∧
    (s.leaveHold p t).calendar = s.calendar := by
  simp [State.leaveHold]

@[simp] theorem State.clearOversizeOf_frame (s : State) (t : Nat) :
    (s.clearOversizeOf t).pending = s.pending ∧
    (s.clearOversizeOf t).run = s.run ∧
    (s.clearOversizeOf t).drawn = s.drawn ∧
    (s.clearOversizeOf t).link = s.link ∧
    (s.clearOversizeOf t).records.titles = s.records.titles ∧
    (s.clearOversizeOf t).records.loans = s.records.loans ∧
    (s.clearOversizeOf t).records.lost = s.records.lost ∧
    (s.clearOversizeOf t).planner = s.planner ∧
    (s.clearOversizeOf t).store = s.store ∧
    (s.clearOversizeOf t).rack = s.rack ∧
    (s.clearOversizeOf t).mail = s.mail ∧
    (s.clearOversizeOf t).returns = s.returns ∧
    (s.clearOversizeOf t).calendar = s.calendar := by
  simp [State.clearOversizeOf]

@[simp] theorem State.moveCopy_frame (s : State) (t c : Nat) (place : CopyPlace) :
    (s.moveCopy t c place).pending = s.pending ∧
    (s.moveCopy t c place).run = s.run ∧
    (s.moveCopy t c place).drawn = s.drawn ∧
    (s.moveCopy t c place).link = s.link ∧
    (s.moveCopy t c place).records.patrons = s.records.patrons ∧
    (s.moveCopy t c place).records.loans = s.records.loans ∧
    (s.moveCopy t c place).records.lost = s.records.lost ∧
    (s.moveCopy t c place).planner = s.planner ∧
    (s.moveCopy t c place).store = s.store ∧
    (s.moveCopy t c place).rack = s.rack ∧
    (s.moveCopy t c place).mail = s.mail ∧
    (s.moveCopy t c place).returns = s.returns ∧
    (s.moveCopy t c place).calendar = s.calendar := by
  simp [State.moveCopy]

@[simp] theorem State.addItem_frame (s : State) (p : Nat) (kind : ItemKind) (st : ItemState) :
    (s.addItem p kind st).pending = s.pending ∧
    (s.addItem p kind st).run = s.run ∧
    (s.addItem p kind st).drawn = s.drawn ∧
    (s.addItem p kind st).link = s.link ∧
    (s.addItem p kind st).records = s.records ∧
    (s.addItem p kind st).planner = s.planner ∧
    (s.addItem p kind st).store = s.store ∧
    (s.addItem p kind st).rack = s.rack ∧
    (s.addItem p kind st).mail.close = s.mail.close ∧
    (s.addItem p kind st).mail.openBatch = s.mail.openBatch ∧
    (s.addItem p kind st).mail.lastBatch = s.mail.lastBatch ∧
    (s.addItem p kind st).mail.manifests = s.mail.manifests ∧
    (s.addItem p kind st).mail.alarms = s.mail.alarms ∧
    (s.addItem p kind st).mail.heldClose = s.mail.heldClose ∧
    (s.addItem p kind st).mail.waitingClose = s.mail.waitingClose ∧
    (s.addItem p kind st).returns = s.returns ∧
    (s.addItem p kind st).calendar = s.calendar := by
  simp [State.addItem]

@[simp] theorem State.removeItem_frame (s : State) (n : Nat) :
    (s.removeItem n).pending = s.pending ∧
    (s.removeItem n).run = s.run ∧
    (s.removeItem n).drawn = s.drawn ∧
    (s.removeItem n).link = s.link ∧
    (s.removeItem n).records = s.records ∧
    (s.removeItem n).planner = s.planner ∧
    (s.removeItem n).store = s.store ∧
    (s.removeItem n).rack = s.rack ∧
    (s.removeItem n).mail.lastItem = s.mail.lastItem ∧
    (s.removeItem n).mail.openBatch = s.mail.openBatch ∧
    (s.removeItem n).mail.lastBatch = s.mail.lastBatch ∧
    (s.removeItem n).mail.manifests = s.mail.manifests ∧
    (s.removeItem n).mail.alarms = s.mail.alarms ∧
    (s.removeItem n).mail.heldClose = s.mail.heldClose ∧
    (s.removeItem n).mail.waitingClose = s.mail.waitingClose ∧
    (s.removeItem n).returns = s.returns ∧
    (s.removeItem n).calendar = s.calendar := by
  simp [State.removeItem]

@[simp] theorem State.withdrawSet_frame (s : State) (i : Item) :
    (s.withdrawSet i).pending = s.pending ∧
    (s.withdrawSet i).run = s.run ∧
    (s.withdrawSet i).drawn = s.drawn ∧
    (s.withdrawSet i).link = s.link ∧
    (s.withdrawSet i).records.loans = s.records.loans ∧
    (s.withdrawSet i).records.lost = s.records.lost ∧
    (s.withdrawSet i).planner.plans = s.planner.plans ∧
    (s.withdrawSet i).planner.queue = s.planner.queue ∧
    (s.withdrawSet i).planner.lastPlan = s.planner.lastPlan ∧
    (s.withdrawSet i).planner.pass = s.planner.pass ∧
    (s.withdrawSet i).planner.rerun = s.planner.rerun ∧
    (s.withdrawSet i).store = s.store ∧
    (s.withdrawSet i).rack = s.rack ∧
    (s.withdrawSet i).mail.lastItem = s.mail.lastItem ∧
    (s.withdrawSet i).mail.openBatch = s.mail.openBatch ∧
    (s.withdrawSet i).mail.lastBatch = s.mail.lastBatch ∧
    (s.withdrawSet i).mail.manifests = s.mail.manifests ∧
    (s.withdrawSet i).mail.alarms = s.mail.alarms ∧
    (s.withdrawSet i).mail.heldClose = s.mail.heldClose ∧
    (s.withdrawSet i).mail.waitingClose = s.mail.waitingClose ∧
    (s.withdrawSet i).returns = s.returns ∧
    (s.withdrawSet i).calendar = s.calendar := by
  refine ⟨?_, ?_, ?_, ?_, ?_, ?_, ?_, ?_, ?_, ?_, ?_, ?_, ?_, ?_, ?_, ?_, ?_, ?_, ?_, ?_, ?_, ?_⟩ <;>
  (simp only [State.withdrawSet]; (repeat' split) <;> simp)

@[simp] theorem State.allocate_frame (s : State) (p t c : Nat) :
    (s.allocate p t c).pending = s.pending ∧
    (s.allocate p t c).run = s.run ∧
    (s.allocate p t c).drawn = s.drawn ∧
    (s.allocate p t c).link = s.link ∧
    (s.allocate p t c).records.loans = s.records.loans ∧
    (s.allocate p t c).records.lost = s.records.lost ∧
    (s.allocate p t c).planner.plans = s.planner.plans ∧
    (s.allocate p t c).planner.queue = s.planner.queue ∧
    (s.allocate p t c).planner.lastPlan = s.planner.lastPlan ∧
    (s.allocate p t c).planner.pass = s.planner.pass ∧
    (s.allocate p t c).planner.rerun = s.planner.rerun ∧
    (s.allocate p t c).store = s.store ∧
    (s.allocate p t c).rack = s.rack ∧
    (s.allocate p t c).mail.close = s.mail.close ∧
    (s.allocate p t c).mail.openBatch = s.mail.openBatch ∧
    (s.allocate p t c).mail.lastBatch = s.mail.lastBatch ∧
    (s.allocate p t c).mail.manifests = s.mail.manifests ∧
    (s.allocate p t c).mail.alarms = s.mail.alarms ∧
    (s.allocate p t c).mail.heldClose = s.mail.heldClose ∧
    (s.allocate p t c).mail.waitingClose = s.mail.waitingClose ∧
    (s.allocate p t c).returns = s.returns ∧
    (s.allocate p t c).calendar = s.calendar := by
  simp [State.allocate]

/-- What giving one copy to a queue leaves (R35). -/
theorem State.sweepOnce_frame {s s' : State} {t : Nat} (h : s.sweepOnce t = some s') :
    s'.pending = s.pending ∧
    s'.run = s.run ∧
    s'.drawn = s.drawn ∧
    s'.link.queue = s.link.queue ∧
    s'.link.pipe = s.link.pipe ∧
    s'.link.frame = s.link.frame ∧
    s'.link.incoming = s.link.incoming ∧
    s'.link.settings = s.link.settings ∧
    s'.link.backup = s.link.backup ∧
    s'.link.patronCtx = s.link.patronCtx ∧
    s'.link.titleCtx = s.link.titleCtx ∧
    s'.records.loans = s.records.loans ∧
    s'.records.lost = s.records.lost ∧
    s'.planner.plans = s.planner.plans ∧
    s'.planner.queue = s.planner.queue ∧
    s'.planner.lastPlan = s.planner.lastPlan ∧
    s'.planner.pass = s.planner.pass ∧
    s'.planner.rerun = s.planner.rerun ∧
    s'.store = s.store ∧
    s'.rack = s.rack ∧
    s'.mail.close = s.mail.close ∧
    s'.mail.openBatch = s.mail.openBatch ∧
    s'.mail.lastBatch = s.mail.lastBatch ∧
    s'.mail.manifests = s.mail.manifests ∧
    s'.mail.alarms = s.mail.alarms ∧
    s'.mail.heldClose = s.mail.heldClose ∧
    s'.mail.waitingClose = s.mail.waitingClose ∧
    s'.returns = s.returns ∧
    s'.calendar = s.calendar := by
  unfold State.sweepOnce at h
  repeat' split at h
  all_goals simp only [Option.some.injEq, reduceCtorEq] at h
  all_goals (subst h; simp)

/-- What the sweep of a title leaves (R35). -/
@[simp] theorem State.sweepTitle_frame (s : State) (t fuel : Nat) :
    (s.sweepTitle t fuel).pending = s.pending ∧
    (s.sweepTitle t fuel).run = s.run ∧
    (s.sweepTitle t fuel).drawn = s.drawn ∧
    (s.sweepTitle t fuel).link.queue = s.link.queue ∧
    (s.sweepTitle t fuel).link.pipe = s.link.pipe ∧
    (s.sweepTitle t fuel).link.frame = s.link.frame ∧
    (s.sweepTitle t fuel).link.incoming = s.link.incoming ∧
    (s.sweepTitle t fuel).link.settings = s.link.settings ∧
    (s.sweepTitle t fuel).link.backup = s.link.backup ∧
    (s.sweepTitle t fuel).link.patronCtx = s.link.patronCtx ∧
    (s.sweepTitle t fuel).link.titleCtx = s.link.titleCtx ∧
    (s.sweepTitle t fuel).records.loans = s.records.loans ∧
    (s.sweepTitle t fuel).records.lost = s.records.lost ∧
    (s.sweepTitle t fuel).planner.plans = s.planner.plans ∧
    (s.sweepTitle t fuel).planner.queue = s.planner.queue ∧
    (s.sweepTitle t fuel).planner.lastPlan = s.planner.lastPlan ∧
    (s.sweepTitle t fuel).planner.pass = s.planner.pass ∧
    (s.sweepTitle t fuel).planner.rerun = s.planner.rerun ∧
    (s.sweepTitle t fuel).store = s.store ∧
    (s.sweepTitle t fuel).rack = s.rack ∧
    (s.sweepTitle t fuel).mail.close = s.mail.close ∧
    (s.sweepTitle t fuel).mail.openBatch = s.mail.openBatch ∧
    (s.sweepTitle t fuel).mail.lastBatch = s.mail.lastBatch ∧
    (s.sweepTitle t fuel).mail.manifests = s.mail.manifests ∧
    (s.sweepTitle t fuel).mail.alarms = s.mail.alarms ∧
    (s.sweepTitle t fuel).mail.heldClose = s.mail.heldClose ∧
    (s.sweepTitle t fuel).mail.waitingClose = s.mail.waitingClose ∧
    (s.sweepTitle t fuel).returns = s.returns ∧
    (s.sweepTitle t fuel).calendar = s.calendar := by
  induction fuel generalizing s with
  | zero => simp [State.sweepTitle]
  | succ n ih =>
    simp only [State.sweepTitle]
    split
    · next s' h => simpa [State.sweepOnce_frame h] using ih s'
    · simp

@[simp] theorem State.sweep_frame (s : State) (titles : List Nat) :
    (s.sweep titles).pending = s.pending ∧
    (s.sweep titles).run = s.run ∧
    (s.sweep titles).drawn = s.drawn ∧
    (s.sweep titles).link.queue = s.link.queue ∧
    (s.sweep titles).link.pipe = s.link.pipe ∧
    (s.sweep titles).link.frame = s.link.frame ∧
    (s.sweep titles).link.incoming = s.link.incoming ∧
    (s.sweep titles).link.settings = s.link.settings ∧
    (s.sweep titles).link.backup = s.link.backup ∧
    (s.sweep titles).link.patronCtx = s.link.patronCtx ∧
    (s.sweep titles).link.titleCtx = s.link.titleCtx ∧
    (s.sweep titles).records.loans = s.records.loans ∧
    (s.sweep titles).records.lost = s.records.lost ∧
    (s.sweep titles).planner.plans = s.planner.plans ∧
    (s.sweep titles).planner.queue = s.planner.queue ∧
    (s.sweep titles).planner.lastPlan = s.planner.lastPlan ∧
    (s.sweep titles).planner.pass = s.planner.pass ∧
    (s.sweep titles).planner.rerun = s.planner.rerun ∧
    (s.sweep titles).store = s.store ∧
    (s.sweep titles).rack = s.rack ∧
    (s.sweep titles).mail.close = s.mail.close ∧
    (s.sweep titles).mail.openBatch = s.mail.openBatch ∧
    (s.sweep titles).mail.lastBatch = s.mail.lastBatch ∧
    (s.sweep titles).mail.manifests = s.mail.manifests ∧
    (s.sweep titles).mail.alarms = s.mail.alarms ∧
    (s.sweep titles).mail.heldClose = s.mail.heldClose ∧
    (s.sweep titles).mail.waitingClose = s.mail.waitingClose ∧
    (s.sweep titles).returns = s.returns ∧
    (s.sweep titles).calendar = s.calendar := by
  simp [State.sweep]

@[simp] theorem State.sweepPatron_frame (s : State) (p : Nat) :
    (s.sweepPatron p).pending = s.pending ∧
    (s.sweepPatron p).run = s.run ∧
    (s.sweepPatron p).drawn = s.drawn ∧
    (s.sweepPatron p).link.queue = s.link.queue ∧
    (s.sweepPatron p).link.pipe = s.link.pipe ∧
    (s.sweepPatron p).link.frame = s.link.frame ∧
    (s.sweepPatron p).link.incoming = s.link.incoming ∧
    (s.sweepPatron p).link.settings = s.link.settings ∧
    (s.sweepPatron p).link.backup = s.link.backup ∧
    (s.sweepPatron p).link.patronCtx = s.link.patronCtx ∧
    (s.sweepPatron p).link.titleCtx = s.link.titleCtx ∧
    (s.sweepPatron p).records.loans = s.records.loans ∧
    (s.sweepPatron p).records.lost = s.records.lost ∧
    (s.sweepPatron p).planner.plans = s.planner.plans ∧
    (s.sweepPatron p).planner.queue = s.planner.queue ∧
    (s.sweepPatron p).planner.lastPlan = s.planner.lastPlan ∧
    (s.sweepPatron p).planner.pass = s.planner.pass ∧
    (s.sweepPatron p).planner.rerun = s.planner.rerun ∧
    (s.sweepPatron p).store = s.store ∧
    (s.sweepPatron p).rack = s.rack ∧
    (s.sweepPatron p).mail.close = s.mail.close ∧
    (s.sweepPatron p).mail.openBatch = s.mail.openBatch ∧
    (s.sweepPatron p).mail.lastBatch = s.mail.lastBatch ∧
    (s.sweepPatron p).mail.manifests = s.mail.manifests ∧
    (s.sweepPatron p).mail.alarms = s.mail.alarms ∧
    (s.sweepPatron p).mail.heldClose = s.mail.heldClose ∧
    (s.sweepPatron p).mail.waitingClose = s.mail.waitingClose ∧
    (s.sweepPatron p).returns = s.returns ∧
    (s.sweepPatron p).calendar = s.calendar := by
  simp [State.sweepPatron]

end Sys2Proof.Machine
end

