-- ==== Sys2Proof/Laws/FramesImages.lean ====
section
/-!
SUPPORT. What each operation of Machine/Images.lean leaves as it stands: one lemma per operation.
-/

namespace Sys2Proof.Machine

@[simp] theorem State.removeImage_frame (s : State) (t : Nat) :
    (s.removeImage t).pending = s.pending ∧
    (s.removeImage t).run = s.run ∧
    (s.removeImage t).drawn = s.drawn ∧
    (s.removeImage t).link = s.link ∧
    (s.removeImage t).records = s.records ∧
    (s.removeImage t).planner = s.planner ∧
    (s.removeImage t).store.fetches = s.store.fetches ∧
    (s.removeImage t).store.lastFetch = s.store.lastFetch ∧
    (s.removeImage t).store.banks = s.store.banks ∧
    (s.removeImage t).store.flash = s.store.flash ∧
    (s.removeImage t).rack = s.rack ∧
    (s.removeImage t).mail = s.mail ∧
    (s.removeImage t).returns = s.returns ∧
    (s.removeImage t).calendar = s.calendar := by
  simp [State.removeImage]

@[simp] theorem State.toRecent_frame (s : State) (t : Nat) :
    (s.toRecent t).pending = s.pending ∧
    (s.toRecent t).run = s.run ∧
    (s.toRecent t).drawn = s.drawn ∧
    (s.toRecent t).link = s.link ∧
    (s.toRecent t).records = s.records ∧
    (s.toRecent t).planner = s.planner ∧
    (s.toRecent t).store.images = s.store.images ∧
    (s.toRecent t).store.fetches = s.store.fetches ∧
    (s.toRecent t).store.lastFetch = s.store.lastFetch ∧
    (s.toRecent t).store.banks = s.store.banks ∧
    (s.toRecent t).store.flash = s.store.flash ∧
    (s.toRecent t).rack = s.rack ∧
    (s.toRecent t).mail = s.mail ∧
    (s.toRecent t).returns = s.returns ∧
    (s.toRecent t).calendar = s.calendar := by
  refine ⟨?_, ?_, ?_, ?_, ?_, ?_, ?_, ?_, ?_, ?_, ?_, ?_, ?_, ?_, ?_⟩ <;>
  (simp only [State.toRecent]; (repeat' split) <;> simp)

@[simp] theorem State.pin_frame (s : State) (t : Nat) :
    (s.pin t).pending = s.pending ∧
    (s.pin t).run = s.run ∧
    (s.pin t).drawn = s.drawn ∧
    (s.pin t).link = s.link ∧
    (s.pin t).records = s.records ∧
    (s.pin t).planner = s.planner ∧
    (s.pin t).store.recency = s.store.recency ∧
    (s.pin t).store.fetches = s.store.fetches ∧
    (s.pin t).store.lastFetch = s.store.lastFetch ∧
    (s.pin t).store.banks = s.store.banks ∧
    (s.pin t).store.flash = s.store.flash ∧
    (s.pin t).rack = s.rack ∧
    (s.pin t).mail = s.mail ∧
    (s.pin t).returns = s.returns ∧
    (s.pin t).calendar = s.calendar := by
  simp [State.pin]

@[simp] theorem State.unpin_frame (s : State) (t : Nat) :
    (s.unpin t).pending = s.pending ∧
    (s.unpin t).run = s.run ∧
    (s.unpin t).drawn = s.drawn ∧
    (s.unpin t).link = s.link ∧
    (s.unpin t).records.titles = s.records.titles ∧
    (s.unpin t).records.loans = s.records.loans ∧
    (s.unpin t).records.lost = s.records.lost ∧
    (s.unpin t).planner.plans = s.planner.plans ∧
    (s.unpin t).planner.queue = s.planner.queue ∧
    (s.unpin t).planner.lastPlan = s.planner.lastPlan ∧
    (s.unpin t).planner.pass = s.planner.pass ∧
    (s.unpin t).planner.rerun = s.planner.rerun ∧
    (s.unpin t).store.recency = s.store.recency ∧
    (s.unpin t).store.fetches = s.store.fetches ∧
    (s.unpin t).store.lastFetch = s.store.lastFetch ∧
    (s.unpin t).store.banks = s.store.banks ∧
    (s.unpin t).store.flash = s.store.flash ∧
    (s.unpin t).rack = s.rack ∧
    (s.unpin t).mail = s.mail ∧
    (s.unpin t).returns = s.returns ∧
    (s.unpin t).calendar = s.calendar := by
  simp [State.unpin]

@[simp] theorem State.createImage_frame (s : State) (t blocks pins : Nat) :
    (s.createImage t blocks pins).pending = s.pending ∧
    (s.createImage t blocks pins).run = s.run ∧
    (s.createImage t blocks pins).drawn = s.drawn ∧
    (s.createImage t blocks pins).link = s.link ∧
    (s.createImage t blocks pins).records = s.records ∧
    (s.createImage t blocks pins).planner = s.planner ∧
    (s.createImage t blocks pins).store.recency = s.store.recency ∧
    (s.createImage t blocks pins).store.fetches = s.store.fetches ∧
    (s.createImage t blocks pins).store.lastFetch = s.store.lastFetch ∧
    (s.createImage t blocks pins).store.banks = s.store.banks ∧
    (s.createImage t blocks pins).store.flash = s.store.flash ∧
    (s.createImage t blocks pins).rack = s.rack ∧
    (s.createImage t blocks pins).mail = s.mail ∧
    (s.createImage t blocks pins).returns = s.returns ∧
    (s.createImage t blocks pins).calendar = s.calendar := by
  simp [State.createImage]

@[simp] theorem State.evict_frame (s : State) (titles walk : List Nat) (blocks places : Nat) :
    (s.evict titles walk blocks places).pending = s.pending ∧
    (s.evict titles walk blocks places).run = s.run ∧
    (s.evict titles walk blocks places).drawn = s.drawn ∧
    (s.evict titles walk blocks places).link = s.link ∧
    (s.evict titles walk blocks places).records.titles = s.records.titles ∧
    (s.evict titles walk blocks places).records.loans = s.records.loans ∧
    (s.evict titles walk blocks places).records.lost = s.records.lost ∧
    (s.evict titles walk blocks places).planner.plans = s.planner.plans ∧
    (s.evict titles walk blocks places).planner.queue = s.planner.queue ∧
    (s.evict titles walk blocks places).planner.lastPlan = s.planner.lastPlan ∧
    (s.evict titles walk blocks places).planner.pass = s.planner.pass ∧
    (s.evict titles walk blocks places).planner.rerun = s.planner.rerun ∧
    (s.evict titles walk blocks places).store.fetches = s.store.fetches ∧
    (s.evict titles walk blocks places).store.lastFetch = s.store.lastFetch ∧
    (s.evict titles walk blocks places).store.banks = s.store.banks ∧
    (s.evict titles walk blocks places).store.flash = s.store.flash ∧
    (s.evict titles walk blocks places).rack = s.rack ∧
    (s.evict titles walk blocks places).mail = s.mail ∧
    (s.evict titles walk blocks places).returns = s.returns ∧
    (s.evict titles walk blocks places).calendar = s.calendar := by
  refine ⟨?_, ?_, ?_, ?_, ?_, ?_, ?_, ?_, ?_, ?_, ?_, ?_, ?_, ?_, ?_, ?_, ?_, ?_, ?_, ?_⟩
  all_goals
  induction walk generalizing s with
    | nil => simp [State.evict]
    | cons t r ih =>
      simp only [State.evict]
      repeat' split
      all_goals simp [ih]

@[simp] theorem State.addFetch_frame (s : State) (t frames : Nat) :
    (s.addFetch t frames).pending = s.pending ∧
    (s.addFetch t frames).run = s.run ∧
    (s.addFetch t frames).drawn = s.drawn ∧
    (s.addFetch t frames).link = s.link ∧
    (s.addFetch t frames).records = s.records ∧
    (s.addFetch t frames).planner = s.planner ∧
    (s.addFetch t frames).store.images = s.store.images ∧
    (s.addFetch t frames).store.recency = s.store.recency ∧
    (s.addFetch t frames).store.banks = s.store.banks ∧
    (s.addFetch t frames).store.flash = s.store.flash ∧
    (s.addFetch t frames).rack = s.rack ∧
    (s.addFetch t frames).mail = s.mail ∧
    (s.addFetch t frames).returns = s.returns ∧
    (s.addFetch t frames).calendar = s.calendar := by
  simp [State.addFetch]

@[simp] theorem State.removeFetch_frame (s : State) (id : Nat) :
    (s.removeFetch id).pending = s.pending ∧
    (s.removeFetch id).run = s.run ∧
    (s.removeFetch id).drawn = s.drawn ∧
    (s.removeFetch id).link = s.link ∧
    (s.removeFetch id).records = s.records ∧
    (s.removeFetch id).planner = s.planner ∧
    (s.removeFetch id).store.images = s.store.images ∧
    (s.removeFetch id).store.recency = s.store.recency ∧
    (s.removeFetch id).store.lastFetch = s.store.lastFetch ∧
    (s.removeFetch id).store.banks = s.store.banks ∧
    (s.removeFetch id).store.flash = s.store.flash ∧
    (s.removeFetch id).rack = s.rack ∧
    (s.removeFetch id).mail = s.mail ∧
    (s.removeFetch id).returns = s.returns ∧
    (s.removeFetch id).calendar = s.calendar := by
  simp [State.removeFetch]

@[simp] theorem State.onFetch_frame (s : State) (id : Nat) (f : Fetch → Fetch) :
    (s.onFetch id f).pending = s.pending ∧
    (s.onFetch id f).run = s.run ∧
    (s.onFetch id f).drawn = s.drawn ∧
    (s.onFetch id f).link = s.link ∧
    (s.onFetch id f).records = s.records ∧
    (s.onFetch id f).planner = s.planner ∧
    (s.onFetch id f).store.images = s.store.images ∧
    (s.onFetch id f).store.recency = s.store.recency ∧
    (s.onFetch id f).store.lastFetch = s.store.lastFetch ∧
    (s.onFetch id f).store.banks = s.store.banks ∧
    (s.onFetch id f).store.flash = s.store.flash ∧
    (s.onFetch id f).rack = s.rack ∧
    (s.onFetch id f).mail = s.mail ∧
    (s.onFetch id f).returns = s.returns ∧
    (s.onFetch id f).calendar = s.calendar := by
  simp [State.onFetch]

@[simp] theorem State.admitTitle_frame (s : State) (t pages : Nat) :
    (s.admitTitle t pages).pending = s.pending ∧
    (s.admitTitle t pages).run = s.run ∧
    (s.admitTitle t pages).drawn = s.drawn ∧
    (s.admitTitle t pages).link = s.link ∧
    (s.admitTitle t pages).records = s.records ∧
    (s.admitTitle t pages).planner = s.planner ∧
    (s.admitTitle t pages).store.recency = s.store.recency ∧
    (s.admitTitle t pages).store.banks = s.store.banks ∧
    (s.admitTitle t pages).store.flash = s.store.flash ∧
    (s.admitTitle t pages).rack = s.rack ∧
    (s.admitTitle t pages).mail = s.mail ∧
    (s.admitTitle t pages).returns = s.returns ∧
    (s.admitTitle t pages).calendar = s.calendar := by
  simp [State.admitTitle]

@[simp] theorem State.grantRead_frame (s : State) (b : Nat) (r : ReadOp) :
    (s.grantRead b r).pending = s.pending ∧
    (s.grantRead b r).run = s.run ∧
    (s.grantRead b r).drawn = s.drawn ∧
    (s.grantRead b r).link = s.link ∧
    (s.grantRead b r).records = s.records ∧
    (s.grantRead b r).planner = s.planner ∧
    (s.grantRead b r).store.images = s.store.images ∧
    (s.grantRead b r).store.recency = s.store.recency ∧
    (s.grantRead b r).store.fetches = s.store.fetches ∧
    (s.grantRead b r).store.lastFetch = s.store.lastFetch ∧
    (s.grantRead b r).store.banks.length = s.store.banks.length ∧
    (s.grantRead b r).store.flash = s.store.flash ∧
    (s.grantRead b r).rack.length = s.rack.length ∧
    (s.grantRead b r).mail = s.mail ∧
    (s.grantRead b r).returns = s.returns ∧
    (s.grantRead b r).calendar = s.calendar := by
  simp [State.grantRead]

@[simp] theorem State.grantNext_frame (s : State) (b : Nat) :
    (s.grantNext b).pending = s.pending ∧
    (s.grantNext b).run = s.run ∧
    (s.grantNext b).drawn = s.drawn ∧
    (s.grantNext b).link = s.link ∧
    (s.grantNext b).records = s.records ∧
    (s.grantNext b).planner = s.planner ∧
    (s.grantNext b).store.images = s.store.images ∧
    (s.grantNext b).store.recency = s.store.recency ∧
    (s.grantNext b).store.fetches = s.store.fetches ∧
    (s.grantNext b).store.lastFetch = s.store.lastFetch ∧
    (s.grantNext b).store.banks.length = s.store.banks.length ∧
    (s.grantNext b).store.flash = s.store.flash ∧
    (s.grantNext b).rack.length = s.rack.length ∧
    (s.grantNext b).mail = s.mail ∧
    (s.grantNext b).returns = s.returns ∧
    (s.grantNext b).calendar = s.calendar := by
  refine ⟨?_, ?_, ?_, ?_, ?_, ?_, ?_, ?_, ?_, ?_, ?_, ?_, ?_, ?_, ?_, ?_⟩ <;>
  (simp only [State.grantNext]; (repeat' split) <;> simp)

@[simp] theorem State.handFill_frame (s : State) (f : FillOp) :
    (s.handFill f).pending = s.pending ∧
    (s.handFill f).run = s.run ∧
    (s.handFill f).drawn = s.drawn ∧
    (s.handFill f).link = s.link ∧
    (s.handFill f).records = s.records ∧
    (s.handFill f).planner = s.planner ∧
    (s.handFill f).store.images = s.store.images ∧
    (s.handFill f).store.recency = s.store.recency ∧
    (s.handFill f).store.fetches = s.store.fetches ∧
    (s.handFill f).store.lastFetch = s.store.lastFetch ∧
    (s.handFill f).store.banks.length = s.store.banks.length ∧
    (s.handFill f).store.flash = s.store.flash ∧
    (s.handFill f).rack = s.rack ∧
    (s.handFill f).mail = s.mail ∧
    (s.handFill f).returns = s.returns ∧
    (s.handFill f).calendar = s.calendar := by
  refine ⟨?_, ?_, ?_, ?_, ?_, ?_, ?_, ?_, ?_, ?_, ?_, ?_, ?_, ?_, ?_, ?_⟩ <;>
  (simp only [State.handFill]; (repeat' split) <;> simp)

@[simp] theorem State.handRead_frame (s : State) (r : ReadOp) :
    (s.handRead r).pending = s.pending ∧
    (s.handRead r).run = s.run ∧
    (s.handRead r).drawn = s.drawn ∧
    (s.handRead r).link = s.link ∧
    (s.handRead r).records = s.records ∧
    (s.handRead r).planner = s.planner ∧
    (s.handRead r).store.images = s.store.images ∧
    (s.handRead r).store.recency = s.store.recency ∧
    (s.handRead r).store.fetches = s.store.fetches ∧
    (s.handRead r).store.lastFetch = s.store.lastFetch ∧
    (s.handRead r).store.banks.length = s.store.banks.length ∧
    (s.handRead r).store.flash = s.store.flash ∧
    (s.handRead r).rack.length = s.rack.length ∧
    (s.handRead r).mail = s.mail ∧
    (s.handRead r).returns = s.returns ∧
    (s.handRead r).calendar = s.calendar := by
  refine ⟨?_, ?_, ?_, ?_, ?_, ?_, ?_, ?_, ?_, ?_, ?_, ?_, ?_, ?_, ?_, ?_⟩ <;>
  (simp only [State.handRead]; (repeat' split) <;> simp)

@[simp] theorem State.loseRead_frame (s : State) (slot : Nat) (fate : ReadFate) :
    (s.loseRead slot fate).pending = s.pending ∧
    (s.loseRead slot fate).run = s.run ∧
    (s.loseRead slot fate).drawn = s.drawn ∧
    (s.loseRead slot fate).link = s.link ∧
    (s.loseRead slot fate).records = s.records ∧
    (s.loseRead slot fate).planner = s.planner ∧
    (s.loseRead slot fate).store.images = s.store.images ∧
    (s.loseRead slot fate).store.recency = s.store.recency ∧
    (s.loseRead slot fate).store.fetches = s.store.fetches ∧
    (s.loseRead slot fate).store.lastFetch = s.store.lastFetch ∧
    (s.loseRead slot fate).store.banks.length = s.store.banks.length ∧
    (s.loseRead slot fate).store.flash = s.store.flash ∧
    (s.loseRead slot fate).rack = s.rack ∧
    (s.loseRead slot fate).mail = s.mail ∧
    (s.loseRead slot fate).returns = s.returns ∧
    (s.loseRead slot fate).calendar = s.calendar := by
  simp [State.loseRead]

@[simp] theorem State.loseFill_frame (s : State) (id : Nat) :
    (s.loseFill id).pending = s.pending ∧
    (s.loseFill id).run = s.run ∧
    (s.loseFill id).drawn = s.drawn ∧
    (s.loseFill id).link = s.link ∧
    (s.loseFill id).records = s.records ∧
    (s.loseFill id).planner = s.planner ∧
    (s.loseFill id).store.images = s.store.images ∧
    (s.loseFill id).store.recency = s.store.recency ∧
    (s.loseFill id).store.fetches = s.store.fetches ∧
    (s.loseFill id).store.lastFetch = s.store.lastFetch ∧
    (s.loseFill id).store.banks.length = s.store.banks.length ∧
    (s.loseFill id).store.flash = s.store.flash ∧
    (s.loseFill id).rack = s.rack ∧
    (s.loseFill id).mail = s.mail ∧
    (s.loseFill id).returns = s.returns ∧
    (s.loseFill id).calendar = s.calendar := by
  simp [State.loseFill]

/-- What the end of a stream makes of the Fetch Queue: nothing where an older stream runs, and else every stream that
runs the older (R69). -/
theorem promote_cases (l : List Fetch) :
    ((∃ f ∈ l, f.state = .streaming true) ∧ promote l = l) ∨
      ((∀ f ∈ l, f.state ≠ .streaming true) ∧
        promote l = l.map (fun f => if f.state = .waiting then f else { f with state := .streaming true })) := by
  unfold promote
  by_cases h : ∃ f ∈ l, f.state = .streaming true
  · exact .inl ⟨h, if_pos (by simpa using h)⟩
  · exact .inr ⟨fun f hf e => h ⟨f, hf, e⟩, if_neg (by simpa using h)⟩

@[simp] theorem promote_ids (l : List Fetch) : (promote l).map (·.id) = l.map (·.id) := by
  rcases promote_cases l with ⟨-, h⟩ | ⟨-, h⟩
  · rw [h]
  · rw [h, List.map_map]
    exact List.map_congr_left fun f _ => by dsimp only [Function.comp]; split <;> rfl

@[simp] theorem promote_titles (l : List Fetch) : (promote l).map (·.title) = l.map (·.title) := by
  rcases promote_cases l with ⟨-, h⟩ | ⟨-, h⟩
  · rw [h]
  · rw [h, List.map_map]
    exact List.map_congr_left fun f _ => by dsimp only [Function.comp]; split <;> rfl

end Sys2Proof.Machine
end

