-- ==== Sys2Proof/Laws/FramesSlots.lean ====
section
/-!
SUPPORT. What each operation of Machine/Slots.lean leaves as it stands: one lemma per operation.
-/

namespace Sys2Proof.Machine

@[simp] theorem State.setJobs_frame (s : State) (q : List Nat) :
    (s.setJobs q).pending = s.pending ∧
    (s.setJobs q).run = s.run ∧
    (s.setJobs q).drawn = s.drawn ∧
    (s.setJobs q).link = s.link ∧
    (s.setJobs q).records = s.records ∧
    (s.setJobs q).planner.plans = s.planner.plans ∧
    (s.setJobs q).planner.lastPlan = s.planner.lastPlan ∧
    (s.setJobs q).planner.pass = s.planner.pass ∧
    (s.setJobs q).planner.rerun = s.planner.rerun ∧
    (s.setJobs q).planner.due = s.planner.due ∧
    (s.setJobs q).store = s.store ∧
    (s.setJobs q).rack = s.rack ∧
    (s.setJobs q).mail = s.mail ∧
    (s.setJobs q).returns = s.returns ∧
    (s.setJobs q).calendar = s.calendar := by
  simp [State.setJobs]

@[simp] theorem State.joinTail_frame (s : State) (n : Nat) (rush : Bool) :
    (s.joinTail n rush).pending = s.pending ∧
    (s.joinTail n rush).run = s.run ∧
    (s.joinTail n rush).drawn = s.drawn ∧
    (s.joinTail n rush).link = s.link ∧
    (s.joinTail n rush).records = s.records ∧
    (s.joinTail n rush).planner.plans = s.planner.plans ∧
    (s.joinTail n rush).planner.lastPlan = s.planner.lastPlan ∧
    (s.joinTail n rush).planner.pass = s.planner.pass ∧
    (s.joinTail n rush).planner.rerun = s.planner.rerun ∧
    (s.joinTail n rush).planner.due = s.planner.due ∧
    (s.joinTail n rush).store = s.store ∧
    (s.joinTail n rush).rack = s.rack ∧
    (s.joinTail n rush).mail = s.mail ∧
    (s.joinTail n rush).returns = s.returns ∧
    (s.joinTail n rush).calendar = s.calendar := by
  refine ⟨?_, ?_, ?_, ?_, ?_, ?_, ?_, ?_, ?_, ?_, ?_, ?_, ?_, ?_, ?_⟩ <;>
  (simp only [State.joinTail]; (repeat' split) <;> simp)

@[simp] theorem State.joinHead_frame (s : State) (n : Nat) (rush : Bool) :
    (s.joinHead n rush).pending = s.pending ∧
    (s.joinHead n rush).run = s.run ∧
    (s.joinHead n rush).drawn = s.drawn ∧
    (s.joinHead n rush).link = s.link ∧
    (s.joinHead n rush).records = s.records ∧
    (s.joinHead n rush).planner.plans = s.planner.plans ∧
    (s.joinHead n rush).planner.lastPlan = s.planner.lastPlan ∧
    (s.joinHead n rush).planner.pass = s.planner.pass ∧
    (s.joinHead n rush).planner.rerun = s.planner.rerun ∧
    (s.joinHead n rush).planner.due = s.planner.due ∧
    (s.joinHead n rush).store = s.store ∧
    (s.joinHead n rush).rack = s.rack ∧
    (s.joinHead n rush).mail = s.mail ∧
    (s.joinHead n rush).returns = s.returns ∧
    (s.joinHead n rush).calendar = s.calendar := by
  refine ⟨?_, ?_, ?_, ?_, ?_, ?_, ?_, ?_, ?_, ?_, ?_, ?_, ?_, ?_, ?_⟩ <;>
  (simp only [State.joinHead]; (repeat' split) <;> simp)

@[simp] theorem State.leaveJobs_frame (s : State) (n : Nat) :
    (s.leaveJobs n).pending = s.pending ∧
    (s.leaveJobs n).run = s.run ∧
    (s.leaveJobs n).drawn = s.drawn ∧
    (s.leaveJobs n).link = s.link ∧
    (s.leaveJobs n).records = s.records ∧
    (s.leaveJobs n).planner.plans = s.planner.plans ∧
    (s.leaveJobs n).planner.lastPlan = s.planner.lastPlan ∧
    (s.leaveJobs n).planner.pass = s.planner.pass ∧
    (s.leaveJobs n).planner.rerun = s.planner.rerun ∧
    (s.leaveJobs n).store = s.store ∧
    (s.leaveJobs n).rack = s.rack ∧
    (s.leaveJobs n).mail = s.mail ∧
    (s.leaveJobs n).returns = s.returns ∧
    (s.leaveJobs n).calendar = s.calendar := by
  refine ⟨?_, ?_, ?_, ?_, ?_, ?_, ?_, ?_, ?_, ?_, ?_, ?_, ?_, ?_⟩ <;>
  (simp only [State.leaveJobs]; (repeat' split) <;> simp)

@[simp] theorem State.returnPlan_frame (s : State) (n : Nat) :
    (s.returnPlan n).pending = s.pending ∧
    (s.returnPlan n).run = s.run ∧
    (s.returnPlan n).drawn = s.drawn ∧
    (s.returnPlan n).link = s.link ∧
    (s.returnPlan n).records = s.records ∧
    (s.returnPlan n).planner.lastPlan = s.planner.lastPlan ∧
    (s.returnPlan n).planner.pass = s.planner.pass ∧
    (s.returnPlan n).planner.rerun = s.planner.rerun ∧
    (s.returnPlan n).planner.due = s.planner.due ∧
    (s.returnPlan n).store = s.store ∧
    (s.returnPlan n).rack = s.rack ∧
    (s.returnPlan n).mail = s.mail ∧
    (s.returnPlan n).returns = s.returns ∧
    (s.returnPlan n).calendar = s.calendar := by
  refine ⟨?_, ?_, ?_, ?_, ?_, ?_, ?_, ?_, ?_, ?_, ?_, ?_, ?_, ?_⟩ <;>
  (simp only [State.returnPlan]; (repeat' split) <;> simp)

@[simp] theorem State.readFrame_frame (s : State) (n : Nat) (p : Placement) :
    (s.readFrame n p).pending = s.pending ∧
    (s.readFrame n p).run = s.run ∧
    (s.readFrame n p).drawn = s.drawn ∧
    (s.readFrame n p).link = s.link ∧
    (s.readFrame n p).records = s.records ∧
    (s.readFrame n p).planner = s.planner ∧
    (s.readFrame n p).store.images = s.store.images ∧
    (s.readFrame n p).store.recency = s.store.recency ∧
    (s.readFrame n p).store.fetches = s.store.fetches ∧
    (s.readFrame n p).store.lastFetch = s.store.lastFetch ∧
    (s.readFrame n p).store.banks.length = s.store.banks.length ∧
    (s.readFrame n p).store.flash = s.store.flash ∧
    (s.readFrame n p).rack.length = s.rack.length ∧
    (s.readFrame n p).mail = s.mail ∧
    (s.readFrame n p).returns = s.returns ∧
    (s.readFrame n p).calendar = s.calendar := by
  refine ⟨?_, ?_, ?_, ?_, ?_, ?_, ?_, ?_, ?_, ?_, ?_, ?_, ?_, ?_, ?_, ?_⟩ <;>
  (simp only [State.readFrame]; (repeat' split) <;> simp)

@[simp] theorem State.beginBlock_frame (s : State) (n : Nat) (p : Placement) :
    (s.beginBlock n p).pending = s.pending ∧
    (s.beginBlock n p).run = s.run ∧
    (s.beginBlock n p).drawn = s.drawn ∧
    (s.beginBlock n p).link = s.link ∧
    (s.beginBlock n p).records = s.records ∧
    (s.beginBlock n p).planner = s.planner ∧
    (s.beginBlock n p).store.images = s.store.images ∧
    (s.beginBlock n p).store.recency = s.store.recency ∧
    (s.beginBlock n p).store.fetches = s.store.fetches ∧
    (s.beginBlock n p).store.lastFetch = s.store.lastFetch ∧
    (s.beginBlock n p).store.banks.length = s.store.banks.length ∧
    (s.beginBlock n p).store.flash = s.store.flash ∧
    (s.beginBlock n p).rack.length = s.rack.length ∧
    (s.beginBlock n p).mail = s.mail ∧
    (s.beginBlock n p).returns = s.returns ∧
    (s.beginBlock n p).calendar = s.calendar := by
  refine ⟨?_, ?_, ?_, ?_, ?_, ?_, ?_, ?_, ?_, ?_, ?_, ?_, ?_, ?_, ?_, ?_⟩ <;>
  (simp only [State.beginBlock]; (repeat' split) <;> simp)

@[simp] theorem State.goProgram_frame (s : State) (n : Nat) :
    (s.goProgram n).pending = s.pending ∧
    (s.goProgram n).run = s.run ∧
    (s.goProgram n).drawn = s.drawn ∧
    (s.goProgram n).link = s.link ∧
    (s.goProgram n).records = s.records ∧
    (s.goProgram n).planner = s.planner ∧
    (s.goProgram n).store.images = s.store.images ∧
    (s.goProgram n).store.recency = s.store.recency ∧
    (s.goProgram n).store.fetches = s.store.fetches ∧
    (s.goProgram n).store.lastFetch = s.store.lastFetch ∧
    (s.goProgram n).store.banks.length = s.store.banks.length ∧
    (s.goProgram n).store.flash = s.store.flash ∧
    (s.goProgram n).rack.length = s.rack.length ∧
    (s.goProgram n).mail = s.mail ∧
    (s.goProgram n).returns = s.returns ∧
    (s.goProgram n).calendar = s.calendar := by
  refine ⟨?_, ?_, ?_, ?_, ?_, ?_, ?_, ?_, ?_, ?_, ?_, ?_, ?_, ?_, ?_, ?_⟩ <;>
  (simp only [State.goProgram]; (repeat' split) <;> simp)

@[simp] theorem State.goOn_frame (s : State) (n : Nat) :
    (s.goOn n).pending = s.pending ∧
    (s.goOn n).run = s.run ∧
    (s.goOn n).drawn = s.drawn ∧
    (s.goOn n).link = s.link ∧
    (s.goOn n).records = s.records ∧
    (s.goOn n).planner = s.planner ∧
    (s.goOn n).store.images = s.store.images ∧
    (s.goOn n).store.recency = s.store.recency ∧
    (s.goOn n).store.fetches = s.store.fetches ∧
    (s.goOn n).store.lastFetch = s.store.lastFetch ∧
    (s.goOn n).store.banks.length = s.store.banks.length ∧
    (s.goOn n).store.flash = s.store.flash ∧
    (s.goOn n).rack.length = s.rack.length ∧
    (s.goOn n).mail = s.mail ∧
    (s.goOn n).returns = s.returns ∧
    (s.goOn n).calendar = s.calendar := by
  refine ⟨?_, ?_, ?_, ?_, ?_, ?_, ?_, ?_, ?_, ?_, ?_, ?_, ?_, ?_, ?_, ?_⟩ <;>
  (simp only [State.goOn]; (repeat' split) <;> simp)

@[simp] theorem State.bind_frame (s : State) (n job : Nat) :
    (s.bind n job).pending = s.pending ∧
    (s.bind n job).run = s.run ∧
    (s.bind n job).drawn = s.drawn ∧
    (s.bind n job).link = s.link ∧
    (s.bind n job).records = s.records ∧
    (s.bind n job).planner.lastPlan = s.planner.lastPlan ∧
    (s.bind n job).planner.pass = s.planner.pass ∧
    (s.bind n job).planner.rerun = s.planner.rerun ∧
    (s.bind n job).store = s.store ∧
    (s.bind n job).rack.length = s.rack.length ∧
    (s.bind n job).mail = s.mail ∧
    (s.bind n job).returns = s.returns ∧
    (s.bind n job).calendar = s.calendar := by
  simp [State.bind]

@[simp] theorem State.offerJob_frame (s : State) (job : Nat) :
    (s.offerJob job).pending = s.pending ∧
    (s.offerJob job).run = s.run ∧
    (s.offerJob job).drawn = s.drawn ∧
    (s.offerJob job).link = s.link ∧
    (s.offerJob job).records = s.records ∧
    (s.offerJob job).planner.lastPlan = s.planner.lastPlan ∧
    (s.offerJob job).planner.pass = s.planner.pass ∧
    (s.offerJob job).planner.rerun = s.planner.rerun ∧
    (s.offerJob job).store = s.store ∧
    (s.offerJob job).rack.length = s.rack.length ∧
    (s.offerJob job).mail = s.mail ∧
    (s.offerJob job).returns = s.returns ∧
    (s.offerJob job).calendar = s.calendar := by
  refine ⟨?_, ?_, ?_, ?_, ?_, ?_, ?_, ?_, ?_, ?_, ?_, ?_, ?_⟩ <;>
  (simp only [State.offerJob]; (repeat' split) <;> simp)

@[simp] theorem State.preErase_frame (s : State) (n : Nat) :
    (s.preErase n).pending = s.pending ∧
    (s.preErase n).run = s.run ∧
    (s.preErase n).drawn = s.drawn ∧
    (s.preErase n).link = s.link ∧
    (s.preErase n).records = s.records ∧
    (s.preErase n).planner = s.planner ∧
    (s.preErase n).store = s.store ∧
    (s.preErase n).rack.length = s.rack.length ∧
    (s.preErase n).mail = s.mail ∧
    (s.preErase n).returns = s.returns ∧
    (s.preErase n).calendar = s.calendar := by
  refine ⟨?_, ?_, ?_, ?_, ?_, ?_, ?_, ?_, ?_, ?_, ?_⟩ <;>
  (simp only [State.preErase]; (repeat' split) <;> simp)

@[simp] theorem State.matchJobs_frame (s : State) :
    s.matchJobs.pending = s.pending ∧
    s.matchJobs.run = s.run ∧
    s.matchJobs.drawn = s.drawn ∧
    s.matchJobs.link = s.link ∧
    s.matchJobs.records = s.records ∧
    s.matchJobs.planner.lastPlan = s.planner.lastPlan ∧
    s.matchJobs.planner.pass = s.planner.pass ∧
    s.matchJobs.planner.rerun = s.planner.rerun ∧
    s.matchJobs.store = s.store ∧
    s.matchJobs.rack.length = s.rack.length ∧
    s.matchJobs.mail = s.mail ∧
    s.matchJobs.returns = s.returns ∧
    s.matchJobs.calendar = s.calendar := by
  simp [State.matchJobs]

@[simp] theorem State.matchIdled_frame (s old : State) :
    (s.matchIdled old).pending = s.pending ∧
    (s.matchIdled old).run = s.run ∧
    (s.matchIdled old).drawn = s.drawn ∧
    (s.matchIdled old).link = s.link ∧
    (s.matchIdled old).records = s.records ∧
    (s.matchIdled old).planner.lastPlan = s.planner.lastPlan ∧
    (s.matchIdled old).planner.pass = s.planner.pass ∧
    (s.matchIdled old).planner.rerun = s.planner.rerun ∧
    (s.matchIdled old).store = s.store ∧
    (s.matchIdled old).rack.length = s.rack.length ∧
    (s.matchIdled old).mail = s.mail ∧
    (s.matchIdled old).returns = s.returns ∧
    (s.matchIdled old).calendar = s.calendar := by
  simp only [State.matchIdled]; split <;> simp

@[simp] theorem State.unbind_frame (s : State) (n : Nat) :
    (s.unbind n).pending = s.pending ∧
    (s.unbind n).run = s.run ∧
    (s.unbind n).drawn = s.drawn ∧
    (s.unbind n).link = s.link ∧
    (s.unbind n).records = s.records ∧
    (s.unbind n).planner = s.planner ∧
    (s.unbind n).store.images = s.store.images ∧
    (s.unbind n).store.recency = s.store.recency ∧
    (s.unbind n).store.fetches = s.store.fetches ∧
    (s.unbind n).store.lastFetch = s.store.lastFetch ∧
    (s.unbind n).store.banks.length = s.store.banks.length ∧
    (s.unbind n).store.flash = s.store.flash ∧
    (s.unbind n).rack.length = s.rack.length ∧
    (s.unbind n).mail = s.mail ∧
    (s.unbind n).returns = s.returns ∧
    (s.unbind n).calendar = s.calendar := by
  simp [State.unbind]

@[simp] theorem State.undone_frame (s : State) (plan n : Nat) :
    (s.undone plan n).pending = s.pending ∧
    (s.undone plan n).run = s.run ∧
    (s.undone plan n).drawn = s.drawn ∧
    (s.undone plan n).link = s.link ∧
    (s.undone plan n).records = s.records ∧
    (s.undone plan n).planner = s.planner ∧
    (s.undone plan n).store = s.store ∧
    (s.undone plan n).rack.length = s.rack.length ∧
    (s.undone plan n).mail = s.mail ∧
    (s.undone plan n).returns = s.returns ∧
    (s.undone plan n).calendar = s.calendar := by
  refine ⟨?_, ?_, ?_, ?_, ?_, ?_, ?_, ?_, ?_, ?_, ?_⟩ <;>
  (simp only [State.undone]; (repeat' split) <;> simp)

@[simp] theorem State.leavePlace_frame (s : State) (n : Nat) (p : Plan) :
    (s.leavePlace n p).pending = s.pending ∧
    (s.leavePlace n p).run = s.run ∧
    (s.leavePlace n p).drawn = s.drawn ∧
    (s.leavePlace n p).link = s.link ∧
    (s.leavePlace n p).records = s.records ∧
    (s.leavePlace n p).planner.plans = s.planner.plans ∧
    (s.leavePlace n p).planner.lastPlan = s.planner.lastPlan ∧
    (s.leavePlace n p).planner.pass = s.planner.pass ∧
    (s.leavePlace n p).planner.rerun = s.planner.rerun ∧
    (s.leavePlace n p).store.images = s.store.images ∧
    (s.leavePlace n p).store.recency = s.store.recency ∧
    (s.leavePlace n p).store.fetches = s.store.fetches ∧
    (s.leavePlace n p).store.lastFetch = s.store.lastFetch ∧
    (s.leavePlace n p).store.banks.length = s.store.banks.length ∧
    (s.leavePlace n p).store.flash = s.store.flash ∧
    (s.leavePlace n p).rack.length = s.rack.length ∧
    (s.leavePlace n p).mail.lastItem = s.mail.lastItem ∧
    (s.leavePlace n p).mail.openBatch = s.mail.openBatch ∧
    (s.leavePlace n p).mail.lastBatch = s.mail.lastBatch ∧
    (s.leavePlace n p).mail.manifests = s.mail.manifests ∧
    (s.leavePlace n p).mail.alarms = s.mail.alarms ∧
    (s.leavePlace n p).mail.heldClose = s.mail.heldClose ∧
    (s.leavePlace n p).mail.waitingClose = s.mail.waitingClose ∧
    (s.leavePlace n p).returns = s.returns ∧
    (s.leavePlace n p).calendar = s.calendar := by
  refine ⟨?_, ?_, ?_, ?_, ?_, ?_, ?_, ?_, ?_, ?_, ?_, ?_, ?_, ?_, ?_, ?_, ?_, ?_, ?_, ?_, ?_, ?_, ?_, ?_, ?_⟩ <;>
  (simp only [State.leavePlace]; (repeat' split) <;> simp)

@[simp] theorem State.unpinAll_frame (s : State) (p : Plan) :
    (s.unpinAll p).pending = s.pending ∧
    (s.unpinAll p).run = s.run ∧
    (s.unpinAll p).drawn = s.drawn ∧
    (s.unpinAll p).link = s.link ∧
    (s.unpinAll p).records.titles = s.records.titles ∧
    (s.unpinAll p).records.loans = s.records.loans ∧
    (s.unpinAll p).records.lost = s.records.lost ∧
    (s.unpinAll p).planner.plans = s.planner.plans ∧
    (s.unpinAll p).planner.queue = s.planner.queue ∧
    (s.unpinAll p).planner.lastPlan = s.planner.lastPlan ∧
    (s.unpinAll p).planner.pass = s.planner.pass ∧
    (s.unpinAll p).planner.rerun = s.planner.rerun ∧
    (s.unpinAll p).store.recency = s.store.recency ∧
    (s.unpinAll p).store.fetches = s.store.fetches ∧
    (s.unpinAll p).store.lastFetch = s.store.lastFetch ∧
    (s.unpinAll p).store.banks = s.store.banks ∧
    (s.unpinAll p).store.flash = s.store.flash ∧
    (s.unpinAll p).rack = s.rack ∧
    (s.unpinAll p).mail = s.mail ∧
    (s.unpinAll p).returns = s.returns ∧
    (s.unpinAll p).calendar = s.calendar := by
  simp [State.unpinAll]

@[simp] theorem State.endPlan_frame (s : State) (n : Nat) :
    (s.endPlan n).pending = s.pending ∧
    (s.endPlan n).run = s.run ∧
    (s.endPlan n).drawn = s.drawn ∧
    (s.endPlan n).link = s.link ∧
    (s.endPlan n).records.titles = s.records.titles ∧
    (s.endPlan n).records.loans = s.records.loans ∧
    (s.endPlan n).records.lost = s.records.lost ∧
    (s.endPlan n).planner.lastPlan = s.planner.lastPlan ∧
    (s.endPlan n).planner.pass = s.planner.pass ∧
    (s.endPlan n).planner.rerun = s.planner.rerun ∧
    (s.endPlan n).store.recency = s.store.recency ∧
    (s.endPlan n).store.fetches = s.store.fetches ∧
    (s.endPlan n).store.lastFetch = s.store.lastFetch ∧
    (s.endPlan n).store.banks.length = s.store.banks.length ∧
    (s.endPlan n).store.flash = s.store.flash ∧
    (s.endPlan n).rack.length = s.rack.length ∧
    (s.endPlan n).mail.lastItem = s.mail.lastItem ∧
    (s.endPlan n).mail.openBatch = s.mail.openBatch ∧
    (s.endPlan n).mail.lastBatch = s.mail.lastBatch ∧
    (s.endPlan n).mail.manifests = s.mail.manifests ∧
    (s.endPlan n).mail.alarms = s.mail.alarms ∧
    (s.endPlan n).mail.heldClose = s.mail.heldClose ∧
    (s.endPlan n).mail.waitingClose = s.mail.waitingClose ∧
    (s.endPlan n).returns = s.returns ∧
    (s.endPlan n).calendar = s.calendar := by
  refine ⟨?_, ?_, ?_, ?_, ?_, ?_, ?_, ?_, ?_, ?_, ?_, ?_, ?_, ?_, ?_, ?_, ?_, ?_, ?_, ?_, ?_, ?_, ?_, ?_, ?_⟩ <;>
  (simp only [State.endPlan]; (repeat' split) <;> simp)

@[simp] theorem State.failPlan_frame (s : State) (n : Nat) :
    (s.failPlan n).pending = s.pending ∧
    (s.failPlan n).run = s.run ∧
    (s.failPlan n).drawn = s.drawn ∧
    (s.failPlan n).link.queue = s.link.queue ∧
    (s.failPlan n).link.pipe = s.link.pipe ∧
    (s.failPlan n).link.frame = s.link.frame ∧
    (s.failPlan n).link.incoming = s.link.incoming ∧
    (s.failPlan n).link.settings = s.link.settings ∧
    (s.failPlan n).link.backup = s.link.backup ∧
    (s.failPlan n).link.patronCtx = s.link.patronCtx ∧
    (s.failPlan n).link.titleCtx = s.link.titleCtx ∧
    (s.failPlan n).records.titles = s.records.titles ∧
    (s.failPlan n).records.loans = s.records.loans ∧
    (s.failPlan n).records.lost = s.records.lost ∧
    (s.failPlan n).planner.lastPlan = s.planner.lastPlan ∧
    (s.failPlan n).planner.pass = s.planner.pass ∧
    (s.failPlan n).planner.rerun = s.planner.rerun ∧
    (s.failPlan n).store.recency = s.store.recency ∧
    (s.failPlan n).store.fetches = s.store.fetches ∧
    (s.failPlan n).store.lastFetch = s.store.lastFetch ∧
    (s.failPlan n).store.banks.length = s.store.banks.length ∧
    (s.failPlan n).store.flash = s.store.flash ∧
    (s.failPlan n).rack.length = s.rack.length ∧
    (s.failPlan n).mail.lastItem = s.mail.lastItem ∧
    (s.failPlan n).mail.openBatch = s.mail.openBatch ∧
    (s.failPlan n).mail.lastBatch = s.mail.lastBatch ∧
    (s.failPlan n).mail.manifests = s.mail.manifests ∧
    (s.failPlan n).mail.alarms = s.mail.alarms ∧
    (s.failPlan n).mail.heldClose = s.mail.heldClose ∧
    (s.failPlan n).mail.waitingClose = s.mail.waitingClose ∧
    (s.failPlan n).returns = s.returns ∧
    (s.failPlan n).calendar = s.calendar := by
  simp [State.failPlan]

@[simp] theorem State.planFault_frame (s : State) (job : Nat) :
    (s.planFault job).pending = s.pending ∧
    (s.planFault job).run = s.run ∧
    (s.planFault job).drawn = s.drawn ∧
    (s.planFault job).link.queue = s.link.queue ∧
    (s.planFault job).link.pipe = s.link.pipe ∧
    (s.planFault job).link.frame = s.link.frame ∧
    (s.planFault job).link.incoming = s.link.incoming ∧
    (s.planFault job).link.settings = s.link.settings ∧
    (s.planFault job).link.backup = s.link.backup ∧
    (s.planFault job).link.patronCtx = s.link.patronCtx ∧
    (s.planFault job).link.titleCtx = s.link.titleCtx ∧
    (s.planFault job).records.titles = s.records.titles ∧
    (s.planFault job).records.loans = s.records.loans ∧
    (s.planFault job).records.lost = s.records.lost ∧
    (s.planFault job).planner.lastPlan = s.planner.lastPlan ∧
    (s.planFault job).planner.pass = s.planner.pass ∧
    (s.planFault job).planner.rerun = s.planner.rerun ∧
    (s.planFault job).store.recency = s.store.recency ∧
    (s.planFault job).store.fetches = s.store.fetches ∧
    (s.planFault job).store.lastFetch = s.store.lastFetch ∧
    (s.planFault job).store.banks.length = s.store.banks.length ∧
    (s.planFault job).store.flash = s.store.flash ∧
    (s.planFault job).rack.length = s.rack.length ∧
    (s.planFault job).mail.lastItem = s.mail.lastItem ∧
    (s.planFault job).mail.openBatch = s.mail.openBatch ∧
    (s.planFault job).mail.lastBatch = s.mail.lastBatch ∧
    (s.planFault job).mail.manifests = s.mail.manifests ∧
    (s.planFault job).mail.alarms = s.mail.alarms ∧
    (s.planFault job).mail.heldClose = s.mail.heldClose ∧
    (s.planFault job).mail.waitingClose = s.mail.waitingClose ∧
    (s.planFault job).returns = s.returns ∧
    (s.planFault job).calendar = s.calendar := by
  refine ⟨?_, ?_, ?_, ?_, ?_, ?_, ?_, ?_, ?_, ?_, ?_, ?_, ?_, ?_, ?_, ?_, ?_, ?_, ?_, ?_, ?_, ?_, ?_, ?_, ?_, ?_, ?_, ?_, ?_, ?_, ?_, ?_⟩ <;>
  (simp only [State.planFault]; (repeat' split) <;> simp)

@[simp] theorem State.slotFault_frame (s : State) (n : Nat) (cause : FaultCause) :
    (s.slotFault n cause).pending = s.pending ∧
    (s.slotFault n cause).run = s.run ∧
    (s.slotFault n cause).drawn = s.drawn ∧
    (s.slotFault n cause).link.queue = s.link.queue ∧
    (s.slotFault n cause).link.pipe = s.link.pipe ∧
    (s.slotFault n cause).link.frame = s.link.frame ∧
    (s.slotFault n cause).link.incoming = s.link.incoming ∧
    (s.slotFault n cause).link.settings = s.link.settings ∧
    (s.slotFault n cause).link.backup = s.link.backup ∧
    (s.slotFault n cause).link.patronCtx = s.link.patronCtx ∧
    (s.slotFault n cause).link.titleCtx = s.link.titleCtx ∧
    (s.slotFault n cause).records.titles = s.records.titles ∧
    (s.slotFault n cause).records.loans = s.records.loans ∧
    (s.slotFault n cause).records.lost = s.records.lost ∧
    (s.slotFault n cause).planner.lastPlan = s.planner.lastPlan ∧
    (s.slotFault n cause).planner.pass = s.planner.pass ∧
    (s.slotFault n cause).planner.rerun = s.planner.rerun ∧
    (s.slotFault n cause).store.recency = s.store.recency ∧
    (s.slotFault n cause).store.fetches = s.store.fetches ∧
    (s.slotFault n cause).store.lastFetch = s.store.lastFetch ∧
    (s.slotFault n cause).store.banks.length = s.store.banks.length ∧
    (s.slotFault n cause).store.flash = s.store.flash ∧
    (s.slotFault n cause).rack.length = s.rack.length ∧
    (s.slotFault n cause).mail.lastItem = s.mail.lastItem ∧
    (s.slotFault n cause).mail.openBatch = s.mail.openBatch ∧
    (s.slotFault n cause).mail.lastBatch = s.mail.lastBatch ∧
    (s.slotFault n cause).mail.manifests = s.mail.manifests ∧
    (s.slotFault n cause).mail.alarms = s.mail.alarms ∧
    (s.slotFault n cause).mail.heldClose = s.mail.heldClose ∧
    (s.slotFault n cause).mail.waitingClose = s.mail.waitingClose ∧
    (s.slotFault n cause).returns = s.returns ∧
    (s.slotFault n cause).calendar = s.calendar := by
  refine ⟨?_, ?_, ?_, ?_, ?_, ?_, ?_, ?_, ?_, ?_, ?_, ?_, ?_, ?_, ?_, ?_, ?_, ?_, ?_, ?_, ?_, ?_, ?_, ?_, ?_, ?_, ?_, ?_, ?_, ?_, ?_, ?_⟩ <;>
  (simp only [State.slotFault]; (repeat' split) <;> simp)

@[simp] theorem State.afterOp_frame (s : State) (n : Nat) :
    (s.afterOp n).pending = s.pending ∧
    (s.afterOp n).run = s.run ∧
    (s.afterOp n).drawn = s.drawn ∧
    (s.afterOp n).link = s.link ∧
    (s.afterOp n).records = s.records ∧
    (s.afterOp n).planner.lastPlan = s.planner.lastPlan ∧
    (s.afterOp n).planner.pass = s.planner.pass ∧
    (s.afterOp n).planner.rerun = s.planner.rerun ∧
    (s.afterOp n).store.images = s.store.images ∧
    (s.afterOp n).store.recency = s.store.recency ∧
    (s.afterOp n).store.fetches = s.store.fetches ∧
    (s.afterOp n).store.lastFetch = s.store.lastFetch ∧
    (s.afterOp n).store.banks.length = s.store.banks.length ∧
    (s.afterOp n).store.flash = s.store.flash ∧
    (s.afterOp n).rack.length = s.rack.length ∧
    (s.afterOp n).mail = s.mail ∧
    (s.afterOp n).returns = s.returns ∧
    (s.afterOp n).calendar = s.calendar := by
  refine ⟨?_, ?_, ?_, ?_, ?_, ?_, ?_, ?_, ?_, ?_, ?_, ?_, ?_, ?_, ?_, ?_, ?_, ?_⟩ <;>
  (simp only [State.afterOp]; (repeat' split) <;> simp)

@[simp] theorem State.finished_frame (s : State) (n : Nat) :
    (s.finished n).pending = s.pending ∧
    (s.finished n).run = s.run ∧
    (s.finished n).drawn = s.drawn ∧
    (s.finished n).link = s.link ∧
    (s.finished n).records = s.records ∧
    (s.finished n).planner.lastPlan = s.planner.lastPlan ∧
    (s.finished n).planner.pass = s.planner.pass ∧
    (s.finished n).planner.rerun = s.planner.rerun ∧
    (s.finished n).store = s.store ∧
    (s.finished n).rack.length = s.rack.length ∧
    (s.finished n).mail = s.mail ∧
    (s.finished n).returns = s.returns ∧
    (s.finished n).calendar = s.calendar := by
  simp [State.finished]

/-- A page read that outlived its job has two ends: the finishing mark clears, or the slot faults (R107). -/
theorem State.finishRead_cases (s : State) (n : Nat) (ok : Bool) (page : List Byte) :
    s.finishRead n ok page = s.finished n ∨
      ∃ r, (s.slot n).readBack = some r ∧ s.finishRead n ok page = s.slotFault n r.cause := by
  unfold State.finishRead
  split
  · exact .inl rfl
  · rename_i r h
    split
    · exact .inl rfl
    · exact .inr ⟨r, h, rfl⟩

@[simp] theorem State.finishRead_frame (s : State) (n : Nat) (ok : Bool) (page : List Byte) :
    (s.finishRead n ok page).pending = s.pending ∧
    (s.finishRead n ok page).run = s.run ∧
    (s.finishRead n ok page).drawn = s.drawn ∧
    (s.finishRead n ok page).link.queue = s.link.queue ∧
    (s.finishRead n ok page).link.pipe = s.link.pipe ∧
    (s.finishRead n ok page).link.frame = s.link.frame ∧
    (s.finishRead n ok page).link.incoming = s.link.incoming ∧
    (s.finishRead n ok page).link.settings = s.link.settings ∧
    (s.finishRead n ok page).link.backup = s.link.backup ∧
    (s.finishRead n ok page).link.patronCtx = s.link.patronCtx ∧
    (s.finishRead n ok page).link.titleCtx = s.link.titleCtx ∧
    (s.finishRead n ok page).records.titles = s.records.titles ∧
    (s.finishRead n ok page).records.loans = s.records.loans ∧
    (s.finishRead n ok page).records.lost = s.records.lost ∧
    (s.finishRead n ok page).planner.lastPlan = s.planner.lastPlan ∧
    (s.finishRead n ok page).planner.pass = s.planner.pass ∧
    (s.finishRead n ok page).planner.rerun = s.planner.rerun ∧
    (s.finishRead n ok page).store.recency = s.store.recency ∧
    (s.finishRead n ok page).store.fetches = s.store.fetches ∧
    (s.finishRead n ok page).store.lastFetch = s.store.lastFetch ∧
    (s.finishRead n ok page).store.banks.length = s.store.banks.length ∧
    (s.finishRead n ok page).store.flash = s.store.flash ∧
    (s.finishRead n ok page).rack.length = s.rack.length ∧
    (s.finishRead n ok page).mail.lastItem = s.mail.lastItem ∧
    (s.finishRead n ok page).mail.openBatch = s.mail.openBatch ∧
    (s.finishRead n ok page).mail.lastBatch = s.mail.lastBatch ∧
    (s.finishRead n ok page).mail.manifests = s.mail.manifests ∧
    (s.finishRead n ok page).mail.alarms = s.mail.alarms ∧
    (s.finishRead n ok page).mail.heldClose = s.mail.heldClose ∧
    (s.finishRead n ok page).mail.waitingClose = s.mail.waitingClose ∧
    (s.finishRead n ok page).returns = s.returns ∧
    (s.finishRead n ok page).calendar = s.calendar := by
  refine ⟨?_, ?_, ?_, ?_, ?_, ?_, ?_, ?_, ?_, ?_, ?_, ?_, ?_, ?_, ?_, ?_, ?_, ?_, ?_, ?_, ?_, ?_, ?_, ?_, ?_, ?_, ?_, ?_, ?_, ?_, ?_, ?_⟩ <;>
  (simp only [State.finishRead]; (repeat' split) <;> simp)

@[simp] theorem State.beginDirectory_frame (s : State) (n : Nat) :
    (s.beginDirectory n).pending = s.pending ∧
    (s.beginDirectory n).run = s.run ∧
    (s.beginDirectory n).drawn = s.drawn ∧
    (s.beginDirectory n).link = s.link ∧
    (s.beginDirectory n).records = s.records ∧
    (s.beginDirectory n).planner = s.planner ∧
    (s.beginDirectory n).store = s.store ∧
    (s.beginDirectory n).rack.length = s.rack.length ∧
    (s.beginDirectory n).mail = s.mail ∧
    (s.beginDirectory n).returns = s.returns ∧
    (s.beginDirectory n).calendar = s.calendar := by
  refine ⟨?_, ?_, ?_, ?_, ?_, ?_, ?_, ?_, ?_, ?_, ?_⟩ <;>
  (simp only [State.beginDirectory]; (repeat' split) <;> simp)

@[simp] theorem State.reachDone_frame (s : State) (n : Nat) :
    (s.reachDone n).pending = s.pending ∧
    (s.reachDone n).run = s.run ∧
    (s.reachDone n).drawn = s.drawn ∧
    (s.reachDone n).link.queue = s.link.queue ∧
    (s.reachDone n).link.pipe = s.link.pipe ∧
    (s.reachDone n).link.frame = s.link.frame ∧
    (s.reachDone n).link.incoming = s.link.incoming ∧
    (s.reachDone n).link.settings = s.link.settings ∧
    (s.reachDone n).link.backup = s.link.backup ∧
    (s.reachDone n).link.patronCtx = s.link.patronCtx ∧
    (s.reachDone n).link.titleCtx = s.link.titleCtx ∧
    (s.reachDone n).records.titles = s.records.titles ∧
    (s.reachDone n).records.loans = s.records.loans ∧
    (s.reachDone n).records.lost = s.records.lost ∧
    (s.reachDone n).planner.queue = s.planner.queue ∧
    (s.reachDone n).planner.lastPlan = s.planner.lastPlan ∧
    (s.reachDone n).planner.pass = s.planner.pass ∧
    (s.reachDone n).planner.rerun = s.planner.rerun ∧
    (s.reachDone n).store.recency = s.store.recency ∧
    (s.reachDone n).store.fetches = s.store.fetches ∧
    (s.reachDone n).store.lastFetch = s.store.lastFetch ∧
    (s.reachDone n).store.banks = s.store.banks ∧
    (s.reachDone n).store.flash = s.store.flash ∧
    (s.reachDone n).rack.length = s.rack.length ∧
    (s.reachDone n).mail.close = s.mail.close ∧
    (s.reachDone n).mail.openBatch = s.mail.openBatch ∧
    (s.reachDone n).mail.lastBatch = s.mail.lastBatch ∧
    (s.reachDone n).mail.manifests = s.mail.manifests ∧
    (s.reachDone n).mail.alarms = s.mail.alarms ∧
    (s.reachDone n).mail.heldClose = s.mail.heldClose ∧
    (s.reachDone n).mail.waitingClose = s.mail.waitingClose ∧
    (s.reachDone n).returns = s.returns ∧
    (s.reachDone n).calendar = s.calendar := by
  refine ⟨?_, ?_, ?_, ?_, ?_, ?_, ?_, ?_, ?_, ?_, ?_, ?_, ?_, ?_, ?_, ?_, ?_, ?_, ?_, ?_, ?_, ?_, ?_, ?_, ?_, ?_, ?_, ?_, ?_, ?_, ?_, ?_, ?_⟩ <;>
  (simp only [State.reachDone]; (repeat' split) <;> simp)

@[simp] theorem State.takeSpare_frame (s : State) (n : Nat) (p : Placement) :
    (s.takeSpare n p).pending = s.pending ∧
    (s.takeSpare n p).run = s.run ∧
    (s.takeSpare n p).drawn = s.drawn ∧
    (s.takeSpare n p).link.queue = s.link.queue ∧
    (s.takeSpare n p).link.pipe = s.link.pipe ∧
    (s.takeSpare n p).link.frame = s.link.frame ∧
    (s.takeSpare n p).link.incoming = s.link.incoming ∧
    (s.takeSpare n p).link.settings = s.link.settings ∧
    (s.takeSpare n p).link.backup = s.link.backup ∧
    (s.takeSpare n p).link.patronCtx = s.link.patronCtx ∧
    (s.takeSpare n p).link.titleCtx = s.link.titleCtx ∧
    (s.takeSpare n p).records.titles = s.records.titles ∧
    (s.takeSpare n p).records.loans = s.records.loans ∧
    (s.takeSpare n p).records.lost = s.records.lost ∧
    (s.takeSpare n p).planner.lastPlan = s.planner.lastPlan ∧
    (s.takeSpare n p).planner.pass = s.planner.pass ∧
    (s.takeSpare n p).planner.rerun = s.planner.rerun ∧
    (s.takeSpare n p).store.recency = s.store.recency ∧
    (s.takeSpare n p).store.fetches = s.store.fetches ∧
    (s.takeSpare n p).store.lastFetch = s.store.lastFetch ∧
    (s.takeSpare n p).store.banks.length = s.store.banks.length ∧
    (s.takeSpare n p).store.flash = s.store.flash ∧
    (s.takeSpare n p).rack.length = s.rack.length ∧
    (s.takeSpare n p).mail.lastItem = s.mail.lastItem ∧
    (s.takeSpare n p).mail.openBatch = s.mail.openBatch ∧
    (s.takeSpare n p).mail.lastBatch = s.mail.lastBatch ∧
    (s.takeSpare n p).mail.manifests = s.mail.manifests ∧
    (s.takeSpare n p).mail.alarms = s.mail.alarms ∧
    (s.takeSpare n p).mail.heldClose = s.mail.heldClose ∧
    (s.takeSpare n p).mail.waitingClose = s.mail.waitingClose ∧
    (s.takeSpare n p).returns = s.returns ∧
    (s.takeSpare n p).calendar = s.calendar := by
  refine ⟨?_, ?_, ?_, ?_, ?_, ?_, ?_, ?_, ?_, ?_, ?_, ?_, ?_, ?_, ?_, ?_, ?_, ?_, ?_, ?_, ?_, ?_, ?_, ?_, ?_, ?_, ?_, ?_, ?_, ?_, ?_, ?_⟩ <;>
  (simp only [State.takeSpare]; (repeat' split) <;> simp)

@[simp] theorem State.blockVerified_frame (s : State) (n : Nat) (p : Placement) :
    (s.blockVerified n p).pending = s.pending ∧
    (s.blockVerified n p).run = s.run ∧
    (s.blockVerified n p).drawn = s.drawn ∧
    (s.blockVerified n p).link = s.link ∧
    (s.blockVerified n p).records = s.records ∧
    (s.blockVerified n p).planner = s.planner ∧
    (s.blockVerified n p).store.images = s.store.images ∧
    (s.blockVerified n p).store.fetches = s.store.fetches ∧
    (s.blockVerified n p).store.lastFetch = s.store.lastFetch ∧
    (s.blockVerified n p).store.banks.length = s.store.banks.length ∧
    (s.blockVerified n p).store.flash = s.store.flash ∧
    (s.blockVerified n p).rack.length = s.rack.length ∧
    (s.blockVerified n p).mail = s.mail ∧
    (s.blockVerified n p).returns = s.returns ∧
    (s.blockVerified n p).calendar = s.calendar := by
  refine ⟨?_, ?_, ?_, ?_, ?_, ?_, ?_, ?_, ?_, ?_, ?_, ?_, ?_, ?_, ?_⟩ <;>
  (simp only [State.blockVerified]; (repeat' split) <;> simp)

@[simp] theorem State.notify_frame (s : State) (t n : Nat) :
    (s.notify t n).pending = s.pending ∧
    (s.notify t n).run = s.run ∧
    (s.notify t n).drawn = s.drawn ∧
    (s.notify t n).link = s.link ∧
    (s.notify t n).records = s.records ∧
    (s.notify t n).planner = s.planner ∧
    (s.notify t n).store.images = s.store.images ∧
    (s.notify t n).store.recency = s.store.recency ∧
    (s.notify t n).store.fetches = s.store.fetches ∧
    (s.notify t n).store.lastFetch = s.store.lastFetch ∧
    (s.notify t n).store.banks.length = s.store.banks.length ∧
    (s.notify t n).store.flash = s.store.flash ∧
    (s.notify t n).rack.length = s.rack.length ∧
    (s.notify t n).mail = s.mail ∧
    (s.notify t n).returns = s.returns ∧
    (s.notify t n).calendar = s.calendar := by
  refine ⟨?_, ?_, ?_, ?_, ?_, ?_, ?_, ?_, ?_, ?_, ?_, ?_, ?_, ?_, ?_, ?_⟩ <;>
  (simp only [State.notify]; (repeat' split) <;> simp)

@[simp] theorem State.unbin_frame (s : State) (serial : Nat) :
    (s.unbin serial).pending = s.pending ∧
    (s.unbin serial).run = s.run ∧
    (s.unbin serial).drawn = s.drawn ∧
    (s.unbin serial).link = s.link ∧
    (s.unbin serial).records = s.records ∧
    (s.unbin serial).planner = s.planner ∧
    (s.unbin serial).store = s.store ∧
    (s.unbin serial).rack = s.rack ∧
    (s.unbin serial).mail = s.mail ∧
    (s.unbin serial).returns.present = s.returns.present ∧
    (s.unbin serial).returns.reader = s.returns.reader ∧
    (s.unbin serial).returns.identifying = s.returns.identifying ∧
    (s.unbin serial).returns.removed = s.returns.removed ∧
    (s.unbin serial).returns.pending = s.returns.pending ∧
    (s.unbin serial).returns.result = s.returns.result ∧
    (s.unbin serial).calendar = s.calendar := by
  simp [State.unbin]

@[simp] theorem State.unlose_frame (s : State) (serial : Nat) :
    (s.unlose serial).pending = s.pending ∧
    (s.unlose serial).run = s.run ∧
    (s.unlose serial).drawn = s.drawn ∧
    (s.unlose serial).link = s.link ∧
    (s.unlose serial).records.patrons = s.records.patrons ∧
    (s.unlose serial).records.titles = s.records.titles ∧
    (s.unlose serial).records.loans = s.records.loans ∧
    (s.unlose serial).planner = s.planner ∧
    (s.unlose serial).store = s.store ∧
    (s.unlose serial).rack = s.rack ∧
    (s.unlose serial).mail = s.mail ∧
    (s.unlose serial).returns = s.returns ∧
    (s.unlose serial).calendar = s.calendar := by
  simp [State.unlose]

@[simp] theorem State.identified_frame (s : State) (n : Nat) (c : Cartridge) :
    (s.identified n c).pending = s.pending ∧
    (s.identified n c).run = s.run ∧
    (s.identified n c).drawn = s.drawn ∧
    (s.identified n c).link.queue = s.link.queue ∧
    (s.identified n c).link.pipe = s.link.pipe ∧
    (s.identified n c).link.frame = s.link.frame ∧
    (s.identified n c).link.incoming = s.link.incoming ∧
    (s.identified n c).link.settings = s.link.settings ∧
    (s.identified n c).link.backup = s.link.backup ∧
    (s.identified n c).link.patronCtx = s.link.patronCtx ∧
    (s.identified n c).link.titleCtx = s.link.titleCtx ∧
    (s.identified n c).records.titles = s.records.titles ∧
    (s.identified n c).records.loans = s.records.loans ∧
    (s.identified n c).planner.lastPlan = s.planner.lastPlan ∧
    (s.identified n c).planner.pass = s.planner.pass ∧
    (s.identified n c).planner.rerun = s.planner.rerun ∧
    (s.identified n c).store.recency = s.store.recency ∧
    (s.identified n c).store.fetches = s.store.fetches ∧
    (s.identified n c).store.lastFetch = s.store.lastFetch ∧
    (s.identified n c).store.banks.length = s.store.banks.length ∧
    (s.identified n c).store.flash = s.store.flash ∧
    (s.identified n c).rack.length = s.rack.length ∧
    (s.identified n c).mail.lastItem = s.mail.lastItem ∧
    (s.identified n c).mail.openBatch = s.mail.openBatch ∧
    (s.identified n c).mail.lastBatch = s.mail.lastBatch ∧
    (s.identified n c).mail.manifests = s.mail.manifests ∧
    (s.identified n c).mail.alarms = s.mail.alarms ∧
    (s.identified n c).mail.heldClose = s.mail.heldClose ∧
    (s.identified n c).mail.waitingClose = s.mail.waitingClose ∧
    (s.identified n c).returns.present = s.returns.present ∧
    (s.identified n c).returns.reader = s.returns.reader ∧
    (s.identified n c).returns.identifying = s.returns.identifying ∧
    (s.identified n c).returns.removed = s.returns.removed ∧
    (s.identified n c).returns.pending = s.returns.pending ∧
    (s.identified n c).returns.result = s.returns.result ∧
    (s.identified n c).calendar = s.calendar := by
  refine ⟨?_, ?_, ?_, ?_, ?_, ?_, ?_, ?_, ?_, ?_, ?_, ?_, ?_, ?_, ?_, ?_, ?_, ?_, ?_, ?_, ?_, ?_, ?_, ?_, ?_, ?_, ?_, ?_, ?_, ?_, ?_, ?_, ?_, ?_, ?_, ?_⟩ <;>
  (simp only [State.identified]; (repeat' split) <;> simp)

@[simp] theorem State.removeCartridge_frame (s : State) (n : Nat) :
    (s.removeCartridge n).pending = s.pending ∧
    (s.removeCartridge n).run = s.run ∧
    (s.removeCartridge n).drawn = s.drawn ∧
    (s.removeCartridge n).link = s.link ∧
    (s.removeCartridge n).records = s.records ∧
    (s.removeCartridge n).planner.lastPlan = s.planner.lastPlan ∧
    (s.removeCartridge n).planner.pass = s.planner.pass ∧
    (s.removeCartridge n).planner.rerun = s.planner.rerun ∧
    (s.removeCartridge n).store.images = s.store.images ∧
    (s.removeCartridge n).store.recency = s.store.recency ∧
    (s.removeCartridge n).store.fetches = s.store.fetches ∧
    (s.removeCartridge n).store.lastFetch = s.store.lastFetch ∧
    (s.removeCartridge n).store.banks.length = s.store.banks.length ∧
    (s.removeCartridge n).store.flash = s.store.flash ∧
    (s.removeCartridge n).rack.length = s.rack.length ∧
    (s.removeCartridge n).mail = s.mail ∧
    (s.removeCartridge n).returns = s.returns ∧
    (s.removeCartridge n).calendar = s.calendar := by
  refine ⟨?_, ?_, ?_, ?_, ?_, ?_, ?_, ?_, ?_, ?_, ?_, ?_, ?_, ?_, ?_, ?_, ?_, ?_⟩ <;>
  (simp only [State.removeCartridge]; (repeat' split) <;> simp)

end Sys2Proof.Machine
end

