-- ==== Sys2Proof/Laws/FramesLinkPort.lean ====
section
/-!
SUPPORT. What each operation of Machine/LinkPort.lean leaves as it stands: one lemma per operation.
-/

namespace Sys2Proof.Machine

@[simp] theorem State.setFrame_frame (s : State) (frame : List Byte) :
    (s.setFrame frame).pending = s.pending ∧
    (s.setFrame frame).run = s.run ∧
    (s.setFrame frame).drawn = s.drawn ∧
    (s.setFrame frame).link.queue = s.link.queue ∧
    (s.setFrame frame).link.pipe = s.link.pipe ∧
    (s.setFrame frame).link.incoming = s.link.incoming ∧
    (s.setFrame frame).link.settings = s.link.settings ∧
    (s.setFrame frame).link.backup = s.link.backup ∧
    (s.setFrame frame).link.patronCtx = s.link.patronCtx ∧
    (s.setFrame frame).link.titleCtx = s.link.titleCtx ∧
    (s.setFrame frame).link.events.enables = s.link.events.enables ∧
    (s.setFrame frame).link.events.reading = s.link.events.reading ∧
    (s.setFrame frame).records = s.records ∧
    (s.setFrame frame).planner = s.planner ∧
    (s.setFrame frame).store = s.store ∧
    (s.setFrame frame).rack = s.rack ∧
    (s.setFrame frame).mail = s.mail ∧
    (s.setFrame frame).returns = s.returns ∧
    (s.setFrame frame).calendar = s.calendar := by
  simp [State.setFrame]

@[simp] theorem State.setIncoming_frame (s : State) (bytes : List Byte) :
    (s.setIncoming bytes).pending = s.pending ∧
    (s.setIncoming bytes).run = s.run ∧
    (s.setIncoming bytes).drawn = s.drawn ∧
    (s.setIncoming bytes).link.queue = s.link.queue ∧
    (s.setIncoming bytes).link.pipe = s.link.pipe ∧
    (s.setIncoming bytes).link.frame = s.link.frame ∧
    (s.setIncoming bytes).link.settings = s.link.settings ∧
    (s.setIncoming bytes).link.backup = s.link.backup ∧
    (s.setIncoming bytes).link.patronCtx = s.link.patronCtx ∧
    (s.setIncoming bytes).link.titleCtx = s.link.titleCtx ∧
    (s.setIncoming bytes).link.events.enables = s.link.events.enables ∧
    (s.setIncoming bytes).link.events.reading = s.link.events.reading ∧
    (s.setIncoming bytes).records = s.records ∧
    (s.setIncoming bytes).planner = s.planner ∧
    (s.setIncoming bytes).store = s.store ∧
    (s.setIncoming bytes).rack = s.rack ∧
    (s.setIncoming bytes).mail = s.mail ∧
    (s.setIncoming bytes).returns = s.returns ∧
    (s.setIncoming bytes).calendar = s.calendar := by
  simp [State.setIncoming]

@[simp] theorem State.receiveByte_frame (s : State) (b : Byte) :
    (s.receiveByte b).pending = s.pending ∧
    (s.receiveByte b).run = s.run ∧
    (s.receiveByte b).drawn = s.drawn ∧
    (s.receiveByte b).link.pipe = s.link.pipe ∧
    (s.receiveByte b).link.incoming = s.link.incoming ∧
    (s.receiveByte b).link.settings = s.link.settings ∧
    (s.receiveByte b).link.backup = s.link.backup ∧
    (s.receiveByte b).link.patronCtx = s.link.patronCtx ∧
    (s.receiveByte b).link.titleCtx = s.link.titleCtx ∧
    (s.receiveByte b).records = s.records ∧
    (s.receiveByte b).planner = s.planner ∧
    (s.receiveByte b).store = s.store ∧
    (s.receiveByte b).rack = s.rack ∧
    (s.receiveByte b).mail = s.mail ∧
    (s.receiveByte b).returns = s.returns ∧
    (s.receiveByte b).calendar = s.calendar := by
  refine ⟨?_, ?_, ?_, ?_, ?_, ?_, ?_, ?_, ?_, ?_, ?_, ?_, ?_, ?_, ?_, ?_⟩ <;>
  (simp only [State.receiveByte]; (repeat' split) <;> simp)

@[simp] theorem State.receive_frame (s : State) (bytes : List Byte) :
    (s.receive bytes).pending = s.pending ∧
    (s.receive bytes).run = s.run ∧
    (s.receive bytes).drawn = s.drawn ∧
    (s.receive bytes).link.pipe = s.link.pipe ∧
    (s.receive bytes).link.settings = s.link.settings ∧
    (s.receive bytes).link.backup = s.link.backup ∧
    (s.receive bytes).link.patronCtx = s.link.patronCtx ∧
    (s.receive bytes).link.titleCtx = s.link.titleCtx ∧
    (s.receive bytes).records = s.records ∧
    (s.receive bytes).planner = s.planner ∧
    (s.receive bytes).store = s.store ∧
    (s.receive bytes).rack = s.rack ∧
    (s.receive bytes).mail = s.mail ∧
    (s.receive bytes).returns = s.returns ∧
    (s.receive bytes).calendar = s.calendar := by
  refine ⟨?_, ?_, ?_, ?_, ?_, ?_, ?_, ?_, ?_, ?_, ?_, ?_, ?_, ?_, ?_⟩
  all_goals
  induction bytes generalizing s with
    | nil => simp [State.receive]
    | cons b r ih =>
      simp only [State.receive]
      repeat' split
      all_goals simp [ih]

@[simp] theorem State.discardFrame_frame (s : State) :
    s.discardFrame.pending = s.pending ∧
    s.discardFrame.run = s.run ∧
    s.discardFrame.drawn = s.drawn ∧
    s.discardFrame.link.pipe = s.link.pipe ∧
    s.discardFrame.link.settings = s.link.settings ∧
    s.discardFrame.link.backup = s.link.backup ∧
    s.discardFrame.link.patronCtx = s.link.patronCtx ∧
    s.discardFrame.link.titleCtx = s.link.titleCtx ∧
    s.discardFrame.records = s.records ∧
    s.discardFrame.planner = s.planner ∧
    s.discardFrame.store = s.store ∧
    s.discardFrame.rack = s.rack ∧
    s.discardFrame.mail = s.mail ∧
    s.discardFrame.returns = s.returns ∧
    s.discardFrame.calendar = s.calendar := by
  simp [State.discardFrame]

@[simp] theorem State.placeReply_frame (s : State) :
    s.placeReply.pending = s.pending ∧
    s.placeReply.run = s.run ∧
    s.placeReply.drawn = s.drawn ∧
    s.placeReply.link.frame = s.link.frame ∧
    s.placeReply.link.incoming = s.link.incoming ∧
    s.placeReply.link.settings = s.link.settings ∧
    s.placeReply.link.backup = s.link.backup ∧
    s.placeReply.link.patronCtx = s.link.patronCtx ∧
    s.placeReply.link.titleCtx = s.link.titleCtx ∧
    s.placeReply.link.events.enables = s.link.events.enables ∧
    s.placeReply.link.events.reading = s.link.events.reading ∧
    s.placeReply.records = s.records ∧
    s.placeReply.planner = s.planner ∧
    s.placeReply.store = s.store ∧
    s.placeReply.rack = s.rack ∧
    s.placeReply.mail = s.mail ∧
    s.placeReply.returns = s.returns ∧
    s.placeReply.calendar = s.calendar := by
  refine ⟨?_, ?_, ?_, ?_, ?_, ?_, ?_, ?_, ?_, ?_, ?_, ?_, ?_, ?_, ?_, ?_, ?_, ?_⟩ <;>
  (simp only [State.placeReply]; (repeat' split) <;> simp)

@[simp] theorem answerUnknown_frame (code : Nat) (body : List Byte) (s : State) :
    (answerUnknown code body s).2.pending = s.pending ∧
    (answerUnknown code body s).2.run = s.run ∧
    (answerUnknown code body s).2.drawn = s.drawn ∧
    (answerUnknown code body s).2.link = s.link ∧
    (answerUnknown code body s).2.records = s.records ∧
    (answerUnknown code body s).2.planner = s.planner ∧
    (answerUnknown code body s).2.store = s.store ∧
    (answerUnknown code body s).2.rack = s.rack ∧
    (answerUnknown code body s).2.mail = s.mail ∧
    (answerUnknown code body s).2.returns = s.returns ∧
    (answerUnknown code body s).2.calendar = s.calendar := by
  refine ⟨?_, ?_, ?_, ?_, ?_, ?_, ?_, ?_, ?_, ?_, ?_⟩ <;>
  (simp only [answerUnknown]; (repeat' split) <;> simp)

@[simp] theorem answerStatus_frame (s : State) :
    (answerStatus s).2.pending = s.pending ∧
    (answerStatus s).2.run = s.run ∧
    (answerStatus s).2.drawn = s.drawn ∧
    (answerStatus s).2.link.queue = s.link.queue ∧
    (answerStatus s).2.link.pipe = s.link.pipe ∧
    (answerStatus s).2.link.frame = s.link.frame ∧
    (answerStatus s).2.link.incoming = s.link.incoming ∧
    (answerStatus s).2.link.settings = s.link.settings ∧
    (answerStatus s).2.link.patronCtx = s.link.patronCtx ∧
    (answerStatus s).2.link.titleCtx = s.link.titleCtx ∧
    (answerStatus s).2.link.events.enables = s.link.events.enables ∧
    (answerStatus s).2.link.events.reading = s.link.events.reading ∧
    (answerStatus s).2.records = s.records ∧
    (answerStatus s).2.planner = s.planner ∧
    (answerStatus s).2.store = s.store ∧
    (answerStatus s).2.rack = s.rack ∧
    (answerStatus s).2.mail = s.mail ∧
    (answerStatus s).2.returns = s.returns ∧
    (answerStatus s).2.calendar = s.calendar := by
  simp [answerStatus]

@[simp] theorem State.replyEvents_frame (s : State) :
    s.replyEvents.pending = s.pending ∧
    s.replyEvents.run = s.run ∧
    s.replyEvents.drawn = s.drawn ∧
    s.replyEvents.link.pipe = s.link.pipe ∧
    s.replyEvents.link.frame = s.link.frame ∧
    s.replyEvents.link.incoming = s.link.incoming ∧
    s.replyEvents.link.settings = s.link.settings ∧
    s.replyEvents.link.backup = s.link.backup ∧
    s.replyEvents.link.patronCtx = s.link.patronCtx ∧
    s.replyEvents.link.titleCtx = s.link.titleCtx ∧
    s.replyEvents.link.events.enables = s.link.events.enables ∧
    s.replyEvents.records = s.records ∧
    s.replyEvents.planner = s.planner ∧
    s.replyEvents.store = s.store ∧
    s.replyEvents.rack = s.rack ∧
    s.replyEvents.mail = s.mail ∧
    s.replyEvents.returns = s.returns ∧
    s.replyEvents.calendar = s.calendar := by
  refine ⟨?_, ?_, ?_, ?_, ?_, ?_, ?_, ?_, ?_, ?_, ?_, ?_, ?_, ?_, ?_, ?_, ?_, ?_⟩ <;>
  (unfold State.replyEvents; (repeat' split) <;> rfl)

@[simp] theorem answerEventsEnable_frame (enables : Nat) (s : State) :
    (answerEventsEnable enables s).2.pending = s.pending ∧
    (answerEventsEnable enables s).2.run = s.run ∧
    (answerEventsEnable enables s).2.drawn = s.drawn ∧
    (answerEventsEnable enables s).2.link.queue = s.link.queue ∧
    (answerEventsEnable enables s).2.link.pipe = s.link.pipe ∧
    (answerEventsEnable enables s).2.link.frame = s.link.frame ∧
    (answerEventsEnable enables s).2.link.incoming = s.link.incoming ∧
    (answerEventsEnable enables s).2.link.settings = s.link.settings ∧
    (answerEventsEnable enables s).2.link.backup = s.link.backup ∧
    (answerEventsEnable enables s).2.link.patronCtx = s.link.patronCtx ∧
    (answerEventsEnable enables s).2.link.titleCtx = s.link.titleCtx ∧
    (answerEventsEnable enables s).2.link.events.reading = s.link.events.reading ∧
    (answerEventsEnable enables s).2.records = s.records ∧
    (answerEventsEnable enables s).2.planner = s.planner ∧
    (answerEventsEnable enables s).2.store = s.store ∧
    (answerEventsEnable enables s).2.rack = s.rack ∧
    (answerEventsEnable enables s).2.mail = s.mail ∧
    (answerEventsEnable enables s).2.returns = s.returns ∧
    (answerEventsEnable enables s).2.calendar = s.calendar := by
  refine ⟨?_, ?_, ?_, ?_, ?_, ?_, ?_, ?_, ?_, ?_, ?_, ?_, ?_, ?_, ?_, ?_, ?_, ?_, ?_⟩ <;>
  (unfold answerEventsEnable; rfl)

@[simp] theorem answerContextSet_frame (patron title : Nat) (s : State) :
    (answerContextSet patron title s).2.pending = s.pending ∧
    (answerContextSet patron title s).2.run = s.run ∧
    (answerContextSet patron title s).2.drawn = s.drawn ∧
    (answerContextSet patron title s).2.link.queue = s.link.queue ∧
    (answerContextSet patron title s).2.link.pipe = s.link.pipe ∧
    (answerContextSet patron title s).2.link.frame = s.link.frame ∧
    (answerContextSet patron title s).2.link.incoming = s.link.incoming ∧
    (answerContextSet patron title s).2.link.settings = s.link.settings ∧
    (answerContextSet patron title s).2.link.backup = s.link.backup ∧
    (answerContextSet patron title s).2.link.events.enables = s.link.events.enables ∧
    (answerContextSet patron title s).2.link.events.reading = s.link.events.reading ∧
    (answerContextSet patron title s).2.records = s.records ∧
    (answerContextSet patron title s).2.planner = s.planner ∧
    (answerContextSet patron title s).2.store = s.store ∧
    (answerContextSet patron title s).2.rack = s.rack ∧
    (answerContextSet patron title s).2.mail = s.mail ∧
    (answerContextSet patron title s).2.returns = s.returns ∧
    (answerContextSet patron title s).2.calendar = s.calendar := by
  refine ⟨?_, ?_, ?_, ?_, ?_, ?_, ?_, ?_, ?_, ?_, ?_, ?_, ?_, ?_, ?_, ?_, ?_, ?_⟩ <;>
  (simp only [answerContextSet]; (repeat' split) <;> simp)

@[simp] theorem answerSettingsPut_frame (x : Settings) (s : State) :
    (answerSettingsPut x s).2.pending = s.pending ∧
    (answerSettingsPut x s).2.run = s.run ∧
    (answerSettingsPut x s).2.drawn = s.drawn ∧
    (answerSettingsPut x s).2.link.queue = s.link.queue ∧
    (answerSettingsPut x s).2.link.pipe = s.link.pipe ∧
    (answerSettingsPut x s).2.link.frame = s.link.frame ∧
    (answerSettingsPut x s).2.link.incoming = s.link.incoming ∧
    (answerSettingsPut x s).2.link.backup = s.link.backup ∧
    (answerSettingsPut x s).2.link.patronCtx = s.link.patronCtx ∧
    (answerSettingsPut x s).2.link.titleCtx = s.link.titleCtx ∧
    (answerSettingsPut x s).2.link.events.enables = s.link.events.enables ∧
    (answerSettingsPut x s).2.link.events.reading = s.link.events.reading ∧
    (answerSettingsPut x s).2.records = s.records ∧
    (answerSettingsPut x s).2.planner = s.planner ∧
    (answerSettingsPut x s).2.store = s.store ∧
    (answerSettingsPut x s).2.rack = s.rack ∧
    (answerSettingsPut x s).2.mail = s.mail ∧
    (answerSettingsPut x s).2.returns = s.returns ∧
    (answerSettingsPut x s).2.calendar = s.calendar := by
  simp [answerSettingsPut]

end Sys2Proof.Machine
end

