-- ==== Sys2Proof/Laws/FramesRecordStore.lean ====
section
/-!
SUPPORT. What each operation of Machine/RecordStore.lean leaves as it stands: one lemma per operation.
-/

namespace Sys2Proof.Machine

@[simp] theorem answerPatronCreate_frame (number media playerClass cartLimit setLimit key : Nat) (s : State) :
    (answerPatronCreate number media playerClass cartLimit setLimit key s).2.pending = s.pending ∧
    (answerPatronCreate number media playerClass cartLimit setLimit key s).2.run = s.run ∧
    (answerPatronCreate number media playerClass cartLimit setLimit key s).2.drawn = s.drawn ∧
    (answerPatronCreate number media playerClass cartLimit setLimit key s).2.link.queue = s.link.queue ∧
    (answerPatronCreate number media playerClass cartLimit setLimit key s).2.link.pipe = s.link.pipe ∧
    (answerPatronCreate number media playerClass cartLimit setLimit key s).2.link.frame = s.link.frame ∧
    (answerPatronCreate number media playerClass cartLimit setLimit key s).2.link.incoming = s.link.incoming ∧
    (answerPatronCreate number media playerClass cartLimit setLimit key s).2.link.settings = s.link.settings ∧
    (answerPatronCreate number media playerClass cartLimit setLimit key s).2.link.backup = s.link.backup ∧
    (answerPatronCreate number media playerClass cartLimit setLimit key s).2.link.titleCtx = s.link.titleCtx ∧
    (answerPatronCreate number media playerClass cartLimit setLimit key s).2.link.events.enables = s.link.events.enables ∧
    (answerPatronCreate number media playerClass cartLimit setLimit key s).2.link.events.reading = s.link.events.reading ∧
    (answerPatronCreate number media playerClass cartLimit setLimit key s).2.records.titles = s.records.titles ∧
    (answerPatronCreate number media playerClass cartLimit setLimit key s).2.records.loans = s.records.loans ∧
    (answerPatronCreate number media playerClass cartLimit setLimit key s).2.records.lost = s.records.lost ∧
    (answerPatronCreate number media playerClass cartLimit setLimit key s).2.planner.plans = s.planner.plans ∧
    (answerPatronCreate number media playerClass cartLimit setLimit key s).2.planner.queue = s.planner.queue ∧
    (answerPatronCreate number media playerClass cartLimit setLimit key s).2.planner.lastPlan = s.planner.lastPlan ∧
    (answerPatronCreate number media playerClass cartLimit setLimit key s).2.planner.pass = s.planner.pass ∧
    (answerPatronCreate number media playerClass cartLimit setLimit key s).2.planner.rerun = s.planner.rerun ∧
    (answerPatronCreate number media playerClass cartLimit setLimit key s).2.store = s.store ∧
    (answerPatronCreate number media playerClass cartLimit setLimit key s).2.rack = s.rack ∧
    (answerPatronCreate number media playerClass cartLimit setLimit key s).2.mail = s.mail ∧
    (answerPatronCreate number media playerClass cartLimit setLimit key s).2.returns = s.returns ∧
    (answerPatronCreate number media playerClass cartLimit setLimit key s).2.calendar = s.calendar := by
  refine ⟨?_, ?_, ?_, ?_, ?_, ?_, ?_, ?_, ?_, ?_, ?_, ?_, ?_, ?_, ?_, ?_, ?_, ?_, ?_, ?_, ?_, ?_, ?_, ?_, ?_⟩ <;>
  (simp only [answerPatronCreate]; (repeat' split) <;> simp)

@[simp] theorem State.afterPatronUpdate_frame (s : State) (k : Nat) (old new : Patron) :
    (s.afterPatronUpdate k old new).pending = s.pending ∧
    (s.afterPatronUpdate k old new).run = s.run ∧
    (s.afterPatronUpdate k old new).drawn = s.drawn ∧
    (s.afterPatronUpdate k old new).link.queue = s.link.queue ∧
    (s.afterPatronUpdate k old new).link.pipe = s.link.pipe ∧
    (s.afterPatronUpdate k old new).link.frame = s.link.frame ∧
    (s.afterPatronUpdate k old new).link.incoming = s.link.incoming ∧
    (s.afterPatronUpdate k old new).link.settings = s.link.settings ∧
    (s.afterPatronUpdate k old new).link.backup = s.link.backup ∧
    (s.afterPatronUpdate k old new).link.patronCtx = s.link.patronCtx ∧
    (s.afterPatronUpdate k old new).link.titleCtx = s.link.titleCtx ∧
    (s.afterPatronUpdate k old new).records.loans = s.records.loans ∧
    (s.afterPatronUpdate k old new).records.lost = s.records.lost ∧
    (s.afterPatronUpdate k old new).planner.plans = s.planner.plans ∧
    (s.afterPatronUpdate k old new).planner.queue = s.planner.queue ∧
    (s.afterPatronUpdate k old new).planner.lastPlan = s.planner.lastPlan ∧
    (s.afterPatronUpdate k old new).planner.pass = s.planner.pass ∧
    (s.afterPatronUpdate k old new).planner.rerun = s.planner.rerun ∧
    (s.afterPatronUpdate k old new).store = s.store ∧
    (s.afterPatronUpdate k old new).rack = s.rack ∧
    (s.afterPatronUpdate k old new).mail.close = s.mail.close ∧
    (s.afterPatronUpdate k old new).mail.openBatch = s.mail.openBatch ∧
    (s.afterPatronUpdate k old new).mail.lastBatch = s.mail.lastBatch ∧
    (s.afterPatronUpdate k old new).mail.manifests = s.mail.manifests ∧
    (s.afterPatronUpdate k old new).mail.alarms = s.mail.alarms ∧
    (s.afterPatronUpdate k old new).mail.heldClose = s.mail.heldClose ∧
    (s.afterPatronUpdate k old new).mail.waitingClose = s.mail.waitingClose ∧
    (s.afterPatronUpdate k old new).returns = s.returns ∧
    (s.afterPatronUpdate k old new).calendar = s.calendar := by
  refine ⟨?_, ?_, ?_, ?_, ?_, ?_, ?_, ?_, ?_, ?_, ?_, ?_, ?_, ?_, ?_, ?_, ?_, ?_, ?_, ?_, ?_, ?_, ?_, ?_, ?_, ?_, ?_, ?_, ?_⟩ <;>
  (simp only [State.afterPatronUpdate]; (repeat' split) <;> simp)

@[simp] theorem answerPatronUpdate_frame (patron number media playerClass cartLimit setLimit key : Nat) (s : State) :
    (answerPatronUpdate patron number media playerClass cartLimit setLimit key s).2.pending = s.pending ∧
    (answerPatronUpdate patron number media playerClass cartLimit setLimit key s).2.run = s.run ∧
    (answerPatronUpdate patron number media playerClass cartLimit setLimit key s).2.drawn = s.drawn ∧
    (answerPatronUpdate patron number media playerClass cartLimit setLimit key s).2.link.queue = s.link.queue ∧
    (answerPatronUpdate patron number media playerClass cartLimit setLimit key s).2.link.pipe = s.link.pipe ∧
    (answerPatronUpdate patron number media playerClass cartLimit setLimit key s).2.link.frame = s.link.frame ∧
    (answerPatronUpdate patron number media playerClass cartLimit setLimit key s).2.link.incoming = s.link.incoming ∧
    (answerPatronUpdate patron number media playerClass cartLimit setLimit key s).2.link.settings = s.link.settings ∧
    (answerPatronUpdate patron number media playerClass cartLimit setLimit key s).2.link.backup = s.link.backup ∧
    (answerPatronUpdate patron number media playerClass cartLimit setLimit key s).2.link.titleCtx = s.link.titleCtx ∧
    (answerPatronUpdate patron number media playerClass cartLimit setLimit key s).2.records.loans = s.records.loans ∧
    (answerPatronUpdate patron number media playerClass cartLimit setLimit key s).2.records.lost = s.records.lost ∧
    (answerPatronUpdate patron number media playerClass cartLimit setLimit key s).2.planner.plans = s.planner.plans ∧
    (answerPatronUpdate patron number media playerClass cartLimit setLimit key s).2.planner.queue = s.planner.queue ∧
    (answerPatronUpdate patron number media playerClass cartLimit setLimit key s).2.planner.lastPlan = s.planner.lastPlan ∧
    (answerPatronUpdate patron number media playerClass cartLimit setLimit key s).2.planner.pass = s.planner.pass ∧
    (answerPatronUpdate patron number media playerClass cartLimit setLimit key s).2.planner.rerun = s.planner.rerun ∧
    (answerPatronUpdate patron number media playerClass cartLimit setLimit key s).2.store = s.store ∧
    (answerPatronUpdate patron number media playerClass cartLimit setLimit key s).2.rack = s.rack ∧
    (answerPatronUpdate patron number media playerClass cartLimit setLimit key s).2.mail.close = s.mail.close ∧
    (answerPatronUpdate patron number media playerClass cartLimit setLimit key s).2.mail.openBatch = s.mail.openBatch ∧
    (answerPatronUpdate patron number media playerClass cartLimit setLimit key s).2.mail.lastBatch = s.mail.lastBatch ∧
    (answerPatronUpdate patron number media playerClass cartLimit setLimit key s).2.mail.manifests = s.mail.manifests ∧
    (answerPatronUpdate patron number media playerClass cartLimit setLimit key s).2.mail.alarms = s.mail.alarms ∧
    (answerPatronUpdate patron number media playerClass cartLimit setLimit key s).2.mail.heldClose = s.mail.heldClose ∧
    (answerPatronUpdate patron number media playerClass cartLimit setLimit key s).2.mail.waitingClose = s.mail.waitingClose ∧
    (answerPatronUpdate patron number media playerClass cartLimit setLimit key s).2.returns = s.returns ∧
    (answerPatronUpdate patron number media playerClass cartLimit setLimit key s).2.calendar = s.calendar := by
  refine ⟨?_, ?_, ?_, ?_, ?_, ?_, ?_, ?_, ?_, ?_, ?_, ?_, ?_, ?_, ?_, ?_, ?_, ?_, ?_, ?_, ?_, ?_, ?_, ?_, ?_, ?_, ?_, ?_⟩ <;>
  (simp only [answerPatronUpdate]; (repeat' split) <;> simp)

@[simp] theorem answerPatronGet_frame (patron : Nat) (s : State) :
    (answerPatronGet patron s).2.pending = s.pending ∧
    (answerPatronGet patron s).2.run = s.run ∧
    (answerPatronGet patron s).2.drawn = s.drawn ∧
    (answerPatronGet patron s).2.link.queue = s.link.queue ∧
    (answerPatronGet patron s).2.link.pipe = s.link.pipe ∧
    (answerPatronGet patron s).2.link.frame = s.link.frame ∧
    (answerPatronGet patron s).2.link.incoming = s.link.incoming ∧
    (answerPatronGet patron s).2.link.settings = s.link.settings ∧
    (answerPatronGet patron s).2.link.backup = s.link.backup ∧
    (answerPatronGet patron s).2.link.titleCtx = s.link.titleCtx ∧
    (answerPatronGet patron s).2.link.events.enables = s.link.events.enables ∧
    (answerPatronGet patron s).2.link.events.reading = s.link.events.reading ∧
    (answerPatronGet patron s).2.records = s.records ∧
    (answerPatronGet patron s).2.planner = s.planner ∧
    (answerPatronGet patron s).2.store = s.store ∧
    (answerPatronGet patron s).2.rack = s.rack ∧
    (answerPatronGet patron s).2.mail = s.mail ∧
    (answerPatronGet patron s).2.returns = s.returns ∧
    (answerPatronGet patron s).2.calendar = s.calendar := by
  refine ⟨?_, ?_, ?_, ?_, ?_, ?_, ?_, ?_, ?_, ?_, ?_, ?_, ?_, ?_, ?_, ?_, ?_, ?_, ?_⟩ <;>
  (simp only [answerPatronGet]; (repeat' split) <;> simp)

@[simp] theorem State.pausePatron_frame (s : State) (k : Nat) (r : Patron) (until? : Option Nat) :
    (s.pausePatron k r until?).pending = s.pending ∧
    (s.pausePatron k r until?).run = s.run ∧
    (s.pausePatron k r until?).drawn = s.drawn ∧
    (s.pausePatron k r until?).link.queue = s.link.queue ∧
    (s.pausePatron k r until?).link.pipe = s.link.pipe ∧
    (s.pausePatron k r until?).link.frame = s.link.frame ∧
    (s.pausePatron k r until?).link.incoming = s.link.incoming ∧
    (s.pausePatron k r until?).link.settings = s.link.settings ∧
    (s.pausePatron k r until?).link.backup = s.link.backup ∧
    (s.pausePatron k r until?).link.patronCtx = s.link.patronCtx ∧
    (s.pausePatron k r until?).link.titleCtx = s.link.titleCtx ∧
    (s.pausePatron k r until?).records.loans = s.records.loans ∧
    (s.pausePatron k r until?).records.lost = s.records.lost ∧
    (s.pausePatron k r until?).planner.plans = s.planner.plans ∧
    (s.pausePatron k r until?).planner.queue = s.planner.queue ∧
    (s.pausePatron k r until?).planner.lastPlan = s.planner.lastPlan ∧
    (s.pausePatron k r until?).planner.pass = s.planner.pass ∧
    (s.pausePatron k r until?).planner.rerun = s.planner.rerun ∧
    (s.pausePatron k r until?).store = s.store ∧
    (s.pausePatron k r until?).rack = s.rack ∧
    (s.pausePatron k r until?).mail.close = s.mail.close ∧
    (s.pausePatron k r until?).mail.openBatch = s.mail.openBatch ∧
    (s.pausePatron k r until?).mail.lastBatch = s.mail.lastBatch ∧
    (s.pausePatron k r until?).mail.manifests = s.mail.manifests ∧
    (s.pausePatron k r until?).mail.alarms = s.mail.alarms ∧
    (s.pausePatron k r until?).mail.heldClose = s.mail.heldClose ∧
    (s.pausePatron k r until?).mail.waitingClose = s.mail.waitingClose ∧
    (s.pausePatron k r until?).returns = s.returns ∧
    (s.pausePatron k r until?).calendar = s.calendar := by
  refine ⟨?_, ?_, ?_, ?_, ?_, ?_, ?_, ?_, ?_, ?_, ?_, ?_, ?_, ?_, ?_, ?_, ?_, ?_, ?_, ?_, ?_, ?_, ?_, ?_, ?_, ?_, ?_, ?_, ?_⟩ <;>
  (simp only [State.pausePatron]; (repeat' split) <;> simp)

@[simp] theorem answerPatronPause_frame (patron year month day : Nat) (s : State) :
    (answerPatronPause patron year month day s).2.pending = s.pending ∧
    (answerPatronPause patron year month day s).2.run = s.run ∧
    (answerPatronPause patron year month day s).2.drawn = s.drawn ∧
    (answerPatronPause patron year month day s).2.link.queue = s.link.queue ∧
    (answerPatronPause patron year month day s).2.link.pipe = s.link.pipe ∧
    (answerPatronPause patron year month day s).2.link.frame = s.link.frame ∧
    (answerPatronPause patron year month day s).2.link.incoming = s.link.incoming ∧
    (answerPatronPause patron year month day s).2.link.settings = s.link.settings ∧
    (answerPatronPause patron year month day s).2.link.backup = s.link.backup ∧
    (answerPatronPause patron year month day s).2.link.titleCtx = s.link.titleCtx ∧
    (answerPatronPause patron year month day s).2.records.loans = s.records.loans ∧
    (answerPatronPause patron year month day s).2.records.lost = s.records.lost ∧
    (answerPatronPause patron year month day s).2.planner.plans = s.planner.plans ∧
    (answerPatronPause patron year month day s).2.planner.queue = s.planner.queue ∧
    (answerPatronPause patron year month day s).2.planner.lastPlan = s.planner.lastPlan ∧
    (answerPatronPause patron year month day s).2.planner.pass = s.planner.pass ∧
    (answerPatronPause patron year month day s).2.planner.rerun = s.planner.rerun ∧
    (answerPatronPause patron year month day s).2.store = s.store ∧
    (answerPatronPause patron year month day s).2.rack = s.rack ∧
    (answerPatronPause patron year month day s).2.mail.close = s.mail.close ∧
    (answerPatronPause patron year month day s).2.mail.openBatch = s.mail.openBatch ∧
    (answerPatronPause patron year month day s).2.mail.lastBatch = s.mail.lastBatch ∧
    (answerPatronPause patron year month day s).2.mail.manifests = s.mail.manifests ∧
    (answerPatronPause patron year month day s).2.mail.alarms = s.mail.alarms ∧
    (answerPatronPause patron year month day s).2.mail.heldClose = s.mail.heldClose ∧
    (answerPatronPause patron year month day s).2.mail.waitingClose = s.mail.waitingClose ∧
    (answerPatronPause patron year month day s).2.returns = s.returns ∧
    (answerPatronPause patron year month day s).2.calendar = s.calendar := by
  refine ⟨?_, ?_, ?_, ?_, ?_, ?_, ?_, ?_, ?_, ?_, ?_, ?_, ?_, ?_, ?_, ?_, ?_, ?_, ?_, ?_, ?_, ?_, ?_, ?_, ?_, ?_, ?_, ?_⟩ <;>
  (simp only [answerPatronPause]; (repeat' split) <;> simp)

@[simp] theorem State.closePatron_frame (s : State) (k : Nat) :
    (s.closePatron k).pending = s.pending ∧
    (s.closePatron k).run = s.run ∧
    (s.closePatron k).drawn = s.drawn ∧
    (s.closePatron k).link = s.link ∧
    (s.closePatron k).records.loans = s.records.loans ∧
    (s.closePatron k).records.lost = s.records.lost ∧
    (s.closePatron k).planner.lastPlan = s.planner.lastPlan ∧
    (s.closePatron k).planner.pass = s.planner.pass ∧
    (s.closePatron k).planner.rerun = s.planner.rerun ∧
    (s.closePatron k).store.recency = s.store.recency ∧
    (s.closePatron k).store.fetches = s.store.fetches ∧
    (s.closePatron k).store.lastFetch = s.store.lastFetch ∧
    (s.closePatron k).store.banks.length = s.store.banks.length ∧
    (s.closePatron k).store.flash = s.store.flash ∧
    (s.closePatron k).rack.length = s.rack.length ∧
    (s.closePatron k).mail.lastItem = s.mail.lastItem ∧
    (s.closePatron k).mail.openBatch = s.mail.openBatch ∧
    (s.closePatron k).mail.lastBatch = s.mail.lastBatch ∧
    (s.closePatron k).mail.manifests = s.mail.manifests ∧
    (s.closePatron k).mail.alarms = s.mail.alarms ∧
    (s.closePatron k).mail.heldClose = s.mail.heldClose ∧
    (s.closePatron k).mail.waitingClose = s.mail.waitingClose ∧
    (s.closePatron k).returns = s.returns ∧
    (s.closePatron k).calendar = s.calendar := by
  simp [State.closePatron]

@[simp] theorem State.sweepAfterClose_frame (s : State) (returned : List Nat) :
    (s.sweepAfterClose returned).pending = s.pending ∧
    (s.sweepAfterClose returned).run = s.run ∧
    (s.sweepAfterClose returned).drawn = s.drawn ∧
    (s.sweepAfterClose returned).link.queue = s.link.queue ∧
    (s.sweepAfterClose returned).link.pipe = s.link.pipe ∧
    (s.sweepAfterClose returned).link.frame = s.link.frame ∧
    (s.sweepAfterClose returned).link.incoming = s.link.incoming ∧
    (s.sweepAfterClose returned).link.settings = s.link.settings ∧
    (s.sweepAfterClose returned).link.backup = s.link.backup ∧
    (s.sweepAfterClose returned).link.patronCtx = s.link.patronCtx ∧
    (s.sweepAfterClose returned).link.titleCtx = s.link.titleCtx ∧
    (s.sweepAfterClose returned).records.loans = s.records.loans ∧
    (s.sweepAfterClose returned).records.lost = s.records.lost ∧
    (s.sweepAfterClose returned).planner.plans = s.planner.plans ∧
    (s.sweepAfterClose returned).planner.queue = s.planner.queue ∧
    (s.sweepAfterClose returned).planner.lastPlan = s.planner.lastPlan ∧
    (s.sweepAfterClose returned).planner.pass = s.planner.pass ∧
    (s.sweepAfterClose returned).planner.rerun = s.planner.rerun ∧
    (s.sweepAfterClose returned).store = s.store ∧
    (s.sweepAfterClose returned).rack = s.rack ∧
    (s.sweepAfterClose returned).mail.close = s.mail.close ∧
    (s.sweepAfterClose returned).mail.openBatch = s.mail.openBatch ∧
    (s.sweepAfterClose returned).mail.lastBatch = s.mail.lastBatch ∧
    (s.sweepAfterClose returned).mail.manifests = s.mail.manifests ∧
    (s.sweepAfterClose returned).mail.alarms = s.mail.alarms ∧
    (s.sweepAfterClose returned).mail.heldClose = s.mail.heldClose ∧
    (s.sweepAfterClose returned).mail.waitingClose = s.mail.waitingClose ∧
    (s.sweepAfterClose returned).returns = s.returns ∧
    (s.sweepAfterClose returned).calendar = s.calendar := by
  refine ⟨?_, ?_, ?_, ?_, ?_, ?_, ?_, ?_, ?_, ?_, ?_, ?_, ?_, ?_, ?_, ?_, ?_, ?_, ?_, ?_, ?_, ?_, ?_, ?_, ?_, ?_, ?_, ?_, ?_⟩ <;>
  (simp only [State.sweepAfterClose]; (repeat' split) <;> simp)

@[simp] theorem answerPatronClose_frame (patron : Nat) (s : State) :
    (answerPatronClose patron s).2.pending = s.pending ∧
    (answerPatronClose patron s).2.run = s.run ∧
    (answerPatronClose patron s).2.drawn = s.drawn ∧
    (answerPatronClose patron s).2.link.queue = s.link.queue ∧
    (answerPatronClose patron s).2.link.pipe = s.link.pipe ∧
    (answerPatronClose patron s).2.link.frame = s.link.frame ∧
    (answerPatronClose patron s).2.link.incoming = s.link.incoming ∧
    (answerPatronClose patron s).2.link.settings = s.link.settings ∧
    (answerPatronClose patron s).2.link.backup = s.link.backup ∧
    (answerPatronClose patron s).2.link.titleCtx = s.link.titleCtx ∧
    (answerPatronClose patron s).2.records.loans = s.records.loans ∧
    (answerPatronClose patron s).2.records.lost = s.records.lost ∧
    (answerPatronClose patron s).2.planner.lastPlan = s.planner.lastPlan ∧
    (answerPatronClose patron s).2.planner.pass = s.planner.pass ∧
    (answerPatronClose patron s).2.planner.rerun = s.planner.rerun ∧
    (answerPatronClose patron s).2.store.recency = s.store.recency ∧
    (answerPatronClose patron s).2.store.fetches = s.store.fetches ∧
    (answerPatronClose patron s).2.store.lastFetch = s.store.lastFetch ∧
    (answerPatronClose patron s).2.store.banks.length = s.store.banks.length ∧
    (answerPatronClose patron s).2.store.flash = s.store.flash ∧
    (answerPatronClose patron s).2.rack.length = s.rack.length ∧
    (answerPatronClose patron s).2.mail.openBatch = s.mail.openBatch ∧
    (answerPatronClose patron s).2.mail.lastBatch = s.mail.lastBatch ∧
    (answerPatronClose patron s).2.mail.manifests = s.mail.manifests ∧
    (answerPatronClose patron s).2.mail.alarms = s.mail.alarms ∧
    (answerPatronClose patron s).2.mail.heldClose = s.mail.heldClose ∧
    (answerPatronClose patron s).2.mail.waitingClose = s.mail.waitingClose ∧
    (answerPatronClose patron s).2.returns = s.returns ∧
    (answerPatronClose patron s).2.calendar = s.calendar := by
  refine ⟨?_, ?_, ?_, ?_, ?_, ?_, ?_, ?_, ?_, ?_, ?_, ?_, ?_, ?_, ?_, ?_, ?_, ?_, ?_, ?_, ?_, ?_, ?_, ?_, ?_, ?_, ?_, ?_, ?_⟩ <;>
  (simp only [answerPatronClose]; (repeat' split) <;> simp)

@[simp] theorem answerTitleCreate_frame (catalogue format pages check volumes : Nat) (s : State) :
    (answerTitleCreate catalogue format pages check volumes s).2.pending = s.pending ∧
    (answerTitleCreate catalogue format pages check volumes s).2.run = s.run ∧
    (answerTitleCreate catalogue format pages check volumes s).2.drawn = s.drawn ∧
    (answerTitleCreate catalogue format pages check volumes s).2.link.queue = s.link.queue ∧
    (answerTitleCreate catalogue format pages check volumes s).2.link.pipe = s.link.pipe ∧
    (answerTitleCreate catalogue format pages check volumes s).2.link.frame = s.link.frame ∧
    (answerTitleCreate catalogue format pages check volumes s).2.link.incoming = s.link.incoming ∧
    (answerTitleCreate catalogue format pages check volumes s).2.link.settings = s.link.settings ∧
    (answerTitleCreate catalogue format pages check volumes s).2.link.backup = s.link.backup ∧
    (answerTitleCreate catalogue format pages check volumes s).2.link.patronCtx = s.link.patronCtx ∧
    (answerTitleCreate catalogue format pages check volumes s).2.link.events.enables = s.link.events.enables ∧
    (answerTitleCreate catalogue format pages check volumes s).2.link.events.reading = s.link.events.reading ∧
    (answerTitleCreate catalogue format pages check volumes s).2.records.patrons = s.records.patrons ∧
    (answerTitleCreate catalogue format pages check volumes s).2.records.loans = s.records.loans ∧
    (answerTitleCreate catalogue format pages check volumes s).2.records.lost = s.records.lost ∧
    (answerTitleCreate catalogue format pages check volumes s).2.planner = s.planner ∧
    (answerTitleCreate catalogue format pages check volumes s).2.store = s.store ∧
    (answerTitleCreate catalogue format pages check volumes s).2.rack = s.rack ∧
    (answerTitleCreate catalogue format pages check volumes s).2.mail = s.mail ∧
    (answerTitleCreate catalogue format pages check volumes s).2.returns = s.returns ∧
    (answerTitleCreate catalogue format pages check volumes s).2.calendar = s.calendar := by
  refine ⟨?_, ?_, ?_, ?_, ?_, ?_, ?_, ?_, ?_, ?_, ?_, ?_, ?_, ?_, ?_, ?_, ?_, ?_, ?_, ?_, ?_⟩ <;>
  (simp only [answerTitleCreate]; (repeat' split) <;> simp)

@[simp] theorem State.dropImage_frame (s : State) (k : Nat) :
    (s.dropImage k).pending = s.pending ∧
    (s.dropImage k).run = s.run ∧
    (s.dropImage k).drawn = s.drawn ∧
    (s.dropImage k).link = s.link ∧
    (s.dropImage k).records.titles = s.records.titles ∧
    (s.dropImage k).records.loans = s.records.loans ∧
    (s.dropImage k).records.lost = s.records.lost ∧
    (s.dropImage k).planner.plans = s.planner.plans ∧
    (s.dropImage k).planner.queue = s.planner.queue ∧
    (s.dropImage k).planner.lastPlan = s.planner.lastPlan ∧
    (s.dropImage k).planner.pass = s.planner.pass ∧
    (s.dropImage k).planner.rerun = s.planner.rerun ∧
    (s.dropImage k).store.fetches = s.store.fetches ∧
    (s.dropImage k).store.lastFetch = s.store.lastFetch ∧
    (s.dropImage k).store.banks = s.store.banks ∧
    (s.dropImage k).store.flash = s.store.flash ∧
    (s.dropImage k).rack = s.rack ∧
    (s.dropImage k).mail = s.mail ∧
    (s.dropImage k).returns = s.returns ∧
    (s.dropImage k).calendar = s.calendar := by
  refine ⟨?_, ?_, ?_, ?_, ?_, ?_, ?_, ?_, ?_, ?_, ?_, ?_, ?_, ?_, ?_, ?_, ?_, ?_, ?_, ?_⟩ <;>
  (simp only [State.dropImage]; (repeat' split) <;> simp)

@[simp] theorem State.updateTitle_frame (s : State) (k : Nat) (t u : Title) :
    (s.updateTitle k t u).pending = s.pending ∧
    (s.updateTitle k t u).run = s.run ∧
    (s.updateTitle k t u).drawn = s.drawn ∧
    (s.updateTitle k t u).link = s.link ∧
    (s.updateTitle k t u).records.loans = s.records.loans ∧
    (s.updateTitle k t u).records.lost = s.records.lost ∧
    (s.updateTitle k t u).planner.plans = s.planner.plans ∧
    (s.updateTitle k t u).planner.queue = s.planner.queue ∧
    (s.updateTitle k t u).planner.lastPlan = s.planner.lastPlan ∧
    (s.updateTitle k t u).planner.pass = s.planner.pass ∧
    (s.updateTitle k t u).planner.rerun = s.planner.rerun ∧
    (s.updateTitle k t u).store.fetches = s.store.fetches ∧
    (s.updateTitle k t u).store.lastFetch = s.store.lastFetch ∧
    (s.updateTitle k t u).store.banks = s.store.banks ∧
    (s.updateTitle k t u).store.flash = s.store.flash ∧
    (s.updateTitle k t u).rack = s.rack ∧
    (s.updateTitle k t u).mail = s.mail ∧
    (s.updateTitle k t u).returns = s.returns ∧
    (s.updateTitle k t u).calendar = s.calendar := by
  refine ⟨?_, ?_, ?_, ?_, ?_, ?_, ?_, ?_, ?_, ?_, ?_, ?_, ?_, ?_, ?_, ?_, ?_, ?_, ?_⟩ <;>
  (simp only [State.updateTitle]; (repeat' split) <;> simp)

@[simp] theorem answerTitleUpdate_frame (title catalogue format pages check volumes : Nat) (s : State) :
    (answerTitleUpdate title catalogue format pages check volumes s).2.pending = s.pending ∧
    (answerTitleUpdate title catalogue format pages check volumes s).2.run = s.run ∧
    (answerTitleUpdate title catalogue format pages check volumes s).2.drawn = s.drawn ∧
    (answerTitleUpdate title catalogue format pages check volumes s).2.link.queue = s.link.queue ∧
    (answerTitleUpdate title catalogue format pages check volumes s).2.link.pipe = s.link.pipe ∧
    (answerTitleUpdate title catalogue format pages check volumes s).2.link.frame = s.link.frame ∧
    (answerTitleUpdate title catalogue format pages check volumes s).2.link.incoming = s.link.incoming ∧
    (answerTitleUpdate title catalogue format pages check volumes s).2.link.settings = s.link.settings ∧
    (answerTitleUpdate title catalogue format pages check volumes s).2.link.backup = s.link.backup ∧
    (answerTitleUpdate title catalogue format pages check volumes s).2.link.patronCtx = s.link.patronCtx ∧
    (answerTitleUpdate title catalogue format pages check volumes s).2.link.events.enables = s.link.events.enables ∧
    (answerTitleUpdate title catalogue format pages check volumes s).2.link.events.reading = s.link.events.reading ∧
    (answerTitleUpdate title catalogue format pages check volumes s).2.records.loans = s.records.loans ∧
    (answerTitleUpdate title catalogue format pages check volumes s).2.records.lost = s.records.lost ∧
    (answerTitleUpdate title catalogue format pages check volumes s).2.planner.plans = s.planner.plans ∧
    (answerTitleUpdate title catalogue format pages check volumes s).2.planner.queue = s.planner.queue ∧
    (answerTitleUpdate title catalogue format pages check volumes s).2.planner.lastPlan = s.planner.lastPlan ∧
    (answerTitleUpdate title catalogue format pages check volumes s).2.planner.pass = s.planner.pass ∧
    (answerTitleUpdate title catalogue format pages check volumes s).2.planner.rerun = s.planner.rerun ∧
    (answerTitleUpdate title catalogue format pages check volumes s).2.store.fetches = s.store.fetches ∧
    (answerTitleUpdate title catalogue format pages check volumes s).2.store.lastFetch = s.store.lastFetch ∧
    (answerTitleUpdate title catalogue format pages check volumes s).2.store.banks = s.store.banks ∧
    (answerTitleUpdate title catalogue format pages check volumes s).2.store.flash = s.store.flash ∧
    (answerTitleUpdate title catalogue format pages check volumes s).2.rack = s.rack ∧
    (answerTitleUpdate title catalogue format pages check volumes s).2.mail = s.mail ∧
    (answerTitleUpdate title catalogue format pages check volumes s).2.returns = s.returns ∧
    (answerTitleUpdate title catalogue format pages check volumes s).2.calendar = s.calendar := by
  refine ⟨?_, ?_, ?_, ?_, ?_, ?_, ?_, ?_, ?_, ?_, ?_, ?_, ?_, ?_, ?_, ?_, ?_, ?_, ?_, ?_, ?_, ?_, ?_, ?_, ?_, ?_, ?_⟩ <;>
  (simp only [answerTitleUpdate]; (repeat' split) <;> simp)

@[simp] theorem answerTitleGet_frame (title : Nat) (s : State) :
    (answerTitleGet title s).2.pending = s.pending ∧
    (answerTitleGet title s).2.run = s.run ∧
    (answerTitleGet title s).2.drawn = s.drawn ∧
    (answerTitleGet title s).2.link.queue = s.link.queue ∧
    (answerTitleGet title s).2.link.pipe = s.link.pipe ∧
    (answerTitleGet title s).2.link.frame = s.link.frame ∧
    (answerTitleGet title s).2.link.incoming = s.link.incoming ∧
    (answerTitleGet title s).2.link.settings = s.link.settings ∧
    (answerTitleGet title s).2.link.backup = s.link.backup ∧
    (answerTitleGet title s).2.link.patronCtx = s.link.patronCtx ∧
    (answerTitleGet title s).2.link.events.enables = s.link.events.enables ∧
    (answerTitleGet title s).2.link.events.reading = s.link.events.reading ∧
    (answerTitleGet title s).2.records = s.records ∧
    (answerTitleGet title s).2.planner = s.planner ∧
    (answerTitleGet title s).2.store = s.store ∧
    (answerTitleGet title s).2.rack = s.rack ∧
    (answerTitleGet title s).2.mail = s.mail ∧
    (answerTitleGet title s).2.returns = s.returns ∧
    (answerTitleGet title s).2.calendar = s.calendar := by
  refine ⟨?_, ?_, ?_, ?_, ?_, ?_, ?_, ?_, ?_, ?_, ?_, ?_, ?_, ?_, ?_, ?_, ?_, ?_, ?_⟩ <;>
  (simp only [answerTitleGet]; (repeat' split) <;> simp)

@[simp] theorem State.withdrawTitle_frame (s : State) (k : Nat) (t : Title) (mark : Bool) :
    (s.withdrawTitle k t mark).pending = s.pending ∧
    (s.withdrawTitle k t mark).run = s.run ∧
    (s.withdrawTitle k t mark).drawn = s.drawn ∧
    (s.withdrawTitle k t mark).link.queue = s.link.queue ∧
    (s.withdrawTitle k t mark).link.pipe = s.link.pipe ∧
    (s.withdrawTitle k t mark).link.frame = s.link.frame ∧
    (s.withdrawTitle k t mark).link.incoming = s.link.incoming ∧
    (s.withdrawTitle k t mark).link.settings = s.link.settings ∧
    (s.withdrawTitle k t mark).link.backup = s.link.backup ∧
    (s.withdrawTitle k t mark).link.patronCtx = s.link.patronCtx ∧
    (s.withdrawTitle k t mark).link.titleCtx = s.link.titleCtx ∧
    (s.withdrawTitle k t mark).records.loans = s.records.loans ∧
    (s.withdrawTitle k t mark).records.lost = s.records.lost ∧
    (s.withdrawTitle k t mark).planner.plans = s.planner.plans ∧
    (s.withdrawTitle k t mark).planner.queue = s.planner.queue ∧
    (s.withdrawTitle k t mark).planner.lastPlan = s.planner.lastPlan ∧
    (s.withdrawTitle k t mark).planner.pass = s.planner.pass ∧
    (s.withdrawTitle k t mark).planner.rerun = s.planner.rerun ∧
    (s.withdrawTitle k t mark).store = s.store ∧
    (s.withdrawTitle k t mark).rack = s.rack ∧
    (s.withdrawTitle k t mark).mail.close = s.mail.close ∧
    (s.withdrawTitle k t mark).mail.openBatch = s.mail.openBatch ∧
    (s.withdrawTitle k t mark).mail.lastBatch = s.mail.lastBatch ∧
    (s.withdrawTitle k t mark).mail.manifests = s.mail.manifests ∧
    (s.withdrawTitle k t mark).mail.alarms = s.mail.alarms ∧
    (s.withdrawTitle k t mark).mail.heldClose = s.mail.heldClose ∧
    (s.withdrawTitle k t mark).mail.waitingClose = s.mail.waitingClose ∧
    (s.withdrawTitle k t mark).returns = s.returns ∧
    (s.withdrawTitle k t mark).calendar = s.calendar := by
  refine ⟨?_, ?_, ?_, ?_, ?_, ?_, ?_, ?_, ?_, ?_, ?_, ?_, ?_, ?_, ?_, ?_, ?_, ?_, ?_, ?_, ?_, ?_, ?_, ?_, ?_, ?_, ?_, ?_, ?_⟩ <;>
  (simp only [State.withdrawTitle]; (repeat' split) <;> simp)

@[simp] theorem answerTitleWithdraw_frame (title flag : Nat) (s : State) :
    (answerTitleWithdraw title flag s).2.pending = s.pending ∧
    (answerTitleWithdraw title flag s).2.run = s.run ∧
    (answerTitleWithdraw title flag s).2.drawn = s.drawn ∧
    (answerTitleWithdraw title flag s).2.link.queue = s.link.queue ∧
    (answerTitleWithdraw title flag s).2.link.pipe = s.link.pipe ∧
    (answerTitleWithdraw title flag s).2.link.frame = s.link.frame ∧
    (answerTitleWithdraw title flag s).2.link.incoming = s.link.incoming ∧
    (answerTitleWithdraw title flag s).2.link.settings = s.link.settings ∧
    (answerTitleWithdraw title flag s).2.link.backup = s.link.backup ∧
    (answerTitleWithdraw title flag s).2.link.patronCtx = s.link.patronCtx ∧
    (answerTitleWithdraw title flag s).2.records.loans = s.records.loans ∧
    (answerTitleWithdraw title flag s).2.records.lost = s.records.lost ∧
    (answerTitleWithdraw title flag s).2.planner.plans = s.planner.plans ∧
    (answerTitleWithdraw title flag s).2.planner.queue = s.planner.queue ∧
    (answerTitleWithdraw title flag s).2.planner.lastPlan = s.planner.lastPlan ∧
    (answerTitleWithdraw title flag s).2.planner.pass = s.planner.pass ∧
    (answerTitleWithdraw title flag s).2.planner.rerun = s.planner.rerun ∧
    (answerTitleWithdraw title flag s).2.store = s.store ∧
    (answerTitleWithdraw title flag s).2.rack = s.rack ∧
    (answerTitleWithdraw title flag s).2.mail.close = s.mail.close ∧
    (answerTitleWithdraw title flag s).2.mail.openBatch = s.mail.openBatch ∧
    (answerTitleWithdraw title flag s).2.mail.lastBatch = s.mail.lastBatch ∧
    (answerTitleWithdraw title flag s).2.mail.manifests = s.mail.manifests ∧
    (answerTitleWithdraw title flag s).2.mail.alarms = s.mail.alarms ∧
    (answerTitleWithdraw title flag s).2.mail.heldClose = s.mail.heldClose ∧
    (answerTitleWithdraw title flag s).2.mail.waitingClose = s.mail.waitingClose ∧
    (answerTitleWithdraw title flag s).2.returns = s.returns ∧
    (answerTitleWithdraw title flag s).2.calendar = s.calendar := by
  refine ⟨?_, ?_, ?_, ?_, ?_, ?_, ?_, ?_, ?_, ?_, ?_, ?_, ?_, ?_, ?_, ?_, ?_, ?_, ?_, ?_, ?_, ?_, ?_, ?_, ?_, ?_, ?_, ?_⟩ <;>
  (simp only [answerTitleWithdraw]; (repeat' split) <;> simp)

@[simp] theorem State.unloseCopy_frame (s : State) (t c : Nat) :
    (s.unloseCopy t c).pending = s.pending ∧
    (s.unloseCopy t c).run = s.run ∧
    (s.unloseCopy t c).drawn = s.drawn ∧
    (s.unloseCopy t c).link = s.link ∧
    (s.unloseCopy t c).records.patrons = s.records.patrons ∧
    (s.unloseCopy t c).records.titles = s.records.titles ∧
    (s.unloseCopy t c).records.loans = s.records.loans ∧
    (s.unloseCopy t c).planner = s.planner ∧
    (s.unloseCopy t c).store = s.store ∧
    (s.unloseCopy t c).rack = s.rack ∧
    (s.unloseCopy t c).mail = s.mail ∧
    (s.unloseCopy t c).returns = s.returns ∧
    (s.unloseCopy t c).calendar = s.calendar := by
  simp [State.unloseCopy]

@[simp] theorem answerLoanGet_frame (loan : Nat) (s : State) :
    (answerLoanGet loan s).2.pending = s.pending ∧
    (answerLoanGet loan s).2.run = s.run ∧
    (answerLoanGet loan s).2.drawn = s.drawn ∧
    (answerLoanGet loan s).2.link = s.link ∧
    (answerLoanGet loan s).2.records = s.records ∧
    (answerLoanGet loan s).2.planner = s.planner ∧
    (answerLoanGet loan s).2.store = s.store ∧
    (answerLoanGet loan s).2.rack = s.rack ∧
    (answerLoanGet loan s).2.mail = s.mail ∧
    (answerLoanGet loan s).2.returns = s.returns ∧
    (answerLoanGet loan s).2.calendar = s.calendar := by
  refine ⟨?_, ?_, ?_, ?_, ?_, ?_, ?_, ?_, ?_, ?_, ?_⟩ <;>
  (simp only [answerLoanGet]; (repeat' split) <;> simp)

@[simp] theorem answerLoanList_frame (patron : Nat) (s : State) :
    (answerLoanList patron s).2.pending = s.pending ∧
    (answerLoanList patron s).2.run = s.run ∧
    (answerLoanList patron s).2.drawn = s.drawn ∧
    (answerLoanList patron s).2.link.queue = s.link.queue ∧
    (answerLoanList patron s).2.link.pipe = s.link.pipe ∧
    (answerLoanList patron s).2.link.frame = s.link.frame ∧
    (answerLoanList patron s).2.link.incoming = s.link.incoming ∧
    (answerLoanList patron s).2.link.settings = s.link.settings ∧
    (answerLoanList patron s).2.link.backup = s.link.backup ∧
    (answerLoanList patron s).2.link.titleCtx = s.link.titleCtx ∧
    (answerLoanList patron s).2.link.events.enables = s.link.events.enables ∧
    (answerLoanList patron s).2.link.events.reading = s.link.events.reading ∧
    (answerLoanList patron s).2.records = s.records ∧
    (answerLoanList patron s).2.planner = s.planner ∧
    (answerLoanList patron s).2.store = s.store ∧
    (answerLoanList patron s).2.rack = s.rack ∧
    (answerLoanList patron s).2.mail = s.mail ∧
    (answerLoanList patron s).2.returns = s.returns ∧
    (answerLoanList patron s).2.calendar = s.calendar := by
  refine ⟨?_, ?_, ?_, ?_, ?_, ?_, ?_, ?_, ?_, ?_, ?_, ?_, ?_, ?_, ?_, ?_, ?_, ?_, ?_⟩ <;>
  (simp only [answerLoanList]; (repeat' split) <;> simp)

end Sys2Proof.Machine
end

