-- ==== Sys2Proof/Laws/FramesOrderDesk.lean ====
section
/-!
SUPPORT. What each operation of Machine/OrderDesk.lean leaves as it stands: one lemma per operation.
-/

namespace Sys2Proof.Machine

@[simp] theorem State.insertEntry_frame (s : State) (k position : Nat) (e : OrderEntry) :
    (s.insertEntry k position e).pending = s.pending ∧
    (s.insertEntry k position e).run = s.run ∧
    (s.insertEntry k position e).drawn = s.drawn ∧
    (s.insertEntry k position e).link = s.link ∧
    (s.insertEntry k position e).records.titles = s.records.titles ∧
    (s.insertEntry k position e).records.loans = s.records.loans ∧
    (s.insertEntry k position e).records.lost = s.records.lost ∧
    (s.insertEntry k position e).planner.plans = s.planner.plans ∧
    (s.insertEntry k position e).planner.queue = s.planner.queue ∧
    (s.insertEntry k position e).planner.lastPlan = s.planner.lastPlan ∧
    (s.insertEntry k position e).planner.pass = s.planner.pass ∧
    (s.insertEntry k position e).planner.rerun = s.planner.rerun ∧
    (s.insertEntry k position e).store = s.store ∧
    (s.insertEntry k position e).rack = s.rack ∧
    (s.insertEntry k position e).mail = s.mail ∧
    (s.insertEntry k position e).returns = s.returns ∧
    (s.insertEntry k position e).calendar = s.calendar := by
  simp [State.insertEntry]

@[simp] theorem State.settleAdd_frame (s : State) (k t : Nat) (st : EntryState) :
    (s.settleAdd k t st).pending = s.pending ∧
    (s.settleAdd k t st).run = s.run ∧
    (s.settleAdd k t st).drawn = s.drawn ∧
    (s.settleAdd k t st).link = s.link ∧
    (s.settleAdd k t st).records.loans = s.records.loans ∧
    (s.settleAdd k t st).records.lost = s.records.lost ∧
    (s.settleAdd k t st).planner.plans = s.planner.plans ∧
    (s.settleAdd k t st).planner.queue = s.planner.queue ∧
    (s.settleAdd k t st).planner.lastPlan = s.planner.lastPlan ∧
    (s.settleAdd k t st).planner.pass = s.planner.pass ∧
    (s.settleAdd k t st).planner.rerun = s.planner.rerun ∧
    (s.settleAdd k t st).store = s.store ∧
    (s.settleAdd k t st).rack = s.rack ∧
    (s.settleAdd k t st).mail.close = s.mail.close ∧
    (s.settleAdd k t st).mail.openBatch = s.mail.openBatch ∧
    (s.settleAdd k t st).mail.lastBatch = s.mail.lastBatch ∧
    (s.settleAdd k t st).mail.manifests = s.mail.manifests ∧
    (s.settleAdd k t st).mail.alarms = s.mail.alarms ∧
    (s.settleAdd k t st).mail.heldClose = s.mail.heldClose ∧
    (s.settleAdd k t st).mail.waitingClose = s.mail.waitingClose ∧
    (s.settleAdd k t st).returns = s.returns ∧
    (s.settleAdd k t st).calendar = s.calendar := by
  refine ⟨?_, ?_, ?_, ?_, ?_, ?_, ?_, ?_, ?_, ?_, ?_, ?_, ?_, ?_, ?_, ?_, ?_, ?_, ?_, ?_, ?_, ?_⟩ <;>
  (simp only [State.settleAdd]; (repeat' split) <;> simp)

@[simp] theorem answerOrderAdd_frame (patron title rush reread position : Nat) (s : State) :
    (answerOrderAdd patron title rush reread position s).2.pending = s.pending ∧
    (answerOrderAdd patron title rush reread position s).2.run = s.run ∧
    (answerOrderAdd patron title rush reread position s).2.drawn = s.drawn ∧
    (answerOrderAdd patron title rush reread position s).2.link.queue = s.link.queue ∧
    (answerOrderAdd patron title rush reread position s).2.link.pipe = s.link.pipe ∧
    (answerOrderAdd patron title rush reread position s).2.link.frame = s.link.frame ∧
    (answerOrderAdd patron title rush reread position s).2.link.incoming = s.link.incoming ∧
    (answerOrderAdd patron title rush reread position s).2.link.settings = s.link.settings ∧
    (answerOrderAdd patron title rush reread position s).2.link.backup = s.link.backup ∧
    (answerOrderAdd patron title rush reread position s).2.link.events.enables = s.link.events.enables ∧
    (answerOrderAdd patron title rush reread position s).2.link.events.reading = s.link.events.reading ∧
    (answerOrderAdd patron title rush reread position s).2.records.loans = s.records.loans ∧
    (answerOrderAdd patron title rush reread position s).2.records.lost = s.records.lost ∧
    (answerOrderAdd patron title rush reread position s).2.planner.plans = s.planner.plans ∧
    (answerOrderAdd patron title rush reread position s).2.planner.queue = s.planner.queue ∧
    (answerOrderAdd patron title rush reread position s).2.planner.lastPlan = s.planner.lastPlan ∧
    (answerOrderAdd patron title rush reread position s).2.planner.pass = s.planner.pass ∧
    (answerOrderAdd patron title rush reread position s).2.planner.rerun = s.planner.rerun ∧
    (answerOrderAdd patron title rush reread position s).2.store = s.store ∧
    (answerOrderAdd patron title rush reread position s).2.rack = s.rack ∧
    (answerOrderAdd patron title rush reread position s).2.mail.close = s.mail.close ∧
    (answerOrderAdd patron title rush reread position s).2.mail.openBatch = s.mail.openBatch ∧
    (answerOrderAdd patron title rush reread position s).2.mail.lastBatch = s.mail.lastBatch ∧
    (answerOrderAdd patron title rush reread position s).2.mail.manifests = s.mail.manifests ∧
    (answerOrderAdd patron title rush reread position s).2.mail.alarms = s.mail.alarms ∧
    (answerOrderAdd patron title rush reread position s).2.mail.heldClose = s.mail.heldClose ∧
    (answerOrderAdd patron title rush reread position s).2.mail.waitingClose = s.mail.waitingClose ∧
    (answerOrderAdd patron title rush reread position s).2.returns = s.returns ∧
    (answerOrderAdd patron title rush reread position s).2.calendar = s.calendar := by
  refine ⟨?_, ?_, ?_, ?_, ?_, ?_, ?_, ?_, ?_, ?_, ?_, ?_, ?_, ?_, ?_, ?_, ?_, ?_, ?_, ?_, ?_, ?_, ?_, ?_, ?_, ?_, ?_, ?_, ?_⟩ <;>
  (simp only [answerOrderAdd]; (repeat' split) <;> simp)

@[simp] theorem State.dropEntry_frame (s : State) (k t : Nat) (st : EntryState) :
    (s.dropEntry k t st).pending = s.pending ∧
    (s.dropEntry k t st).run = s.run ∧
    (s.dropEntry k t st).drawn = s.drawn ∧
    (s.dropEntry k t st).link.queue = s.link.queue ∧
    (s.dropEntry k t st).link.pipe = s.link.pipe ∧
    (s.dropEntry k t st).link.frame = s.link.frame ∧
    (s.dropEntry k t st).link.incoming = s.link.incoming ∧
    (s.dropEntry k t st).link.settings = s.link.settings ∧
    (s.dropEntry k t st).link.backup = s.link.backup ∧
    (s.dropEntry k t st).link.patronCtx = s.link.patronCtx ∧
    (s.dropEntry k t st).link.titleCtx = s.link.titleCtx ∧
    (s.dropEntry k t st).records.loans = s.records.loans ∧
    (s.dropEntry k t st).records.lost = s.records.lost ∧
    (s.dropEntry k t st).planner.plans = s.planner.plans ∧
    (s.dropEntry k t st).planner.queue = s.planner.queue ∧
    (s.dropEntry k t st).planner.lastPlan = s.planner.lastPlan ∧
    (s.dropEntry k t st).planner.pass = s.planner.pass ∧
    (s.dropEntry k t st).planner.rerun = s.planner.rerun ∧
    (s.dropEntry k t st).store = s.store ∧
    (s.dropEntry k t st).rack = s.rack ∧
    (s.dropEntry k t st).mail.openBatch = s.mail.openBatch ∧
    (s.dropEntry k t st).mail.lastBatch = s.mail.lastBatch ∧
    (s.dropEntry k t st).mail.manifests = s.mail.manifests ∧
    (s.dropEntry k t st).mail.alarms = s.mail.alarms ∧
    (s.dropEntry k t st).mail.heldClose = s.mail.heldClose ∧
    (s.dropEntry k t st).mail.waitingClose = s.mail.waitingClose ∧
    (s.dropEntry k t st).returns = s.returns ∧
    (s.dropEntry k t st).calendar = s.calendar := by
  refine ⟨?_, ?_, ?_, ?_, ?_, ?_, ?_, ?_, ?_, ?_, ?_, ?_, ?_, ?_, ?_, ?_, ?_, ?_, ?_, ?_, ?_, ?_, ?_, ?_, ?_, ?_, ?_, ?_⟩ <;>
  (simp only [State.dropEntry]; (repeat' split) <;> simp)

@[simp] theorem answerOrderDrop_frame (patron title : Nat) (s : State) :
    (answerOrderDrop patron title s).2.pending = s.pending ∧
    (answerOrderDrop patron title s).2.run = s.run ∧
    (answerOrderDrop patron title s).2.drawn = s.drawn ∧
    (answerOrderDrop patron title s).2.link.queue = s.link.queue ∧
    (answerOrderDrop patron title s).2.link.pipe = s.link.pipe ∧
    (answerOrderDrop patron title s).2.link.frame = s.link.frame ∧
    (answerOrderDrop patron title s).2.link.incoming = s.link.incoming ∧
    (answerOrderDrop patron title s).2.link.settings = s.link.settings ∧
    (answerOrderDrop patron title s).2.link.backup = s.link.backup ∧
    (answerOrderDrop patron title s).2.records.loans = s.records.loans ∧
    (answerOrderDrop patron title s).2.records.lost = s.records.lost ∧
    (answerOrderDrop patron title s).2.planner.plans = s.planner.plans ∧
    (answerOrderDrop patron title s).2.planner.queue = s.planner.queue ∧
    (answerOrderDrop patron title s).2.planner.lastPlan = s.planner.lastPlan ∧
    (answerOrderDrop patron title s).2.planner.pass = s.planner.pass ∧
    (answerOrderDrop patron title s).2.planner.rerun = s.planner.rerun ∧
    (answerOrderDrop patron title s).2.store = s.store ∧
    (answerOrderDrop patron title s).2.rack = s.rack ∧
    (answerOrderDrop patron title s).2.mail.openBatch = s.mail.openBatch ∧
    (answerOrderDrop patron title s).2.mail.lastBatch = s.mail.lastBatch ∧
    (answerOrderDrop patron title s).2.mail.manifests = s.mail.manifests ∧
    (answerOrderDrop patron title s).2.mail.alarms = s.mail.alarms ∧
    (answerOrderDrop patron title s).2.mail.heldClose = s.mail.heldClose ∧
    (answerOrderDrop patron title s).2.mail.waitingClose = s.mail.waitingClose ∧
    (answerOrderDrop patron title s).2.returns = s.returns ∧
    (answerOrderDrop patron title s).2.calendar = s.calendar := by
  refine ⟨?_, ?_, ?_, ?_, ?_, ?_, ?_, ?_, ?_, ?_, ?_, ?_, ?_, ?_, ?_, ?_, ?_, ?_, ?_, ?_, ?_, ?_, ?_, ?_, ?_, ?_⟩ <;>
  (simp only [answerOrderDrop]; (repeat' split) <;> simp)

@[simp] theorem answerOrderMove_frame (patron fromPos toPos : Nat) (s : State) :
    (answerOrderMove patron fromPos toPos s).2.pending = s.pending ∧
    (answerOrderMove patron fromPos toPos s).2.run = s.run ∧
    (answerOrderMove patron fromPos toPos s).2.drawn = s.drawn ∧
    (answerOrderMove patron fromPos toPos s).2.link.queue = s.link.queue ∧
    (answerOrderMove patron fromPos toPos s).2.link.pipe = s.link.pipe ∧
    (answerOrderMove patron fromPos toPos s).2.link.frame = s.link.frame ∧
    (answerOrderMove patron fromPos toPos s).2.link.incoming = s.link.incoming ∧
    (answerOrderMove patron fromPos toPos s).2.link.settings = s.link.settings ∧
    (answerOrderMove patron fromPos toPos s).2.link.backup = s.link.backup ∧
    (answerOrderMove patron fromPos toPos s).2.link.titleCtx = s.link.titleCtx ∧
    (answerOrderMove patron fromPos toPos s).2.link.events.enables = s.link.events.enables ∧
    (answerOrderMove patron fromPos toPos s).2.link.events.reading = s.link.events.reading ∧
    (answerOrderMove patron fromPos toPos s).2.records.titles = s.records.titles ∧
    (answerOrderMove patron fromPos toPos s).2.records.loans = s.records.loans ∧
    (answerOrderMove patron fromPos toPos s).2.records.lost = s.records.lost ∧
    (answerOrderMove patron fromPos toPos s).2.planner.plans = s.planner.plans ∧
    (answerOrderMove patron fromPos toPos s).2.planner.queue = s.planner.queue ∧
    (answerOrderMove patron fromPos toPos s).2.planner.lastPlan = s.planner.lastPlan ∧
    (answerOrderMove patron fromPos toPos s).2.planner.pass = s.planner.pass ∧
    (answerOrderMove patron fromPos toPos s).2.planner.rerun = s.planner.rerun ∧
    (answerOrderMove patron fromPos toPos s).2.store = s.store ∧
    (answerOrderMove patron fromPos toPos s).2.rack = s.rack ∧
    (answerOrderMove patron fromPos toPos s).2.mail = s.mail ∧
    (answerOrderMove patron fromPos toPos s).2.returns = s.returns ∧
    (answerOrderMove patron fromPos toPos s).2.calendar = s.calendar := by
  refine ⟨?_, ?_, ?_, ?_, ?_, ?_, ?_, ?_, ?_, ?_, ?_, ?_, ?_, ?_, ?_, ?_, ?_, ?_, ?_, ?_, ?_, ?_, ?_, ?_, ?_⟩ <;>
  (simp only [answerOrderMove]; (repeat' split) <;> simp)

@[simp] theorem answerOrderList_frame (patron : Nat) (s : State) :
    (answerOrderList patron s).2.pending = s.pending ∧
    (answerOrderList patron s).2.run = s.run ∧
    (answerOrderList patron s).2.drawn = s.drawn ∧
    (answerOrderList patron s).2.link.queue = s.link.queue ∧
    (answerOrderList patron s).2.link.pipe = s.link.pipe ∧
    (answerOrderList patron s).2.link.frame = s.link.frame ∧
    (answerOrderList patron s).2.link.incoming = s.link.incoming ∧
    (answerOrderList patron s).2.link.settings = s.link.settings ∧
    (answerOrderList patron s).2.link.backup = s.link.backup ∧
    (answerOrderList patron s).2.link.titleCtx = s.link.titleCtx ∧
    (answerOrderList patron s).2.link.events.enables = s.link.events.enables ∧
    (answerOrderList patron s).2.link.events.reading = s.link.events.reading ∧
    (answerOrderList patron s).2.records = s.records ∧
    (answerOrderList patron s).2.planner = s.planner ∧
    (answerOrderList patron s).2.store = s.store ∧
    (answerOrderList patron s).2.rack = s.rack ∧
    (answerOrderList patron s).2.mail = s.mail ∧
    (answerOrderList patron s).2.returns = s.returns ∧
    (answerOrderList patron s).2.calendar = s.calendar := by
  refine ⟨?_, ?_, ?_, ?_, ?_, ?_, ?_, ?_, ?_, ?_, ?_, ?_, ?_, ?_, ?_, ?_, ?_, ?_, ?_⟩ <;>
  (simp only [answerOrderList]; (repeat' split) <;> simp)

@[simp] theorem answerHoldList_frame (title : Nat) (s : State) :
    (answerHoldList title s).2.pending = s.pending ∧
    (answerHoldList title s).2.run = s.run ∧
    (answerHoldList title s).2.drawn = s.drawn ∧
    (answerHoldList title s).2.link.queue = s.link.queue ∧
    (answerHoldList title s).2.link.pipe = s.link.pipe ∧
    (answerHoldList title s).2.link.frame = s.link.frame ∧
    (answerHoldList title s).2.link.incoming = s.link.incoming ∧
    (answerHoldList title s).2.link.settings = s.link.settings ∧
    (answerHoldList title s).2.link.backup = s.link.backup ∧
    (answerHoldList title s).2.link.patronCtx = s.link.patronCtx ∧
    (answerHoldList title s).2.link.events.enables = s.link.events.enables ∧
    (answerHoldList title s).2.link.events.reading = s.link.events.reading ∧
    (answerHoldList title s).2.records = s.records ∧
    (answerHoldList title s).2.planner = s.planner ∧
    (answerHoldList title s).2.store = s.store ∧
    (answerHoldList title s).2.rack = s.rack ∧
    (answerHoldList title s).2.mail = s.mail ∧
    (answerHoldList title s).2.returns = s.returns ∧
    (answerHoldList title s).2.calendar = s.calendar := by
  refine ⟨?_, ?_, ?_, ?_, ?_, ?_, ?_, ?_, ?_, ?_, ?_, ?_, ?_, ?_, ?_, ?_, ?_, ?_, ?_⟩ <;>
  (simp only [answerHoldList]; (repeat' split) <;> simp)

end Sys2Proof.Machine
end

