-- ==== Sys2Proof/Laws/FramesPlannerDesk.lean ====
section
/-!
SUPPORT. What each operation of Machine/PlannerDesk.lean leaves as it stands: one lemma per operation.
-/

namespace Sys2Proof.Machine

@[simp] theorem State.admitPlan_frame (s : State) (p : Plan) :
    (s.admitPlan p).pending = s.pending ∧
    (s.admitPlan p).run = s.run ∧
    (s.admitPlan p).drawn = s.drawn ∧
    (s.admitPlan p).link.queue = s.link.queue ∧
    (s.admitPlan p).link.pipe = s.link.pipe ∧
    (s.admitPlan p).link.frame = s.link.frame ∧
    (s.admitPlan p).link.incoming = s.link.incoming ∧
    (s.admitPlan p).link.settings = s.link.settings ∧
    (s.admitPlan p).link.backup = s.link.backup ∧
    (s.admitPlan p).link.patronCtx = s.link.patronCtx ∧
    (s.admitPlan p).link.titleCtx = s.link.titleCtx ∧
    (s.admitPlan p).records.titles = s.records.titles ∧
    (s.admitPlan p).records.loans = s.records.loans ∧
    (s.admitPlan p).records.lost = s.records.lost ∧
    (s.admitPlan p).planner.plans = s.planner.plans ∧
    (s.admitPlan p).planner.queue = s.planner.queue ∧
    (s.admitPlan p).planner.lastPlan = s.planner.lastPlan ∧
    (s.admitPlan p).planner.pass = s.planner.pass ∧
    (s.admitPlan p).planner.rerun = s.planner.rerun ∧
    (s.admitPlan p).store.banks = s.store.banks ∧
    (s.admitPlan p).store.flash = s.store.flash ∧
    (s.admitPlan p).rack = s.rack ∧
    (s.admitPlan p).mail = s.mail ∧
    (s.admitPlan p).returns = s.returns ∧
    (s.admitPlan p).calendar = s.calendar := by
  refine ⟨?_, ?_, ?_, ?_, ?_, ?_, ?_, ?_, ?_, ?_, ?_, ?_, ?_, ?_, ?_, ?_, ?_, ?_, ?_, ?_, ?_, ?_, ?_, ?_, ?_⟩ <;>
  (simp only [State.admitPlan]; (repeat' split) <;> simp)

@[simp] theorem State.commit_frame (s : State) (p : Plan) :
    (s.commit p).pending = s.pending ∧
    (s.commit p).run = s.run ∧
    (s.commit p).drawn = s.drawn ∧
    (s.commit p).link.queue = s.link.queue ∧
    (s.commit p).link.pipe = s.link.pipe ∧
    (s.commit p).link.frame = s.link.frame ∧
    (s.commit p).link.incoming = s.link.incoming ∧
    (s.commit p).link.settings = s.link.settings ∧
    (s.commit p).link.backup = s.link.backup ∧
    (s.commit p).link.patronCtx = s.link.patronCtx ∧
    (s.commit p).link.titleCtx = s.link.titleCtx ∧
    (s.commit p).records.titles = s.records.titles ∧
    (s.commit p).records.loans = s.records.loans ∧
    (s.commit p).records.lost = s.records.lost ∧
    (s.commit p).planner.pass = s.planner.pass ∧
    (s.commit p).planner.rerun = s.planner.rerun ∧
    (s.commit p).store.banks = s.store.banks ∧
    (s.commit p).store.flash = s.store.flash ∧
    (s.commit p).rack.length = s.rack.length ∧
    (s.commit p).mail = s.mail ∧
    (s.commit p).returns = s.returns ∧
    (s.commit p).calendar = s.calendar := by
  simp [State.commit]

@[simp] theorem State.defer_frame (s : State) (k : Nat) (d : Deferral) :
    (s.defer k d).pending = s.pending ∧
    (s.defer k d).run = s.run ∧
    (s.defer k d).drawn = s.drawn ∧
    (s.defer k d).link = s.link ∧
    (s.defer k d).records.titles = s.records.titles ∧
    (s.defer k d).records.loans = s.records.loans ∧
    (s.defer k d).records.lost = s.records.lost ∧
    (s.defer k d).planner = s.planner ∧
    (s.defer k d).store = s.store ∧
    (s.defer k d).rack = s.rack ∧
    (s.defer k d).mail = s.mail ∧
    (s.defer k d).returns = s.returns ∧
    (s.defer k d).calendar = s.calendar := by
  simp [State.defer]

@[simp] theorem State.planFor_frame (s : State) (k : Nat) (p : Patron) :
    (s.planFor k p).pending = s.pending ∧
    (s.planFor k p).run = s.run ∧
    (s.planFor k p).drawn = s.drawn ∧
    (s.planFor k p).link.queue = s.link.queue ∧
    (s.planFor k p).link.pipe = s.link.pipe ∧
    (s.planFor k p).link.frame = s.link.frame ∧
    (s.planFor k p).link.incoming = s.link.incoming ∧
    (s.planFor k p).link.settings = s.link.settings ∧
    (s.planFor k p).link.backup = s.link.backup ∧
    (s.planFor k p).link.patronCtx = s.link.patronCtx ∧
    (s.planFor k p).link.titleCtx = s.link.titleCtx ∧
    (s.planFor k p).records.titles = s.records.titles ∧
    (s.planFor k p).records.loans = s.records.loans ∧
    (s.planFor k p).records.lost = s.records.lost ∧
    (s.planFor k p).planner.pass = s.planner.pass ∧
    (s.planFor k p).planner.rerun = s.planner.rerun ∧
    (s.planFor k p).store.banks = s.store.banks ∧
    (s.planFor k p).store.flash = s.store.flash ∧
    (s.planFor k p).rack.length = s.rack.length ∧
    (s.planFor k p).mail = s.mail ∧
    (s.planFor k p).returns = s.returns ∧
    (s.planFor k p).calendar = s.calendar := by
  refine ⟨?_, ?_, ?_, ?_, ?_, ?_, ?_, ?_, ?_, ?_, ?_, ?_, ?_, ?_, ?_, ?_, ?_, ?_, ?_, ?_, ?_, ?_⟩ <;>
  (simp only [State.planFor]; (repeat' split) <;> simp)

@[simp] theorem State.endPass_frame (s : State) :
    s.endPass.pending = s.pending ∧
    s.endPass.run = s.run ∧
    s.endPass.drawn = s.drawn ∧
    s.endPass.link = s.link ∧
    s.endPass.records = s.records ∧
    s.endPass.planner.plans = s.planner.plans ∧
    s.endPass.planner.queue = s.planner.queue ∧
    s.endPass.planner.lastPlan = s.planner.lastPlan ∧
    s.endPass.planner.due = s.planner.due ∧
    s.endPass.store = s.store ∧
    s.endPass.rack = s.rack ∧
    s.endPass.mail = s.mail ∧
    s.endPass.returns = s.returns ∧
    s.endPass.calendar = s.calendar := by
  refine ⟨?_, ?_, ?_, ?_, ?_, ?_, ?_, ?_, ?_, ?_, ?_, ?_, ?_, ?_⟩ <;>
  (simp only [State.endPass]; (repeat' split) <;> simp)

@[simp] theorem State.passStep_frame (s : State) :
    s.passStep.pending = s.pending ∧
    s.passStep.run = s.run ∧
    s.passStep.drawn = s.drawn ∧
    s.passStep.link.queue = s.link.queue ∧
    s.passStep.link.pipe = s.link.pipe ∧
    s.passStep.link.frame = s.link.frame ∧
    s.passStep.link.incoming = s.link.incoming ∧
    s.passStep.link.settings = s.link.settings ∧
    s.passStep.link.backup = s.link.backup ∧
    s.passStep.link.patronCtx = s.link.patronCtx ∧
    s.passStep.link.titleCtx = s.link.titleCtx ∧
    s.passStep.records.titles = s.records.titles ∧
    s.passStep.records.loans = s.records.loans ∧
    s.passStep.records.lost = s.records.lost ∧
    s.passStep.store.banks = s.store.banks ∧
    s.passStep.store.flash = s.store.flash ∧
    s.passStep.rack.length = s.rack.length ∧
    s.passStep.mail = s.mail ∧
    s.passStep.returns = s.returns ∧
    s.passStep.calendar = s.calendar := by
  refine ⟨?_, ?_, ?_, ?_, ?_, ?_, ?_, ?_, ?_, ?_, ?_, ?_, ?_, ?_, ?_, ?_, ?_, ?_, ?_, ?_⟩ <;>
  (simp only [State.passStep]; (repeat' split) <;> simp)

@[simp] theorem answerPlanNow_frame (s : State) :
    (answerPlanNow s).2.pending = s.pending ∧
    (answerPlanNow s).2.run = s.run ∧
    (answerPlanNow s).2.drawn = s.drawn ∧
    (answerPlanNow s).2.link = s.link ∧
    (answerPlanNow s).2.records = s.records ∧
    (answerPlanNow s).2.planner.plans = s.planner.plans ∧
    (answerPlanNow s).2.planner.queue = s.planner.queue ∧
    (answerPlanNow s).2.planner.lastPlan = s.planner.lastPlan ∧
    (answerPlanNow s).2.planner.pass = s.planner.pass ∧
    (answerPlanNow s).2.planner.rerun = s.planner.rerun ∧
    (answerPlanNow s).2.store = s.store ∧
    (answerPlanNow s).2.rack = s.rack ∧
    (answerPlanNow s).2.mail = s.mail ∧
    (answerPlanNow s).2.returns = s.returns ∧
    (answerPlanNow s).2.calendar = s.calendar := by
  simp [answerPlanNow]

@[simp] theorem answerPlanGet_frame (plan : Nat) (s : State) :
    (answerPlanGet plan s).2.pending = s.pending ∧
    (answerPlanGet plan s).2.run = s.run ∧
    (answerPlanGet plan s).2.drawn = s.drawn ∧
    (answerPlanGet plan s).2.link = s.link ∧
    (answerPlanGet plan s).2.records = s.records ∧
    (answerPlanGet plan s).2.planner = s.planner ∧
    (answerPlanGet plan s).2.store = s.store ∧
    (answerPlanGet plan s).2.rack = s.rack ∧
    (answerPlanGet plan s).2.mail = s.mail ∧
    (answerPlanGet plan s).2.returns = s.returns ∧
    (answerPlanGet plan s).2.calendar = s.calendar := by
  refine ⟨?_, ?_, ?_, ?_, ?_, ?_, ?_, ?_, ?_, ?_, ?_⟩ <;>
  (simp only [answerPlanGet]; (repeat' split) <;> simp)

@[simp] theorem answerPlanCancel_frame (plan : Nat) (s : State) :
    (answerPlanCancel plan s).2.pending = s.pending ∧
    (answerPlanCancel plan s).2.run = s.run ∧
    (answerPlanCancel plan s).2.drawn = s.drawn ∧
    (answerPlanCancel plan s).2.link = s.link ∧
    (answerPlanCancel plan s).2.records.titles = s.records.titles ∧
    (answerPlanCancel plan s).2.records.loans = s.records.loans ∧
    (answerPlanCancel plan s).2.records.lost = s.records.lost ∧
    (answerPlanCancel plan s).2.planner.lastPlan = s.planner.lastPlan ∧
    (answerPlanCancel plan s).2.planner.pass = s.planner.pass ∧
    (answerPlanCancel plan s).2.planner.rerun = s.planner.rerun ∧
    (answerPlanCancel plan s).2.store.recency = s.store.recency ∧
    (answerPlanCancel plan s).2.store.fetches = s.store.fetches ∧
    (answerPlanCancel plan s).2.store.lastFetch = s.store.lastFetch ∧
    (answerPlanCancel plan s).2.store.banks.length = s.store.banks.length ∧
    (answerPlanCancel plan s).2.store.flash = s.store.flash ∧
    (answerPlanCancel plan s).2.rack.length = s.rack.length ∧
    (answerPlanCancel plan s).2.mail.lastItem = s.mail.lastItem ∧
    (answerPlanCancel plan s).2.mail.openBatch = s.mail.openBatch ∧
    (answerPlanCancel plan s).2.mail.lastBatch = s.mail.lastBatch ∧
    (answerPlanCancel plan s).2.mail.manifests = s.mail.manifests ∧
    (answerPlanCancel plan s).2.mail.alarms = s.mail.alarms ∧
    (answerPlanCancel plan s).2.mail.heldClose = s.mail.heldClose ∧
    (answerPlanCancel plan s).2.mail.waitingClose = s.mail.waitingClose ∧
    (answerPlanCancel plan s).2.returns = s.returns ∧
    (answerPlanCancel plan s).2.calendar = s.calendar := by
  refine ⟨?_, ?_, ?_, ?_, ?_, ?_, ?_, ?_, ?_, ?_, ?_, ?_, ?_, ?_, ?_, ?_, ?_, ?_, ?_, ?_, ?_, ?_, ?_, ?_, ?_⟩ <;>
  (simp only [answerPlanCancel]; (repeat' split) <;> simp)

end Sys2Proof.Machine
end

