-- ==== Sys2Proof/Laws/FramesImageStore.lean ====
section
/-!
SUPPORT. What each operation of Machine/ImageStore.lean leaves as it stands: one lemma per operation.
-/

namespace Sys2Proof.Machine

@[simp] theorem State.startStream_frame (s : State) (id : Nat) :
    (s.startStream id).pending = s.pending ∧
    (s.startStream id).run = s.run ∧
    (s.startStream id).drawn = s.drawn ∧
    (s.startStream id).link = s.link ∧
    (s.startStream id).records = s.records ∧
    (s.startStream id).planner = s.planner ∧
    (s.startStream id).store.images = s.store.images ∧
    (s.startStream id).store.recency = s.store.recency ∧
    (s.startStream id).store.lastFetch = s.store.lastFetch ∧
    (s.startStream id).store.banks = s.store.banks ∧
    (s.startStream id).store.flash = s.store.flash ∧
    (s.startStream id).rack = s.rack ∧
    (s.startStream id).mail = s.mail ∧
    (s.startStream id).returns = s.returns ∧
    (s.startStream id).calendar = s.calendar := by
  simp [State.startStream]

@[simp] theorem answerFetchNext_frame (s : State) :
    (answerFetchNext s).2.pending = s.pending ∧
    (answerFetchNext s).2.run = s.run ∧
    (answerFetchNext s).2.drawn = s.drawn ∧
    (answerFetchNext s).2.link = s.link ∧
    (answerFetchNext s).2.records = s.records ∧
    (answerFetchNext s).2.planner = s.planner ∧
    (answerFetchNext s).2.store.images = s.store.images ∧
    (answerFetchNext s).2.store.recency = s.store.recency ∧
    (answerFetchNext s).2.store.lastFetch = s.store.lastFetch ∧
    (answerFetchNext s).2.store.banks = s.store.banks ∧
    (answerFetchNext s).2.store.flash = s.store.flash ∧
    (answerFetchNext s).2.rack = s.rack ∧
    (answerFetchNext s).2.mail = s.mail ∧
    (answerFetchNext s).2.returns = s.returns ∧
    (answerFetchNext s).2.calendar = s.calendar := by
  refine ⟨?_, ?_, ?_, ?_, ?_, ?_, ?_, ?_, ?_, ?_, ?_, ?_, ?_, ?_, ?_⟩ <;>
  (simp only [answerFetchNext]; (repeat' split) <;> simp)

@[simp] theorem State.formWriting_frame (s : State) (id : Nat) (r : Reply) :
    (s.formWriting id r).pending = s.pending ∧
    (s.formWriting id r).run = s.run ∧
    (s.formWriting id r).drawn = s.drawn ∧
    (s.formWriting id r).link.pipe = s.link.pipe ∧
    (s.formWriting id r).link.frame = s.link.frame ∧
    (s.formWriting id r).link.incoming = s.link.incoming ∧
    (s.formWriting id r).link.settings = s.link.settings ∧
    (s.formWriting id r).link.backup = s.link.backup ∧
    (s.formWriting id r).link.patronCtx = s.link.patronCtx ∧
    (s.formWriting id r).link.titleCtx = s.link.titleCtx ∧
    (s.formWriting id r).link.events.enables = s.link.events.enables ∧
    (s.formWriting id r).link.events.reading = s.link.events.reading ∧
    (s.formWriting id r).records = s.records ∧
    (s.formWriting id r).planner = s.planner ∧
    (s.formWriting id r).store = s.store ∧
    (s.formWriting id r).rack = s.rack ∧
    (s.formWriting id r).mail = s.mail ∧
    (s.formWriting id r).returns = s.returns ∧
    (s.formWriting id r).calendar = s.calendar := by
  refine ⟨?_, ?_, ?_, ?_, ?_, ?_, ?_, ?_, ?_, ?_, ?_, ?_, ?_, ?_, ?_, ?_, ?_, ?_, ?_⟩ <;>
  (simp only [State.formWriting]; (repeat' split) <;> simp)

@[simp] theorem State.imageComplete_frame (s : State) (t id : Nat) :
    (s.imageComplete t id).pending = s.pending ∧
    (s.imageComplete t id).run = s.run ∧
    (s.imageComplete t id).drawn = s.drawn ∧
    (s.imageComplete t id).link = s.link ∧
    (s.imageComplete t id).records.patrons = s.records.patrons ∧
    (s.imageComplete t id).records.loans = s.records.loans ∧
    (s.imageComplete t id).records.lost = s.records.lost ∧
    (s.imageComplete t id).planner = s.planner ∧
    (s.imageComplete t id).store.lastFetch = s.store.lastFetch ∧
    (s.imageComplete t id).store.banks.length = s.store.banks.length ∧
    (s.imageComplete t id).store.flash = s.store.flash ∧
    (s.imageComplete t id).rack.length = s.rack.length ∧
    (s.imageComplete t id).mail = s.mail ∧
    (s.imageComplete t id).returns = s.returns ∧
    (s.imageComplete t id).calendar = s.calendar := by
  simp [State.imageComplete]

@[simp] theorem State.abortSlot_frame (s : State) (n : Nat) :
    (s.abortSlot n).pending = s.pending ∧
    (s.abortSlot n).run = s.run ∧
    (s.abortSlot n).drawn = s.drawn ∧
    (s.abortSlot n).link = s.link ∧
    (s.abortSlot n).records = s.records ∧
    (s.abortSlot n).planner.lastPlan = s.planner.lastPlan ∧
    (s.abortSlot n).planner.pass = s.planner.pass ∧
    (s.abortSlot n).planner.rerun = s.planner.rerun ∧
    (s.abortSlot n).planner.due = s.planner.due ∧
    (s.abortSlot n).store.images = s.store.images ∧
    (s.abortSlot n).store.recency = s.store.recency ∧
    (s.abortSlot n).store.fetches = s.store.fetches ∧
    (s.abortSlot n).store.lastFetch = s.store.lastFetch ∧
    (s.abortSlot n).store.banks.length = s.store.banks.length ∧
    (s.abortSlot n).store.flash = s.store.flash ∧
    (s.abortSlot n).rack.length = s.rack.length ∧
    (s.abortSlot n).mail = s.mail ∧
    (s.abortSlot n).returns = s.returns ∧
    (s.abortSlot n).calendar = s.calendar := by
  refine ⟨?_, ?_, ?_, ?_, ?_, ?_, ?_, ?_, ?_, ?_, ?_, ?_, ?_, ?_, ?_, ?_, ?_, ?_, ?_⟩ <;>
  (simp only [State.abortSlot]; (repeat' split) <;> simp)

@[simp] theorem State.recreateImage_frame (s : State) (t : Nat) :
    (s.recreateImage t).pending = s.pending ∧
    (s.recreateImage t).run = s.run ∧
    (s.recreateImage t).drawn = s.drawn ∧
    (s.recreateImage t).link = s.link ∧
    (s.recreateImage t).records = s.records ∧
    (s.recreateImage t).planner = s.planner ∧
    (s.recreateImage t).store.recency = s.store.recency ∧
    (s.recreateImage t).store.fetches = s.store.fetches ∧
    (s.recreateImage t).store.lastFetch = s.store.lastFetch ∧
    (s.recreateImage t).store.banks = s.store.banks ∧
    (s.recreateImage t).store.flash = s.store.flash ∧
    (s.recreateImage t).rack = s.rack ∧
    (s.recreateImage t).mail = s.mail ∧
    (s.recreateImage t).returns = s.returns ∧
    (s.recreateImage t).calendar = s.calendar := by
  refine ⟨?_, ?_, ?_, ?_, ?_, ?_, ?_, ?_, ?_, ?_, ?_, ?_, ?_, ?_, ?_⟩ <;>
  (simp only [State.recreateImage]; (repeat' split) <;> simp)

@[simp] theorem State.requeueFetch_frame (s : State) (id : Nat) :
    (s.requeueFetch id).pending = s.pending ∧
    (s.requeueFetch id).run = s.run ∧
    (s.requeueFetch id).drawn = s.drawn ∧
    (s.requeueFetch id).link.queue = s.link.queue ∧
    (s.requeueFetch id).link.pipe = s.link.pipe ∧
    (s.requeueFetch id).link.frame = s.link.frame ∧
    (s.requeueFetch id).link.incoming = s.link.incoming ∧
    (s.requeueFetch id).link.settings = s.link.settings ∧
    (s.requeueFetch id).link.backup = s.link.backup ∧
    (s.requeueFetch id).link.patronCtx = s.link.patronCtx ∧
    (s.requeueFetch id).link.titleCtx = s.link.titleCtx ∧
    (s.requeueFetch id).records = s.records ∧
    (s.requeueFetch id).planner = s.planner ∧
    (s.requeueFetch id).store.images = s.store.images ∧
    (s.requeueFetch id).store.recency = s.store.recency ∧
    (s.requeueFetch id).store.lastFetch = s.store.lastFetch ∧
    (s.requeueFetch id).store.banks = s.store.banks ∧
    (s.requeueFetch id).store.flash = s.store.flash ∧
    (s.requeueFetch id).rack = s.rack ∧
    (s.requeueFetch id).mail = s.mail ∧
    (s.requeueFetch id).returns = s.returns ∧
    (s.requeueFetch id).calendar = s.calendar := by
  refine ⟨?_, ?_, ?_, ?_, ?_, ?_, ?_, ?_, ?_, ?_, ?_, ?_, ?_, ?_, ?_, ?_, ?_, ?_, ?_, ?_, ?_, ?_⟩ <;>
  (simp only [State.requeueFetch]; (repeat' split) <;> simp)

@[simp] theorem State.stopReading_frame (s : State) (t n : Nat) :
    (s.stopReading t n).pending = s.pending ∧
    (s.stopReading t n).run = s.run ∧
    (s.stopReading t n).drawn = s.drawn ∧
    (s.stopReading t n).link = s.link ∧
    (s.stopReading t n).records = s.records ∧
    (s.stopReading t n).planner = s.planner ∧
    (s.stopReading t n).store.images = s.store.images ∧
    (s.stopReading t n).store.recency = s.store.recency ∧
    (s.stopReading t n).store.fetches = s.store.fetches ∧
    (s.stopReading t n).store.lastFetch = s.store.lastFetch ∧
    (s.stopReading t n).store.banks.length = s.store.banks.length ∧
    (s.stopReading t n).store.flash = s.store.flash ∧
    (s.stopReading t n).rack.length = s.rack.length ∧
    (s.stopReading t n).mail = s.mail ∧
    (s.stopReading t n).returns = s.returns ∧
    (s.stopReading t n).calendar = s.calendar := by
  refine ⟨?_, ?_, ?_, ?_, ?_, ?_, ?_, ?_, ?_, ?_, ?_, ?_, ?_, ?_, ?_, ?_⟩ <;>
  (simp only [State.stopReading]; (repeat' split) <;> simp)

@[simp] theorem State.imageMismatch_frame (s : State) (t id : Nat) :
    (s.imageMismatch t id).pending = s.pending ∧
    (s.imageMismatch t id).run = s.run ∧
    (s.imageMismatch t id).drawn = s.drawn ∧
    (s.imageMismatch t id).link.queue = s.link.queue ∧
    (s.imageMismatch t id).link.pipe = s.link.pipe ∧
    (s.imageMismatch t id).link.frame = s.link.frame ∧
    (s.imageMismatch t id).link.incoming = s.link.incoming ∧
    (s.imageMismatch t id).link.settings = s.link.settings ∧
    (s.imageMismatch t id).link.backup = s.link.backup ∧
    (s.imageMismatch t id).link.patronCtx = s.link.patronCtx ∧
    (s.imageMismatch t id).link.titleCtx = s.link.titleCtx ∧
    (s.imageMismatch t id).records.loans = s.records.loans ∧
    (s.imageMismatch t id).records.lost = s.records.lost ∧
    (s.imageMismatch t id).planner.lastPlan = s.planner.lastPlan ∧
    (s.imageMismatch t id).planner.pass = s.planner.pass ∧
    (s.imageMismatch t id).planner.rerun = s.planner.rerun ∧
    (s.imageMismatch t id).store.recency = s.store.recency ∧
    (s.imageMismatch t id).store.lastFetch = s.store.lastFetch ∧
    (s.imageMismatch t id).store.banks.length = s.store.banks.length ∧
    (s.imageMismatch t id).store.flash = s.store.flash ∧
    (s.imageMismatch t id).rack.length = s.rack.length ∧
    (s.imageMismatch t id).mail = s.mail ∧
    (s.imageMismatch t id).returns = s.returns ∧
    (s.imageMismatch t id).calendar = s.calendar := by
  refine ⟨?_, ?_, ?_, ?_, ?_, ?_, ?_, ?_, ?_, ?_, ?_, ?_, ?_, ?_, ?_, ?_, ?_, ?_, ?_, ?_, ?_, ?_, ?_, ?_⟩ <;>
  (simp only [State.imageMismatch]; (repeat' split) <;> simp)

@[simp] theorem State.failPlans_frame (s : State) (plans : List Nat) :
    (s.failPlans plans).pending = s.pending ∧
    (s.failPlans plans).run = s.run ∧
    (s.failPlans plans).drawn = s.drawn ∧
    (s.failPlans plans).link.queue = s.link.queue ∧
    (s.failPlans plans).link.pipe = s.link.pipe ∧
    (s.failPlans plans).link.frame = s.link.frame ∧
    (s.failPlans plans).link.incoming = s.link.incoming ∧
    (s.failPlans plans).link.settings = s.link.settings ∧
    (s.failPlans plans).link.backup = s.link.backup ∧
    (s.failPlans plans).link.patronCtx = s.link.patronCtx ∧
    (s.failPlans plans).link.titleCtx = s.link.titleCtx ∧
    (s.failPlans plans).records.titles = s.records.titles ∧
    (s.failPlans plans).records.loans = s.records.loans ∧
    (s.failPlans plans).records.lost = s.records.lost ∧
    (s.failPlans plans).planner.lastPlan = s.planner.lastPlan ∧
    (s.failPlans plans).planner.pass = s.planner.pass ∧
    (s.failPlans plans).planner.rerun = s.planner.rerun ∧
    (s.failPlans plans).store.recency = s.store.recency ∧
    (s.failPlans plans).store.fetches = s.store.fetches ∧
    (s.failPlans plans).store.lastFetch = s.store.lastFetch ∧
    (s.failPlans plans).store.banks.length = s.store.banks.length ∧
    (s.failPlans plans).store.flash = s.store.flash ∧
    (s.failPlans plans).rack.length = s.rack.length ∧
    (s.failPlans plans).mail.lastItem = s.mail.lastItem ∧
    (s.failPlans plans).mail.openBatch = s.mail.openBatch ∧
    (s.failPlans plans).mail.lastBatch = s.mail.lastBatch ∧
    (s.failPlans plans).mail.manifests = s.mail.manifests ∧
    (s.failPlans plans).mail.alarms = s.mail.alarms ∧
    (s.failPlans plans).mail.heldClose = s.mail.heldClose ∧
    (s.failPlans plans).mail.waitingClose = s.mail.waitingClose ∧
    (s.failPlans plans).returns = s.returns ∧
    (s.failPlans plans).calendar = s.calendar := by
  refine ⟨?_, ?_, ?_, ?_, ?_, ?_, ?_, ?_, ?_, ?_, ?_, ?_, ?_, ?_, ?_, ?_, ?_, ?_, ?_, ?_, ?_, ?_, ?_, ?_, ?_, ?_, ?_, ?_, ?_, ?_, ?_, ?_⟩ <;>
  (simp only [State.failPlans]; (repeat' split) <;> simp)

@[simp] theorem State.imageBad_frame (s : State) (t id failures : Nat) :
    (s.imageBad t id failures).pending = s.pending ∧
    (s.imageBad t id failures).run = s.run ∧
    (s.imageBad t id failures).drawn = s.drawn ∧
    (s.imageBad t id failures).link.queue = s.link.queue ∧
    (s.imageBad t id failures).link.pipe = s.link.pipe ∧
    (s.imageBad t id failures).link.frame = s.link.frame ∧
    (s.imageBad t id failures).link.incoming = s.link.incoming ∧
    (s.imageBad t id failures).link.settings = s.link.settings ∧
    (s.imageBad t id failures).link.backup = s.link.backup ∧
    (s.imageBad t id failures).link.patronCtx = s.link.patronCtx ∧
    (s.imageBad t id failures).link.titleCtx = s.link.titleCtx ∧
    (s.imageBad t id failures).records.loans = s.records.loans ∧
    (s.imageBad t id failures).records.lost = s.records.lost ∧
    (s.imageBad t id failures).planner.lastPlan = s.planner.lastPlan ∧
    (s.imageBad t id failures).planner.pass = s.planner.pass ∧
    (s.imageBad t id failures).planner.rerun = s.planner.rerun ∧
    (s.imageBad t id failures).store.lastFetch = s.store.lastFetch ∧
    (s.imageBad t id failures).store.banks.length = s.store.banks.length ∧
    (s.imageBad t id failures).store.flash = s.store.flash ∧
    (s.imageBad t id failures).rack.length = s.rack.length ∧
    (s.imageBad t id failures).mail.lastItem = s.mail.lastItem ∧
    (s.imageBad t id failures).mail.openBatch = s.mail.openBatch ∧
    (s.imageBad t id failures).mail.lastBatch = s.mail.lastBatch ∧
    (s.imageBad t id failures).mail.manifests = s.mail.manifests ∧
    (s.imageBad t id failures).mail.alarms = s.mail.alarms ∧
    (s.imageBad t id failures).mail.heldClose = s.mail.heldClose ∧
    (s.imageBad t id failures).mail.waitingClose = s.mail.waitingClose ∧
    (s.imageBad t id failures).returns = s.returns ∧
    (s.imageBad t id failures).calendar = s.calendar := by
  simp [State.imageBad]

@[simp] theorem State.storeFrame_frame (s : State) (f : FillOp) :
    (s.storeFrame f).pending = s.pending ∧
    (s.storeFrame f).run = s.run ∧
    (s.storeFrame f).drawn = s.drawn ∧
    (s.storeFrame f).link = s.link ∧
    (s.storeFrame f).records = s.records ∧
    (s.storeFrame f).planner = s.planner ∧
    (s.storeFrame f).store.images = s.store.images ∧
    (s.storeFrame f).store.recency = s.store.recency ∧
    (s.storeFrame f).store.fetches = s.store.fetches ∧
    (s.storeFrame f).store.lastFetch = s.store.lastFetch ∧
    (s.storeFrame f).store.banks = s.store.banks ∧
    (s.storeFrame f).rack = s.rack ∧
    (s.storeFrame f).mail = s.mail ∧
    (s.storeFrame f).returns = s.returns ∧
    (s.storeFrame f).calendar = s.calendar := by
  simp [State.storeFrame]

@[simp] theorem State.countFrame_frame (s : State) (f : FillOp) :
    (s.countFrame f).pending = s.pending ∧
    (s.countFrame f).run = s.run ∧
    (s.countFrame f).drawn = s.drawn ∧
    (s.countFrame f).link = s.link ∧
    (s.countFrame f).records = s.records ∧
    (s.countFrame f).planner = s.planner ∧
    (s.countFrame f).store.recency = s.store.recency ∧
    (s.countFrame f).store.lastFetch = s.store.lastFetch ∧
    (s.countFrame f).store.banks = s.store.banks ∧
    (s.countFrame f).store.flash = s.store.flash ∧
    (s.countFrame f).rack = s.rack ∧
    (s.countFrame f).mail = s.mail ∧
    (s.countFrame f).returns = s.returns ∧
    (s.countFrame f).calendar = s.calendar := by
  simp [State.countFrame]

@[simp] theorem State.afterFrame_frame (s : State) (f : FillOp) (g : Fetch) :
    (s.afterFrame f g).pending = s.pending ∧
    (s.afterFrame f g).run = s.run ∧
    (s.afterFrame f g).drawn = s.drawn ∧
    (s.afterFrame f g).link.pipe = s.link.pipe ∧
    (s.afterFrame f g).link.frame = s.link.frame ∧
    (s.afterFrame f g).link.incoming = s.link.incoming ∧
    (s.afterFrame f g).link.settings = s.link.settings ∧
    (s.afterFrame f g).link.backup = s.link.backup ∧
    (s.afterFrame f g).link.patronCtx = s.link.patronCtx ∧
    (s.afterFrame f g).link.titleCtx = s.link.titleCtx ∧
    (s.afterFrame f g).records.loans = s.records.loans ∧
    (s.afterFrame f g).records.lost = s.records.lost ∧
    (s.afterFrame f g).planner.lastPlan = s.planner.lastPlan ∧
    (s.afterFrame f g).planner.pass = s.planner.pass ∧
    (s.afterFrame f g).planner.rerun = s.planner.rerun ∧
    (s.afterFrame f g).store.lastFetch = s.store.lastFetch ∧
    (s.afterFrame f g).store.banks.length = s.store.banks.length ∧
    (s.afterFrame f g).store.flash = s.store.flash ∧
    (s.afterFrame f g).rack.length = s.rack.length ∧
    (s.afterFrame f g).mail.lastItem = s.mail.lastItem ∧
    (s.afterFrame f g).mail.openBatch = s.mail.openBatch ∧
    (s.afterFrame f g).mail.lastBatch = s.mail.lastBatch ∧
    (s.afterFrame f g).mail.manifests = s.mail.manifests ∧
    (s.afterFrame f g).mail.alarms = s.mail.alarms ∧
    (s.afterFrame f g).mail.heldClose = s.mail.heldClose ∧
    (s.afterFrame f g).mail.waitingClose = s.mail.waitingClose ∧
    (s.afterFrame f g).returns = s.returns ∧
    (s.afterFrame f g).calendar = s.calendar := by
  refine ⟨?_, ?_, ?_, ?_, ?_, ?_, ?_, ?_, ?_, ?_, ?_, ?_, ?_, ?_, ?_, ?_, ?_, ?_, ?_, ?_, ?_, ?_, ?_, ?_, ?_, ?_, ?_, ?_⟩ <;>
  (simp only [State.afterFrame]; (repeat' split) <;> simp)

@[simp] theorem State.fillComplete_frame (s : State) (b : Nat) (f : FillOp) :
    (s.fillComplete b f).pending = s.pending ∧
    (s.fillComplete b f).run = s.run ∧
    (s.fillComplete b f).drawn = s.drawn ∧
    (s.fillComplete b f).link.pipe = s.link.pipe ∧
    (s.fillComplete b f).link.frame = s.link.frame ∧
    (s.fillComplete b f).link.incoming = s.link.incoming ∧
    (s.fillComplete b f).link.settings = s.link.settings ∧
    (s.fillComplete b f).link.backup = s.link.backup ∧
    (s.fillComplete b f).link.patronCtx = s.link.patronCtx ∧
    (s.fillComplete b f).link.titleCtx = s.link.titleCtx ∧
    (s.fillComplete b f).records.loans = s.records.loans ∧
    (s.fillComplete b f).records.lost = s.records.lost ∧
    (s.fillComplete b f).planner.lastPlan = s.planner.lastPlan ∧
    (s.fillComplete b f).planner.pass = s.planner.pass ∧
    (s.fillComplete b f).planner.rerun = s.planner.rerun ∧
    (s.fillComplete b f).store.lastFetch = s.store.lastFetch ∧
    (s.fillComplete b f).store.banks.length = s.store.banks.length ∧
    (s.fillComplete b f).rack.length = s.rack.length ∧
    (s.fillComplete b f).mail.lastItem = s.mail.lastItem ∧
    (s.fillComplete b f).mail.openBatch = s.mail.openBatch ∧
    (s.fillComplete b f).mail.lastBatch = s.mail.lastBatch ∧
    (s.fillComplete b f).mail.manifests = s.mail.manifests ∧
    (s.fillComplete b f).mail.alarms = s.mail.alarms ∧
    (s.fillComplete b f).mail.heldClose = s.mail.heldClose ∧
    (s.fillComplete b f).mail.waitingClose = s.mail.waitingClose ∧
    (s.fillComplete b f).returns = s.returns ∧
    (s.fillComplete b f).calendar = s.calendar := by
  refine ⟨?_, ?_, ?_, ?_, ?_, ?_, ?_, ?_, ?_, ?_, ?_, ?_, ?_, ?_, ?_, ?_, ?_, ?_, ?_, ?_, ?_, ?_, ?_, ?_, ?_, ?_, ?_⟩ <;>
  (simp only [State.fillComplete]; (repeat' split) <;> simp)

@[simp] theorem State.deliver_frame (s : State) (r : ReadOp) :
    (s.deliver r).pending = s.pending ∧
    (s.deliver r).run = s.run ∧
    (s.deliver r).drawn = s.drawn ∧
    (s.deliver r).link = s.link ∧
    (s.deliver r).records = s.records ∧
    (s.deliver r).planner = s.planner ∧
    (s.deliver r).store.images = s.store.images ∧
    (s.deliver r).store.recency = s.store.recency ∧
    (s.deliver r).store.fetches = s.store.fetches ∧
    (s.deliver r).store.lastFetch = s.store.lastFetch ∧
    (s.deliver r).store.banks.length = s.store.banks.length ∧
    (s.deliver r).store.flash = s.store.flash ∧
    (s.deliver r).rack.length = s.rack.length ∧
    (s.deliver r).mail = s.mail ∧
    (s.deliver r).returns = s.returns ∧
    (s.deliver r).calendar = s.calendar := by
  simp [State.deliver]

@[simp] theorem State.discardRead_frame (s : State) (n : Nat) :
    (s.discardRead n).pending = s.pending ∧
    (s.discardRead n).run = s.run ∧
    (s.discardRead n).drawn = s.drawn ∧
    (s.discardRead n).link = s.link ∧
    (s.discardRead n).records = s.records ∧
    (s.discardRead n).planner.lastPlan = s.planner.lastPlan ∧
    (s.discardRead n).planner.pass = s.planner.pass ∧
    (s.discardRead n).planner.rerun = s.planner.rerun ∧
    (s.discardRead n).store = s.store ∧
    (s.discardRead n).rack.length = s.rack.length ∧
    (s.discardRead n).mail = s.mail ∧
    (s.discardRead n).returns = s.returns ∧
    (s.discardRead n).calendar = s.calendar := by
  refine ⟨?_, ?_, ?_, ?_, ?_, ?_, ?_, ?_, ?_, ?_, ?_, ?_, ?_⟩ <;>
  (simp only [State.discardRead]; (repeat' split) <;> simp)

@[simp] theorem State.readComplete_frame (s : State) (b : Nat) (r : ReadOp) :
    (s.readComplete b r).pending = s.pending ∧
    (s.readComplete b r).run = s.run ∧
    (s.readComplete b r).drawn = s.drawn ∧
    (s.readComplete b r).link = s.link ∧
    (s.readComplete b r).records = s.records ∧
    (s.readComplete b r).planner.lastPlan = s.planner.lastPlan ∧
    (s.readComplete b r).planner.pass = s.planner.pass ∧
    (s.readComplete b r).planner.rerun = s.planner.rerun ∧
    (s.readComplete b r).store.images = s.store.images ∧
    (s.readComplete b r).store.recency = s.store.recency ∧
    (s.readComplete b r).store.fetches = s.store.fetches ∧
    (s.readComplete b r).store.lastFetch = s.store.lastFetch ∧
    (s.readComplete b r).store.banks.length = s.store.banks.length ∧
    (s.readComplete b r).store.flash = s.store.flash ∧
    (s.readComplete b r).rack.length = s.rack.length ∧
    (s.readComplete b r).mail = s.mail ∧
    (s.readComplete b r).returns = s.returns ∧
    (s.readComplete b r).calendar = s.calendar := by
  refine ⟨?_, ?_, ?_, ?_, ?_, ?_, ?_, ?_, ?_, ?_, ?_, ?_, ?_, ?_, ?_, ?_, ?_, ?_⟩ <;>
  (simp only [State.readComplete]; (repeat' split) <;> simp)

@[simp] theorem answerFetchAbandon_frame (fetch : Nat) (s : State) :
    (answerFetchAbandon fetch s).2.pending = s.pending ∧
    (answerFetchAbandon fetch s).2.run = s.run ∧
    (answerFetchAbandon fetch s).2.drawn = s.drawn ∧
    (answerFetchAbandon fetch s).2.link.pipe = s.link.pipe ∧
    (answerFetchAbandon fetch s).2.link.frame = s.link.frame ∧
    (answerFetchAbandon fetch s).2.link.incoming = s.link.incoming ∧
    (answerFetchAbandon fetch s).2.link.settings = s.link.settings ∧
    (answerFetchAbandon fetch s).2.link.backup = s.link.backup ∧
    (answerFetchAbandon fetch s).2.link.patronCtx = s.link.patronCtx ∧
    (answerFetchAbandon fetch s).2.link.titleCtx = s.link.titleCtx ∧
    (answerFetchAbandon fetch s).2.records.loans = s.records.loans ∧
    (answerFetchAbandon fetch s).2.records.lost = s.records.lost ∧
    (answerFetchAbandon fetch s).2.planner.lastPlan = s.planner.lastPlan ∧
    (answerFetchAbandon fetch s).2.planner.pass = s.planner.pass ∧
    (answerFetchAbandon fetch s).2.planner.rerun = s.planner.rerun ∧
    (answerFetchAbandon fetch s).2.store.lastFetch = s.store.lastFetch ∧
    (answerFetchAbandon fetch s).2.store.banks.length = s.store.banks.length ∧
    (answerFetchAbandon fetch s).2.store.flash = s.store.flash ∧
    (answerFetchAbandon fetch s).2.rack.length = s.rack.length ∧
    (answerFetchAbandon fetch s).2.mail.lastItem = s.mail.lastItem ∧
    (answerFetchAbandon fetch s).2.mail.openBatch = s.mail.openBatch ∧
    (answerFetchAbandon fetch s).2.mail.lastBatch = s.mail.lastBatch ∧
    (answerFetchAbandon fetch s).2.mail.manifests = s.mail.manifests ∧
    (answerFetchAbandon fetch s).2.mail.alarms = s.mail.alarms ∧
    (answerFetchAbandon fetch s).2.mail.heldClose = s.mail.heldClose ∧
    (answerFetchAbandon fetch s).2.mail.waitingClose = s.mail.waitingClose ∧
    (answerFetchAbandon fetch s).2.returns = s.returns ∧
    (answerFetchAbandon fetch s).2.calendar = s.calendar := by
  refine ⟨?_, ?_, ?_, ?_, ?_, ?_, ?_, ?_, ?_, ?_, ?_, ?_, ?_, ?_, ?_, ?_, ?_, ?_, ?_, ?_, ?_, ?_, ?_, ?_, ?_, ?_, ?_, ?_⟩ <;>
  (simp only [answerFetchAbandon]; (repeat' split) <;> simp)

@[simp] theorem answerPreload_frame (title : Nat) (s : State) :
    (answerPreload title s).2.pending = s.pending ∧
    (answerPreload title s).2.run = s.run ∧
    (answerPreload title s).2.drawn = s.drawn ∧
    (answerPreload title s).2.link.queue = s.link.queue ∧
    (answerPreload title s).2.link.pipe = s.link.pipe ∧
    (answerPreload title s).2.link.frame = s.link.frame ∧
    (answerPreload title s).2.link.incoming = s.link.incoming ∧
    (answerPreload title s).2.link.settings = s.link.settings ∧
    (answerPreload title s).2.link.backup = s.link.backup ∧
    (answerPreload title s).2.link.patronCtx = s.link.patronCtx ∧
    (answerPreload title s).2.records.titles = s.records.titles ∧
    (answerPreload title s).2.records.loans = s.records.loans ∧
    (answerPreload title s).2.records.lost = s.records.lost ∧
    (answerPreload title s).2.planner.plans = s.planner.plans ∧
    (answerPreload title s).2.planner.queue = s.planner.queue ∧
    (answerPreload title s).2.planner.lastPlan = s.planner.lastPlan ∧
    (answerPreload title s).2.planner.pass = s.planner.pass ∧
    (answerPreload title s).2.planner.rerun = s.planner.rerun ∧
    (answerPreload title s).2.store.banks = s.store.banks ∧
    (answerPreload title s).2.store.flash = s.store.flash ∧
    (answerPreload title s).2.rack = s.rack ∧
    (answerPreload title s).2.mail = s.mail ∧
    (answerPreload title s).2.returns = s.returns ∧
    (answerPreload title s).2.calendar = s.calendar := by
  refine ⟨?_, ?_, ?_, ?_, ?_, ?_, ?_, ?_, ?_, ?_, ?_, ?_, ?_, ?_, ?_, ?_, ?_, ?_, ?_, ?_, ?_, ?_, ?_, ?_⟩ <;>
  (simp only [answerPreload]; (repeat' split) <;> simp)

@[simp] theorem answerImageDrop_frame (title : Nat) (s : State) :
    (answerImageDrop title s).2.pending = s.pending ∧
    (answerImageDrop title s).2.run = s.run ∧
    (answerImageDrop title s).2.drawn = s.drawn ∧
    (answerImageDrop title s).2.link.queue = s.link.queue ∧
    (answerImageDrop title s).2.link.pipe = s.link.pipe ∧
    (answerImageDrop title s).2.link.frame = s.link.frame ∧
    (answerImageDrop title s).2.link.incoming = s.link.incoming ∧
    (answerImageDrop title s).2.link.settings = s.link.settings ∧
    (answerImageDrop title s).2.link.backup = s.link.backup ∧
    (answerImageDrop title s).2.link.patronCtx = s.link.patronCtx ∧
    (answerImageDrop title s).2.link.events.enables = s.link.events.enables ∧
    (answerImageDrop title s).2.link.events.reading = s.link.events.reading ∧
    (answerImageDrop title s).2.records.titles = s.records.titles ∧
    (answerImageDrop title s).2.records.loans = s.records.loans ∧
    (answerImageDrop title s).2.records.lost = s.records.lost ∧
    (answerImageDrop title s).2.planner.plans = s.planner.plans ∧
    (answerImageDrop title s).2.planner.queue = s.planner.queue ∧
    (answerImageDrop title s).2.planner.lastPlan = s.planner.lastPlan ∧
    (answerImageDrop title s).2.planner.pass = s.planner.pass ∧
    (answerImageDrop title s).2.planner.rerun = s.planner.rerun ∧
    (answerImageDrop title s).2.store.fetches = s.store.fetches ∧
    (answerImageDrop title s).2.store.lastFetch = s.store.lastFetch ∧
    (answerImageDrop title s).2.store.banks = s.store.banks ∧
    (answerImageDrop title s).2.store.flash = s.store.flash ∧
    (answerImageDrop title s).2.rack = s.rack ∧
    (answerImageDrop title s).2.mail = s.mail ∧
    (answerImageDrop title s).2.returns = s.returns ∧
    (answerImageDrop title s).2.calendar = s.calendar := by
  refine ⟨?_, ?_, ?_, ?_, ?_, ?_, ?_, ?_, ?_, ?_, ?_, ?_, ?_, ?_, ?_, ?_, ?_, ?_, ?_, ?_, ?_, ?_, ?_, ?_, ?_, ?_, ?_, ?_⟩ <;>
  (simp only [answerImageDrop]; (repeat' split) <;> simp)

end Sys2Proof.Machine
end

