-- ==== Sys2Proof/Laws/FramesRack.lean ====
section
/-!
SUPPORT. What each operation of Machine/Rack.lean leaves as it stands: one lemma per operation.
-/

namespace Sys2Proof.Machine

@[simp] theorem State.insertCartridge_frame (s : State) (n : Nat) :
    (s.insertCartridge n).pending = s.pending ∧
    (s.insertCartridge n).run = s.run ∧
    (s.insertCartridge n).drawn = s.drawn ∧
    (s.insertCartridge n).link = s.link ∧
    (s.insertCartridge n).records = s.records ∧
    (s.insertCartridge n).planner = s.planner ∧
    (s.insertCartridge n).store = s.store ∧
    (s.insertCartridge n).rack.length = s.rack.length ∧
    (s.insertCartridge n).mail = s.mail ∧
    (s.insertCartridge n).returns = s.returns ∧
    (s.insertCartridge n).calendar = s.calendar := by
  refine ⟨?_, ?_, ?_, ?_, ?_, ?_, ?_, ?_, ?_, ?_, ?_⟩ <;>
  (simp only [State.insertCartridge]; (repeat' split) <;> simp)

@[simp] theorem State.setPresent_frame (s : State) (n : Nat) (present : Bool) :
    (s.setPresent n present).pending = s.pending ∧
    (s.setPresent n present).run = s.run ∧
    (s.setPresent n present).drawn = s.drawn ∧
    (s.setPresent n present).link = s.link ∧
    (s.setPresent n present).records = s.records ∧
    (s.setPresent n present).planner = s.planner ∧
    (s.setPresent n present).store = s.store ∧
    (s.setPresent n present).rack.length = s.rack.length ∧
    (s.setPresent n present).mail = s.mail ∧
    (s.setPresent n present).returns = s.returns ∧
    (s.setPresent n present).calendar = s.calendar := by
  simp [State.setPresent]

@[simp] theorem State.identityRead_frame (s : State) (n : Nat) (i : Option Identity) :
    (s.identityRead n i).pending = s.pending ∧
    (s.identityRead n i).run = s.run ∧
    (s.identityRead n i).drawn = s.drawn ∧
    (s.identityRead n i).link.queue = s.link.queue ∧
    (s.identityRead n i).link.pipe = s.link.pipe ∧
    (s.identityRead n i).link.frame = s.link.frame ∧
    (s.identityRead n i).link.incoming = s.link.incoming ∧
    (s.identityRead n i).link.settings = s.link.settings ∧
    (s.identityRead n i).link.backup = s.link.backup ∧
    (s.identityRead n i).link.patronCtx = s.link.patronCtx ∧
    (s.identityRead n i).link.titleCtx = s.link.titleCtx ∧
    (s.identityRead n i).records.titles = s.records.titles ∧
    (s.identityRead n i).records.loans = s.records.loans ∧
    (s.identityRead n i).records.lost = s.records.lost ∧
    (s.identityRead n i).planner.lastPlan = s.planner.lastPlan ∧
    (s.identityRead n i).planner.pass = s.planner.pass ∧
    (s.identityRead n i).planner.rerun = s.planner.rerun ∧
    (s.identityRead n i).store.recency = s.store.recency ∧
    (s.identityRead n i).store.fetches = s.store.fetches ∧
    (s.identityRead n i).store.lastFetch = s.store.lastFetch ∧
    (s.identityRead n i).store.banks.length = s.store.banks.length ∧
    (s.identityRead n i).store.flash = s.store.flash ∧
    (s.identityRead n i).rack.length = s.rack.length ∧
    (s.identityRead n i).mail.lastItem = s.mail.lastItem ∧
    (s.identityRead n i).mail.openBatch = s.mail.openBatch ∧
    (s.identityRead n i).mail.lastBatch = s.mail.lastBatch ∧
    (s.identityRead n i).mail.manifests = s.mail.manifests ∧
    (s.identityRead n i).mail.alarms = s.mail.alarms ∧
    (s.identityRead n i).mail.heldClose = s.mail.heldClose ∧
    (s.identityRead n i).mail.waitingClose = s.mail.waitingClose ∧
    (s.identityRead n i).returns = s.returns ∧
    (s.identityRead n i).calendar = s.calendar := by
  refine ⟨?_, ?_, ?_, ?_, ?_, ?_, ?_, ?_, ?_, ?_, ?_, ?_, ?_, ?_, ?_, ?_, ?_, ?_, ?_, ?_, ?_, ?_, ?_, ?_, ?_, ?_, ?_, ?_, ?_, ?_, ?_, ?_⟩ <;>
  (simp only [State.identityRead]; (repeat' split) <;> simp)

@[simp] theorem State.identifyAs_frame (s : State) (n : Nat) (m : Marker) (plan last : Nat) :
    (s.identifyAs n m plan last).pending = s.pending ∧
    (s.identifyAs n m plan last).run = s.run ∧
    (s.identifyAs n m plan last).drawn = s.drawn ∧
    (s.identifyAs n m plan last).link.queue = s.link.queue ∧
    (s.identifyAs n m plan last).link.pipe = s.link.pipe ∧
    (s.identifyAs n m plan last).link.frame = s.link.frame ∧
    (s.identifyAs n m plan last).link.incoming = s.link.incoming ∧
    (s.identifyAs n m plan last).link.settings = s.link.settings ∧
    (s.identifyAs n m plan last).link.backup = s.link.backup ∧
    (s.identifyAs n m plan last).link.patronCtx = s.link.patronCtx ∧
    (s.identifyAs n m plan last).link.titleCtx = s.link.titleCtx ∧
    (s.identifyAs n m plan last).records.titles = s.records.titles ∧
    (s.identifyAs n m plan last).records.loans = s.records.loans ∧
    (s.identifyAs n m plan last).planner.lastPlan = s.planner.lastPlan ∧
    (s.identifyAs n m plan last).planner.pass = s.planner.pass ∧
    (s.identifyAs n m plan last).planner.rerun = s.planner.rerun ∧
    (s.identifyAs n m plan last).store.recency = s.store.recency ∧
    (s.identifyAs n m plan last).store.fetches = s.store.fetches ∧
    (s.identifyAs n m plan last).store.lastFetch = s.store.lastFetch ∧
    (s.identifyAs n m plan last).store.banks.length = s.store.banks.length ∧
    (s.identifyAs n m plan last).store.flash = s.store.flash ∧
    (s.identifyAs n m plan last).rack.length = s.rack.length ∧
    (s.identifyAs n m plan last).mail.lastItem = s.mail.lastItem ∧
    (s.identifyAs n m plan last).mail.openBatch = s.mail.openBatch ∧
    (s.identifyAs n m plan last).mail.lastBatch = s.mail.lastBatch ∧
    (s.identifyAs n m plan last).mail.manifests = s.mail.manifests ∧
    (s.identifyAs n m plan last).mail.alarms = s.mail.alarms ∧
    (s.identifyAs n m plan last).mail.heldClose = s.mail.heldClose ∧
    (s.identifyAs n m plan last).mail.waitingClose = s.mail.waitingClose ∧
    (s.identifyAs n m plan last).returns.present = s.returns.present ∧
    (s.identifyAs n m plan last).returns.reader = s.returns.reader ∧
    (s.identifyAs n m plan last).returns.identifying = s.returns.identifying ∧
    (s.identifyAs n m plan last).returns.removed = s.returns.removed ∧
    (s.identifyAs n m plan last).returns.pending = s.returns.pending ∧
    (s.identifyAs n m plan last).returns.result = s.returns.result ∧
    (s.identifyAs n m plan last).calendar = s.calendar := by
  refine ⟨?_, ?_, ?_, ?_, ?_, ?_, ?_, ?_, ?_, ?_, ?_, ?_, ?_, ?_, ?_, ?_, ?_, ?_, ?_, ?_, ?_, ?_, ?_, ?_, ?_, ?_, ?_, ?_, ?_, ?_, ?_, ?_, ?_, ?_, ?_, ?_⟩ <;>
  (simp only [State.identifyAs]; (repeat' split) <;> simp)

@[simp] theorem State.identPage_frame (s : State) (n : Nat) (ok : Bool) (page : List Byte) :
    (s.identPage n ok page).pending = s.pending ∧
    (s.identPage n ok page).run = s.run ∧
    (s.identPage n ok page).drawn = s.drawn ∧
    (s.identPage n ok page).link.queue = s.link.queue ∧
    (s.identPage n ok page).link.pipe = s.link.pipe ∧
    (s.identPage n ok page).link.frame = s.link.frame ∧
    (s.identPage n ok page).link.incoming = s.link.incoming ∧
    (s.identPage n ok page).link.settings = s.link.settings ∧
    (s.identPage n ok page).link.backup = s.link.backup ∧
    (s.identPage n ok page).link.patronCtx = s.link.patronCtx ∧
    (s.identPage n ok page).link.titleCtx = s.link.titleCtx ∧
    (s.identPage n ok page).records.titles = s.records.titles ∧
    (s.identPage n ok page).records.loans = s.records.loans ∧
    (s.identPage n ok page).planner.lastPlan = s.planner.lastPlan ∧
    (s.identPage n ok page).planner.pass = s.planner.pass ∧
    (s.identPage n ok page).planner.rerun = s.planner.rerun ∧
    (s.identPage n ok page).store.recency = s.store.recency ∧
    (s.identPage n ok page).store.fetches = s.store.fetches ∧
    (s.identPage n ok page).store.lastFetch = s.store.lastFetch ∧
    (s.identPage n ok page).store.banks.length = s.store.banks.length ∧
    (s.identPage n ok page).store.flash = s.store.flash ∧
    (s.identPage n ok page).rack.length = s.rack.length ∧
    (s.identPage n ok page).mail.lastItem = s.mail.lastItem ∧
    (s.identPage n ok page).mail.openBatch = s.mail.openBatch ∧
    (s.identPage n ok page).mail.lastBatch = s.mail.lastBatch ∧
    (s.identPage n ok page).mail.manifests = s.mail.manifests ∧
    (s.identPage n ok page).mail.alarms = s.mail.alarms ∧
    (s.identPage n ok page).mail.heldClose = s.mail.heldClose ∧
    (s.identPage n ok page).mail.waitingClose = s.mail.waitingClose ∧
    (s.identPage n ok page).returns.present = s.returns.present ∧
    (s.identPage n ok page).returns.reader = s.returns.reader ∧
    (s.identPage n ok page).returns.identifying = s.returns.identifying ∧
    (s.identPage n ok page).returns.removed = s.returns.removed ∧
    (s.identPage n ok page).returns.pending = s.returns.pending ∧
    (s.identPage n ok page).returns.result = s.returns.result ∧
    (s.identPage n ok page).calendar = s.calendar := by
  refine ⟨?_, ?_, ?_, ?_, ?_, ?_, ?_, ?_, ?_, ?_, ?_, ?_, ?_, ?_, ?_, ?_, ?_, ?_, ?_, ?_, ?_, ?_, ?_, ?_, ?_, ?_, ?_, ?_, ?_, ?_, ?_, ?_, ?_, ?_, ?_, ?_⟩ <;>
  (simp only [State.identPage]; (repeat' split) <;> simp)

@[simp] theorem State.stampRead_frame (s : State) (n : Nat) (ok : Bool) (page : List Byte) :
    (s.stampRead n ok page).pending = s.pending ∧
    (s.stampRead n ok page).run = s.run ∧
    (s.stampRead n ok page).drawn = s.drawn ∧
    (s.stampRead n ok page).link.queue = s.link.queue ∧
    (s.stampRead n ok page).link.pipe = s.link.pipe ∧
    (s.stampRead n ok page).link.frame = s.link.frame ∧
    (s.stampRead n ok page).link.incoming = s.link.incoming ∧
    (s.stampRead n ok page).link.settings = s.link.settings ∧
    (s.stampRead n ok page).link.backup = s.link.backup ∧
    (s.stampRead n ok page).link.patronCtx = s.link.patronCtx ∧
    (s.stampRead n ok page).link.titleCtx = s.link.titleCtx ∧
    (s.stampRead n ok page).records.titles = s.records.titles ∧
    (s.stampRead n ok page).records.loans = s.records.loans ∧
    (s.stampRead n ok page).records.lost = s.records.lost ∧
    (s.stampRead n ok page).planner.lastPlan = s.planner.lastPlan ∧
    (s.stampRead n ok page).planner.pass = s.planner.pass ∧
    (s.stampRead n ok page).planner.rerun = s.planner.rerun ∧
    (s.stampRead n ok page).store.recency = s.store.recency ∧
    (s.stampRead n ok page).store.fetches = s.store.fetches ∧
    (s.stampRead n ok page).store.lastFetch = s.store.lastFetch ∧
    (s.stampRead n ok page).store.banks.length = s.store.banks.length ∧
    (s.stampRead n ok page).store.flash = s.store.flash ∧
    (s.stampRead n ok page).rack.length = s.rack.length ∧
    (s.stampRead n ok page).mail.lastItem = s.mail.lastItem ∧
    (s.stampRead n ok page).mail.openBatch = s.mail.openBatch ∧
    (s.stampRead n ok page).mail.lastBatch = s.mail.lastBatch ∧
    (s.stampRead n ok page).mail.manifests = s.mail.manifests ∧
    (s.stampRead n ok page).mail.alarms = s.mail.alarms ∧
    (s.stampRead n ok page).mail.heldClose = s.mail.heldClose ∧
    (s.stampRead n ok page).mail.waitingClose = s.mail.waitingClose ∧
    (s.stampRead n ok page).returns = s.returns ∧
    (s.stampRead n ok page).calendar = s.calendar := by
  refine ⟨?_, ?_, ?_, ?_, ?_, ?_, ?_, ?_, ?_, ?_, ?_, ?_, ?_, ?_, ?_, ?_, ?_, ?_, ?_, ?_, ?_, ?_, ?_, ?_, ?_, ?_, ?_, ?_, ?_, ?_, ?_, ?_⟩ <;>
  (simp only [State.stampRead]; (repeat' split) <;> simp)

@[simp] theorem State.verifyRead_frame (s : State) (n : Nat) (ok : Bool) (page : List Byte) :
    (s.verifyRead n ok page).pending = s.pending ∧
    (s.verifyRead n ok page).run = s.run ∧
    (s.verifyRead n ok page).drawn = s.drawn ∧
    (s.verifyRead n ok page).link.queue = s.link.queue ∧
    (s.verifyRead n ok page).link.pipe = s.link.pipe ∧
    (s.verifyRead n ok page).link.frame = s.link.frame ∧
    (s.verifyRead n ok page).link.incoming = s.link.incoming ∧
    (s.verifyRead n ok page).link.settings = s.link.settings ∧
    (s.verifyRead n ok page).link.backup = s.link.backup ∧
    (s.verifyRead n ok page).link.patronCtx = s.link.patronCtx ∧
    (s.verifyRead n ok page).link.titleCtx = s.link.titleCtx ∧
    (s.verifyRead n ok page).records.titles = s.records.titles ∧
    (s.verifyRead n ok page).records.loans = s.records.loans ∧
    (s.verifyRead n ok page).records.lost = s.records.lost ∧
    (s.verifyRead n ok page).planner.lastPlan = s.planner.lastPlan ∧
    (s.verifyRead n ok page).planner.pass = s.planner.pass ∧
    (s.verifyRead n ok page).planner.rerun = s.planner.rerun ∧
    (s.verifyRead n ok page).store.fetches = s.store.fetches ∧
    (s.verifyRead n ok page).store.lastFetch = s.store.lastFetch ∧
    (s.verifyRead n ok page).store.banks.length = s.store.banks.length ∧
    (s.verifyRead n ok page).store.flash = s.store.flash ∧
    (s.verifyRead n ok page).rack.length = s.rack.length ∧
    (s.verifyRead n ok page).mail.lastItem = s.mail.lastItem ∧
    (s.verifyRead n ok page).mail.openBatch = s.mail.openBatch ∧
    (s.verifyRead n ok page).mail.lastBatch = s.mail.lastBatch ∧
    (s.verifyRead n ok page).mail.manifests = s.mail.manifests ∧
    (s.verifyRead n ok page).mail.alarms = s.mail.alarms ∧
    (s.verifyRead n ok page).mail.heldClose = s.mail.heldClose ∧
    (s.verifyRead n ok page).mail.waitingClose = s.mail.waitingClose ∧
    (s.verifyRead n ok page).returns = s.returns ∧
    (s.verifyRead n ok page).calendar = s.calendar := by
  refine ⟨?_, ?_, ?_, ?_, ?_, ?_, ?_, ?_, ?_, ?_, ?_, ?_, ?_, ?_, ?_, ?_, ?_, ?_, ?_, ?_, ?_, ?_, ?_, ?_, ?_, ?_, ?_, ?_, ?_, ?_, ?_⟩ <;>
  (simp only [State.verifyRead]; (repeat' split) <;> simp)

@[simp] theorem State.directoryRead_frame (s : State) (n : Nat) (ok : Bool) (page : List Byte) :
    (s.directoryRead n ok page).pending = s.pending ∧
    (s.directoryRead n ok page).run = s.run ∧
    (s.directoryRead n ok page).drawn = s.drawn ∧
    (s.directoryRead n ok page).link.queue = s.link.queue ∧
    (s.directoryRead n ok page).link.pipe = s.link.pipe ∧
    (s.directoryRead n ok page).link.frame = s.link.frame ∧
    (s.directoryRead n ok page).link.incoming = s.link.incoming ∧
    (s.directoryRead n ok page).link.settings = s.link.settings ∧
    (s.directoryRead n ok page).link.backup = s.link.backup ∧
    (s.directoryRead n ok page).link.patronCtx = s.link.patronCtx ∧
    (s.directoryRead n ok page).link.titleCtx = s.link.titleCtx ∧
    (s.directoryRead n ok page).records.titles = s.records.titles ∧
    (s.directoryRead n ok page).records.loans = s.records.loans ∧
    (s.directoryRead n ok page).records.lost = s.records.lost ∧
    (s.directoryRead n ok page).planner.lastPlan = s.planner.lastPlan ∧
    (s.directoryRead n ok page).planner.pass = s.planner.pass ∧
    (s.directoryRead n ok page).planner.rerun = s.planner.rerun ∧
    (s.directoryRead n ok page).store.recency = s.store.recency ∧
    (s.directoryRead n ok page).store.fetches = s.store.fetches ∧
    (s.directoryRead n ok page).store.lastFetch = s.store.lastFetch ∧
    (s.directoryRead n ok page).store.banks.length = s.store.banks.length ∧
    (s.directoryRead n ok page).store.flash = s.store.flash ∧
    (s.directoryRead n ok page).rack.length = s.rack.length ∧
    (s.directoryRead n ok page).mail.openBatch = s.mail.openBatch ∧
    (s.directoryRead n ok page).mail.lastBatch = s.mail.lastBatch ∧
    (s.directoryRead n ok page).mail.manifests = s.mail.manifests ∧
    (s.directoryRead n ok page).mail.alarms = s.mail.alarms ∧
    (s.directoryRead n ok page).mail.heldClose = s.mail.heldClose ∧
    (s.directoryRead n ok page).mail.waitingClose = s.mail.waitingClose ∧
    (s.directoryRead n ok page).returns = s.returns ∧
    (s.directoryRead n ok page).calendar = s.calendar := by
  refine ⟨?_, ?_, ?_, ?_, ?_, ?_, ?_, ?_, ?_, ?_, ?_, ?_, ?_, ?_, ?_, ?_, ?_, ?_, ?_, ?_, ?_, ?_, ?_, ?_, ?_, ?_, ?_, ?_, ?_, ?_, ?_⟩ <;>
  (simp only [State.directoryRead]; (repeat' split) <;> simp)

@[simp] theorem State.pageRead_frame (s : State) (n : Nat) (ok : Bool) (page : List Byte) :
    (s.pageRead n ok page).pending = s.pending ∧
    (s.pageRead n ok page).run = s.run ∧
    (s.pageRead n ok page).drawn = s.drawn ∧
    (s.pageRead n ok page).link.queue = s.link.queue ∧
    (s.pageRead n ok page).link.pipe = s.link.pipe ∧
    (s.pageRead n ok page).link.frame = s.link.frame ∧
    (s.pageRead n ok page).link.incoming = s.link.incoming ∧
    (s.pageRead n ok page).link.settings = s.link.settings ∧
    (s.pageRead n ok page).link.backup = s.link.backup ∧
    (s.pageRead n ok page).link.patronCtx = s.link.patronCtx ∧
    (s.pageRead n ok page).link.titleCtx = s.link.titleCtx ∧
    (s.pageRead n ok page).records.titles = s.records.titles ∧
    (s.pageRead n ok page).records.loans = s.records.loans ∧
    (s.pageRead n ok page).planner.lastPlan = s.planner.lastPlan ∧
    (s.pageRead n ok page).planner.pass = s.planner.pass ∧
    (s.pageRead n ok page).planner.rerun = s.planner.rerun ∧
    (s.pageRead n ok page).store.fetches = s.store.fetches ∧
    (s.pageRead n ok page).store.lastFetch = s.store.lastFetch ∧
    (s.pageRead n ok page).store.banks.length = s.store.banks.length ∧
    (s.pageRead n ok page).store.flash = s.store.flash ∧
    (s.pageRead n ok page).rack.length = s.rack.length ∧
    (s.pageRead n ok page).mail.openBatch = s.mail.openBatch ∧
    (s.pageRead n ok page).mail.lastBatch = s.mail.lastBatch ∧
    (s.pageRead n ok page).mail.manifests = s.mail.manifests ∧
    (s.pageRead n ok page).mail.alarms = s.mail.alarms ∧
    (s.pageRead n ok page).mail.heldClose = s.mail.heldClose ∧
    (s.pageRead n ok page).mail.waitingClose = s.mail.waitingClose ∧
    (s.pageRead n ok page).returns.present = s.returns.present ∧
    (s.pageRead n ok page).returns.reader = s.returns.reader ∧
    (s.pageRead n ok page).returns.identifying = s.returns.identifying ∧
    (s.pageRead n ok page).returns.removed = s.returns.removed ∧
    (s.pageRead n ok page).returns.pending = s.returns.pending ∧
    (s.pageRead n ok page).returns.result = s.returns.result ∧
    (s.pageRead n ok page).calendar = s.calendar := by
  refine ⟨?_, ?_, ?_, ?_, ?_, ?_, ?_, ?_, ?_, ?_, ?_, ?_, ?_, ?_, ?_, ?_, ?_, ?_, ?_, ?_, ?_, ?_, ?_, ?_, ?_, ?_, ?_, ?_, ?_, ?_, ?_, ?_, ?_, ?_⟩ <;>
  (simp only [State.pageRead]; (repeat' split) <;> simp)

@[simp] theorem State.permitReply_frame (s : State) (n : Nat) (granted : Bool) (w : WriteOp) :
    (s.permitReply n granted w).pending = s.pending ∧
    (s.permitReply n granted w).run = s.run ∧
    (s.permitReply n granted w).drawn = s.drawn ∧
    (s.permitReply n granted w).link.queue = s.link.queue ∧
    (s.permitReply n granted w).link.pipe = s.link.pipe ∧
    (s.permitReply n granted w).link.frame = s.link.frame ∧
    (s.permitReply n granted w).link.incoming = s.link.incoming ∧
    (s.permitReply n granted w).link.settings = s.link.settings ∧
    (s.permitReply n granted w).link.backup = s.link.backup ∧
    (s.permitReply n granted w).link.patronCtx = s.link.patronCtx ∧
    (s.permitReply n granted w).link.titleCtx = s.link.titleCtx ∧
    (s.permitReply n granted w).records.titles = s.records.titles ∧
    (s.permitReply n granted w).records.loans = s.records.loans ∧
    (s.permitReply n granted w).records.lost = s.records.lost ∧
    (s.permitReply n granted w).planner.lastPlan = s.planner.lastPlan ∧
    (s.permitReply n granted w).planner.pass = s.planner.pass ∧
    (s.permitReply n granted w).planner.rerun = s.planner.rerun ∧
    (s.permitReply n granted w).store.recency = s.store.recency ∧
    (s.permitReply n granted w).store.fetches = s.store.fetches ∧
    (s.permitReply n granted w).store.lastFetch = s.store.lastFetch ∧
    (s.permitReply n granted w).store.banks.length = s.store.banks.length ∧
    (s.permitReply n granted w).store.flash = s.store.flash ∧
    (s.permitReply n granted w).rack.length = s.rack.length ∧
    (s.permitReply n granted w).mail.lastItem = s.mail.lastItem ∧
    (s.permitReply n granted w).mail.openBatch = s.mail.openBatch ∧
    (s.permitReply n granted w).mail.lastBatch = s.mail.lastBatch ∧
    (s.permitReply n granted w).mail.manifests = s.mail.manifests ∧
    (s.permitReply n granted w).mail.alarms = s.mail.alarms ∧
    (s.permitReply n granted w).mail.heldClose = s.mail.heldClose ∧
    (s.permitReply n granted w).mail.waitingClose = s.mail.waitingClose ∧
    (s.permitReply n granted w).returns = s.returns ∧
    (s.permitReply n granted w).calendar = s.calendar := by
  refine ⟨?_, ?_, ?_, ?_, ?_, ?_, ?_, ?_, ?_, ?_, ?_, ?_, ?_, ?_, ?_, ?_, ?_, ?_, ?_, ?_, ?_, ?_, ?_, ?_, ?_, ?_, ?_, ?_, ?_, ?_, ?_, ?_⟩ <;>
  (simp only [State.permitReply]; (repeat' split) <;> simp)

/-- What a refused write leaves of its slot: the slot as it was, or with the record before the first write and
nothing started (R108). -/
theorem Slot.notStarted_cases (sl : Slot) :
    (sl.unstarted = none ∧ sl.notStarted = sl) ∨
      ∃ c, sl.unstarted = some c ∧ sl.notStarted = { sl with cart := some c, started := false, unstarted := none } := by
  unfold Slot.notStarted
  cases h : sl.unstarted with
  | none => exact .inl ⟨rfl, rfl⟩
  | some c => exact .inr ⟨c, rfl, rfl⟩

@[simp] theorem State.writeRefused_frame (s : State) (n : Nat) :
    (s.writeRefused n).pending = s.pending ∧
    (s.writeRefused n).run = s.run ∧
    (s.writeRefused n).drawn = s.drawn ∧
    (s.writeRefused n).link.queue = s.link.queue ∧
    (s.writeRefused n).link.pipe = s.link.pipe ∧
    (s.writeRefused n).link.frame = s.link.frame ∧
    (s.writeRefused n).link.incoming = s.link.incoming ∧
    (s.writeRefused n).link.settings = s.link.settings ∧
    (s.writeRefused n).link.backup = s.link.backup ∧
    (s.writeRefused n).link.patronCtx = s.link.patronCtx ∧
    (s.writeRefused n).link.titleCtx = s.link.titleCtx ∧
    (s.writeRefused n).records.titles = s.records.titles ∧
    (s.writeRefused n).records.loans = s.records.loans ∧
    (s.writeRefused n).records.lost = s.records.lost ∧
    (s.writeRefused n).planner.lastPlan = s.planner.lastPlan ∧
    (s.writeRefused n).planner.pass = s.planner.pass ∧
    (s.writeRefused n).planner.rerun = s.planner.rerun ∧
    (s.writeRefused n).store.recency = s.store.recency ∧
    (s.writeRefused n).store.fetches = s.store.fetches ∧
    (s.writeRefused n).store.lastFetch = s.store.lastFetch ∧
    (s.writeRefused n).store.banks.length = s.store.banks.length ∧
    (s.writeRefused n).store.flash = s.store.flash ∧
    (s.writeRefused n).rack.length = s.rack.length ∧
    (s.writeRefused n).mail.lastItem = s.mail.lastItem ∧
    (s.writeRefused n).mail.openBatch = s.mail.openBatch ∧
    (s.writeRefused n).mail.lastBatch = s.mail.lastBatch ∧
    (s.writeRefused n).mail.manifests = s.mail.manifests ∧
    (s.writeRefused n).mail.alarms = s.mail.alarms ∧
    (s.writeRefused n).mail.heldClose = s.mail.heldClose ∧
    (s.writeRefused n).mail.waitingClose = s.mail.waitingClose ∧
    (s.writeRefused n).returns = s.returns ∧
    (s.writeRefused n).calendar = s.calendar := by
  refine ⟨?_, ?_, ?_, ?_, ?_, ?_, ?_, ?_, ?_, ?_, ?_, ?_, ?_, ?_, ?_, ?_, ?_, ?_, ?_, ?_, ?_, ?_, ?_, ?_, ?_, ?_, ?_, ?_, ?_, ?_, ?_, ?_⟩ <;>
  simp [State.writeRefused]

@[simp] theorem State.programDone_frame (s : State) (n : Nat) (ok : Bool) :
    (s.programDone n ok).pending = s.pending ∧
    (s.programDone n ok).run = s.run ∧
    (s.programDone n ok).drawn = s.drawn ∧
    (s.programDone n ok).link.queue = s.link.queue ∧
    (s.programDone n ok).link.pipe = s.link.pipe ∧
    (s.programDone n ok).link.frame = s.link.frame ∧
    (s.programDone n ok).link.incoming = s.link.incoming ∧
    (s.programDone n ok).link.settings = s.link.settings ∧
    (s.programDone n ok).link.backup = s.link.backup ∧
    (s.programDone n ok).link.patronCtx = s.link.patronCtx ∧
    (s.programDone n ok).link.titleCtx = s.link.titleCtx ∧
    (s.programDone n ok).records.titles = s.records.titles ∧
    (s.programDone n ok).records.loans = s.records.loans ∧
    (s.programDone n ok).records.lost = s.records.lost ∧
    (s.programDone n ok).planner.lastPlan = s.planner.lastPlan ∧
    (s.programDone n ok).planner.pass = s.planner.pass ∧
    (s.programDone n ok).planner.rerun = s.planner.rerun ∧
    (s.programDone n ok).store.recency = s.store.recency ∧
    (s.programDone n ok).store.fetches = s.store.fetches ∧
    (s.programDone n ok).store.lastFetch = s.store.lastFetch ∧
    (s.programDone n ok).store.banks.length = s.store.banks.length ∧
    (s.programDone n ok).store.flash = s.store.flash ∧
    (s.programDone n ok).rack.length = s.rack.length ∧
    (s.programDone n ok).mail.lastItem = s.mail.lastItem ∧
    (s.programDone n ok).mail.openBatch = s.mail.openBatch ∧
    (s.programDone n ok).mail.lastBatch = s.mail.lastBatch ∧
    (s.programDone n ok).mail.manifests = s.mail.manifests ∧
    (s.programDone n ok).mail.alarms = s.mail.alarms ∧
    (s.programDone n ok).mail.heldClose = s.mail.heldClose ∧
    (s.programDone n ok).mail.waitingClose = s.mail.waitingClose ∧
    (s.programDone n ok).returns = s.returns ∧
    (s.programDone n ok).calendar = s.calendar := by
  refine ⟨?_, ?_, ?_, ?_, ?_, ?_, ?_, ?_, ?_, ?_, ?_, ?_, ?_, ?_, ?_, ?_, ?_, ?_, ?_, ?_, ?_, ?_, ?_, ?_, ?_, ?_, ?_, ?_, ?_, ?_, ?_, ?_⟩ <;>
  (simp only [State.programDone]; (repeat' split) <;> simp)

@[simp] theorem State.eraseDone_frame (s : State) (n : Nat) (ok : Bool) (op : CartOp) :
    (s.eraseDone n ok op).pending = s.pending ∧
    (s.eraseDone n ok op).run = s.run ∧
    (s.eraseDone n ok op).drawn = s.drawn ∧
    (s.eraseDone n ok op).link.queue = s.link.queue ∧
    (s.eraseDone n ok op).link.pipe = s.link.pipe ∧
    (s.eraseDone n ok op).link.frame = s.link.frame ∧
    (s.eraseDone n ok op).link.incoming = s.link.incoming ∧
    (s.eraseDone n ok op).link.settings = s.link.settings ∧
    (s.eraseDone n ok op).link.backup = s.link.backup ∧
    (s.eraseDone n ok op).link.patronCtx = s.link.patronCtx ∧
    (s.eraseDone n ok op).link.titleCtx = s.link.titleCtx ∧
    (s.eraseDone n ok op).records.titles = s.records.titles ∧
    (s.eraseDone n ok op).records.loans = s.records.loans ∧
    (s.eraseDone n ok op).records.lost = s.records.lost ∧
    (s.eraseDone n ok op).planner.lastPlan = s.planner.lastPlan ∧
    (s.eraseDone n ok op).planner.pass = s.planner.pass ∧
    (s.eraseDone n ok op).planner.rerun = s.planner.rerun ∧
    (s.eraseDone n ok op).store.recency = s.store.recency ∧
    (s.eraseDone n ok op).store.fetches = s.store.fetches ∧
    (s.eraseDone n ok op).store.lastFetch = s.store.lastFetch ∧
    (s.eraseDone n ok op).store.banks.length = s.store.banks.length ∧
    (s.eraseDone n ok op).store.flash = s.store.flash ∧
    (s.eraseDone n ok op).rack.length = s.rack.length ∧
    (s.eraseDone n ok op).mail.lastItem = s.mail.lastItem ∧
    (s.eraseDone n ok op).mail.openBatch = s.mail.openBatch ∧
    (s.eraseDone n ok op).mail.lastBatch = s.mail.lastBatch ∧
    (s.eraseDone n ok op).mail.manifests = s.mail.manifests ∧
    (s.eraseDone n ok op).mail.alarms = s.mail.alarms ∧
    (s.eraseDone n ok op).mail.heldClose = s.mail.heldClose ∧
    (s.eraseDone n ok op).mail.waitingClose = s.mail.waitingClose ∧
    (s.eraseDone n ok op).returns = s.returns ∧
    (s.eraseDone n ok op).calendar = s.calendar := by
  refine ⟨?_, ?_, ?_, ?_, ?_, ?_, ?_, ?_, ?_, ?_, ?_, ?_, ?_, ?_, ?_, ?_, ?_, ?_, ?_, ?_, ?_, ?_, ?_, ?_, ?_, ?_, ?_, ?_, ?_, ?_, ?_, ?_⟩ <;>
  (simp only [State.eraseDone]; (repeat' split) <;> simp)

@[simp] theorem State.markDone_frame (s : State) (n : Nat) :
    (s.markDone n).pending = s.pending ∧
    (s.markDone n).run = s.run ∧
    (s.markDone n).drawn = s.drawn ∧
    (s.markDone n).link.queue = s.link.queue ∧
    (s.markDone n).link.pipe = s.link.pipe ∧
    (s.markDone n).link.frame = s.link.frame ∧
    (s.markDone n).link.incoming = s.link.incoming ∧
    (s.markDone n).link.settings = s.link.settings ∧
    (s.markDone n).link.backup = s.link.backup ∧
    (s.markDone n).link.patronCtx = s.link.patronCtx ∧
    (s.markDone n).link.titleCtx = s.link.titleCtx ∧
    (s.markDone n).records.titles = s.records.titles ∧
    (s.markDone n).records.loans = s.records.loans ∧
    (s.markDone n).records.lost = s.records.lost ∧
    (s.markDone n).planner.lastPlan = s.planner.lastPlan ∧
    (s.markDone n).planner.pass = s.planner.pass ∧
    (s.markDone n).planner.rerun = s.planner.rerun ∧
    (s.markDone n).store.recency = s.store.recency ∧
    (s.markDone n).store.fetches = s.store.fetches ∧
    (s.markDone n).store.lastFetch = s.store.lastFetch ∧
    (s.markDone n).store.banks.length = s.store.banks.length ∧
    (s.markDone n).store.flash = s.store.flash ∧
    (s.markDone n).rack.length = s.rack.length ∧
    (s.markDone n).mail.lastItem = s.mail.lastItem ∧
    (s.markDone n).mail.openBatch = s.mail.openBatch ∧
    (s.markDone n).mail.lastBatch = s.mail.lastBatch ∧
    (s.markDone n).mail.manifests = s.mail.manifests ∧
    (s.markDone n).mail.alarms = s.mail.alarms ∧
    (s.markDone n).mail.heldClose = s.mail.heldClose ∧
    (s.markDone n).mail.waitingClose = s.mail.waitingClose ∧
    (s.markDone n).returns = s.returns ∧
    (s.markDone n).calendar = s.calendar := by
  refine ⟨?_, ?_, ?_, ?_, ?_, ?_, ?_, ?_, ?_, ?_, ?_, ?_, ?_, ?_, ?_, ?_, ?_, ?_, ?_, ?_, ?_, ?_, ?_, ?_, ?_, ?_, ?_, ?_, ?_, ?_, ?_, ?_⟩ <;>
  (simp only [State.markDone]; (repeat' split) <;> simp)

@[simp] theorem State.suspendDone_frame (s : State) (n : Nat) :
    (s.suspendDone n).pending = s.pending ∧
    (s.suspendDone n).run = s.run ∧
    (s.suspendDone n).drawn = s.drawn ∧
    (s.suspendDone n).link = s.link ∧
    (s.suspendDone n).records = s.records ∧
    (s.suspendDone n).planner.lastPlan = s.planner.lastPlan ∧
    (s.suspendDone n).planner.pass = s.planner.pass ∧
    (s.suspendDone n).planner.rerun = s.planner.rerun ∧
    (s.suspendDone n).store = s.store ∧
    (s.suspendDone n).rack.length = s.rack.length ∧
    (s.suspendDone n).mail = s.mail ∧
    (s.suspendDone n).returns = s.returns ∧
    (s.suspendDone n).calendar = s.calendar := by
  refine ⟨?_, ?_, ?_, ?_, ?_, ?_, ?_, ?_, ?_, ?_, ?_, ?_, ?_⟩ <;>
  (simp only [State.suspendDone]; (repeat' split) <;> simp)

@[simp] theorem State.resumeDone_frame (s : State) (n : Nat) :
    (s.resumeDone n).pending = s.pending ∧
    (s.resumeDone n).run = s.run ∧
    (s.resumeDone n).drawn = s.drawn ∧
    (s.resumeDone n).link = s.link ∧
    (s.resumeDone n).records = s.records ∧
    (s.resumeDone n).planner.lastPlan = s.planner.lastPlan ∧
    (s.resumeDone n).planner.pass = s.planner.pass ∧
    (s.resumeDone n).planner.rerun = s.planner.rerun ∧
    (s.resumeDone n).store = s.store ∧
    (s.resumeDone n).rack.length = s.rack.length ∧
    (s.resumeDone n).mail = s.mail ∧
    (s.resumeDone n).returns = s.returns ∧
    (s.resumeDone n).calendar = s.calendar := by
  refine ⟨?_, ?_, ?_, ?_, ?_, ?_, ?_, ?_, ?_, ?_, ?_, ?_, ?_⟩ <;>
  (simp only [State.resumeDone]; (repeat' split) <;> simp)

@[simp] theorem State.timeOut_frame (s : State) (n : Nat) (op : CartOp) :
    (s.timeOut n op).pending = s.pending ∧
    (s.timeOut n op).run = s.run ∧
    (s.timeOut n op).drawn = s.drawn ∧
    (s.timeOut n op).link.queue = s.link.queue ∧
    (s.timeOut n op).link.pipe = s.link.pipe ∧
    (s.timeOut n op).link.frame = s.link.frame ∧
    (s.timeOut n op).link.incoming = s.link.incoming ∧
    (s.timeOut n op).link.settings = s.link.settings ∧
    (s.timeOut n op).link.backup = s.link.backup ∧
    (s.timeOut n op).link.patronCtx = s.link.patronCtx ∧
    (s.timeOut n op).link.titleCtx = s.link.titleCtx ∧
    (s.timeOut n op).records.titles = s.records.titles ∧
    (s.timeOut n op).records.loans = s.records.loans ∧
    (s.timeOut n op).planner.lastPlan = s.planner.lastPlan ∧
    (s.timeOut n op).planner.pass = s.planner.pass ∧
    (s.timeOut n op).planner.rerun = s.planner.rerun ∧
    (s.timeOut n op).store.recency = s.store.recency ∧
    (s.timeOut n op).store.fetches = s.store.fetches ∧
    (s.timeOut n op).store.lastFetch = s.store.lastFetch ∧
    (s.timeOut n op).store.banks.length = s.store.banks.length ∧
    (s.timeOut n op).store.flash = s.store.flash ∧
    (s.timeOut n op).rack.length = s.rack.length ∧
    (s.timeOut n op).mail.lastItem = s.mail.lastItem ∧
    (s.timeOut n op).mail.openBatch = s.mail.openBatch ∧
    (s.timeOut n op).mail.lastBatch = s.mail.lastBatch ∧
    (s.timeOut n op).mail.manifests = s.mail.manifests ∧
    (s.timeOut n op).mail.alarms = s.mail.alarms ∧
    (s.timeOut n op).mail.heldClose = s.mail.heldClose ∧
    (s.timeOut n op).mail.waitingClose = s.mail.waitingClose ∧
    (s.timeOut n op).returns.present = s.returns.present ∧
    (s.timeOut n op).returns.reader = s.returns.reader ∧
    (s.timeOut n op).returns.identifying = s.returns.identifying ∧
    (s.timeOut n op).returns.removed = s.returns.removed ∧
    (s.timeOut n op).returns.pending = s.returns.pending ∧
    (s.timeOut n op).returns.result = s.returns.result ∧
    (s.timeOut n op).calendar = s.calendar := by
  refine ⟨?_, ?_, ?_, ?_, ?_, ?_, ?_, ?_, ?_, ?_, ?_, ?_, ?_, ?_, ?_, ?_, ?_, ?_, ?_, ?_, ?_, ?_, ?_, ?_, ?_, ?_, ?_, ?_, ?_, ?_, ?_, ?_, ?_, ?_, ?_, ?_⟩ <;>
  (simp only [State.timeOut]; (repeat' split) <;> simp)

@[simp] theorem State.runFor_frame (s : State) (n ran : Nat) :
    (s.runFor n ran).pending = s.pending ∧
    (s.runFor n ran).run = s.run ∧
    (s.runFor n ran).drawn = s.drawn ∧
    (s.runFor n ran).link.queue = s.link.queue ∧
    (s.runFor n ran).link.pipe = s.link.pipe ∧
    (s.runFor n ran).link.frame = s.link.frame ∧
    (s.runFor n ran).link.incoming = s.link.incoming ∧
    (s.runFor n ran).link.settings = s.link.settings ∧
    (s.runFor n ran).link.backup = s.link.backup ∧
    (s.runFor n ran).link.patronCtx = s.link.patronCtx ∧
    (s.runFor n ran).link.titleCtx = s.link.titleCtx ∧
    (s.runFor n ran).records.titles = s.records.titles ∧
    (s.runFor n ran).records.loans = s.records.loans ∧
    (s.runFor n ran).planner.lastPlan = s.planner.lastPlan ∧
    (s.runFor n ran).planner.pass = s.planner.pass ∧
    (s.runFor n ran).planner.rerun = s.planner.rerun ∧
    (s.runFor n ran).store.recency = s.store.recency ∧
    (s.runFor n ran).store.fetches = s.store.fetches ∧
    (s.runFor n ran).store.lastFetch = s.store.lastFetch ∧
    (s.runFor n ran).store.banks.length = s.store.banks.length ∧
    (s.runFor n ran).store.flash = s.store.flash ∧
    (s.runFor n ran).rack.length = s.rack.length ∧
    (s.runFor n ran).mail.lastItem = s.mail.lastItem ∧
    (s.runFor n ran).mail.openBatch = s.mail.openBatch ∧
    (s.runFor n ran).mail.lastBatch = s.mail.lastBatch ∧
    (s.runFor n ran).mail.manifests = s.mail.manifests ∧
    (s.runFor n ran).mail.alarms = s.mail.alarms ∧
    (s.runFor n ran).mail.heldClose = s.mail.heldClose ∧
    (s.runFor n ran).mail.waitingClose = s.mail.waitingClose ∧
    (s.runFor n ran).returns.present = s.returns.present ∧
    (s.runFor n ran).returns.reader = s.returns.reader ∧
    (s.runFor n ran).returns.identifying = s.returns.identifying ∧
    (s.runFor n ran).returns.removed = s.returns.removed ∧
    (s.runFor n ran).returns.pending = s.returns.pending ∧
    (s.runFor n ran).returns.result = s.returns.result ∧
    (s.runFor n ran).calendar = s.calendar := by
  refine ⟨?_, ?_, ?_, ?_, ?_, ?_, ?_, ?_, ?_, ?_, ?_, ?_, ?_, ?_, ?_, ?_, ?_, ?_, ?_, ?_, ?_, ?_, ?_, ?_, ?_, ?_, ?_, ?_, ?_, ?_, ?_, ?_, ?_, ?_, ?_, ?_⟩ <;>
  (simp only [State.runFor]; (repeat' split) <;> simp)

@[simp] theorem State.holdProgram_frame (s : State) (n : Nat) :
    (s.holdProgram n).pending = s.pending ∧
    (s.holdProgram n).run = s.run ∧
    (s.holdProgram n).drawn = s.drawn ∧
    (s.holdProgram n).link = s.link ∧
    (s.holdProgram n).records = s.records ∧
    (s.holdProgram n).planner = s.planner ∧
    (s.holdProgram n).store.images = s.store.images ∧
    (s.holdProgram n).store.recency = s.store.recency ∧
    (s.holdProgram n).store.fetches = s.store.fetches ∧
    (s.holdProgram n).store.lastFetch = s.store.lastFetch ∧
    (s.holdProgram n).store.banks.length = s.store.banks.length ∧
    (s.holdProgram n).store.flash = s.store.flash ∧
    (s.holdProgram n).rack.length = s.rack.length ∧
    (s.holdProgram n).mail = s.mail ∧
    (s.holdProgram n).returns = s.returns ∧
    (s.holdProgram n).calendar = s.calendar := by
  refine ⟨?_, ?_, ?_, ?_, ?_, ?_, ?_, ?_, ?_, ?_, ?_, ?_, ?_, ?_, ?_, ?_⟩ <;>
  (simp only [State.holdProgram]; (repeat' split) <;> simp)

@[simp] theorem State.releaseErase_frame (s : State) (n : Nat) :
    (s.releaseErase n).pending = s.pending ∧
    (s.releaseErase n).run = s.run ∧
    (s.releaseErase n).drawn = s.drawn ∧
    (s.releaseErase n).link = s.link ∧
    (s.releaseErase n).records = s.records ∧
    (s.releaseErase n).planner.lastPlan = s.planner.lastPlan ∧
    (s.releaseErase n).planner.pass = s.planner.pass ∧
    (s.releaseErase n).planner.rerun = s.planner.rerun ∧
    (s.releaseErase n).store.images = s.store.images ∧
    (s.releaseErase n).store.recency = s.store.recency ∧
    (s.releaseErase n).store.fetches = s.store.fetches ∧
    (s.releaseErase n).store.lastFetch = s.store.lastFetch ∧
    (s.releaseErase n).store.banks.length = s.store.banks.length ∧
    (s.releaseErase n).store.flash = s.store.flash ∧
    (s.releaseErase n).rack.length = s.rack.length ∧
    (s.releaseErase n).mail = s.mail ∧
    (s.releaseErase n).returns = s.returns ∧
    (s.releaseErase n).calendar = s.calendar := by
  refine ⟨?_, ?_, ?_, ?_, ?_, ?_, ?_, ?_, ?_, ?_, ?_, ?_, ?_, ?_, ?_, ?_, ?_, ?_⟩ <;>
  (simp only [State.releaseErase]; (repeat' split) <;> simp)

@[simp] theorem State.releaseSlot_frame (s : State) (n : Nat) (p : Phase) :
    (s.releaseSlot n p).pending = s.pending ∧
    (s.releaseSlot n p).run = s.run ∧
    (s.releaseSlot n p).drawn = s.drawn ∧
    (s.releaseSlot n p).link = s.link ∧
    (s.releaseSlot n p).records = s.records ∧
    (s.releaseSlot n p).planner.lastPlan = s.planner.lastPlan ∧
    (s.releaseSlot n p).planner.pass = s.planner.pass ∧
    (s.releaseSlot n p).planner.rerun = s.planner.rerun ∧
    (s.releaseSlot n p).store.images = s.store.images ∧
    (s.releaseSlot n p).store.recency = s.store.recency ∧
    (s.releaseSlot n p).store.fetches = s.store.fetches ∧
    (s.releaseSlot n p).store.lastFetch = s.store.lastFetch ∧
    (s.releaseSlot n p).store.banks.length = s.store.banks.length ∧
    (s.releaseSlot n p).store.flash = s.store.flash ∧
    (s.releaseSlot n p).rack.length = s.rack.length ∧
    (s.releaseSlot n p).mail = s.mail ∧
    (s.releaseSlot n p).returns = s.returns ∧
    (s.releaseSlot n p).calendar = s.calendar := by
  refine ⟨?_, ?_, ?_, ?_, ?_, ?_, ?_, ?_, ?_, ?_, ?_, ?_, ?_, ?_, ?_, ?_, ?_, ?_⟩ <;>
  (simp only [State.releaseSlot]; (repeat' split) <;> simp)

@[simp] theorem answerSlotRelease_frame (slot : Nat) (s : State) :
    (answerSlotRelease slot s).2.pending = s.pending ∧
    (answerSlotRelease slot s).2.run = s.run ∧
    (answerSlotRelease slot s).2.drawn = s.drawn ∧
    (answerSlotRelease slot s).2.link = s.link ∧
    (answerSlotRelease slot s).2.records = s.records ∧
    (answerSlotRelease slot s).2.planner.lastPlan = s.planner.lastPlan ∧
    (answerSlotRelease slot s).2.planner.pass = s.planner.pass ∧
    (answerSlotRelease slot s).2.planner.rerun = s.planner.rerun ∧
    (answerSlotRelease slot s).2.store.images = s.store.images ∧
    (answerSlotRelease slot s).2.store.recency = s.store.recency ∧
    (answerSlotRelease slot s).2.store.fetches = s.store.fetches ∧
    (answerSlotRelease slot s).2.store.lastFetch = s.store.lastFetch ∧
    (answerSlotRelease slot s).2.store.banks.length = s.store.banks.length ∧
    (answerSlotRelease slot s).2.store.flash = s.store.flash ∧
    (answerSlotRelease slot s).2.rack.length = s.rack.length ∧
    (answerSlotRelease slot s).2.mail = s.mail ∧
    (answerSlotRelease slot s).2.returns = s.returns ∧
    (answerSlotRelease slot s).2.calendar = s.calendar := by
  refine ⟨?_, ?_, ?_, ?_, ?_, ?_, ?_, ?_, ?_, ?_, ?_, ?_, ?_, ?_, ?_, ?_, ?_, ?_⟩ <;>
  (simp only [answerSlotRelease]; (repeat' split) <;> simp)

@[simp] theorem answerSlotClear_frame (slot : Nat) (s : State) :
    (answerSlotClear slot s).2.pending = s.pending ∧
    (answerSlotClear slot s).2.run = s.run ∧
    (answerSlotClear slot s).2.drawn = s.drawn ∧
    (answerSlotClear slot s).2.link = s.link ∧
    (answerSlotClear slot s).2.records = s.records ∧
    (answerSlotClear slot s).2.planner = s.planner ∧
    (answerSlotClear slot s).2.store = s.store ∧
    (answerSlotClear slot s).2.rack.length = s.rack.length ∧
    (answerSlotClear slot s).2.mail = s.mail ∧
    (answerSlotClear slot s).2.returns = s.returns ∧
    (answerSlotClear slot s).2.calendar = s.calendar := by
  refine ⟨?_, ?_, ?_, ?_, ?_, ?_, ?_, ?_, ?_, ?_, ?_⟩ <;>
  (simp only [answerSlotClear]; (repeat' split) <;> simp)

@[simp] theorem answerSlotFaultGet_frame (slot : Nat) (s : State) :
    (answerSlotFaultGet slot s).2.pending = s.pending ∧
    (answerSlotFaultGet slot s).2.run = s.run ∧
    (answerSlotFaultGet slot s).2.drawn = s.drawn ∧
    (answerSlotFaultGet slot s).2.link = s.link ∧
    (answerSlotFaultGet slot s).2.records = s.records ∧
    (answerSlotFaultGet slot s).2.planner = s.planner ∧
    (answerSlotFaultGet slot s).2.store = s.store ∧
    (answerSlotFaultGet slot s).2.rack = s.rack ∧
    (answerSlotFaultGet slot s).2.mail = s.mail ∧
    (answerSlotFaultGet slot s).2.returns = s.returns ∧
    (answerSlotFaultGet slot s).2.calendar = s.calendar := by
  refine ⟨?_, ?_, ?_, ?_, ?_, ?_, ?_, ?_, ?_, ?_, ?_⟩ <;>
  (simp only [answerSlotFaultGet]; (repeat' split) <;> simp)

@[simp] theorem answerSlotStatus_frame (slot : Nat) (s : State) :
    (answerSlotStatus slot s).2.pending = s.pending ∧
    (answerSlotStatus slot s).2.run = s.run ∧
    (answerSlotStatus slot s).2.drawn = s.drawn ∧
    (answerSlotStatus slot s).2.link = s.link ∧
    (answerSlotStatus slot s).2.records = s.records ∧
    (answerSlotStatus slot s).2.planner = s.planner ∧
    (answerSlotStatus slot s).2.store = s.store ∧
    (answerSlotStatus slot s).2.rack = s.rack ∧
    (answerSlotStatus slot s).2.mail = s.mail ∧
    (answerSlotStatus slot s).2.returns = s.returns ∧
    (answerSlotStatus slot s).2.calendar = s.calendar := by
  refine ⟨?_, ?_, ?_, ?_, ?_, ?_, ?_, ?_, ?_, ?_, ?_⟩ <;>
  (simp only [answerSlotStatus]; (repeat' split) <;> simp)

end Sys2Proof.Machine
end

