-- ==== Sys2Proof/Laws/FramesMailDesk.lean ====
section
/-!
SUPPORT. What each operation of Machine/MailDesk.lean leaves as it stands: one lemma per operation.
-/

namespace Sys2Proof.Machine

@[simp] theorem State.closeBegin_frame (s : State) :
    s.closeBegin.pending = s.pending ∧
    s.closeBegin.run = s.run ∧
    s.closeBegin.drawn = s.drawn ∧
    s.closeBegin.link.queue = s.link.queue ∧
    s.closeBegin.link.pipe = s.link.pipe ∧
    s.closeBegin.link.frame = s.link.frame ∧
    s.closeBegin.link.incoming = s.link.incoming ∧
    s.closeBegin.link.settings = s.link.settings ∧
    s.closeBegin.link.backup = s.link.backup ∧
    s.closeBegin.link.patronCtx = s.link.patronCtx ∧
    s.closeBegin.link.titleCtx = s.link.titleCtx ∧
    s.closeBegin.records = s.records ∧
    s.closeBegin.planner = s.planner ∧
    s.closeBegin.store = s.store ∧
    s.closeBegin.rack = s.rack ∧
    s.closeBegin.mail.tray = s.mail.tray ∧
    s.closeBegin.mail.lastItem = s.mail.lastItem ∧
    s.closeBegin.mail.openBatch = s.mail.openBatch ∧
    s.closeBegin.mail.lastBatch = s.mail.lastBatch ∧
    s.closeBegin.mail.manifests = s.mail.manifests ∧
    s.closeBegin.mail.alarms = s.mail.alarms ∧
    s.closeBegin.mail.heldClose = s.mail.heldClose ∧
    s.closeBegin.mail.waitingClose = s.mail.waitingClose ∧
    s.closeBegin.returns = s.returns ∧
    s.closeBegin.calendar = s.calendar := by
  refine ⟨?_, ?_, ?_, ?_, ?_, ?_, ?_, ?_, ?_, ?_, ?_, ?_, ?_, ?_, ?_, ?_, ?_, ?_, ?_, ?_, ?_, ?_, ?_, ?_, ?_⟩ <;>
  (simp only [State.closeBegin]; (repeat' split) <;> simp)

@[simp] theorem State.closeCall_frame (s : State) :
    s.closeCall.pending = s.pending ∧
    s.closeCall.run = s.run ∧
    s.closeCall.drawn = s.drawn ∧
    s.closeCall.link.queue = s.link.queue ∧
    s.closeCall.link.pipe = s.link.pipe ∧
    s.closeCall.link.frame = s.link.frame ∧
    s.closeCall.link.incoming = s.link.incoming ∧
    s.closeCall.link.settings = s.link.settings ∧
    s.closeCall.link.backup = s.link.backup ∧
    s.closeCall.link.patronCtx = s.link.patronCtx ∧
    s.closeCall.link.titleCtx = s.link.titleCtx ∧
    s.closeCall.records = s.records ∧
    s.closeCall.planner = s.planner ∧
    s.closeCall.store = s.store ∧
    s.closeCall.rack = s.rack ∧
    s.closeCall.mail.tray = s.mail.tray ∧
    s.closeCall.mail.lastItem = s.mail.lastItem ∧
    s.closeCall.mail.openBatch = s.mail.openBatch ∧
    s.closeCall.mail.lastBatch = s.mail.lastBatch ∧
    s.closeCall.mail.manifests = s.mail.manifests ∧
    s.closeCall.mail.alarms = s.mail.alarms ∧
    s.closeCall.returns = s.returns ∧
    s.closeCall.calendar = s.calendar := by
  refine ⟨?_, ?_, ?_, ?_, ?_, ?_, ?_, ?_, ?_, ?_, ?_, ?_, ?_, ?_, ?_, ?_, ?_, ?_, ?_, ?_, ?_, ?_, ?_⟩ <;>
  (simp only [State.closeCall]; (repeat' split) <;> simp)

@[simp] theorem State.storeBatch_frame (s : State) (m : Manifest) :
    (s.storeBatch m).pending = s.pending ∧
    (s.storeBatch m).run = s.run ∧
    (s.storeBatch m).drawn = s.drawn ∧
    (s.storeBatch m).link.queue = s.link.queue ∧
    (s.storeBatch m).link.pipe = s.link.pipe ∧
    (s.storeBatch m).link.frame = s.link.frame ∧
    (s.storeBatch m).link.incoming = s.link.incoming ∧
    (s.storeBatch m).link.settings = s.link.settings ∧
    (s.storeBatch m).link.backup = s.link.backup ∧
    (s.storeBatch m).link.patronCtx = s.link.patronCtx ∧
    (s.storeBatch m).link.titleCtx = s.link.titleCtx ∧
    (s.storeBatch m).records = s.records ∧
    (s.storeBatch m).planner = s.planner ∧
    (s.storeBatch m).store = s.store ∧
    (s.storeBatch m).rack = s.rack ∧
    (s.storeBatch m).mail.tray = s.mail.tray ∧
    (s.storeBatch m).mail.lastItem = s.mail.lastItem ∧
    (s.storeBatch m).mail.close = s.mail.close ∧
    (s.storeBatch m).mail.lastBatch = s.mail.lastBatch ∧
    (s.storeBatch m).mail.alarms = s.mail.alarms ∧
    (s.storeBatch m).mail.heldClose = s.mail.heldClose ∧
    (s.storeBatch m).mail.waitingClose = s.mail.waitingClose ∧
    (s.storeBatch m).returns = s.returns ∧
    (s.storeBatch m).calendar = s.calendar := by
  simp [State.storeBatch]

@[simp] theorem State.takeWaiting_frame (s : State) :
    s.takeWaiting.pending = s.pending ∧
    s.takeWaiting.run = s.run ∧
    s.takeWaiting.drawn = s.drawn ∧
    s.takeWaiting.link.queue = s.link.queue ∧
    s.takeWaiting.link.pipe = s.link.pipe ∧
    s.takeWaiting.link.frame = s.link.frame ∧
    s.takeWaiting.link.incoming = s.link.incoming ∧
    s.takeWaiting.link.settings = s.link.settings ∧
    s.takeWaiting.link.backup = s.link.backup ∧
    s.takeWaiting.link.patronCtx = s.link.patronCtx ∧
    s.takeWaiting.link.titleCtx = s.link.titleCtx ∧
    s.takeWaiting.records = s.records ∧
    s.takeWaiting.planner = s.planner ∧
    s.takeWaiting.store = s.store ∧
    s.takeWaiting.rack = s.rack ∧
    s.takeWaiting.mail.tray = s.mail.tray ∧
    s.takeWaiting.mail.lastItem = s.mail.lastItem ∧
    s.takeWaiting.mail.openBatch = s.mail.openBatch ∧
    s.takeWaiting.mail.lastBatch = s.mail.lastBatch ∧
    s.takeWaiting.mail.manifests = s.mail.manifests ∧
    s.takeWaiting.mail.alarms = s.mail.alarms ∧
    s.takeWaiting.returns = s.returns ∧
    s.takeWaiting.calendar = s.calendar := by
  refine ⟨?_, ?_, ?_, ?_, ?_, ?_, ?_, ?_, ?_, ?_, ?_, ?_, ?_, ?_, ?_, ?_, ?_, ?_, ?_, ?_, ?_, ?_, ?_⟩ <;>
  (simp only [State.takeWaiting]; (repeat' split) <;> simp)

@[simp] theorem State.closeEnd_frame (s : State) (c : Close) :
    (s.closeEnd c).pending = s.pending ∧
    (s.closeEnd c).run = s.run ∧
    (s.closeEnd c).drawn = s.drawn ∧
    (s.closeEnd c).link.queue = s.link.queue ∧
    (s.closeEnd c).link.pipe = s.link.pipe ∧
    (s.closeEnd c).link.frame = s.link.frame ∧
    (s.closeEnd c).link.incoming = s.link.incoming ∧
    (s.closeEnd c).link.settings = s.link.settings ∧
    (s.closeEnd c).link.backup = s.link.backup ∧
    (s.closeEnd c).link.patronCtx = s.link.patronCtx ∧
    (s.closeEnd c).link.titleCtx = s.link.titleCtx ∧
    (s.closeEnd c).records.loans = s.records.loans ∧
    (s.closeEnd c).records.lost = s.records.lost ∧
    (s.closeEnd c).planner.plans = s.planner.plans ∧
    (s.closeEnd c).planner.queue = s.planner.queue ∧
    (s.closeEnd c).planner.lastPlan = s.planner.lastPlan ∧
    (s.closeEnd c).planner.pass = s.planner.pass ∧
    (s.closeEnd c).planner.rerun = s.planner.rerun ∧
    (s.closeEnd c).store = s.store ∧
    (s.closeEnd c).rack = s.rack ∧
    (s.closeEnd c).mail.lastBatch = s.mail.lastBatch ∧
    (s.closeEnd c).mail.alarms = s.mail.alarms ∧
    (s.closeEnd c).returns = s.returns ∧
    (s.closeEnd c).calendar = s.calendar := by
  refine ⟨?_, ?_, ?_, ?_, ?_, ?_, ?_, ?_, ?_, ?_, ?_, ?_, ?_, ?_, ?_, ?_, ?_, ?_, ?_, ?_, ?_, ?_, ?_, ?_⟩ <;>
  (simp only [State.closeEnd]; (repeat' split) <;> simp)

@[simp] theorem State.appendEntry_frame (s : State) (c : Close) (e : ManifestEntry) :
    (s.appendEntry c e).pending = s.pending ∧
    (s.appendEntry c e).run = s.run ∧
    (s.appendEntry c e).drawn = s.drawn ∧
    (s.appendEntry c e).link = s.link ∧
    (s.appendEntry c e).records = s.records ∧
    (s.appendEntry c e).planner = s.planner ∧
    (s.appendEntry c e).store = s.store ∧
    (s.appendEntry c e).rack = s.rack ∧
    (s.appendEntry c e).mail.tray = s.mail.tray ∧
    (s.appendEntry c e).mail.lastItem = s.mail.lastItem ∧
    (s.appendEntry c e).mail.close = s.mail.close ∧
    (s.appendEntry c e).mail.manifests = s.mail.manifests ∧
    (s.appendEntry c e).mail.alarms = s.mail.alarms ∧
    (s.appendEntry c e).mail.heldClose = s.mail.heldClose ∧
    (s.appendEntry c e).mail.waitingClose = s.mail.waitingClose ∧
    (s.appendEntry c e).returns = s.returns ∧
    (s.appendEntry c e).calendar = s.calendar := by
  refine ⟨?_, ?_, ?_, ?_, ?_, ?_, ?_, ?_, ?_, ?_, ?_, ?_, ?_, ?_, ?_, ?_, ?_⟩ <;>
  (simp only [State.appendEntry]; (repeat' split) <;> simp)

@[simp] theorem State.recordService_frame (s : State) (k : Nat) (catalogues : List Nat) (date : Nat) :
    (s.recordService k catalogues date).pending = s.pending ∧
    (s.recordService k catalogues date).run = s.run ∧
    (s.recordService k catalogues date).drawn = s.drawn ∧
    (s.recordService k catalogues date).link = s.link ∧
    (s.recordService k catalogues date).records.titles = s.records.titles ∧
    (s.recordService k catalogues date).records.loans = s.records.loans ∧
    (s.recordService k catalogues date).records.lost = s.records.lost ∧
    (s.recordService k catalogues date).planner = s.planner ∧
    (s.recordService k catalogues date).store = s.store ∧
    (s.recordService k catalogues date).rack = s.rack ∧
    (s.recordService k catalogues date).mail = s.mail ∧
    (s.recordService k catalogues date).returns = s.returns ∧
    (s.recordService k catalogues date).calendar = s.calendar := by
  simp [State.recordService]

@[simp] theorem State.recordDispatch_frame (s : State) (item n : Nat) :
    (s.recordDispatch item n).pending = s.pending ∧
    (s.recordDispatch item n).run = s.run ∧
    (s.recordDispatch item n).drawn = s.drawn ∧
    (s.recordDispatch item n).link = s.link ∧
    (s.recordDispatch item n).records = s.records ∧
    (s.recordDispatch item n).planner = s.planner ∧
    (s.recordDispatch item n).store = s.store ∧
    (s.recordDispatch item n).rack.length = s.rack.length ∧
    (s.recordDispatch item n).mail = s.mail ∧
    (s.recordDispatch item n).returns = s.returns ∧
    (s.recordDispatch item n).calendar = s.calendar := by
  refine ⟨?_, ?_, ?_, ?_, ?_, ?_, ?_, ?_, ?_, ?_, ?_⟩ <;>
  (simp only [State.recordDispatch]; (repeat' split) <;> simp)

@[simp] theorem State.dispatchCartridge_frame (s : State) (c : Close) (i : Item) (plan serial id : Nat) :
    (s.dispatchCartridge c i plan serial id).pending = s.pending ∧
    (s.dispatchCartridge c i plan serial id).run = s.run ∧
    (s.dispatchCartridge c i plan serial id).drawn = s.drawn ∧
    (s.dispatchCartridge c i plan serial id).link = s.link ∧
    (s.dispatchCartridge c i plan serial id).records.titles = s.records.titles ∧
    (s.dispatchCartridge c i plan serial id).records.lost = s.records.lost ∧
    (s.dispatchCartridge c i plan serial id).planner.queue = s.planner.queue ∧
    (s.dispatchCartridge c i plan serial id).planner.lastPlan = s.planner.lastPlan ∧
    (s.dispatchCartridge c i plan serial id).planner.pass = s.planner.pass ∧
    (s.dispatchCartridge c i plan serial id).planner.rerun = s.planner.rerun ∧
    (s.dispatchCartridge c i plan serial id).store = s.store ∧
    (s.dispatchCartridge c i plan serial id).rack.length = s.rack.length ∧
    (s.dispatchCartridge c i plan serial id).mail.lastItem = s.mail.lastItem ∧
    (s.dispatchCartridge c i plan serial id).mail.manifests = s.mail.manifests ∧
    (s.dispatchCartridge c i plan serial id).mail.alarms = s.mail.alarms ∧
    (s.dispatchCartridge c i plan serial id).mail.heldClose = s.mail.heldClose ∧
    (s.dispatchCartridge c i plan serial id).mail.waitingClose = s.mail.waitingClose ∧
    (s.dispatchCartridge c i plan serial id).returns = s.returns ∧
    (s.dispatchCartridge c i plan serial id).calendar = s.calendar := by
  simp [State.dispatchCartridge]

@[simp] theorem State.dispatchSet_frame (s : State) (c : Close) (i : Item) (t copy id : Nat) :
    (s.dispatchSet c i t copy id).pending = s.pending ∧
    (s.dispatchSet c i t copy id).run = s.run ∧
    (s.dispatchSet c i t copy id).drawn = s.drawn ∧
    (s.dispatchSet c i t copy id).link = s.link ∧
    (s.dispatchSet c i t copy id).records.lost = s.records.lost ∧
    (s.dispatchSet c i t copy id).planner.plans = s.planner.plans ∧
    (s.dispatchSet c i t copy id).planner.queue = s.planner.queue ∧
    (s.dispatchSet c i t copy id).planner.lastPlan = s.planner.lastPlan ∧
    (s.dispatchSet c i t copy id).planner.pass = s.planner.pass ∧
    (s.dispatchSet c i t copy id).planner.rerun = s.planner.rerun ∧
    (s.dispatchSet c i t copy id).store = s.store ∧
    (s.dispatchSet c i t copy id).rack = s.rack ∧
    (s.dispatchSet c i t copy id).mail.lastItem = s.mail.lastItem ∧
    (s.dispatchSet c i t copy id).mail.manifests = s.mail.manifests ∧
    (s.dispatchSet c i t copy id).mail.alarms = s.mail.alarms ∧
    (s.dispatchSet c i t copy id).mail.heldClose = s.mail.heldClose ∧
    (s.dispatchSet c i t copy id).mail.waitingClose = s.mail.waitingClose ∧
    (s.dispatchSet c i t copy id).returns = s.returns ∧
    (s.dispatchSet c i t copy id).calendar = s.calendar := by
  simp [State.dispatchSet]

@[simp] theorem State.afterDispatch_frame (s : State) :
    s.afterDispatch.pending = s.pending ∧
    s.afterDispatch.run = s.run ∧
    s.afterDispatch.drawn = s.drawn ∧
    s.afterDispatch.link.queue = s.link.queue ∧
    s.afterDispatch.link.pipe = s.link.pipe ∧
    s.afterDispatch.link.frame = s.link.frame ∧
    s.afterDispatch.link.incoming = s.link.incoming ∧
    s.afterDispatch.link.settings = s.link.settings ∧
    s.afterDispatch.link.backup = s.link.backup ∧
    s.afterDispatch.link.patronCtx = s.link.patronCtx ∧
    s.afterDispatch.link.titleCtx = s.link.titleCtx ∧
    s.afterDispatch.records.loans = s.records.loans ∧
    s.afterDispatch.records.lost = s.records.lost ∧
    s.afterDispatch.planner.plans = s.planner.plans ∧
    s.afterDispatch.planner.queue = s.planner.queue ∧
    s.afterDispatch.planner.lastPlan = s.planner.lastPlan ∧
    s.afterDispatch.planner.pass = s.planner.pass ∧
    s.afterDispatch.planner.rerun = s.planner.rerun ∧
    s.afterDispatch.store = s.store ∧
    s.afterDispatch.rack = s.rack ∧
    s.afterDispatch.mail.lastBatch = s.mail.lastBatch ∧
    s.afterDispatch.mail.alarms = s.mail.alarms ∧
    s.afterDispatch.returns = s.returns ∧
    s.afterDispatch.calendar = s.calendar := by
  refine ⟨?_, ?_, ?_, ?_, ?_, ?_, ?_, ?_, ?_, ?_, ?_, ?_, ?_, ?_, ?_, ?_, ?_, ?_, ?_, ?_, ?_, ?_, ?_, ?_⟩ <;>
  (simp only [State.afterDispatch]; (repeat' split) <;> simp)

@[simp] theorem State.stepCartridge_frame (s : State) :
    s.stepCartridge.pending = s.pending ∧
    s.stepCartridge.run = s.run ∧
    s.stepCartridge.drawn = s.drawn ∧
    s.stepCartridge.link.queue = s.link.queue ∧
    s.stepCartridge.link.pipe = s.link.pipe ∧
    s.stepCartridge.link.frame = s.link.frame ∧
    s.stepCartridge.link.incoming = s.link.incoming ∧
    s.stepCartridge.link.settings = s.link.settings ∧
    s.stepCartridge.link.backup = s.link.backup ∧
    s.stepCartridge.link.patronCtx = s.link.patronCtx ∧
    s.stepCartridge.link.titleCtx = s.link.titleCtx ∧
    s.stepCartridge.records.lost = s.records.lost ∧
    s.stepCartridge.planner.queue = s.planner.queue ∧
    s.stepCartridge.planner.lastPlan = s.planner.lastPlan ∧
    s.stepCartridge.planner.pass = s.planner.pass ∧
    s.stepCartridge.planner.rerun = s.planner.rerun ∧
    s.stepCartridge.store = s.store ∧
    s.stepCartridge.rack.length = s.rack.length ∧
    s.stepCartridge.mail.alarms = s.mail.alarms ∧
    s.stepCartridge.returns = s.returns ∧
    s.stepCartridge.calendar = s.calendar := by
  refine ⟨?_, ?_, ?_, ?_, ?_, ?_, ?_, ?_, ?_, ?_, ?_, ?_, ?_, ?_, ?_, ?_, ?_, ?_, ?_, ?_, ?_⟩ <;>
  (simp only [State.stepCartridge]; (repeat' split) <;> simp)

@[simp] theorem State.stepSet_frame (s : State) :
    s.stepSet.pending = s.pending ∧
    s.stepSet.run = s.run ∧
    s.stepSet.drawn = s.drawn ∧
    s.stepSet.link.queue = s.link.queue ∧
    s.stepSet.link.pipe = s.link.pipe ∧
    s.stepSet.link.frame = s.link.frame ∧
    s.stepSet.link.incoming = s.link.incoming ∧
    s.stepSet.link.settings = s.link.settings ∧
    s.stepSet.link.backup = s.link.backup ∧
    s.stepSet.link.patronCtx = s.link.patronCtx ∧
    s.stepSet.link.titleCtx = s.link.titleCtx ∧
    s.stepSet.records.lost = s.records.lost ∧
    s.stepSet.planner.plans = s.planner.plans ∧
    s.stepSet.planner.queue = s.planner.queue ∧
    s.stepSet.planner.lastPlan = s.planner.lastPlan ∧
    s.stepSet.planner.pass = s.planner.pass ∧
    s.stepSet.planner.rerun = s.planner.rerun ∧
    s.stepSet.store = s.store ∧
    s.stepSet.rack = s.rack ∧
    s.stepSet.mail.alarms = s.mail.alarms ∧
    s.stepSet.returns = s.returns ∧
    s.stepSet.calendar = s.calendar := by
  refine ⟨?_, ?_, ?_, ?_, ?_, ?_, ?_, ?_, ?_, ?_, ?_, ?_, ?_, ?_, ?_, ?_, ?_, ?_, ?_, ?_, ?_, ?_⟩ <;>
  (simp only [State.stepSet]; (repeat' split) <;> simp)

@[simp] theorem State.setItemState_frame (s : State) (n : Nat) (st : ItemState) :
    (s.setItemState n st).pending = s.pending ∧
    (s.setItemState n st).run = s.run ∧
    (s.setItemState n st).drawn = s.drawn ∧
    (s.setItemState n st).link = s.link ∧
    (s.setItemState n st).records = s.records ∧
    (s.setItemState n st).planner = s.planner ∧
    (s.setItemState n st).store = s.store ∧
    (s.setItemState n st).rack = s.rack ∧
    (s.setItemState n st).mail.lastItem = s.mail.lastItem ∧
    (s.setItemState n st).mail.close = s.mail.close ∧
    (s.setItemState n st).mail.openBatch = s.mail.openBatch ∧
    (s.setItemState n st).mail.lastBatch = s.mail.lastBatch ∧
    (s.setItemState n st).mail.manifests = s.mail.manifests ∧
    (s.setItemState n st).mail.alarms = s.mail.alarms ∧
    (s.setItemState n st).mail.heldClose = s.mail.heldClose ∧
    (s.setItemState n st).mail.waitingClose = s.mail.waitingClose ∧
    (s.setItemState n st).returns = s.returns ∧
    (s.setItemState n st).calendar = s.calendar := by
  simp [State.setItemState]

@[simp] theorem answerShelfPulled_frame (item : Nat) (s : State) :
    (answerShelfPulled item s).2.pending = s.pending ∧
    (answerShelfPulled item s).2.run = s.run ∧
    (answerShelfPulled item s).2.drawn = s.drawn ∧
    (answerShelfPulled item s).2.link = s.link ∧
    (answerShelfPulled item s).2.records = s.records ∧
    (answerShelfPulled item s).2.planner = s.planner ∧
    (answerShelfPulled item s).2.store = s.store ∧
    (answerShelfPulled item s).2.rack = s.rack ∧
    (answerShelfPulled item s).2.mail.lastItem = s.mail.lastItem ∧
    (answerShelfPulled item s).2.mail.close = s.mail.close ∧
    (answerShelfPulled item s).2.mail.openBatch = s.mail.openBatch ∧
    (answerShelfPulled item s).2.mail.lastBatch = s.mail.lastBatch ∧
    (answerShelfPulled item s).2.mail.manifests = s.mail.manifests ∧
    (answerShelfPulled item s).2.mail.alarms = s.mail.alarms ∧
    (answerShelfPulled item s).2.mail.heldClose = s.mail.heldClose ∧
    (answerShelfPulled item s).2.mail.waitingClose = s.mail.waitingClose ∧
    (answerShelfPulled item s).2.returns = s.returns ∧
    (answerShelfPulled item s).2.calendar = s.calendar := by
  refine ⟨?_, ?_, ?_, ?_, ?_, ?_, ?_, ?_, ?_, ?_, ?_, ?_, ?_, ?_, ?_, ?_, ?_, ?_⟩ <;>
  (simp only [answerShelfPulled]; (repeat' split) <;> simp)

@[simp] theorem answerMailLabel_frame (item : Nat) (s : State) :
    (answerMailLabel item s).2.pending = s.pending ∧
    (answerMailLabel item s).2.run = s.run ∧
    (answerMailLabel item s).2.drawn = s.drawn ∧
    (answerMailLabel item s).2.link = s.link ∧
    (answerMailLabel item s).2.records = s.records ∧
    (answerMailLabel item s).2.planner = s.planner ∧
    (answerMailLabel item s).2.store = s.store ∧
    (answerMailLabel item s).2.rack = s.rack ∧
    (answerMailLabel item s).2.mail.lastItem = s.mail.lastItem ∧
    (answerMailLabel item s).2.mail.close = s.mail.close ∧
    (answerMailLabel item s).2.mail.openBatch = s.mail.openBatch ∧
    (answerMailLabel item s).2.mail.lastBatch = s.mail.lastBatch ∧
    (answerMailLabel item s).2.mail.manifests = s.mail.manifests ∧
    (answerMailLabel item s).2.mail.alarms = s.mail.alarms ∧
    (answerMailLabel item s).2.mail.heldClose = s.mail.heldClose ∧
    (answerMailLabel item s).2.mail.waitingClose = s.mail.waitingClose ∧
    (answerMailLabel item s).2.returns = s.returns ∧
    (answerMailLabel item s).2.calendar = s.calendar := by
  refine ⟨?_, ?_, ?_, ?_, ?_, ?_, ?_, ?_, ?_, ?_, ?_, ?_, ?_, ?_, ?_, ?_, ?_, ?_⟩ <;>
  (simp only [answerMailLabel]; (repeat' split) <;> simp)

@[simp] theorem answerManifestGet_frame (batch : Nat) (s : State) :
    (answerManifestGet batch s).2.pending = s.pending ∧
    (answerManifestGet batch s).2.run = s.run ∧
    (answerManifestGet batch s).2.drawn = s.drawn ∧
    (answerManifestGet batch s).2.link = s.link ∧
    (answerManifestGet batch s).2.records = s.records ∧
    (answerManifestGet batch s).2.planner = s.planner ∧
    (answerManifestGet batch s).2.store = s.store ∧
    (answerManifestGet batch s).2.rack = s.rack ∧
    (answerManifestGet batch s).2.mail = s.mail ∧
    (answerManifestGet batch s).2.returns = s.returns ∧
    (answerManifestGet batch s).2.calendar = s.calendar := by
  refine ⟨?_, ?_, ?_, ?_, ?_, ?_, ?_, ?_, ?_, ?_, ?_⟩ <;>
  (simp only [answerManifestGet]; (repeat' split) <;> simp)

@[simp] theorem answerAlarmPut_frame (entry weekdays hour minute : Nat) (s : State) :
    (answerAlarmPut entry weekdays hour minute s).2.pending = s.pending ∧
    (answerAlarmPut entry weekdays hour minute s).2.run = s.run ∧
    (answerAlarmPut entry weekdays hour minute s).2.drawn = s.drawn ∧
    (answerAlarmPut entry weekdays hour minute s).2.link = s.link ∧
    (answerAlarmPut entry weekdays hour minute s).2.records = s.records ∧
    (answerAlarmPut entry weekdays hour minute s).2.planner = s.planner ∧
    (answerAlarmPut entry weekdays hour minute s).2.store = s.store ∧
    (answerAlarmPut entry weekdays hour minute s).2.rack = s.rack ∧
    (answerAlarmPut entry weekdays hour minute s).2.mail.tray = s.mail.tray ∧
    (answerAlarmPut entry weekdays hour minute s).2.mail.lastItem = s.mail.lastItem ∧
    (answerAlarmPut entry weekdays hour minute s).2.mail.close = s.mail.close ∧
    (answerAlarmPut entry weekdays hour minute s).2.mail.openBatch = s.mail.openBatch ∧
    (answerAlarmPut entry weekdays hour minute s).2.mail.lastBatch = s.mail.lastBatch ∧
    (answerAlarmPut entry weekdays hour minute s).2.mail.manifests = s.mail.manifests ∧
    (answerAlarmPut entry weekdays hour minute s).2.mail.alarms.length = s.mail.alarms.length ∧
    (answerAlarmPut entry weekdays hour minute s).2.mail.heldClose = s.mail.heldClose ∧
    (answerAlarmPut entry weekdays hour minute s).2.mail.waitingClose = s.mail.waitingClose ∧
    (answerAlarmPut entry weekdays hour minute s).2.returns = s.returns ∧
    (answerAlarmPut entry weekdays hour minute s).2.calendar = s.calendar := by
  refine ⟨?_, ?_, ?_, ?_, ?_, ?_, ?_, ?_, ?_, ?_, ?_, ?_, ?_, ?_, ?_, ?_, ?_, ?_, ?_⟩ <;>
  (simp only [answerAlarmPut]; (repeat' split) <;> simp)

end Sys2Proof.Machine
end

