-- ==== Sys2Proof/Laws/FramesReturnsDesk.lean ====
section
/-!
SUPPORT. What each operation of Machine/ReturnsDesk.lean leaves as it stands: one lemma per operation.
-/

namespace Sys2Proof.Machine

@[simp] theorem State.push_frame (s : State) (b : BinName) (serial : Option Nat) (reason : BinReason) :
    (s.push b serial reason).pending = s.pending ∧
    (s.push b serial reason).run = s.run ∧
    (s.push b serial reason).drawn = s.drawn ∧
    (s.push b serial reason).link.queue = s.link.queue ∧
    (s.push b serial reason).link.pipe = s.link.pipe ∧
    (s.push b serial reason).link.frame = s.link.frame ∧
    (s.push b serial reason).link.incoming = s.link.incoming ∧
    (s.push b serial reason).link.settings = s.link.settings ∧
    (s.push b serial reason).link.backup = s.link.backup ∧
    (s.push b serial reason).link.patronCtx = s.link.patronCtx ∧
    (s.push b serial reason).link.titleCtx = s.link.titleCtx ∧
    (s.push b serial reason).records = s.records ∧
    (s.push b serial reason).planner = s.planner ∧
    (s.push b serial reason).store = s.store ∧
    (s.push b serial reason).rack = s.rack ∧
    (s.push b serial reason).mail = s.mail ∧
    (s.push b serial reason).calendar = s.calendar := by
  refine ⟨?_, ?_, ?_, ?_, ?_, ?_, ?_, ?_, ?_, ?_, ?_, ?_, ?_, ?_, ?_, ?_, ?_⟩ <;>
  (simp only [State.push]; (repeat' split) <;> simp)

@[simp] theorem State.setResult_frame (s : State) (r : Result) :
    (s.setResult r).pending = s.pending ∧
    (s.setResult r).run = s.run ∧
    (s.setResult r).drawn = s.drawn ∧
    (s.setResult r).link.queue = s.link.queue ∧
    (s.setResult r).link.pipe = s.link.pipe ∧
    (s.setResult r).link.frame = s.link.frame ∧
    (s.setResult r).link.incoming = s.link.incoming ∧
    (s.setResult r).link.settings = s.link.settings ∧
    (s.setResult r).link.backup = s.link.backup ∧
    (s.setResult r).link.patronCtx = s.link.patronCtx ∧
    (s.setResult r).link.titleCtx = s.link.titleCtx ∧
    (s.setResult r).records = s.records ∧
    (s.setResult r).planner = s.planner ∧
    (s.setResult r).store = s.store ∧
    (s.setResult r).rack = s.rack ∧
    (s.setResult r).mail = s.mail ∧
    (s.setResult r).returns.present = s.returns.present ∧
    (s.setResult r).returns.reader = s.returns.reader ∧
    (s.setResult r).returns.identifying = s.returns.identifying ∧
    (s.setResult r).returns.removed = s.returns.removed ∧
    (s.setResult r).returns.pending = s.returns.pending ∧
    (s.setResult r).returns.reuse = s.returns.reuse ∧
    (s.setResult r).returns.inspect = s.returns.inspect ∧
    (s.setResult r).calendar = s.calendar := by
  simp [State.setResult]

@[simp] theorem State.relate_frame (s : State) (serial : Nat) :
    (s.relate serial).2.pending = s.pending ∧
    (s.relate serial).2.run = s.run ∧
    (s.relate serial).2.drawn = s.drawn ∧
    (s.relate serial).2.link = s.link ∧
    (s.relate serial).2.records.titles = s.records.titles ∧
    (s.relate serial).2.planner.plans = s.planner.plans ∧
    (s.relate serial).2.planner.queue = s.planner.queue ∧
    (s.relate serial).2.planner.lastPlan = s.planner.lastPlan ∧
    (s.relate serial).2.planner.pass = s.planner.pass ∧
    (s.relate serial).2.planner.rerun = s.planner.rerun ∧
    (s.relate serial).2.store = s.store ∧
    (s.relate serial).2.rack = s.rack ∧
    (s.relate serial).2.mail = s.mail ∧
    (s.relate serial).2.returns = s.returns ∧
    (s.relate serial).2.calendar = s.calendar := by
  refine ⟨?_, ?_, ?_, ?_, ?_, ?_, ?_, ?_, ?_, ?_, ?_, ?_, ?_, ?_, ?_⟩ <;>
  (simp only [State.relate]; (repeat' split) <;> simp)

@[simp] theorem State.binCartridge_frame (s : State) (c : Classification) (r : Result) :
    (s.binCartridge c r).pending = s.pending ∧
    (s.binCartridge c r).run = s.run ∧
    (s.binCartridge c r).drawn = s.drawn ∧
    (s.binCartridge c r).link.queue = s.link.queue ∧
    (s.binCartridge c r).link.pipe = s.link.pipe ∧
    (s.binCartridge c r).link.frame = s.link.frame ∧
    (s.binCartridge c r).link.incoming = s.link.incoming ∧
    (s.binCartridge c r).link.settings = s.link.settings ∧
    (s.binCartridge c r).link.backup = s.link.backup ∧
    (s.binCartridge c r).link.patronCtx = s.link.patronCtx ∧
    (s.binCartridge c r).link.titleCtx = s.link.titleCtx ∧
    (s.binCartridge c r).records = s.records ∧
    (s.binCartridge c r).planner = s.planner ∧
    (s.binCartridge c r).store = s.store ∧
    (s.binCartridge c r).rack = s.rack ∧
    (s.binCartridge c r).mail = s.mail ∧
    (s.binCartridge c r).calendar = s.calendar := by
  refine ⟨?_, ?_, ?_, ?_, ?_, ?_, ?_, ?_, ?_, ?_, ?_, ?_, ?_, ?_, ?_, ?_, ?_⟩ <;>
  (simp only [State.binCartridge]; (repeat' split) <;> simp)

@[simp] theorem State.classify_frame (s : State) (serial : Nat) (cls : Cls) (cycles : Nat) :
    (s.classify serial cls cycles).pending = s.pending ∧
    (s.classify serial cls cycles).run = s.run ∧
    (s.classify serial cls cycles).drawn = s.drawn ∧
    (s.classify serial cls cycles).link.queue = s.link.queue ∧
    (s.classify serial cls cycles).link.pipe = s.link.pipe ∧
    (s.classify serial cls cycles).link.frame = s.link.frame ∧
    (s.classify serial cls cycles).link.incoming = s.link.incoming ∧
    (s.classify serial cls cycles).link.settings = s.link.settings ∧
    (s.classify serial cls cycles).link.backup = s.link.backup ∧
    (s.classify serial cls cycles).link.patronCtx = s.link.patronCtx ∧
    (s.classify serial cls cycles).link.titleCtx = s.link.titleCtx ∧
    (s.classify serial cls cycles).records.titles = s.records.titles ∧
    (s.classify serial cls cycles).planner.plans = s.planner.plans ∧
    (s.classify serial cls cycles).planner.queue = s.planner.queue ∧
    (s.classify serial cls cycles).planner.lastPlan = s.planner.lastPlan ∧
    (s.classify serial cls cycles).planner.pass = s.planner.pass ∧
    (s.classify serial cls cycles).planner.rerun = s.planner.rerun ∧
    (s.classify serial cls cycles).store = s.store ∧
    (s.classify serial cls cycles).rack = s.rack ∧
    (s.classify serial cls cycles).mail = s.mail ∧
    (s.classify serial cls cycles).calendar = s.calendar := by
  simp [State.classify]

@[simp] theorem State.setReader_frame (s : State) (st : ReaderState) (identifying : Bool) :
    (s.setReader st identifying).pending = s.pending ∧
    (s.setReader st identifying).run = s.run ∧
    (s.setReader st identifying).drawn = s.drawn ∧
    (s.setReader st identifying).link = s.link ∧
    (s.setReader st identifying).records = s.records ∧
    (s.setReader st identifying).planner = s.planner ∧
    (s.setReader st identifying).store = s.store ∧
    (s.setReader st identifying).rack = s.rack ∧
    (s.setReader st identifying).mail = s.mail ∧
    (s.setReader st identifying).returns.present = s.returns.present ∧
    (s.setReader st identifying).returns.removed = s.returns.removed ∧
    (s.setReader st identifying).returns.pending = s.returns.pending ∧
    (s.setReader st identifying).returns.result = s.returns.result ∧
    (s.setReader st identifying).returns.reuse = s.returns.reuse ∧
    (s.setReader st identifying).returns.inspect = s.returns.inspect ∧
    (s.setReader st identifying).calendar = s.calendar := by
  simp [State.setReader]

@[simp] theorem State.keepRead_frame (s : State) (i : Option Identity) :
    (s.keepRead i).pending = s.pending ∧
    (s.keepRead i).run = s.run ∧
    (s.keepRead i).drawn = s.drawn ∧
    (s.keepRead i).link = s.link ∧
    (s.keepRead i).records = s.records ∧
    (s.keepRead i).planner = s.planner ∧
    (s.keepRead i).store = s.store ∧
    (s.keepRead i).rack = s.rack ∧
    (s.keepRead i).mail = s.mail ∧
    (s.keepRead i).returns.present = s.returns.present ∧
    (s.keepRead i).returns.reader = s.returns.reader ∧
    (s.keepRead i).returns.identifying = s.returns.identifying ∧
    (s.keepRead i).returns.kept = i ∧
    (s.keepRead i).returns.removed = s.returns.removed ∧
    (s.keepRead i).returns.pending = s.returns.pending ∧
    (s.keepRead i).returns.result = s.returns.result ∧
    (s.keepRead i).returns.reuse = s.returns.reuse ∧
    (s.keepRead i).returns.inspect = s.returns.inspect ∧
    (s.keepRead i).calendar = s.calendar := by
  simp [State.keepRead]

@[simp] theorem State.storePending_frame (s : State) (i : Identity) :
    (s.storePending i).pending = s.pending ∧
    (s.storePending i).run = s.run ∧
    (s.storePending i).drawn = s.drawn ∧
    (s.storePending i).link = s.link ∧
    (s.storePending i).records = s.records ∧
    (s.storePending i).planner = s.planner ∧
    (s.storePending i).store = s.store ∧
    (s.storePending i).rack = s.rack ∧
    (s.storePending i).mail = s.mail ∧
    (s.storePending i).returns.present = s.returns.present ∧
    (s.storePending i).returns.result = s.returns.result ∧
    (s.storePending i).returns.reuse = s.returns.reuse ∧
    (s.storePending i).returns.inspect = s.returns.inspect ∧
    (s.storePending i).calendar = s.calendar := by
  simp [State.storePending]

@[simp] theorem State.readEnds_frame (s : State) (i : Option Identity) :
    (s.readEnds i).pending = s.pending ∧
    (s.readEnds i).run = s.run ∧
    (s.readEnds i).drawn = s.drawn ∧
    (s.readEnds i).link.queue = s.link.queue ∧
    (s.readEnds i).link.pipe = s.link.pipe ∧
    (s.readEnds i).link.frame = s.link.frame ∧
    (s.readEnds i).link.incoming = s.link.incoming ∧
    (s.readEnds i).link.settings = s.link.settings ∧
    (s.readEnds i).link.backup = s.link.backup ∧
    (s.readEnds i).link.patronCtx = s.link.patronCtx ∧
    (s.readEnds i).link.titleCtx = s.link.titleCtx ∧
    (s.readEnds i).records.titles = s.records.titles ∧
    (s.readEnds i).planner.plans = s.planner.plans ∧
    (s.readEnds i).planner.queue = s.planner.queue ∧
    (s.readEnds i).planner.lastPlan = s.planner.lastPlan ∧
    (s.readEnds i).planner.pass = s.planner.pass ∧
    (s.readEnds i).planner.rerun = s.planner.rerun ∧
    (s.readEnds i).store = s.store ∧
    (s.readEnds i).rack = s.rack ∧
    (s.readEnds i).mail = s.mail ∧
    (s.readEnds i).calendar = s.calendar := by
  refine ⟨?_, ?_, ?_, ?_, ?_, ?_, ?_, ?_, ?_, ?_, ?_, ?_, ?_, ?_, ?_, ?_, ?_, ?_, ?_, ?_, ?_⟩ <;>
  (simp only [State.readEnds]; (repeat' split) <;> simp)

@[simp] theorem State.comparePending_frame (s : State) (i : Option Identity) :
    (s.comparePending i).pending = s.pending ∧
    (s.comparePending i).run = s.run ∧
    (s.comparePending i).drawn = s.drawn ∧
    (s.comparePending i).link = s.link ∧
    (s.comparePending i).records = s.records ∧
    (s.comparePending i).planner = s.planner ∧
    (s.comparePending i).store = s.store ∧
    (s.comparePending i).rack = s.rack ∧
    (s.comparePending i).mail = s.mail ∧
    (s.comparePending i).returns.present = s.returns.present ∧
    (s.comparePending i).returns.reader = s.returns.reader ∧
    (s.comparePending i).returns.pending = s.returns.pending ∧
    (s.comparePending i).returns.result = s.returns.result ∧
    (s.comparePending i).returns.reuse = s.returns.reuse ∧
    (s.comparePending i).returns.inspect = s.returns.inspect ∧
    (s.comparePending i).calendar = s.calendar := by
  simp [State.comparePending]

@[simp] theorem State.readerRead_frame (s : State) (i : Option Identity) :
    (s.readerRead i).pending = s.pending ∧
    (s.readerRead i).run = s.run ∧
    (s.readerRead i).drawn = s.drawn ∧
    (s.readerRead i).link.queue = s.link.queue ∧
    (s.readerRead i).link.pipe = s.link.pipe ∧
    (s.readerRead i).link.frame = s.link.frame ∧
    (s.readerRead i).link.incoming = s.link.incoming ∧
    (s.readerRead i).link.settings = s.link.settings ∧
    (s.readerRead i).link.backup = s.link.backup ∧
    (s.readerRead i).link.patronCtx = s.link.patronCtx ∧
    (s.readerRead i).link.titleCtx = s.link.titleCtx ∧
    (s.readerRead i).records.titles = s.records.titles ∧
    (s.readerRead i).planner.plans = s.planner.plans ∧
    (s.readerRead i).planner.queue = s.planner.queue ∧
    (s.readerRead i).planner.lastPlan = s.planner.lastPlan ∧
    (s.readerRead i).planner.pass = s.planner.pass ∧
    (s.readerRead i).planner.rerun = s.planner.rerun ∧
    (s.readerRead i).store = s.store ∧
    (s.readerRead i).rack = s.rack ∧
    (s.readerRead i).mail = s.mail ∧
    (s.readerRead i).calendar = s.calendar := by
  refine ⟨?_, ?_, ?_, ?_, ?_, ?_, ?_, ?_, ?_, ?_, ?_, ?_, ?_, ?_, ?_, ?_, ?_, ?_, ?_, ?_, ?_⟩ <;>
  (simp only [State.readerRead]; (repeat' split) <;> simp)

@[simp] theorem State.readerInsert_frame (s : State) :
    s.readerInsert.pending = s.pending ∧
    s.readerInsert.run = s.run ∧
    s.readerInsert.drawn = s.drawn ∧
    s.readerInsert.link = s.link ∧
    s.readerInsert.records = s.records ∧
    s.readerInsert.planner = s.planner ∧
    s.readerInsert.store = s.store ∧
    s.readerInsert.rack = s.rack ∧
    s.readerInsert.mail = s.mail ∧
    s.readerInsert.returns.removed = s.returns.removed ∧
    s.readerInsert.returns.pending = s.returns.pending ∧
    s.readerInsert.returns.result = s.returns.result ∧
    s.readerInsert.returns.reuse = s.returns.reuse ∧
    s.readerInsert.returns.inspect = s.returns.inspect ∧
    s.readerInsert.calendar = s.calendar := by
  refine ⟨?_, ?_, ?_, ?_, ?_, ?_, ?_, ?_, ?_, ?_, ?_, ?_, ?_, ?_, ?_⟩ <;>
  (simp only [State.readerInsert]; (repeat' split) <;> simp)

@[simp] theorem State.readerRemove_frame (s : State) :
    s.readerRemove.pending = s.pending ∧
    s.readerRemove.run = s.run ∧
    s.readerRemove.drawn = s.drawn ∧
    s.readerRemove.link = s.link ∧
    s.readerRemove.records = s.records ∧
    s.readerRemove.planner = s.planner ∧
    s.readerRemove.store = s.store ∧
    s.readerRemove.rack = s.rack ∧
    s.readerRemove.mail = s.mail ∧
    s.readerRemove.returns.pending = s.returns.pending ∧
    s.readerRemove.returns.result = s.returns.result ∧
    s.readerRemove.returns.reuse = s.returns.reuse ∧
    s.readerRemove.returns.inspect = s.returns.inspect ∧
    s.readerRemove.calendar = s.calendar := by
  refine ⟨?_, ?_, ?_, ?_, ?_, ?_, ?_, ?_, ?_, ?_, ?_, ?_, ?_, ?_⟩ <;>
  (simp only [State.readerRemove]; (repeat' split) <;> simp)

@[simp] theorem State.classifyHeld_frame (s : State) (p : Pending) (slot : Nat) :
    (s.classifyHeld p slot).pending = s.pending ∧
    (s.classifyHeld p slot).run = s.run ∧
    (s.classifyHeld p slot).drawn = s.drawn ∧
    (s.classifyHeld p slot).link.queue = s.link.queue ∧
    (s.classifyHeld p slot).link.pipe = s.link.pipe ∧
    (s.classifyHeld p slot).link.frame = s.link.frame ∧
    (s.classifyHeld p slot).link.incoming = s.link.incoming ∧
    (s.classifyHeld p slot).link.settings = s.link.settings ∧
    (s.classifyHeld p slot).link.backup = s.link.backup ∧
    (s.classifyHeld p slot).link.patronCtx = s.link.patronCtx ∧
    (s.classifyHeld p slot).link.titleCtx = s.link.titleCtx ∧
    (s.classifyHeld p slot).records.titles = s.records.titles ∧
    (s.classifyHeld p slot).planner.plans = s.planner.plans ∧
    (s.classifyHeld p slot).planner.queue = s.planner.queue ∧
    (s.classifyHeld p slot).planner.lastPlan = s.planner.lastPlan ∧
    (s.classifyHeld p slot).planner.pass = s.planner.pass ∧
    (s.classifyHeld p slot).planner.rerun = s.planner.rerun ∧
    (s.classifyHeld p slot).store = s.store ∧
    (s.classifyHeld p slot).rack = s.rack ∧
    (s.classifyHeld p slot).mail = s.mail ∧
    (s.classifyHeld p slot).returns.present = s.returns.present ∧
    (s.classifyHeld p slot).returns.reader = s.returns.reader ∧
    (s.classifyHeld p slot).returns.identifying = s.returns.identifying ∧
    (s.classifyHeld p slot).returns.removed = s.returns.removed ∧
    (s.classifyHeld p slot).returns.pending = s.returns.pending ∧
    (s.classifyHeld p slot).returns.reuse = s.returns.reuse ∧
    (s.classifyHeld p slot).returns.inspect = s.returns.inspect ∧
    (s.classifyHeld p slot).calendar = s.calendar := by
  simp [State.classifyHeld]

@[simp] theorem State.afterPending_frame (s : State) :
    s.afterPending.pending = s.pending ∧
    s.afterPending.run = s.run ∧
    s.afterPending.drawn = s.drawn ∧
    s.afterPending.link = s.link ∧
    s.afterPending.records = s.records ∧
    s.afterPending.planner = s.planner ∧
    s.afterPending.store = s.store ∧
    s.afterPending.rack = s.rack ∧
    s.afterPending.mail = s.mail ∧
    s.afterPending.returns.present = s.returns.present ∧
    s.afterPending.returns.removed = s.returns.removed ∧
    s.afterPending.returns.pending = s.returns.pending ∧
    s.afterPending.returns.result = s.returns.result ∧
    s.afterPending.returns.reuse = s.returns.reuse ∧
    s.afterPending.returns.inspect = s.returns.inspect ∧
    s.afterPending.calendar = s.calendar := by
  refine ⟨?_, ?_, ?_, ?_, ?_, ?_, ?_, ?_, ?_, ?_, ?_, ?_, ?_, ?_, ?_, ?_⟩ <;>
  (simp only [State.afterPending]; (repeat' split) <;> simp)

@[simp] theorem State.completePending_frame (s : State) :
    s.completePending.pending = s.pending ∧
    s.completePending.run = s.run ∧
    s.completePending.drawn = s.drawn ∧
    s.completePending.link.queue = s.link.queue ∧
    s.completePending.link.pipe = s.link.pipe ∧
    s.completePending.link.frame = s.link.frame ∧
    s.completePending.link.incoming = s.link.incoming ∧
    s.completePending.link.settings = s.link.settings ∧
    s.completePending.link.backup = s.link.backup ∧
    s.completePending.link.patronCtx = s.link.patronCtx ∧
    s.completePending.link.titleCtx = s.link.titleCtx ∧
    s.completePending.records.titles = s.records.titles ∧
    s.completePending.planner.plans = s.planner.plans ∧
    s.completePending.planner.queue = s.planner.queue ∧
    s.completePending.planner.lastPlan = s.planner.lastPlan ∧
    s.completePending.planner.pass = s.planner.pass ∧
    s.completePending.planner.rerun = s.planner.rerun ∧
    s.completePending.store = s.store ∧
    s.completePending.rack = s.rack ∧
    s.completePending.mail = s.mail ∧
    s.completePending.calendar = s.calendar := by
  refine ⟨?_, ?_, ?_, ?_, ?_, ?_, ?_, ?_, ?_, ?_, ?_, ?_, ?_, ?_, ?_, ?_, ?_, ?_, ?_, ?_, ?_⟩ <;>
  (simp only [State.completePending]; (repeat' split) <;> simp)

@[simp] theorem State.setFollow_frame (s : State) (f : Follow) :
    (s.setFollow f).pending = s.pending ∧
    (s.setFollow f).run = s.run ∧
    (s.setFollow f).drawn = s.drawn ∧
    (s.setFollow f).link = s.link ∧
    (s.setFollow f).records = s.records ∧
    (s.setFollow f).planner = s.planner ∧
    (s.setFollow f).store = s.store ∧
    (s.setFollow f).rack = s.rack ∧
    (s.setFollow f).mail = s.mail ∧
    (s.setFollow f).returns = s.returns ∧
    (s.setFollow f).calendar.clock = s.calendar.clock ∧
    (s.setFollow f).calendar.lastRoll = s.calendar.lastRoll ∧
    (s.setFollow f).calendar.closedDays = s.calendar.closedDays ∧
    (s.setFollow f).calendar.reminders = s.calendar.reminders ∧
    (s.setFollow f).calendar.roll = s.calendar.roll ∧
    (s.setFollow f).calendar.within60 = s.calendar.within60 := by
  simp [State.setFollow]

@[simp] theorem State.completeSet_frame (s : State) (loan patron t c : Nat) :
    (s.completeSet loan patron t c).pending = s.pending ∧
    (s.completeSet loan patron t c).run = s.run ∧
    (s.completeSet loan patron t c).drawn = s.drawn ∧
    (s.completeSet loan patron t c).link.queue = s.link.queue ∧
    (s.completeSet loan patron t c).link.pipe = s.link.pipe ∧
    (s.completeSet loan patron t c).link.frame = s.link.frame ∧
    (s.completeSet loan patron t c).link.incoming = s.link.incoming ∧
    (s.completeSet loan patron t c).link.settings = s.link.settings ∧
    (s.completeSet loan patron t c).link.backup = s.link.backup ∧
    (s.completeSet loan patron t c).link.patronCtx = s.link.patronCtx ∧
    (s.completeSet loan patron t c).link.titleCtx = s.link.titleCtx ∧
    (s.completeSet loan patron t c).records.lost = s.records.lost ∧
    (s.completeSet loan patron t c).planner.plans = s.planner.plans ∧
    (s.completeSet loan patron t c).planner.queue = s.planner.queue ∧
    (s.completeSet loan patron t c).planner.lastPlan = s.planner.lastPlan ∧
    (s.completeSet loan patron t c).planner.pass = s.planner.pass ∧
    (s.completeSet loan patron t c).planner.rerun = s.planner.rerun ∧
    (s.completeSet loan patron t c).store = s.store ∧
    (s.completeSet loan patron t c).rack = s.rack ∧
    (s.completeSet loan patron t c).mail.close = s.mail.close ∧
    (s.completeSet loan patron t c).mail.openBatch = s.mail.openBatch ∧
    (s.completeSet loan patron t c).mail.lastBatch = s.mail.lastBatch ∧
    (s.completeSet loan patron t c).mail.manifests = s.mail.manifests ∧
    (s.completeSet loan patron t c).mail.alarms = s.mail.alarms ∧
    (s.completeSet loan patron t c).mail.heldClose = s.mail.heldClose ∧
    (s.completeSet loan patron t c).mail.waitingClose = s.mail.waitingClose ∧
    (s.completeSet loan patron t c).returns = s.returns ∧
    (s.completeSet loan patron t c).calendar = s.calendar := by
  simp [State.completeSet]

@[simp] theorem answerReturnLoan_frame (loan volume : Nat) (s : State) :
    (answerReturnLoan loan volume s).2.pending = s.pending ∧
    (answerReturnLoan loan volume s).2.run = s.run ∧
    (answerReturnLoan loan volume s).2.drawn = s.drawn ∧
    (answerReturnLoan loan volume s).2.link.queue = s.link.queue ∧
    (answerReturnLoan loan volume s).2.link.pipe = s.link.pipe ∧
    (answerReturnLoan loan volume s).2.link.frame = s.link.frame ∧
    (answerReturnLoan loan volume s).2.link.incoming = s.link.incoming ∧
    (answerReturnLoan loan volume s).2.link.settings = s.link.settings ∧
    (answerReturnLoan loan volume s).2.link.backup = s.link.backup ∧
    (answerReturnLoan loan volume s).2.link.patronCtx = s.link.patronCtx ∧
    (answerReturnLoan loan volume s).2.link.titleCtx = s.link.titleCtx ∧
    (answerReturnLoan loan volume s).2.records.lost = s.records.lost ∧
    (answerReturnLoan loan volume s).2.planner.plans = s.planner.plans ∧
    (answerReturnLoan loan volume s).2.planner.queue = s.planner.queue ∧
    (answerReturnLoan loan volume s).2.planner.lastPlan = s.planner.lastPlan ∧
    (answerReturnLoan loan volume s).2.planner.pass = s.planner.pass ∧
    (answerReturnLoan loan volume s).2.planner.rerun = s.planner.rerun ∧
    (answerReturnLoan loan volume s).2.store = s.store ∧
    (answerReturnLoan loan volume s).2.rack = s.rack ∧
    (answerReturnLoan loan volume s).2.mail.close = s.mail.close ∧
    (answerReturnLoan loan volume s).2.mail.openBatch = s.mail.openBatch ∧
    (answerReturnLoan loan volume s).2.mail.lastBatch = s.mail.lastBatch ∧
    (answerReturnLoan loan volume s).2.mail.manifests = s.mail.manifests ∧
    (answerReturnLoan loan volume s).2.mail.alarms = s.mail.alarms ∧
    (answerReturnLoan loan volume s).2.mail.heldClose = s.mail.heldClose ∧
    (answerReturnLoan loan volume s).2.mail.waitingClose = s.mail.waitingClose ∧
    (answerReturnLoan loan volume s).2.returns = s.returns ∧
    (answerReturnLoan loan volume s).2.calendar = s.calendar := by
  refine ⟨?_, ?_, ?_, ?_, ?_, ?_, ?_, ?_, ?_, ?_, ?_, ?_, ?_, ?_, ?_, ?_, ?_, ?_, ?_, ?_, ?_, ?_, ?_, ?_, ?_, ?_, ?_, ?_⟩ <;>
  (simp only [answerReturnLoan]; (repeat' split) <;> simp)

@[simp] theorem State.addLate_frame (s : State) (t c volume : Nat) :
    (s.addLate t c volume).pending = s.pending ∧
    (s.addLate t c volume).run = s.run ∧
    (s.addLate t c volume).drawn = s.drawn ∧
    (s.addLate t c volume).link = s.link ∧
    (s.addLate t c volume).records.patrons = s.records.patrons ∧
    (s.addLate t c volume).records.titles = s.records.titles ∧
    (s.addLate t c volume).records.loans = s.records.loans ∧
    (s.addLate t c volume).planner = s.planner ∧
    (s.addLate t c volume).store = s.store ∧
    (s.addLate t c volume).rack = s.rack ∧
    (s.addLate t c volume).mail = s.mail ∧
    (s.addLate t c volume).returns = s.returns ∧
    (s.addLate t c volume).calendar = s.calendar := by
  simp [State.addLate]

@[simp] theorem answerReturnLate_frame (title copy volume : Nat) (s : State) :
    (answerReturnLate title copy volume s).2.pending = s.pending ∧
    (answerReturnLate title copy volume s).2.run = s.run ∧
    (answerReturnLate title copy volume s).2.drawn = s.drawn ∧
    (answerReturnLate title copy volume s).2.link.queue = s.link.queue ∧
    (answerReturnLate title copy volume s).2.link.pipe = s.link.pipe ∧
    (answerReturnLate title copy volume s).2.link.frame = s.link.frame ∧
    (answerReturnLate title copy volume s).2.link.incoming = s.link.incoming ∧
    (answerReturnLate title copy volume s).2.link.settings = s.link.settings ∧
    (answerReturnLate title copy volume s).2.link.backup = s.link.backup ∧
    (answerReturnLate title copy volume s).2.link.patronCtx = s.link.patronCtx ∧
    (answerReturnLate title copy volume s).2.records.loans = s.records.loans ∧
    (answerReturnLate title copy volume s).2.planner.plans = s.planner.plans ∧
    (answerReturnLate title copy volume s).2.planner.queue = s.planner.queue ∧
    (answerReturnLate title copy volume s).2.planner.lastPlan = s.planner.lastPlan ∧
    (answerReturnLate title copy volume s).2.planner.pass = s.planner.pass ∧
    (answerReturnLate title copy volume s).2.planner.rerun = s.planner.rerun ∧
    (answerReturnLate title copy volume s).2.store = s.store ∧
    (answerReturnLate title copy volume s).2.rack = s.rack ∧
    (answerReturnLate title copy volume s).2.mail.close = s.mail.close ∧
    (answerReturnLate title copy volume s).2.mail.openBatch = s.mail.openBatch ∧
    (answerReturnLate title copy volume s).2.mail.lastBatch = s.mail.lastBatch ∧
    (answerReturnLate title copy volume s).2.mail.manifests = s.mail.manifests ∧
    (answerReturnLate title copy volume s).2.mail.alarms = s.mail.alarms ∧
    (answerReturnLate title copy volume s).2.mail.heldClose = s.mail.heldClose ∧
    (answerReturnLate title copy volume s).2.mail.waitingClose = s.mail.waitingClose ∧
    (answerReturnLate title copy volume s).2.returns = s.returns ∧
    (answerReturnLate title copy volume s).2.calendar = s.calendar := by
  refine ⟨?_, ?_, ?_, ?_, ?_, ?_, ?_, ?_, ?_, ?_, ?_, ?_, ?_, ?_, ?_, ?_, ?_, ?_, ?_, ?_, ?_, ?_, ?_, ?_, ?_, ?_, ?_⟩ <;>
  (simp only [answerReturnLate]; (repeat' split) <;> simp)

@[simp] theorem answerBinList_frame (bin : Nat) (s : State) :
    (answerBinList bin s).2.pending = s.pending ∧
    (answerBinList bin s).2.run = s.run ∧
    (answerBinList bin s).2.drawn = s.drawn ∧
    (answerBinList bin s).2.link = s.link ∧
    (answerBinList bin s).2.records = s.records ∧
    (answerBinList bin s).2.planner = s.planner ∧
    (answerBinList bin s).2.store = s.store ∧
    (answerBinList bin s).2.rack = s.rack ∧
    (answerBinList bin s).2.mail = s.mail ∧
    (answerBinList bin s).2.returns = s.returns ∧
    (answerBinList bin s).2.calendar = s.calendar := by
  refine ⟨?_, ?_, ?_, ?_, ?_, ?_, ?_, ?_, ?_, ?_, ?_⟩ <;>
  (simp only [answerBinList]; (repeat' split) <;> simp)

@[simp] theorem answerBinTake_frame (bin count : Nat) (s : State) :
    (answerBinTake bin count s).2.pending = s.pending ∧
    (answerBinTake bin count s).2.run = s.run ∧
    (answerBinTake bin count s).2.drawn = s.drawn ∧
    (answerBinTake bin count s).2.link = s.link ∧
    (answerBinTake bin count s).2.records = s.records ∧
    (answerBinTake bin count s).2.planner = s.planner ∧
    (answerBinTake bin count s).2.store = s.store ∧
    (answerBinTake bin count s).2.rack = s.rack ∧
    (answerBinTake bin count s).2.mail = s.mail ∧
    (answerBinTake bin count s).2.calendar = s.calendar := by
  refine ⟨?_, ?_, ?_, ?_, ?_, ?_, ?_, ?_, ?_, ?_⟩ <;>
  (simp only [answerBinTake]; (repeat' split) <;> simp)

end Sys2Proof.Machine
end

