-- ==== Sys2Proof/Laws/FramesCalendar.lean ====
section
/-!
SUPPORT. What each operation of Machine/Calendar.lean leaves as it stands: one lemma per operation.
-/

namespace Sys2Proof.Machine

@[simp] theorem State.setClock_frame (s : State) (c : Clock) :
    (s.setClock c).pending = s.pending ∧
    (s.setClock c).run = s.run ∧
    (s.setClock c).drawn = s.drawn ∧
    (s.setClock c).link = s.link ∧
    (s.setClock c).records = s.records ∧
    (s.setClock c).planner = s.planner ∧
    (s.setClock c).store = s.store ∧
    (s.setClock c).rack = s.rack ∧
    (s.setClock c).mail = s.mail ∧
    (s.setClock c).returns = s.returns ∧
    (s.setClock c).calendar.lastRoll = s.calendar.lastRoll ∧
    (s.setClock c).calendar.closedDays = s.calendar.closedDays ∧
    (s.setClock c).calendar.reminders = s.calendar.reminders ∧
    (s.setClock c).calendar.roll = s.calendar.roll ∧
    (s.setClock c).calendar.within60 = s.calendar.within60 ∧
    (s.setClock c).calendar.follow = s.calendar.follow := by
  simp [State.setClock]

@[simp] theorem State.setRoll_frame (s : State) (date : Nat) (p : RollPlace) :
    (s.setRoll date p).pending = s.pending ∧
    (s.setRoll date p).run = s.run ∧
    (s.setRoll date p).drawn = s.drawn ∧
    (s.setRoll date p).link = s.link ∧
    (s.setRoll date p).records = s.records ∧
    (s.setRoll date p).planner = s.planner ∧
    (s.setRoll date p).store = s.store ∧
    (s.setRoll date p).rack = s.rack ∧
    (s.setRoll date p).mail = s.mail ∧
    (s.setRoll date p).returns = s.returns ∧
    (s.setRoll date p).calendar.clock = s.calendar.clock ∧
    (s.setRoll date p).calendar.lastRoll = s.calendar.lastRoll ∧
    (s.setRoll date p).calendar.closedDays = s.calendar.closedDays ∧
    (s.setRoll date p).calendar.reminders = s.calendar.reminders ∧
    (s.setRoll date p).calendar.within60 = s.calendar.within60 ∧
    (s.setRoll date p).calendar.follow = s.calendar.follow := by
  simp [State.setRoll]

@[simp] theorem State.beginRoll_frame (s : State) :
    s.beginRoll.pending = s.pending ∧
    s.beginRoll.run = s.run ∧
    s.beginRoll.drawn = s.drawn ∧
    s.beginRoll.link = s.link ∧
    s.beginRoll.records = s.records ∧
    s.beginRoll.planner = s.planner ∧
    s.beginRoll.store = s.store ∧
    s.beginRoll.rack = s.rack ∧
    s.beginRoll.mail = s.mail ∧
    s.beginRoll.returns = s.returns ∧
    s.beginRoll.calendar.clock = s.calendar.clock ∧
    s.beginRoll.calendar.lastRoll = s.calendar.lastRoll ∧
    s.beginRoll.calendar.closedDays = s.calendar.closedDays ∧
    s.beginRoll.calendar.reminders = s.calendar.reminders ∧
    s.beginRoll.calendar.follow = s.calendar.follow := by
  simp [State.beginRoll]

@[simp] theorem State.warnRoll_frame (s : State) :
    s.warnRoll.pending = s.pending ∧
    s.warnRoll.run = s.run ∧
    s.warnRoll.drawn = s.drawn ∧
    s.warnRoll.link.queue = s.link.queue ∧
    s.warnRoll.link.pipe = s.link.pipe ∧
    s.warnRoll.link.frame = s.link.frame ∧
    s.warnRoll.link.incoming = s.link.incoming ∧
    s.warnRoll.link.settings = s.link.settings ∧
    s.warnRoll.link.backup = s.link.backup ∧
    s.warnRoll.link.patronCtx = s.link.patronCtx ∧
    s.warnRoll.link.titleCtx = s.link.titleCtx ∧
    s.warnRoll.records = s.records ∧
    s.warnRoll.planner = s.planner ∧
    s.warnRoll.store = s.store ∧
    s.warnRoll.rack = s.rack ∧
    s.warnRoll.mail = s.mail ∧
    s.warnRoll.returns = s.returns ∧
    s.warnRoll.calendar.clock = s.calendar.clock ∧
    s.warnRoll.calendar.lastRoll = s.calendar.lastRoll ∧
    s.warnRoll.calendar.closedDays = s.calendar.closedDays ∧
    s.warnRoll.calendar.reminders = s.calendar.reminders ∧
    s.warnRoll.calendar.roll = s.calendar.roll ∧
    s.warnRoll.calendar.follow = s.calendar.follow := by
  refine ⟨?_, ?_, ?_, ?_, ?_, ?_, ?_, ?_, ?_, ?_, ?_, ?_, ?_, ?_, ?_, ?_, ?_, ?_, ?_, ?_, ?_, ?_, ?_⟩ <;>
  (simp only [State.warnRoll]; (repeat' split) <;> simp)

@[simp] theorem State.minuteBoundary_frame (s : State) :
    s.minuteBoundary.pending = s.pending ∧
    s.minuteBoundary.run = s.run ∧
    s.minuteBoundary.link.queue = s.link.queue ∧
    s.minuteBoundary.link.pipe = s.link.pipe ∧
    s.minuteBoundary.link.frame = s.link.frame ∧
    s.minuteBoundary.link.incoming = s.link.incoming ∧
    s.minuteBoundary.link.settings = s.link.settings ∧
    s.minuteBoundary.link.backup = s.link.backup ∧
    s.minuteBoundary.link.patronCtx = s.link.patronCtx ∧
    s.minuteBoundary.link.titleCtx = s.link.titleCtx ∧
    s.minuteBoundary.records = s.records ∧
    s.minuteBoundary.planner = s.planner ∧
    s.minuteBoundary.store = s.store ∧
    s.minuteBoundary.rack = s.rack ∧
    s.minuteBoundary.mail.tray = s.mail.tray ∧
    s.minuteBoundary.mail.lastItem = s.mail.lastItem ∧
    s.minuteBoundary.mail.openBatch = s.mail.openBatch ∧
    s.minuteBoundary.mail.lastBatch = s.mail.lastBatch ∧
    s.minuteBoundary.mail.manifests = s.mail.manifests ∧
    s.minuteBoundary.mail.alarms = s.mail.alarms ∧
    s.minuteBoundary.returns = s.returns ∧
    s.minuteBoundary.calendar.clock = s.calendar.clock ∧
    s.minuteBoundary.calendar.lastRoll = s.calendar.lastRoll ∧
    s.minuteBoundary.calendar.closedDays = s.calendar.closedDays ∧
    s.minuteBoundary.calendar.reminders = s.calendar.reminders ∧
    s.minuteBoundary.calendar.follow = s.calendar.follow := by
  refine ⟨?_, ?_, ?_, ?_, ?_, ?_, ?_, ?_, ?_, ?_, ?_, ?_, ?_, ?_, ?_, ?_, ?_, ?_, ?_, ?_, ?_, ?_, ?_, ?_, ?_, ?_⟩ <;>
  (simp only [State.minuteBoundary]; (repeat' split) <;> simp)

@[simp] theorem State.endStop_frame (s : State) :
    s.endStop.pending = s.pending ∧
    s.endStop.run = s.run ∧
    s.endStop.drawn = s.drawn ∧
    s.endStop.link.queue = s.link.queue ∧
    s.endStop.link.pipe = s.link.pipe ∧
    s.endStop.link.frame = s.link.frame ∧
    s.endStop.link.incoming = s.link.incoming ∧
    s.endStop.link.settings = s.link.settings ∧
    s.endStop.link.backup = s.link.backup ∧
    s.endStop.link.patronCtx = s.link.patronCtx ∧
    s.endStop.link.titleCtx = s.link.titleCtx ∧
    s.endStop.records = s.records ∧
    s.endStop.planner = s.planner ∧
    s.endStop.store = s.store ∧
    s.endStop.rack = s.rack ∧
    s.endStop.mail = s.mail ∧
    s.endStop.returns = s.returns ∧
    s.endStop.calendar.lastRoll = s.calendar.lastRoll ∧
    s.endStop.calendar.closedDays = s.calendar.closedDays ∧
    s.endStop.calendar.reminders = s.calendar.reminders ∧
    s.endStop.calendar.roll = s.calendar.roll ∧
    s.endStop.calendar.follow = s.calendar.follow := by
  refine ⟨?_, ?_, ?_, ?_, ?_, ?_, ?_, ?_, ?_, ?_, ?_, ?_, ?_, ?_, ?_, ?_, ?_, ?_, ?_, ?_, ?_, ?_⟩ <;>
  (simp only [State.endStop]; (repeat' split) <;> simp)

@[simp] theorem State.tick_frame (s : State) :
    s.tick.pending = s.pending ∧
    s.tick.run = s.run ∧
    s.tick.link.queue = s.link.queue ∧
    s.tick.link.pipe = s.link.pipe ∧
    s.tick.link.frame = s.link.frame ∧
    s.tick.link.incoming = s.link.incoming ∧
    s.tick.link.settings = s.link.settings ∧
    s.tick.link.backup = s.link.backup ∧
    s.tick.link.patronCtx = s.link.patronCtx ∧
    s.tick.link.titleCtx = s.link.titleCtx ∧
    s.tick.records = s.records ∧
    s.tick.planner = s.planner ∧
    s.tick.store = s.store ∧
    s.tick.rack = s.rack ∧
    s.tick.mail.tray = s.mail.tray ∧
    s.tick.mail.lastItem = s.mail.lastItem ∧
    s.tick.mail.openBatch = s.mail.openBatch ∧
    s.tick.mail.lastBatch = s.mail.lastBatch ∧
    s.tick.mail.manifests = s.mail.manifests ∧
    s.tick.mail.alarms = s.mail.alarms ∧
    s.tick.returns = s.returns ∧
    s.tick.calendar.lastRoll = s.calendar.lastRoll ∧
    s.tick.calendar.closedDays = s.calendar.closedDays ∧
    s.tick.calendar.reminders = s.calendar.reminders ∧
    s.tick.calendar.follow = s.calendar.follow := by
  refine ⟨?_, ?_, ?_, ?_, ?_, ?_, ?_, ?_, ?_, ?_, ?_, ?_, ?_, ?_, ?_, ?_, ?_, ?_, ?_, ?_, ?_, ?_, ?_, ?_, ?_⟩ <;>
  (simp only [State.tick]; (repeat' split) <;> simp)

@[simp] theorem answerClockStop_frame (s : State) :
    (answerClockStop s).2.pending = s.pending ∧
    (answerClockStop s).2.run = s.run ∧
    (answerClockStop s).2.drawn = s.drawn ∧
    (answerClockStop s).2.link.queue = s.link.queue ∧
    (answerClockStop s).2.link.pipe = s.link.pipe ∧
    (answerClockStop s).2.link.frame = s.link.frame ∧
    (answerClockStop s).2.link.incoming = s.link.incoming ∧
    (answerClockStop s).2.link.settings = s.link.settings ∧
    (answerClockStop s).2.link.backup = s.link.backup ∧
    (answerClockStop s).2.link.patronCtx = s.link.patronCtx ∧
    (answerClockStop s).2.link.titleCtx = s.link.titleCtx ∧
    (answerClockStop s).2.records = s.records ∧
    (answerClockStop s).2.planner = s.planner ∧
    (answerClockStop s).2.store = s.store ∧
    (answerClockStop s).2.rack = s.rack ∧
    (answerClockStop s).2.mail = s.mail ∧
    (answerClockStop s).2.returns = s.returns ∧
    (answerClockStop s).2.calendar.lastRoll = s.calendar.lastRoll ∧
    (answerClockStop s).2.calendar.closedDays = s.calendar.closedDays ∧
    (answerClockStop s).2.calendar.reminders = s.calendar.reminders ∧
    (answerClockStop s).2.calendar.roll = s.calendar.roll ∧
    (answerClockStop s).2.calendar.follow = s.calendar.follow := by
  refine ⟨?_, ?_, ?_, ?_, ?_, ?_, ?_, ?_, ?_, ?_, ?_, ?_, ?_, ?_, ?_, ?_, ?_, ?_, ?_, ?_, ?_, ?_⟩ <;>
  (simp only [answerClockStop]; (repeat' split) <;> simp)

@[simp] theorem answerClockSet_frame (year month day hour minute second : Nat) (s : State) :
    (answerClockSet year month day hour minute second s).2.pending = s.pending ∧
    (answerClockSet year month day hour minute second s).2.run = s.run ∧
    (answerClockSet year month day hour minute second s).2.drawn = s.drawn ∧
    (answerClockSet year month day hour minute second s).2.link = s.link ∧
    (answerClockSet year month day hour minute second s).2.records = s.records ∧
    (answerClockSet year month day hour minute second s).2.planner = s.planner ∧
    (answerClockSet year month day hour minute second s).2.store = s.store ∧
    (answerClockSet year month day hour minute second s).2.rack = s.rack ∧
    (answerClockSet year month day hour minute second s).2.mail = s.mail ∧
    (answerClockSet year month day hour minute second s).2.returns = s.returns ∧
    (answerClockSet year month day hour minute second s).2.calendar.lastRoll = s.calendar.lastRoll ∧
    (answerClockSet year month day hour minute second s).2.calendar.closedDays = s.calendar.closedDays ∧
    (answerClockSet year month day hour minute second s).2.calendar.reminders = s.calendar.reminders ∧
    (answerClockSet year month day hour minute second s).2.calendar.roll = s.calendar.roll ∧
    (answerClockSet year month day hour minute second s).2.calendar.within60 = s.calendar.within60 ∧
    (answerClockSet year month day hour minute second s).2.calendar.follow = s.calendar.follow := by
  refine ⟨?_, ?_, ?_, ?_, ?_, ?_, ?_, ?_, ?_, ?_, ?_, ?_, ?_, ?_, ?_, ?_⟩ <;>
  (simp only [answerClockSet]; (repeat' split) <;> simp)

@[simp] theorem answerClockStart_frame (s : State) :
    (answerClockStart s).2.pending = s.pending ∧
    (answerClockStart s).2.run = s.run ∧
    (answerClockStart s).2.drawn = s.drawn ∧
    (answerClockStart s).2.link = s.link ∧
    (answerClockStart s).2.records = s.records ∧
    (answerClockStart s).2.planner = s.planner ∧
    (answerClockStart s).2.store = s.store ∧
    (answerClockStart s).2.rack = s.rack ∧
    (answerClockStart s).2.mail = s.mail ∧
    (answerClockStart s).2.returns = s.returns ∧
    (answerClockStart s).2.calendar.lastRoll = s.calendar.lastRoll ∧
    (answerClockStart s).2.calendar.closedDays = s.calendar.closedDays ∧
    (answerClockStart s).2.calendar.reminders = s.calendar.reminders ∧
    (answerClockStart s).2.calendar.follow = s.calendar.follow := by
  refine ⟨?_, ?_, ?_, ?_, ?_, ?_, ?_, ?_, ?_, ?_, ?_, ?_, ?_, ?_⟩ <;>
  (simp only [answerClockStart]; (repeat' split) <;> simp)

@[simp] theorem putClosedDay_frame (entry : Nat) (e : Option ClosedDay) (s : State) :
    (putClosedDay entry e s).2.pending = s.pending ∧
    (putClosedDay entry e s).2.run = s.run ∧
    (putClosedDay entry e s).2.drawn = s.drawn ∧
    (putClosedDay entry e s).2.link = s.link ∧
    (putClosedDay entry e s).2.records = s.records ∧
    (putClosedDay entry e s).2.planner = s.planner ∧
    (putClosedDay entry e s).2.store = s.store ∧
    (putClosedDay entry e s).2.rack = s.rack ∧
    (putClosedDay entry e s).2.mail = s.mail ∧
    (putClosedDay entry e s).2.returns = s.returns ∧
    (putClosedDay entry e s).2.calendar.clock = s.calendar.clock ∧
    (putClosedDay entry e s).2.calendar.lastRoll = s.calendar.lastRoll ∧
    (putClosedDay entry e s).2.calendar.closedDays.length = s.calendar.closedDays.length ∧
    (putClosedDay entry e s).2.calendar.reminders = s.calendar.reminders ∧
    (putClosedDay entry e s).2.calendar.roll = s.calendar.roll ∧
    (putClosedDay entry e s).2.calendar.within60 = s.calendar.within60 ∧
    (putClosedDay entry e s).2.calendar.follow = s.calendar.follow := by
  simp [putClosedDay]

@[simp] theorem answerClosedUsed_frame (entry month day weekday : Nat) (s : State) :
    (answerClosedUsed entry month day weekday s).2.pending = s.pending ∧
    (answerClosedUsed entry month day weekday s).2.run = s.run ∧
    (answerClosedUsed entry month day weekday s).2.drawn = s.drawn ∧
    (answerClosedUsed entry month day weekday s).2.link = s.link ∧
    (answerClosedUsed entry month day weekday s).2.records = s.records ∧
    (answerClosedUsed entry month day weekday s).2.planner = s.planner ∧
    (answerClosedUsed entry month day weekday s).2.store = s.store ∧
    (answerClosedUsed entry month day weekday s).2.rack = s.rack ∧
    (answerClosedUsed entry month day weekday s).2.mail = s.mail ∧
    (answerClosedUsed entry month day weekday s).2.returns = s.returns ∧
    (answerClosedUsed entry month day weekday s).2.calendar.clock = s.calendar.clock ∧
    (answerClosedUsed entry month day weekday s).2.calendar.lastRoll = s.calendar.lastRoll ∧
    (answerClosedUsed entry month day weekday s).2.calendar.closedDays.length = s.calendar.closedDays.length ∧
    (answerClosedUsed entry month day weekday s).2.calendar.reminders = s.calendar.reminders ∧
    (answerClosedUsed entry month day weekday s).2.calendar.roll = s.calendar.roll ∧
    (answerClosedUsed entry month day weekday s).2.calendar.within60 = s.calendar.within60 ∧
    (answerClosedUsed entry month day weekday s).2.calendar.follow = s.calendar.follow := by
  refine ⟨?_, ?_, ?_, ?_, ?_, ?_, ?_, ?_, ?_, ?_, ?_, ?_, ?_, ?_, ?_, ?_, ?_⟩ <;>
  (simp only [answerClosedUsed]; (repeat' split) <;> simp)

@[simp] theorem answerClosedClear_frame (entry : Nat) (s : State) :
    (answerClosedClear entry s).2.pending = s.pending ∧
    (answerClosedClear entry s).2.run = s.run ∧
    (answerClosedClear entry s).2.drawn = s.drawn ∧
    (answerClosedClear entry s).2.link = s.link ∧
    (answerClosedClear entry s).2.records = s.records ∧
    (answerClosedClear entry s).2.planner = s.planner ∧
    (answerClosedClear entry s).2.store = s.store ∧
    (answerClosedClear entry s).2.rack = s.rack ∧
    (answerClosedClear entry s).2.mail = s.mail ∧
    (answerClosedClear entry s).2.returns = s.returns ∧
    (answerClosedClear entry s).2.calendar.clock = s.calendar.clock ∧
    (answerClosedClear entry s).2.calendar.lastRoll = s.calendar.lastRoll ∧
    (answerClosedClear entry s).2.calendar.closedDays.length = s.calendar.closedDays.length ∧
    (answerClosedClear entry s).2.calendar.reminders = s.calendar.reminders ∧
    (answerClosedClear entry s).2.calendar.roll = s.calendar.roll ∧
    (answerClosedClear entry s).2.calendar.within60 = s.calendar.within60 ∧
    (answerClosedClear entry s).2.calendar.follow = s.calendar.follow := by
  refine ⟨?_, ?_, ?_, ?_, ?_, ?_, ?_, ?_, ?_, ?_, ?_, ?_, ?_, ?_, ?_, ?_, ?_⟩ <;>
  (simp only [answerClosedClear]; (repeat' split) <;> simp)

@[simp] theorem answerRemindersRead_frame (s : State) :
    (answerRemindersRead s).2.pending = s.pending ∧
    (answerRemindersRead s).2.run = s.run ∧
    (answerRemindersRead s).2.drawn = s.drawn ∧
    (answerRemindersRead s).2.link = s.link ∧
    (answerRemindersRead s).2.records = s.records ∧
    (answerRemindersRead s).2.planner = s.planner ∧
    (answerRemindersRead s).2.store = s.store ∧
    (answerRemindersRead s).2.rack = s.rack ∧
    (answerRemindersRead s).2.mail = s.mail ∧
    (answerRemindersRead s).2.returns = s.returns ∧
    (answerRemindersRead s).2.calendar.clock = s.calendar.clock ∧
    (answerRemindersRead s).2.calendar.lastRoll = s.calendar.lastRoll ∧
    (answerRemindersRead s).2.calendar.closedDays = s.calendar.closedDays ∧
    (answerRemindersRead s).2.calendar.roll = s.calendar.roll ∧
    (answerRemindersRead s).2.calendar.within60 = s.calendar.within60 ∧
    (answerRemindersRead s).2.calendar.follow = s.calendar.follow := by
  simp [answerRemindersRead]

@[simp] theorem State.writeOff_frame (s : State) (id : Nat) (l : Loan) (date : Nat) :
    (s.writeOff id l date).pending = s.pending ∧
    (s.writeOff id l date).run = s.run ∧
    (s.writeOff id l date).drawn = s.drawn ∧
    (s.writeOff id l date).link.queue = s.link.queue ∧
    (s.writeOff id l date).link.pipe = s.link.pipe ∧
    (s.writeOff id l date).link.frame = s.link.frame ∧
    (s.writeOff id l date).link.incoming = s.link.incoming ∧
    (s.writeOff id l date).link.settings = s.link.settings ∧
    (s.writeOff id l date).link.backup = s.link.backup ∧
    (s.writeOff id l date).link.patronCtx = s.link.patronCtx ∧
    (s.writeOff id l date).link.titleCtx = s.link.titleCtx ∧
    (s.writeOff id l date).planner.plans = s.planner.plans ∧
    (s.writeOff id l date).planner.queue = s.planner.queue ∧
    (s.writeOff id l date).planner.lastPlan = s.planner.lastPlan ∧
    (s.writeOff id l date).planner.pass = s.planner.pass ∧
    (s.writeOff id l date).planner.rerun = s.planner.rerun ∧
    (s.writeOff id l date).store = s.store ∧
    (s.writeOff id l date).rack = s.rack ∧
    (s.writeOff id l date).mail.close = s.mail.close ∧
    (s.writeOff id l date).mail.openBatch = s.mail.openBatch ∧
    (s.writeOff id l date).mail.lastBatch = s.mail.lastBatch ∧
    (s.writeOff id l date).mail.manifests = s.mail.manifests ∧
    (s.writeOff id l date).mail.alarms = s.mail.alarms ∧
    (s.writeOff id l date).mail.heldClose = s.mail.heldClose ∧
    (s.writeOff id l date).mail.waitingClose = s.mail.waitingClose ∧
    (s.writeOff id l date).returns = s.returns ∧
    (s.writeOff id l date).calendar = s.calendar := by
  refine ⟨?_, ?_, ?_, ?_, ?_, ?_, ?_, ?_, ?_, ?_, ?_, ?_, ?_, ?_, ?_, ?_, ?_, ?_, ?_, ?_, ?_, ?_, ?_, ?_, ?_, ?_, ?_⟩ <;>
  (simp only [State.writeOff]; (repeat' split) <;> simp)

@[simp] theorem State.rollLoan_frame (s : State) (id : Nat) (l : Loan) (date : Nat) :
    (s.rollLoan id l date).pending = s.pending ∧
    (s.rollLoan id l date).run = s.run ∧
    (s.rollLoan id l date).drawn = s.drawn ∧
    (s.rollLoan id l date).link.queue = s.link.queue ∧
    (s.rollLoan id l date).link.pipe = s.link.pipe ∧
    (s.rollLoan id l date).link.frame = s.link.frame ∧
    (s.rollLoan id l date).link.incoming = s.link.incoming ∧
    (s.rollLoan id l date).link.settings = s.link.settings ∧
    (s.rollLoan id l date).link.backup = s.link.backup ∧
    (s.rollLoan id l date).link.patronCtx = s.link.patronCtx ∧
    (s.rollLoan id l date).link.titleCtx = s.link.titleCtx ∧
    (s.rollLoan id l date).planner.plans = s.planner.plans ∧
    (s.rollLoan id l date).planner.queue = s.planner.queue ∧
    (s.rollLoan id l date).planner.lastPlan = s.planner.lastPlan ∧
    (s.rollLoan id l date).planner.pass = s.planner.pass ∧
    (s.rollLoan id l date).planner.rerun = s.planner.rerun ∧
    (s.rollLoan id l date).store = s.store ∧
    (s.rollLoan id l date).rack = s.rack ∧
    (s.rollLoan id l date).mail.close = s.mail.close ∧
    (s.rollLoan id l date).mail.openBatch = s.mail.openBatch ∧
    (s.rollLoan id l date).mail.lastBatch = s.mail.lastBatch ∧
    (s.rollLoan id l date).mail.manifests = s.mail.manifests ∧
    (s.rollLoan id l date).mail.alarms = s.mail.alarms ∧
    (s.rollLoan id l date).mail.heldClose = s.mail.heldClose ∧
    (s.rollLoan id l date).mail.waitingClose = s.mail.waitingClose ∧
    (s.rollLoan id l date).returns = s.returns ∧
    (s.rollLoan id l date).calendar.clock = s.calendar.clock ∧
    (s.rollLoan id l date).calendar.lastRoll = s.calendar.lastRoll ∧
    (s.rollLoan id l date).calendar.closedDays = s.calendar.closedDays ∧
    (s.rollLoan id l date).calendar.roll = s.calendar.roll ∧
    (s.rollLoan id l date).calendar.within60 = s.calendar.within60 ∧
    (s.rollLoan id l date).calendar.follow = s.calendar.follow := by
  refine ⟨?_, ?_, ?_, ?_, ?_, ?_, ?_, ?_, ?_, ?_, ?_, ?_, ?_, ?_, ?_, ?_, ?_, ?_, ?_, ?_, ?_, ?_, ?_, ?_, ?_, ?_, ?_, ?_, ?_, ?_, ?_, ?_⟩ <;>
  (simp only [State.rollLoan]; (repeat' split) <;> simp)

@[simp] theorem State.loanStep_frame (s : State) :
    s.loanStep.pending = s.pending ∧
    s.loanStep.run = s.run ∧
    s.loanStep.drawn = s.drawn ∧
    s.loanStep.link.queue = s.link.queue ∧
    s.loanStep.link.pipe = s.link.pipe ∧
    s.loanStep.link.frame = s.link.frame ∧
    s.loanStep.link.incoming = s.link.incoming ∧
    s.loanStep.link.settings = s.link.settings ∧
    s.loanStep.link.backup = s.link.backup ∧
    s.loanStep.link.patronCtx = s.link.patronCtx ∧
    s.loanStep.link.titleCtx = s.link.titleCtx ∧
    s.loanStep.planner.plans = s.planner.plans ∧
    s.loanStep.planner.queue = s.planner.queue ∧
    s.loanStep.planner.lastPlan = s.planner.lastPlan ∧
    s.loanStep.planner.pass = s.planner.pass ∧
    s.loanStep.planner.rerun = s.planner.rerun ∧
    s.loanStep.store = s.store ∧
    s.loanStep.rack = s.rack ∧
    s.loanStep.mail.close = s.mail.close ∧
    s.loanStep.mail.openBatch = s.mail.openBatch ∧
    s.loanStep.mail.lastBatch = s.mail.lastBatch ∧
    s.loanStep.mail.manifests = s.mail.manifests ∧
    s.loanStep.mail.alarms = s.mail.alarms ∧
    s.loanStep.mail.heldClose = s.mail.heldClose ∧
    s.loanStep.mail.waitingClose = s.mail.waitingClose ∧
    s.loanStep.returns = s.returns ∧
    s.loanStep.calendar.clock = s.calendar.clock ∧
    s.loanStep.calendar.lastRoll = s.calendar.lastRoll ∧
    s.loanStep.calendar.closedDays = s.calendar.closedDays ∧
    s.loanStep.calendar.within60 = s.calendar.within60 ∧
    s.loanStep.calendar.follow = s.calendar.follow := by
  refine ⟨?_, ?_, ?_, ?_, ?_, ?_, ?_, ?_, ?_, ?_, ?_, ?_, ?_, ?_, ?_, ?_, ?_, ?_, ?_, ?_, ?_, ?_, ?_, ?_, ?_, ?_, ?_, ?_, ?_, ?_, ?_⟩ <;>
  (simp only [State.loanStep]; (repeat' split) <;> simp)

@[simp] theorem State.releasePatron_frame (s : State) (k : Nat) :
    (s.releasePatron k).pending = s.pending ∧
    (s.releasePatron k).run = s.run ∧
    (s.releasePatron k).drawn = s.drawn ∧
    (s.releasePatron k).link.queue = s.link.queue ∧
    (s.releasePatron k).link.pipe = s.link.pipe ∧
    (s.releasePatron k).link.frame = s.link.frame ∧
    (s.releasePatron k).link.incoming = s.link.incoming ∧
    (s.releasePatron k).link.settings = s.link.settings ∧
    (s.releasePatron k).link.backup = s.link.backup ∧
    (s.releasePatron k).link.titleCtx = s.link.titleCtx ∧
    (s.releasePatron k).link.events.enables = s.link.events.enables ∧
    (s.releasePatron k).link.events.reading = s.link.events.reading ∧
    (s.releasePatron k).records.titles = s.records.titles ∧
    (s.releasePatron k).records.loans = s.records.loans ∧
    (s.releasePatron k).records.lost = s.records.lost ∧
    (s.releasePatron k).planner = s.planner ∧
    (s.releasePatron k).store = s.store ∧
    (s.releasePatron k).rack = s.rack ∧
    (s.releasePatron k).mail = s.mail ∧
    (s.releasePatron k).returns = s.returns ∧
    (s.releasePatron k).calendar = s.calendar := by
  refine ⟨?_, ?_, ?_, ?_, ?_, ?_, ?_, ?_, ?_, ?_, ?_, ?_, ?_, ?_, ?_, ?_, ?_, ?_, ?_, ?_, ?_⟩ <;>
  (simp only [State.releasePatron]; (repeat' split) <;> simp)

@[simp] theorem State.rollPatron_frame (s : State) (k : Nat) (p : Patron) :
    (s.rollPatron k p).pending = s.pending ∧
    (s.rollPatron k p).run = s.run ∧
    (s.rollPatron k p).drawn = s.drawn ∧
    (s.rollPatron k p).link.queue = s.link.queue ∧
    (s.rollPatron k p).link.pipe = s.link.pipe ∧
    (s.rollPatron k p).link.frame = s.link.frame ∧
    (s.rollPatron k p).link.incoming = s.link.incoming ∧
    (s.rollPatron k p).link.settings = s.link.settings ∧
    (s.rollPatron k p).link.backup = s.link.backup ∧
    (s.rollPatron k p).link.titleCtx = s.link.titleCtx ∧
    (s.rollPatron k p).records.loans = s.records.loans ∧
    (s.rollPatron k p).records.lost = s.records.lost ∧
    (s.rollPatron k p).planner.plans = s.planner.plans ∧
    (s.rollPatron k p).planner.queue = s.planner.queue ∧
    (s.rollPatron k p).planner.lastPlan = s.planner.lastPlan ∧
    (s.rollPatron k p).planner.pass = s.planner.pass ∧
    (s.rollPatron k p).planner.rerun = s.planner.rerun ∧
    (s.rollPatron k p).store = s.store ∧
    (s.rollPatron k p).rack = s.rack ∧
    (s.rollPatron k p).mail.close = s.mail.close ∧
    (s.rollPatron k p).mail.openBatch = s.mail.openBatch ∧
    (s.rollPatron k p).mail.lastBatch = s.mail.lastBatch ∧
    (s.rollPatron k p).mail.manifests = s.mail.manifests ∧
    (s.rollPatron k p).mail.alarms = s.mail.alarms ∧
    (s.rollPatron k p).mail.heldClose = s.mail.heldClose ∧
    (s.rollPatron k p).mail.waitingClose = s.mail.waitingClose ∧
    (s.rollPatron k p).returns = s.returns ∧
    (s.rollPatron k p).calendar = s.calendar := by
  refine ⟨?_, ?_, ?_, ?_, ?_, ?_, ?_, ?_, ?_, ?_, ?_, ?_, ?_, ?_, ?_, ?_, ?_, ?_, ?_, ?_, ?_, ?_, ?_, ?_, ?_, ?_, ?_, ?_⟩ <;>
  (simp only [State.rollPatron]; (repeat' split) <;> simp)

@[simp] theorem State.patronStep_frame (s : State) :
    s.patronStep.pending = s.pending ∧
    s.patronStep.run = s.run ∧
    s.patronStep.drawn = s.drawn ∧
    s.patronStep.link.queue = s.link.queue ∧
    s.patronStep.link.pipe = s.link.pipe ∧
    s.patronStep.link.frame = s.link.frame ∧
    s.patronStep.link.incoming = s.link.incoming ∧
    s.patronStep.link.settings = s.link.settings ∧
    s.patronStep.link.backup = s.link.backup ∧
    s.patronStep.link.titleCtx = s.link.titleCtx ∧
    s.patronStep.records.loans = s.records.loans ∧
    s.patronStep.records.lost = s.records.lost ∧
    s.patronStep.planner.plans = s.planner.plans ∧
    s.patronStep.planner.queue = s.planner.queue ∧
    s.patronStep.planner.lastPlan = s.planner.lastPlan ∧
    s.patronStep.planner.pass = s.planner.pass ∧
    s.patronStep.planner.rerun = s.planner.rerun ∧
    s.patronStep.store = s.store ∧
    s.patronStep.rack = s.rack ∧
    s.patronStep.mail.close = s.mail.close ∧
    s.patronStep.mail.openBatch = s.mail.openBatch ∧
    s.patronStep.mail.lastBatch = s.mail.lastBatch ∧
    s.patronStep.mail.manifests = s.mail.manifests ∧
    s.patronStep.mail.alarms = s.mail.alarms ∧
    s.patronStep.mail.heldClose = s.mail.heldClose ∧
    s.patronStep.mail.waitingClose = s.mail.waitingClose ∧
    s.patronStep.returns = s.returns ∧
    s.patronStep.calendar.clock = s.calendar.clock ∧
    s.patronStep.calendar.lastRoll = s.calendar.lastRoll ∧
    s.patronStep.calendar.closedDays = s.calendar.closedDays ∧
    s.patronStep.calendar.reminders = s.calendar.reminders ∧
    s.patronStep.calendar.within60 = s.calendar.within60 ∧
    s.patronStep.calendar.follow = s.calendar.follow := by
  refine ⟨?_, ?_, ?_, ?_, ?_, ?_, ?_, ?_, ?_, ?_, ?_, ?_, ?_, ?_, ?_, ?_, ?_, ?_, ?_, ?_, ?_, ?_, ?_, ?_, ?_, ?_, ?_, ?_, ?_, ?_, ?_, ?_, ?_⟩ <;>
  (simp only [State.patronStep]; (repeat' split) <;> simp)

@[simp] theorem State.clearDeferrals_frame (s : State) :
    s.clearDeferrals.pending = s.pending ∧
    s.clearDeferrals.run = s.run ∧
    s.clearDeferrals.drawn = s.drawn ∧
    s.clearDeferrals.link = s.link ∧
    s.clearDeferrals.records.titles = s.records.titles ∧
    s.clearDeferrals.records.loans = s.records.loans ∧
    s.clearDeferrals.records.lost = s.records.lost ∧
    s.clearDeferrals.planner = s.planner ∧
    s.clearDeferrals.store = s.store ∧
    s.clearDeferrals.rack = s.rack ∧
    s.clearDeferrals.mail = s.mail ∧
    s.clearDeferrals.returns = s.returns ∧
    s.clearDeferrals.calendar = s.calendar := by
  simp [State.clearDeferrals]

@[simp] theorem State.deferralStep_frame (s : State) :
    s.deferralStep.pending = s.pending ∧
    s.deferralStep.run = s.run ∧
    s.deferralStep.drawn = s.drawn ∧
    s.deferralStep.link = s.link ∧
    s.deferralStep.records.titles = s.records.titles ∧
    s.deferralStep.records.loans = s.records.loans ∧
    s.deferralStep.records.lost = s.records.lost ∧
    s.deferralStep.planner = s.planner ∧
    s.deferralStep.store = s.store ∧
    s.deferralStep.rack = s.rack ∧
    s.deferralStep.mail = s.mail ∧
    s.deferralStep.returns = s.returns ∧
    s.deferralStep.calendar.clock = s.calendar.clock ∧
    s.deferralStep.calendar.lastRoll = s.calendar.lastRoll ∧
    s.deferralStep.calendar.closedDays = s.calendar.closedDays ∧
    s.deferralStep.calendar.reminders = s.calendar.reminders ∧
    s.deferralStep.calendar.within60 = s.calendar.within60 ∧
    s.deferralStep.calendar.follow = s.calendar.follow := by
  refine ⟨?_, ?_, ?_, ?_, ?_, ?_, ?_, ?_, ?_, ?_, ?_, ?_, ?_, ?_, ?_, ?_, ?_, ?_⟩ <;>
  (simp only [State.deferralStep]; (repeat' split) <;> simp)

@[simp] theorem State.dropHeld_frame (s : State) :
    s.dropHeld.pending = s.pending ∧
    s.dropHeld.run = s.run ∧
    s.dropHeld.drawn = s.drawn ∧
    s.dropHeld.link = s.link ∧
    s.dropHeld.records = s.records ∧
    s.dropHeld.planner = s.planner ∧
    s.dropHeld.store = s.store ∧
    s.dropHeld.rack = s.rack ∧
    s.dropHeld.mail.tray = s.mail.tray ∧
    s.dropHeld.mail.lastItem = s.mail.lastItem ∧
    s.dropHeld.mail.close = s.mail.close ∧
    s.dropHeld.mail.openBatch = s.mail.openBatch ∧
    s.dropHeld.mail.lastBatch = s.mail.lastBatch ∧
    s.dropHeld.mail.manifests = s.mail.manifests ∧
    s.dropHeld.mail.alarms = s.mail.alarms ∧
    s.dropHeld.mail.waitingClose = s.mail.waitingClose ∧
    s.dropHeld.returns = s.returns ∧
    s.dropHeld.calendar = s.calendar := by
  refine ⟨?_, ?_, ?_, ?_, ?_, ?_, ?_, ?_, ?_, ?_, ?_, ?_, ?_, ?_, ?_, ?_, ?_, ?_⟩ <;>
  (simp only [State.dropHeld]; (repeat' split) <;> simp)

@[simp] theorem State.finishRoll_frame (s : State) (date : Nat) :
    (s.finishRoll date).pending = s.pending ∧
    (s.finishRoll date).run = s.run ∧
    (s.finishRoll date).drawn = s.drawn ∧
    (s.finishRoll date).link.queue = s.link.queue ∧
    (s.finishRoll date).link.pipe = s.link.pipe ∧
    (s.finishRoll date).link.frame = s.link.frame ∧
    (s.finishRoll date).link.incoming = s.link.incoming ∧
    (s.finishRoll date).link.settings = s.link.settings ∧
    (s.finishRoll date).link.backup = s.link.backup ∧
    (s.finishRoll date).link.patronCtx = s.link.patronCtx ∧
    (s.finishRoll date).link.titleCtx = s.link.titleCtx ∧
    (s.finishRoll date).records = s.records ∧
    (s.finishRoll date).planner = s.planner ∧
    (s.finishRoll date).store = s.store ∧
    (s.finishRoll date).rack = s.rack ∧
    (s.finishRoll date).mail.tray = s.mail.tray ∧
    (s.finishRoll date).mail.lastItem = s.mail.lastItem ∧
    (s.finishRoll date).mail.close = s.mail.close ∧
    (s.finishRoll date).mail.openBatch = s.mail.openBatch ∧
    (s.finishRoll date).mail.lastBatch = s.mail.lastBatch ∧
    (s.finishRoll date).mail.manifests = s.mail.manifests ∧
    (s.finishRoll date).mail.alarms = s.mail.alarms ∧
    (s.finishRoll date).mail.waitingClose = s.mail.waitingClose ∧
    (s.finishRoll date).returns = s.returns ∧
    (s.finishRoll date).calendar.clock = s.calendar.clock ∧
    (s.finishRoll date).calendar.closedDays = s.calendar.closedDays ∧
    (s.finishRoll date).calendar.reminders = s.calendar.reminders ∧
    (s.finishRoll date).calendar.within60 = s.calendar.within60 := by
  refine ⟨?_, ?_, ?_, ?_, ?_, ?_, ?_, ?_, ?_, ?_, ?_, ?_, ?_, ?_, ?_, ?_, ?_, ?_, ?_, ?_, ?_, ?_, ?_, ?_, ?_, ?_, ?_, ?_⟩ <;>
  (simp only [State.finishRoll]; (repeat' split) <;> simp)

@[simp] theorem State.finishStep_frame (s : State) :
    s.finishStep.pending = s.pending ∧
    s.finishStep.run = s.run ∧
    s.finishStep.drawn = s.drawn ∧
    s.finishStep.link.queue = s.link.queue ∧
    s.finishStep.link.pipe = s.link.pipe ∧
    s.finishStep.link.frame = s.link.frame ∧
    s.finishStep.link.incoming = s.link.incoming ∧
    s.finishStep.link.settings = s.link.settings ∧
    s.finishStep.link.backup = s.link.backup ∧
    s.finishStep.link.patronCtx = s.link.patronCtx ∧
    s.finishStep.link.titleCtx = s.link.titleCtx ∧
    s.finishStep.records = s.records ∧
    s.finishStep.planner = s.planner ∧
    s.finishStep.store = s.store ∧
    s.finishStep.rack = s.rack ∧
    s.finishStep.mail.tray = s.mail.tray ∧
    s.finishStep.mail.lastItem = s.mail.lastItem ∧
    s.finishStep.mail.close = s.mail.close ∧
    s.finishStep.mail.openBatch = s.mail.openBatch ∧
    s.finishStep.mail.lastBatch = s.mail.lastBatch ∧
    s.finishStep.mail.manifests = s.mail.manifests ∧
    s.finishStep.mail.alarms = s.mail.alarms ∧
    s.finishStep.mail.waitingClose = s.mail.waitingClose ∧
    s.finishStep.returns = s.returns ∧
    s.finishStep.calendar.clock = s.calendar.clock ∧
    s.finishStep.calendar.closedDays = s.calendar.closedDays ∧
    s.finishStep.calendar.reminders = s.calendar.reminders ∧
    s.finishStep.calendar.within60 = s.calendar.within60 := by
  refine ⟨?_, ?_, ?_, ?_, ?_, ?_, ?_, ?_, ?_, ?_, ?_, ?_, ?_, ?_, ?_, ?_, ?_, ?_, ?_, ?_, ?_, ?_, ?_, ?_, ?_, ?_, ?_, ?_⟩ <;>
  (simp only [State.finishStep]; (repeat' split) <;> simp)

@[simp] theorem State.releaseClose_frame (s : State) :
    s.releaseClose.pending = s.pending ∧
    s.releaseClose.run = s.run ∧
    s.releaseClose.drawn = s.drawn ∧
    s.releaseClose.link.queue = s.link.queue ∧
    s.releaseClose.link.pipe = s.link.pipe ∧
    s.releaseClose.link.frame = s.link.frame ∧
    s.releaseClose.link.incoming = s.link.incoming ∧
    s.releaseClose.link.settings = s.link.settings ∧
    s.releaseClose.link.backup = s.link.backup ∧
    s.releaseClose.link.patronCtx = s.link.patronCtx ∧
    s.releaseClose.link.titleCtx = s.link.titleCtx ∧
    s.releaseClose.records = s.records ∧
    s.releaseClose.planner = s.planner ∧
    s.releaseClose.store = s.store ∧
    s.releaseClose.rack = s.rack ∧
    s.releaseClose.mail.tray = s.mail.tray ∧
    s.releaseClose.mail.lastItem = s.mail.lastItem ∧
    s.releaseClose.mail.openBatch = s.mail.openBatch ∧
    s.releaseClose.mail.lastBatch = s.mail.lastBatch ∧
    s.releaseClose.mail.manifests = s.mail.manifests ∧
    s.releaseClose.mail.alarms = s.mail.alarms ∧
    s.releaseClose.returns = s.returns ∧
    s.releaseClose.calendar = s.calendar := by
  refine ⟨?_, ?_, ?_, ?_, ?_, ?_, ?_, ?_, ?_, ?_, ?_, ?_, ?_, ?_, ?_, ?_, ?_, ?_, ?_, ?_, ?_, ?_, ?_⟩ <;>
  (simp only [State.releaseClose]; (repeat' split) <;> simp)

end Sys2Proof.Machine
end

