-- ==== Sys2Proof/Laws/FramesStartup.lean ====
section
/-!
SUPPORT. What each operation of Machine/Startup.lean leaves as it stands: one lemma per operation.
-/

namespace Sys2Proof.Machine

@[simp] theorem State.endWork_frame (s : State) :
    s.endWork.pending = s.pending ∧
    s.endWork.run = s.run ∧
    s.endWork.drawn = s.drawn ∧
    s.endWork.link = s.link ∧
    s.endWork.records = s.records ∧
    s.endWork.planner.plans = s.planner.plans ∧
    s.endWork.planner.queue = s.planner.queue ∧
    s.endWork.planner.lastPlan = s.planner.lastPlan ∧
    s.endWork.store.images = s.store.images ∧
    s.endWork.store.recency = s.store.recency ∧
    s.endWork.store.fetches = s.store.fetches ∧
    s.endWork.store.lastFetch = s.store.lastFetch ∧
    s.endWork.store.flash = s.store.flash ∧
    s.endWork.rack.length = s.rack.length ∧
    s.endWork.mail.tray = s.mail.tray ∧
    s.endWork.mail.lastItem = s.mail.lastItem ∧
    s.endWork.mail.openBatch = s.mail.openBatch ∧
    s.endWork.mail.lastBatch = s.mail.lastBatch ∧
    s.endWork.mail.manifests = s.mail.manifests ∧
    s.endWork.mail.alarms = s.mail.alarms ∧
    s.endWork.returns.present = s.returns.present ∧
    s.endWork.returns.reader = s.returns.reader ∧
    s.endWork.returns.removed = s.returns.removed ∧
    s.endWork.returns.pending = s.returns.pending ∧
    s.endWork.returns.result = s.returns.result ∧
    s.endWork.returns.reuse = s.returns.reuse ∧
    s.endWork.returns.inspect = s.returns.inspect ∧
    s.endWork.calendar.clock = s.calendar.clock ∧
    s.endWork.calendar.lastRoll = s.calendar.lastRoll ∧
    s.endWork.calendar.closedDays = s.calendar.closedDays ∧
    s.endWork.calendar.reminders = s.calendar.reminders := by
  simp [State.endWork]

@[simp] theorem State.clearLink_frame (s : State) :
    s.clearLink.pending = s.pending ∧
    s.clearLink.run = s.run ∧
    s.clearLink.drawn = s.drawn ∧
    s.clearLink.link.pipe = s.link.pipe ∧
    s.clearLink.link.settings = s.link.settings ∧
    s.clearLink.link.backup = s.link.backup ∧
    s.clearLink.records = s.records ∧
    s.clearLink.planner = s.planner ∧
    s.clearLink.store = s.store ∧
    s.clearLink.rack = s.rack ∧
    s.clearLink.mail = s.mail ∧
    s.clearLink.returns = s.returns ∧
    s.clearLink.calendar = s.calendar := by
  simp [State.clearLink]

@[simp] theorem State.emptyPipe_frame (s : State) :
    s.emptyPipe.pending = s.pending ∧
    s.emptyPipe.run = s.run ∧
    s.emptyPipe.drawn = s.drawn ∧
    s.emptyPipe.link.queue = s.link.queue ∧
    s.emptyPipe.link.frame = s.link.frame ∧
    s.emptyPipe.link.incoming = s.link.incoming ∧
    s.emptyPipe.link.settings = s.link.settings ∧
    s.emptyPipe.link.backup = s.link.backup ∧
    s.emptyPipe.link.patronCtx = s.link.patronCtx ∧
    s.emptyPipe.link.titleCtx = s.link.titleCtx ∧
    s.emptyPipe.link.events.enables = s.link.events.enables ∧
    s.emptyPipe.link.events.reading = s.link.events.reading ∧
    s.emptyPipe.records = s.records ∧
    s.emptyPipe.planner = s.planner ∧
    s.emptyPipe.store = s.store ∧
    s.emptyPipe.rack = s.rack ∧
    s.emptyPipe.mail = s.mail ∧
    s.emptyPipe.returns = s.returns ∧
    s.emptyPipe.calendar = s.calendar := by
  simp [State.emptyPipe]

@[simp] theorem State.emptyRecords_frame (s : State) :
    s.emptyRecords.pending = s.pending ∧
    s.emptyRecords.run = s.run ∧
    s.emptyRecords.drawn = s.drawn ∧
    s.emptyRecords.link.queue = s.link.queue ∧
    s.emptyRecords.link.pipe = s.link.pipe ∧
    s.emptyRecords.link.frame = s.link.frame ∧
    s.emptyRecords.link.incoming = s.link.incoming ∧
    s.emptyRecords.link.backup = s.link.backup ∧
    s.emptyRecords.link.patronCtx = s.link.patronCtx ∧
    s.emptyRecords.link.titleCtx = s.link.titleCtx ∧
    s.emptyRecords.store.flash = s.store.flash ∧
    s.emptyRecords.rack = s.rack ∧
    s.emptyRecords.returns.present = s.returns.present := by
  simp [State.emptyRecords]

@[simp] theorem State.rebuildPlans_frame (s : State) :
    s.rebuildPlans.pending = s.pending ∧
    s.rebuildPlans.run = s.run ∧
    s.rebuildPlans.drawn = s.drawn ∧
    s.rebuildPlans.link = s.link ∧
    s.rebuildPlans.records = s.records ∧
    s.rebuildPlans.planner.lastPlan = s.planner.lastPlan ∧
    s.rebuildPlans.planner.pass = s.planner.pass ∧
    s.rebuildPlans.planner.rerun = s.planner.rerun ∧
    s.rebuildPlans.planner.due = s.planner.due ∧
    s.rebuildPlans.store = s.store ∧
    s.rebuildPlans.rack = s.rack ∧
    s.rebuildPlans.mail = s.mail ∧
    s.rebuildPlans.returns = s.returns ∧
    s.rebuildPlans.calendar = s.calendar := by
  simp [State.rebuildPlans]

@[simp] theorem State.refill_frame (s : State) (e : Nat × Nat) :
    (s.refill e).pending = s.pending ∧
    (s.refill e).run = s.run ∧
    (s.refill e).drawn = s.drawn ∧
    (s.refill e).link = s.link ∧
    (s.refill e).records = s.records ∧
    (s.refill e).planner = s.planner ∧
    (s.refill e).store.recency = s.store.recency ∧
    (s.refill e).store.fetches = s.store.fetches ∧
    (s.refill e).store.lastFetch = s.store.lastFetch ∧
    (s.refill e).store.banks = s.store.banks ∧
    (s.refill e).store.flash = s.store.flash ∧
    (s.refill e).rack = s.rack ∧
    (s.refill e).mail = s.mail ∧
    (s.refill e).returns = s.returns ∧
    (s.refill e).calendar = s.calendar := by
  simp [State.refill]

@[simp] theorem State.recreateFilling_frame (s : State) :
    s.recreateFilling.pending = s.pending ∧
    s.recreateFilling.run = s.run ∧
    s.recreateFilling.drawn = s.drawn ∧
    s.recreateFilling.link = s.link ∧
    s.recreateFilling.records = s.records ∧
    s.recreateFilling.planner = s.planner ∧
    s.recreateFilling.store.recency = s.store.recency ∧
    s.recreateFilling.store.fetches = s.store.fetches ∧
    s.recreateFilling.store.lastFetch = s.store.lastFetch ∧
    s.recreateFilling.store.banks = s.store.banks ∧
    s.recreateFilling.store.flash = s.store.flash ∧
    s.recreateFilling.rack = s.rack ∧
    s.recreateFilling.mail = s.mail ∧
    s.recreateFilling.returns = s.returns ∧
    s.recreateFilling.calendar = s.calendar := by
  simp [State.recreateFilling]

@[simp] theorem State.recountPins_frame (s : State) :
    s.recountPins.pending = s.pending ∧
    s.recountPins.run = s.run ∧
    s.recountPins.drawn = s.drawn ∧
    s.recountPins.link = s.link ∧
    s.recountPins.records = s.records ∧
    s.recountPins.planner = s.planner ∧
    s.recountPins.store.recency = s.store.recency ∧
    s.recountPins.store.fetches = s.store.fetches ∧
    s.recountPins.store.lastFetch = s.store.lastFetch ∧
    s.recountPins.store.banks = s.store.banks ∧
    s.recountPins.store.flash = s.store.flash ∧
    s.recountPins.rack = s.rack ∧
    s.recountPins.mail = s.mail ∧
    s.recountPins.returns = s.returns ∧
    s.recountPins.calendar = s.calendar := by
  simp [State.recountPins]

@[simp] theorem State.rebuildImages_frame (s : State) :
    s.rebuildImages.pending = s.pending ∧
    s.rebuildImages.run = s.run ∧
    s.rebuildImages.drawn = s.drawn ∧
    s.rebuildImages.link.queue = s.link.queue ∧
    s.rebuildImages.link.pipe = s.link.pipe ∧
    s.rebuildImages.link.frame = s.link.frame ∧
    s.rebuildImages.link.incoming = s.link.incoming ∧
    s.rebuildImages.link.settings = s.link.settings ∧
    s.rebuildImages.link.backup = s.link.backup ∧
    s.rebuildImages.link.patronCtx = s.link.patronCtx ∧
    s.rebuildImages.link.titleCtx = s.link.titleCtx ∧
    s.rebuildImages.records = s.records ∧
    s.rebuildImages.planner = s.planner ∧
    s.rebuildImages.store.recency = s.store.recency ∧
    s.rebuildImages.store.lastFetch = s.store.lastFetch ∧
    s.rebuildImages.store.flash = s.store.flash ∧
    s.rebuildImages.rack = s.rack ∧
    s.rebuildImages.mail = s.mail ∧
    s.rebuildImages.returns = s.returns ∧
    s.rebuildImages.calendar = s.calendar := by
  refine ⟨?_, ?_, ?_, ?_, ?_, ?_, ?_, ?_, ?_, ?_, ?_, ?_, ?_, ?_, ?_, ?_, ?_, ?_, ?_, ?_⟩ <;>
  (simp only [State.rebuildImages]; (repeat' split) <;> simp)

@[simp] theorem State.rebuildMail_frame (s : State) :
    s.rebuildMail.pending = s.pending ∧
    s.rebuildMail.run = s.run ∧
    s.rebuildMail.drawn = s.drawn ∧
    s.rebuildMail.link.queue = s.link.queue ∧
    s.rebuildMail.link.pipe = s.link.pipe ∧
    s.rebuildMail.link.frame = s.link.frame ∧
    s.rebuildMail.link.incoming = s.link.incoming ∧
    s.rebuildMail.link.settings = s.link.settings ∧
    s.rebuildMail.link.backup = s.link.backup ∧
    s.rebuildMail.link.patronCtx = s.link.patronCtx ∧
    s.rebuildMail.link.titleCtx = s.link.titleCtx ∧
    s.rebuildMail.records = s.records ∧
    s.rebuildMail.planner = s.planner ∧
    s.rebuildMail.store = s.store ∧
    s.rebuildMail.rack = s.rack ∧
    s.rebuildMail.mail.tray = s.mail.tray ∧
    s.rebuildMail.mail.lastItem = s.mail.lastItem ∧
    s.rebuildMail.mail.close = s.mail.close ∧
    s.rebuildMail.mail.lastBatch = s.mail.lastBatch ∧
    s.rebuildMail.mail.alarms = s.mail.alarms ∧
    s.rebuildMail.mail.heldClose = s.mail.heldClose ∧
    s.rebuildMail.mail.waitingClose = s.mail.waitingClose ∧
    s.rebuildMail.returns = s.returns ∧
    s.rebuildMail.calendar = s.calendar := by
  refine ⟨?_, ?_, ?_, ?_, ?_, ?_, ?_, ?_, ?_, ?_, ?_, ?_, ?_, ?_, ?_, ?_, ?_, ?_, ?_, ?_, ?_, ?_, ?_, ?_⟩ <;>
  (simp only [State.rebuildMail]; (repeat' split) <;> simp)

@[simp] theorem State.rebuildReturns_frame (s : State) :
    s.rebuildReturns.pending = s.pending ∧
    s.rebuildReturns.run = s.run ∧
    s.rebuildReturns.drawn = s.drawn ∧
    s.rebuildReturns.link.queue = s.link.queue ∧
    s.rebuildReturns.link.pipe = s.link.pipe ∧
    s.rebuildReturns.link.frame = s.link.frame ∧
    s.rebuildReturns.link.incoming = s.link.incoming ∧
    s.rebuildReturns.link.settings = s.link.settings ∧
    s.rebuildReturns.link.backup = s.link.backup ∧
    s.rebuildReturns.link.patronCtx = s.link.patronCtx ∧
    s.rebuildReturns.link.titleCtx = s.link.titleCtx ∧
    s.rebuildReturns.records.titles = s.records.titles ∧
    s.rebuildReturns.planner.plans = s.planner.plans ∧
    s.rebuildReturns.planner.queue = s.planner.queue ∧
    s.rebuildReturns.planner.lastPlan = s.planner.lastPlan ∧
    s.rebuildReturns.planner.pass = s.planner.pass ∧
    s.rebuildReturns.planner.rerun = s.planner.rerun ∧
    s.rebuildReturns.store = s.store ∧
    s.rebuildReturns.rack = s.rack ∧
    s.rebuildReturns.mail = s.mail ∧
    s.rebuildReturns.calendar = s.calendar := by
  refine ⟨?_, ?_, ?_, ?_, ?_, ?_, ?_, ?_, ?_, ?_, ?_, ?_, ?_, ?_, ?_, ?_, ?_, ?_, ?_, ?_, ?_⟩ <;>
  (simp only [State.rebuildReturns]; (repeat' split) <;> simp)

@[simp] theorem State.beginService_frame (s : State) :
    s.beginService.pending = s.pending ∧
    s.beginService.drawn = s.drawn ∧
    s.beginService.link = s.link ∧
    s.beginService.records = s.records ∧
    s.beginService.planner.plans = s.planner.plans ∧
    s.beginService.planner.queue = s.planner.queue ∧
    s.beginService.planner.lastPlan = s.planner.lastPlan ∧
    s.beginService.store = s.store ∧
    s.beginService.rack.length = s.rack.length ∧
    s.beginService.mail = s.mail ∧
    s.beginService.calendar.clock = s.calendar.clock ∧
    s.beginService.calendar.lastRoll = s.calendar.lastRoll ∧
    s.beginService.calendar.closedDays = s.calendar.closedDays ∧
    s.beginService.calendar.reminders = s.calendar.reminders ∧
    s.beginService.calendar.follow = s.calendar.follow := by
  refine ⟨?_, ?_, ?_, ?_, ?_, ?_, ?_, ?_, ?_, ?_, ?_, ?_, ?_, ?_, ?_⟩ <;>
  (simp only [State.beginService]; (repeat' split) <;> simp)

@[simp] theorem State.rebuild_frame (s : State) :
    s.rebuild.pending = s.pending ∧
    s.rebuild.drawn = s.drawn ∧
    s.rebuild.link.queue = s.link.queue ∧
    s.rebuild.link.pipe = s.link.pipe ∧
    s.rebuild.link.frame = s.link.frame ∧
    s.rebuild.link.incoming = s.link.incoming ∧
    s.rebuild.link.settings = s.link.settings ∧
    s.rebuild.link.backup = s.link.backup ∧
    s.rebuild.link.patronCtx = s.link.patronCtx ∧
    s.rebuild.link.titleCtx = s.link.titleCtx ∧
    s.rebuild.records.titles = s.records.titles ∧
    s.rebuild.planner.lastPlan = s.planner.lastPlan ∧
    s.rebuild.store.recency = s.store.recency ∧
    s.rebuild.store.lastFetch = s.store.lastFetch ∧
    s.rebuild.store.flash = s.store.flash ∧
    s.rebuild.rack.length = s.rack.length ∧
    s.rebuild.mail.tray = s.mail.tray ∧
    s.rebuild.mail.lastItem = s.mail.lastItem ∧
    s.rebuild.mail.close = s.mail.close ∧
    s.rebuild.mail.lastBatch = s.mail.lastBatch ∧
    s.rebuild.mail.alarms = s.mail.alarms ∧
    s.rebuild.mail.heldClose = s.mail.heldClose ∧
    s.rebuild.mail.waitingClose = s.mail.waitingClose ∧
    s.rebuild.calendar.clock = s.calendar.clock ∧
    s.rebuild.calendar.lastRoll = s.calendar.lastRoll ∧
    s.rebuild.calendar.closedDays = s.calendar.closedDays ∧
    s.rebuild.calendar.reminders = s.calendar.reminders ∧
    s.rebuild.calendar.follow = s.calendar.follow := by
  simp [State.rebuild]

@[simp] theorem State.placeReplies_frame (s : State) (n : Nat) :
    (s.placeReplies n).pending = s.pending ∧
    (s.placeReplies n).run = s.run ∧
    (s.placeReplies n).drawn = s.drawn ∧
    (s.placeReplies n).link.frame = s.link.frame ∧
    (s.placeReplies n).link.incoming = s.link.incoming ∧
    (s.placeReplies n).link.settings = s.link.settings ∧
    (s.placeReplies n).link.backup = s.link.backup ∧
    (s.placeReplies n).link.patronCtx = s.link.patronCtx ∧
    (s.placeReplies n).link.titleCtx = s.link.titleCtx ∧
    (s.placeReplies n).link.events.enables = s.link.events.enables ∧
    (s.placeReplies n).link.events.reading = s.link.events.reading ∧
    (s.placeReplies n).records = s.records ∧
    (s.placeReplies n).planner = s.planner ∧
    (s.placeReplies n).store = s.store ∧
    (s.placeReplies n).rack = s.rack ∧
    (s.placeReplies n).mail = s.mail ∧
    (s.placeReplies n).returns = s.returns ∧
    (s.placeReplies n).calendar = s.calendar := by
  refine ⟨?_, ?_, ?_, ?_, ?_, ?_, ?_, ?_, ?_, ?_, ?_, ?_, ?_, ?_, ?_, ?_, ?_, ?_⟩
  all_goals
  induction n generalizing s with
    | zero => simp [State.placeReplies]
    | succ n ih => simp [State.placeReplies, ih]

@[simp] theorem State.assertReset_frame (s : State) :
    s.assertReset.pending = s.pending ∧
    s.assertReset.drawn = s.drawn ∧
    s.assertReset.link.settings = s.link.settings ∧
    s.assertReset.link.backup = s.link.backup ∧
    s.assertReset.records = s.records ∧
    s.assertReset.planner.plans = s.planner.plans ∧
    s.assertReset.planner.queue = s.planner.queue ∧
    s.assertReset.planner.lastPlan = s.planner.lastPlan ∧
    s.assertReset.store.images = s.store.images ∧
    s.assertReset.store.recency = s.store.recency ∧
    s.assertReset.store.fetches = s.store.fetches ∧
    s.assertReset.store.lastFetch = s.store.lastFetch ∧
    s.assertReset.store.flash = s.store.flash ∧
    s.assertReset.rack.length = s.rack.length ∧
    s.assertReset.mail.tray = s.mail.tray ∧
    s.assertReset.mail.lastItem = s.mail.lastItem ∧
    s.assertReset.mail.openBatch = s.mail.openBatch ∧
    s.assertReset.mail.lastBatch = s.mail.lastBatch ∧
    s.assertReset.mail.manifests = s.mail.manifests ∧
    s.assertReset.mail.alarms = s.mail.alarms ∧
    s.assertReset.returns.present = s.returns.present ∧
    s.assertReset.returns.reader = s.returns.reader ∧
    s.assertReset.returns.removed = s.returns.removed ∧
    s.assertReset.returns.pending = s.returns.pending ∧
    s.assertReset.returns.result = s.returns.result ∧
    s.assertReset.returns.reuse = s.returns.reuse ∧
    s.assertReset.returns.inspect = s.returns.inspect ∧
    s.assertReset.calendar.clock = s.calendar.clock ∧
    s.assertReset.calendar.lastRoll = s.calendar.lastRoll ∧
    s.assertReset.calendar.closedDays = s.calendar.closedDays ∧
    s.assertReset.calendar.reminders = s.calendar.reminders := by
  simp [State.assertReset]

@[simp] theorem State.losePower_frame (s : State) :
    s.losePower.pending = s.pending ∧
    s.losePower.drawn = s.drawn ∧
    s.losePower.link.settings = s.link.settings ∧
    s.losePower.link.backup = s.link.backup ∧
    s.losePower.records = s.records ∧
    s.losePower.planner.plans = s.planner.plans ∧
    s.losePower.planner.queue = s.planner.queue ∧
    s.losePower.planner.lastPlan = s.planner.lastPlan ∧
    s.losePower.store.images = s.store.images ∧
    s.losePower.store.recency = s.store.recency ∧
    s.losePower.store.fetches = s.store.fetches ∧
    s.losePower.store.lastFetch = s.store.lastFetch ∧
    s.losePower.store.flash = s.store.flash ∧
    s.losePower.rack.length = s.rack.length ∧
    s.losePower.mail.tray = s.mail.tray ∧
    s.losePower.mail.lastItem = s.mail.lastItem ∧
    s.losePower.mail.openBatch = s.mail.openBatch ∧
    s.losePower.mail.lastBatch = s.mail.lastBatch ∧
    s.losePower.mail.manifests = s.mail.manifests ∧
    s.losePower.mail.alarms = s.mail.alarms ∧
    s.losePower.returns.present = s.returns.present ∧
    s.losePower.returns.reader = s.returns.reader ∧
    s.losePower.returns.removed = s.returns.removed ∧
    s.losePower.returns.pending = s.returns.pending ∧
    s.losePower.returns.result = s.returns.result ∧
    s.losePower.returns.reuse = s.returns.reuse ∧
    s.losePower.returns.inspect = s.returns.inspect ∧
    s.losePower.calendar.clock = s.calendar.clock ∧
    s.losePower.calendar.lastRoll = s.calendar.lastRoll ∧
    s.losePower.calendar.closedDays = s.calendar.closedDays ∧
    s.losePower.calendar.reminders = s.calendar.reminders := by
  simp [State.losePower]

@[simp] theorem State.takeBackup_frame (s : State) (held good : Bool) :
    (s.takeBackup held good).pending = s.pending ∧
    (s.takeBackup held good).run = s.run ∧
    (s.takeBackup held good).drawn = s.drawn ∧
    (s.takeBackup held good).link.queue = s.link.queue ∧
    (s.takeBackup held good).link.pipe = s.link.pipe ∧
    (s.takeBackup held good).link.frame = s.link.frame ∧
    (s.takeBackup held good).link.incoming = s.link.incoming ∧
    (s.takeBackup held good).link.settings = s.link.settings ∧
    (s.takeBackup held good).link.patronCtx = s.link.patronCtx ∧
    (s.takeBackup held good).link.titleCtx = s.link.titleCtx ∧
    (s.takeBackup held good).records = s.records ∧
    (s.takeBackup held good).planner = s.planner ∧
    (s.takeBackup held good).store = s.store ∧
    (s.takeBackup held good).rack = s.rack ∧
    (s.takeBackup held good).mail = s.mail ∧
    (s.takeBackup held good).returns = s.returns ∧
    (s.takeBackup held good).calendar = s.calendar := by
  refine ⟨?_, ?_, ?_, ?_, ?_, ?_, ?_, ?_, ?_, ?_, ?_, ?_, ?_, ?_, ?_, ?_, ?_⟩ <;>
  (simp only [State.takeBackup]; (repeat' split) <;> simp)

@[simp] theorem State.powerOn_frame (s : State) (held good : Bool) :
    (s.powerOn held good).pending = s.pending ∧
    (s.powerOn held good).drawn = s.drawn ∧
    (s.powerOn held good).store.flash = s.store.flash ∧
    (s.powerOn held good).rack.length = s.rack.length := by
  refine ⟨?_, ?_, ?_, ?_⟩ <;>
  (simp only [State.powerOn]; (repeat' split) <;> simp)

end Sys2Proof.Machine
end

