-- ==== Sys2Proof/Laws/PerInstr.lean ====
section
/-!
SUPPORT. Laws stated for every command of the part, one lemma per command.
-/

namespace Sys2Proof.Laws

open Sys2Proof.Machine

/-- A request that can be sent fits a frame: CODE and TAG are bytes, and LEN, which counts CODE, TAG and BODY,
is at most 4,112 (R176). -/
def RequestFits.Statement (i : Instr) : Prop :=
  i.wellFormed = true → ∀ code tag body, i.request = some (code, tag, body) →
    code < 256 ∧ tag < 256 ∧ body.length + 2 ≤ Config.lenMax

theorem byteField_lt {n : Nat} (h : byteField n = true) : n < 256 := of_decide_eq_true h

theorem and_left {a b : Bool} (h : (a && b) = true) : a = true := (Bool.and_eq_true_iff.1 h).1

theorem and_right {a b : Bool} (h : (a && b) = true) : b = true := (Bool.and_eq_true_iff.1 h).2

/-- A body of a fixed length fits, the code and the tag being bytes. -/
theorem fits {code tag : Nat} {body : List Byte} (hc : code < 256) (ht : tag < 256)
    (hb : Nat.ble (body.length + 2) Config.lenMax = true) (c t : Nat) (b : List Byte)
    (h : some (code, tag, body) = some (c, t, b)) : c < 256 ∧ t < 256 ∧ b.length + 2 ≤ Config.lenMax := by
  cases h
  exact ⟨hc, ht, Nat.le_of_ble_eq_true hb⟩

theorem no_request {c t : Nat} {b : List Byte} {P : Prop} (h : (none : Option (Nat × Nat × List Byte)) = some (c, t, b)) :
    P := by
  cases h

theorem RequestFits.frameReceive (x0 : _) : RequestFits.Statement (.frameReceive x0) :=
  fun _ _ _ _ h => no_request h

theorem RequestFits.frameDiscard : RequestFits.Statement .frameDiscard :=
  fun _ _ _ _ h => no_request h

theorem RequestFits.replyPlace : RequestFits.Statement .replyPlace :=
  fun _ _ _ _ h => no_request h

theorem RequestFits.unknownRequest (x0 x1 x2 : _) : RequestFits.Statement (.unknownRequest x0 x1 x2) := by
  intro hw
  have hb : x2.length ≤ bodyMax := of_decide_eq_true (and_right hw)
  have ht : x0 < 256 := byteField_lt (and_left (and_left hw))
  have hc : x1 < 256 := byteField_lt (and_right (and_left hw))
  intro _ _ _ h
  unfold Instr.request at h
  dsimp only at h
  split at h
  · cases h
  · refine fits hc ht (Nat.ble_eq_true_of_le ?_) _ _ _ h
    have hm : bodyMax = 4110 := rfl
    have hl : Config.lenMax = 4112 := rfl
    omega

theorem RequestFits.identify (x0 : _) : RequestFits.Statement (.identify x0) :=
  fun hw => fits (by decide) (byteField_lt hw) rfl

theorem RequestFits.status (x0 : _) : RequestFits.Statement (.status x0) :=
  fun hw => fits (by decide) (byteField_lt hw) rfl

theorem RequestFits.restart (x0 : _) : RequestFits.Statement (.restart x0) :=
  fun hw => fits (by decide) (byteField_lt hw) rfl

theorem RequestFits.eventsRead (x0 : _) : RequestFits.Statement (.eventsRead x0) :=
  fun hw => fits (by decide) (byteField_lt hw) rfl

theorem RequestFits.eventsReadReply : RequestFits.Statement .eventsReadReply :=
  fun _ _ _ _ h => no_request h

theorem RequestFits.eventsEnable (x0 x1 : _) : RequestFits.Statement (.eventsEnable x0 x1) :=
  fun hw => fits (by decide) (byteField_lt (and_left hw)) rfl

theorem RequestFits.contextSet (x0 x1 x2 : _) : RequestFits.Statement (.contextSet x0 x1 x2) :=
  fun hw => fits (by decide) (byteField_lt (and_left (and_left hw))) rfl

theorem RequestFits.settingsPut (x0 x1 x2 x3 x4 x5 x6 x7 : _) : RequestFits.Statement (.settingsPut x0 x1 x2 x3 x4 x5 x6 x7) :=
  fun hw => fits (by decide) (byteField_lt (and_left (and_left (and_left (and_left (and_left (and_left (and_left hw)))))))) rfl

theorem RequestFits.settingsGet (x0 : _) : RequestFits.Statement (.settingsGet x0) :=
  fun hw => fits (by decide) (byteField_lt hw) rfl

theorem RequestFits.patronPutCreate (x0 x1 x2 x3 x4 x5 x6 : _) : RequestFits.Statement (.patronPutCreate x0 x1 x2 x3 x4 x5 x6) :=
  fun hw => fits (by decide) (byteField_lt (and_left (and_left (and_left (and_left (and_left (and_left hw))))))) rfl

theorem RequestFits.patronPutUpdate (x0 x1 x2 x3 x4 x5 x6 x7 : _) : RequestFits.Statement (.patronPutUpdate x0 x1 x2 x3 x4 x5 x6 x7) :=
  fun hw => fits (by decide) (byteField_lt (and_left (and_left (and_left (and_left (and_left (and_left (and_left hw)))))))) rfl

theorem RequestFits.patronGet (x0 x1 : _) : RequestFits.Statement (.patronGet x0 x1) :=
  fun hw => fits (by decide) (byteField_lt (and_left hw)) rfl

theorem RequestFits.patronPause (x0 x1 x2 x3 x4 : _) : RequestFits.Statement (.patronPause x0 x1 x2 x3 x4) :=
  fun hw => fits (by decide) (byteField_lt (and_left (and_left (and_left (and_left hw))))) rfl

theorem RequestFits.patronClose (x0 x1 : _) : RequestFits.Statement (.patronClose x0 x1) :=
  fun hw => fits (by decide) (byteField_lt (and_left hw)) rfl

theorem RequestFits.titlePutCreate (x0 x1 x2 x3 x4 x5 : _) : RequestFits.Statement (.titlePutCreate x0 x1 x2 x3 x4 x5) :=
  fun hw => fits (by decide) (byteField_lt (and_left (and_left (and_left (and_left (and_left hw)))))) rfl

theorem RequestFits.titlePutUpdate (x0 x1 x2 x3 x4 x5 x6 : _) : RequestFits.Statement (.titlePutUpdate x0 x1 x2 x3 x4 x5 x6) :=
  fun hw => fits (by decide) (byteField_lt (and_left (and_left (and_left (and_left (and_left (and_left hw))))))) rfl

theorem RequestFits.titleGet (x0 x1 : _) : RequestFits.Statement (.titleGet x0 x1) :=
  fun hw => fits (by decide) (byteField_lt (and_left hw)) rfl

theorem RequestFits.titleWithdraw (x0 x1 x2 : _) : RequestFits.Statement (.titleWithdraw x0 x1 x2) :=
  fun hw => fits (by decide) (byteField_lt (and_left (and_left hw))) rfl

theorem RequestFits.copiesAdjustAdd (x0 x1 x2 x3 : _) : RequestFits.Statement (.copiesAdjustAdd x0 x1 x2 x3) :=
  fun hw => fits (by decide) (byteField_lt (and_left (and_left (and_left (and_left hw))))) rfl

theorem RequestFits.copiesAdjustRemove (x0 x1 x2 : _) : RequestFits.Statement (.copiesAdjustRemove x0 x1 x2) :=
  fun hw => fits (by decide) (byteField_lt (and_left (and_left hw))) rfl

theorem RequestFits.copiesAdjustFound (x0 x1 x2 : _) : RequestFits.Statement (.copiesAdjustFound x0 x1 x2) :=
  fun hw => fits (by decide) (byteField_lt (and_left (and_left hw))) rfl

theorem RequestFits.loanGet (x0 x1 : _) : RequestFits.Statement (.loanGet x0 x1) :=
  fun hw => fits (by decide) (byteField_lt (and_left hw)) rfl

theorem RequestFits.loanList (x0 x1 : _) : RequestFits.Statement (.loanList x0 x1) :=
  fun hw => fits (by decide) (byteField_lt (and_left hw)) rfl

theorem RequestFits.writtenOffList (x0 : _) : RequestFits.Statement (.writtenOffList x0) :=
  fun hw => fits (by decide) (byteField_lt hw) rfl

theorem RequestFits.orderAdd (x0 x1 x2 x3 x4 x5 : _) : RequestFits.Statement (.orderAdd x0 x1 x2 x3 x4 x5) :=
  fun hw => fits (by decide) (byteField_lt (and_left (and_left (and_left (and_left (and_left hw)))))) rfl

theorem RequestFits.orderDrop (x0 x1 x2 : _) : RequestFits.Statement (.orderDrop x0 x1 x2) :=
  fun hw => fits (by decide) (byteField_lt (and_left (and_left hw))) rfl

theorem RequestFits.orderMove (x0 x1 x2 x3 : _) : RequestFits.Statement (.orderMove x0 x1 x2 x3) :=
  fun hw => fits (by decide) (byteField_lt (and_left (and_left (and_left hw)))) rfl

theorem RequestFits.orderList (x0 x1 : _) : RequestFits.Statement (.orderList x0 x1) :=
  fun hw => fits (by decide) (byteField_lt (and_left hw)) rfl

theorem RequestFits.holdList (x0 x1 : _) : RequestFits.Statement (.holdList x0 x1) :=
  fun hw => fits (by decide) (byteField_lt (and_left hw)) rfl

theorem RequestFits.planNow (x0 : _) : RequestFits.Statement (.planNow x0) :=
  fun hw => fits (by decide) (byteField_lt hw) rfl

theorem RequestFits.passPatronStep : RequestFits.Statement .passPatronStep :=
  fun _ _ _ _ h => no_request h

theorem RequestFits.planGet (x0 x1 : _) : RequestFits.Statement (.planGet x0 x1) :=
  fun hw => fits (by decide) (byteField_lt (and_left hw)) rfl

theorem RequestFits.planCancel (x0 x1 : _) : RequestFits.Statement (.planCancel x0 x1) :=
  fun hw => fits (by decide) (byteField_lt (and_left hw)) rfl

theorem RequestFits.queueList (x0 : _) : RequestFits.Statement (.queueList x0) :=
  fun hw => fits (by decide) (byteField_lt hw) rfl

theorem RequestFits.fetchNext (x0 : _) : RequestFits.Statement (.fetchNext x0) :=
  fun hw => fits (by decide) (byteField_lt hw) rfl

theorem RequestFits.imageData (x0 x1 x2 x3 : _) : RequestFits.Statement (.imageData x0 x1 x2 x3) := by
  intro hw
  have hb : x3.length ≤ bodyMax - 5 := of_decide_eq_true (and_right hw)
  refine fits (by decide) (byteField_lt (and_left (and_left (and_left hw)))) (Nat.ble_eq_true_of_le ?_)
  have hm : bodyMax = 4110 := rfl
  have hl : Config.lenMax = 4112 := rfl
  show (x3.length + 4) + 1 + 2 ≤ _
  omega

theorem RequestFits.fetchAbandon (x0 x1 : _) : RequestFits.Statement (.fetchAbandon x0 x1) :=
  fun hw => fits (by decide) (byteField_lt (and_left hw)) rfl

theorem RequestFits.preload (x0 x1 : _) : RequestFits.Statement (.preload x0 x1) :=
  fun hw => fits (by decide) (byteField_lt (and_left hw)) rfl

theorem RequestFits.imageDrop (x0 x1 : _) : RequestFits.Statement (.imageDrop x0 x1) :=
  fun hw => fits (by decide) (byteField_lt (and_left hw)) rfl

theorem RequestFits.imageList (x0 : _) : RequestFits.Statement (.imageList x0) :=
  fun hw => fits (by decide) (byteField_lt hw) rfl

theorem RequestFits.fetchList (x0 : _) : RequestFits.Statement (.fetchList x0) :=
  fun hw => fits (by decide) (byteField_lt hw) rfl

theorem RequestFits.fillWriteComplete (x0 : _) : RequestFits.Statement (.fillWriteComplete x0) :=
  fun _ _ _ _ h => no_request h

theorem RequestFits.frameReadComplete (x0 : _) : RequestFits.Statement (.frameReadComplete x0) :=
  fun _ _ _ _ h => no_request h

theorem RequestFits.cartridgeInsert (x0 : _) : RequestFits.Statement (.cartridgeInsert x0) :=
  fun _ _ _ _ h => no_request h

theorem RequestFits.cartridgeRemove (x0 : _) : RequestFits.Statement (.cartridgeRemove x0) :=
  fun _ _ _ _ h => no_request h

theorem RequestFits.identityReadDone (x0 x1 x2 : _) : RequestFits.Statement (.identityReadDone x0 x1 x2) :=
  fun _ _ _ _ h => no_request h

theorem RequestFits.pageReadDone (x0 x1 x2 : _) : RequestFits.Statement (.pageReadDone x0 x1 x2) :=
  fun _ _ _ _ h => no_request h

theorem RequestFits.permitReply (x0 x1 : _) : RequestFits.Statement (.permitReply x0 x1) :=
  fun _ _ _ _ h => no_request h

theorem RequestFits.pageProgramDone (x0 x1 : _) : RequestFits.Statement (.pageProgramDone x0 x1) :=
  fun _ _ _ _ h => no_request h

theorem RequestFits.eraseDone (x0 x1 : _) : RequestFits.Statement (.eraseDone x0 x1) :=
  fun _ _ _ _ h => no_request h

theorem RequestFits.markCycleDone (x0 : _) : RequestFits.Statement (.markCycleDone x0) :=
  fun _ _ _ _ h => no_request h

theorem RequestFits.suspendDone (x0 : _) : RequestFits.Statement (.suspendDone x0) :=
  fun _ _ _ _ h => no_request h

theorem RequestFits.resumeDone (x0 : _) : RequestFits.Statement (.resumeDone x0) :=
  fun _ _ _ _ h => no_request h

theorem RequestFits.cartOpTimeout (x0 x1 : _) : RequestFits.Statement (.cartOpTimeout x0 x1) :=
  fun _ _ _ _ h => no_request h

theorem RequestFits.slotStatus (x0 x1 : _) : RequestFits.Statement (.slotStatus x0 x1) :=
  fun hw => fits (by decide) (byteField_lt (and_left hw)) rfl

theorem RequestFits.slotHold (x0 x1 : _) : RequestFits.Statement (.slotHold x0 x1) :=
  fun hw => fits (by decide) (byteField_lt (and_left hw)) rfl

theorem RequestFits.slotRelease (x0 x1 : _) : RequestFits.Statement (.slotRelease x0 x1) :=
  fun hw => fits (by decide) (byteField_lt (and_left hw)) rfl

theorem RequestFits.slotClear (x0 x1 : _) : RequestFits.Statement (.slotClear x0 x1) :=
  fun hw => fits (by decide) (byteField_lt (and_left hw)) rfl

theorem RequestFits.slotFaultGet (x0 x1 : _) : RequestFits.Statement (.slotFaultGet x0 x1) :=
  fun hw => fits (by decide) (byteField_lt (and_left hw)) rfl

theorem RequestFits.shelfPulled (x0 x1 : _) : RequestFits.Statement (.shelfPulled x0 x1) :=
  fun hw => fits (by decide) (byteField_lt (and_left hw)) rfl

theorem RequestFits.mailLabel (x0 x1 : _) : RequestFits.Statement (.mailLabel x0 x1) :=
  fun hw => fits (by decide) (byteField_lt (and_left hw)) rfl

theorem RequestFits.trayList (x0 : _) : RequestFits.Statement (.trayList x0) :=
  fun hw => fits (by decide) (byteField_lt hw) rfl

theorem RequestFits.manifestGet (x0 x1 : _) : RequestFits.Statement (.manifestGet x0 x1) :=
  fun hw => fits (by decide) (byteField_lt (and_left hw)) rfl

theorem RequestFits.alarmPut (x0 x1 x2 x3 x4 : _) : RequestFits.Statement (.alarmPut x0 x1 x2 x3 x4) :=
  fun hw => fits (by decide) (byteField_lt (and_left (and_left (and_left (and_left hw))))) rfl

theorem RequestFits.alarmGet (x0 : _) : RequestFits.Statement (.alarmGet x0) :=
  fun hw => fits (by decide) (byteField_lt hw) rfl

theorem RequestFits.clockTick : RequestFits.Statement .clockTick :=
  fun _ _ _ _ h => no_request h

theorem RequestFits.dispatchCartridgeItem : RequestFits.Statement .dispatchCartridgeItem :=
  fun _ _ _ _ h => no_request h

theorem RequestFits.dispatchSetItem : RequestFits.Statement .dispatchSetItem :=
  fun _ _ _ _ h => no_request h

theorem RequestFits.readerInsert : RequestFits.Statement .readerInsert :=
  fun _ _ _ _ h => no_request h

theorem RequestFits.readerRemove : RequestFits.Statement .readerRemove :=
  fun _ _ _ _ h => no_request h

theorem RequestFits.readerIdentityDone (x0 x1 : _) : RequestFits.Statement (.readerIdentityDone x0 x1) :=
  fun _ _ _ _ h => no_request h

theorem RequestFits.readerReadTimeout (x0 : _) : RequestFits.Statement (.readerReadTimeout x0) :=
  fun _ _ _ _ h => no_request h

theorem RequestFits.readerGet (x0 : _) : RequestFits.Statement (.readerGet x0) :=
  fun hw => fits (by decide) (byteField_lt hw) rfl

theorem RequestFits.returnVolumeLoan (x0 x1 x2 : _) : RequestFits.Statement (.returnVolumeLoan x0 x1 x2) :=
  fun hw => fits (by decide) (byteField_lt (and_left (and_left hw))) rfl

theorem RequestFits.returnVolumeLate (x0 x1 x2 x3 : _) : RequestFits.Statement (.returnVolumeLate x0 x1 x2 x3) :=
  fun hw => fits (by decide) (byteField_lt (and_left (and_left (and_left hw)))) rfl

theorem RequestFits.binList (x0 x1 : _) : RequestFits.Statement (.binList x0 x1) :=
  fun hw => fits (by decide) (byteField_lt (and_left hw)) rfl

theorem RequestFits.binTake (x0 x1 x2 : _) : RequestFits.Statement (.binTake x0 x1 x2) :=
  fun hw => fits (by decide) (byteField_lt (and_left (and_left hw))) rfl

theorem RequestFits.clockGet (x0 : _) : RequestFits.Statement (.clockGet x0) :=
  fun hw => fits (by decide) (byteField_lt hw) rfl

theorem RequestFits.clockStop (x0 : _) : RequestFits.Statement (.clockStop x0) :=
  fun hw => fits (by decide) (byteField_lt hw) rfl

theorem RequestFits.clockSet (x0 x1 x2 x3 x4 x5 x6 : _) : RequestFits.Statement (.clockSet x0 x1 x2 x3 x4 x5 x6) :=
  fun hw => fits (by decide) (byteField_lt (and_left (and_left (and_left (and_left (and_left (and_left hw))))))) rfl

theorem RequestFits.clockStart (x0 : _) : RequestFits.Statement (.clockStart x0) :=
  fun hw => fits (by decide) (byteField_lt hw) rfl

theorem RequestFits.closedDayPutUsed (x0 x1 x2 x3 x4 : _) : RequestFits.Statement (.closedDayPutUsed x0 x1 x2 x3 x4) :=
  fun hw => fits (by decide) (byteField_lt (and_left (and_left (and_left (and_left hw))))) rfl

theorem RequestFits.closedDayPutClear (x0 x1 : _) : RequestFits.Statement (.closedDayPutClear x0 x1) :=
  fun hw => fits (by decide) (byteField_lt (and_left hw)) rfl

theorem RequestFits.closedDayGet (x0 : _) : RequestFits.Statement (.closedDayGet x0) :=
  fun hw => fits (by decide) (byteField_lt hw) rfl

theorem RequestFits.remindersRead (x0 : _) : RequestFits.Statement (.remindersRead x0) :=
  fun hw => fits (by decide) (byteField_lt hw) rfl

theorem RequestFits.rollLoanStep : RequestFits.Statement .rollLoanStep :=
  fun _ _ _ _ h => no_request h

theorem RequestFits.rollPatronStep : RequestFits.Statement .rollPatronStep :=
  fun _ _ _ _ h => no_request h

theorem RequestFits.rollDeferralClear : RequestFits.Statement .rollDeferralClear :=
  fun _ _ _ _ h => no_request h

theorem RequestFits.rollFinish : RequestFits.Statement .rollFinish :=
  fun _ _ _ _ h => no_request h

theorem RequestFits.rollEndPlanningTrigger : RequestFits.Statement .rollEndPlanningTrigger :=
  fun _ _ _ _ h => no_request h

theorem RequestFits.heldCloseRelease : RequestFits.Statement .heldCloseRelease :=
  fun _ _ _ _ h => no_request h

theorem RequestFits.pendingResultComplete : RequestFits.Statement .pendingResultComplete :=
  fun _ _ _ _ h => no_request h

theorem RequestFits.powerOnStart (x0 x1 : _) : RequestFits.Statement (.powerOnStart x0 x1) :=
  fun _ _ _ _ h => no_request h

theorem RequestFits.powerLoss : RequestFits.Statement .powerLoss :=
  fun _ _ _ _ h => no_request h

theorem RequestFits.resetAssert : RequestFits.Statement .resetAssert :=
  fun _ _ _ _ h => no_request h

theorem RequestFits.resetRelease : RequestFits.Statement .resetRelease :=
  fun _ _ _ _ h => no_request h

theorem RequestFits.reportAnsweringNoOperation (x0 : _) : RequestFits.Statement (.reportAnsweringNoOperation x0) :=
  fun _ _ _ _ h => no_request h

end Sys2Proof.Laws
end

