-- ==== Sys2Proof/Laws/Requests.lean ====
section
/-!
SUPPORT. What taking and serving a request does, said once: a request whose turn it is, one whose turn it is
not, and one that arrives while none waits (R178, R179); and what taking a planning trigger leaves (R49).
-/

namespace Sys2Proof.Machine

theorem State.takeTrigger_of_quiet {s : State} (h : s.quiet) : s.takeTrigger = s := by
  unfold State.quiet at h
  simp [State.takeTrigger, h]

theorem State.takeTrigger_quiet (s : State) : s.takeTrigger.quiet := by
  unfold State.quiet State.takeTrigger
  split
  · split
    · unfold State.beginPass
      split <;> simp [State.setPlanner]
    · simp [State.setPlanner]
  · simp_all

theorem State.takeRequest_of_serves {s : State} {i code tag : Nat} {c : Instr} {body : List Byte}
    (h : s.serves i c) (hc : c.request = some (code, tag, body)) :
    s.takeRequest code tag body = (s, some i) := by
  obtain ⟨hr, he, ho, code', tag', body', hq, hi⟩ := h
  rw [hc] at hq
  obtain ⟨rfl, rfl, rfl⟩ : code = code' ∧ tag = tag' ∧ body = body' := by simpa using hq
  simp [State.takeRequest, hr, he, ho, hi]

/-- A request whose turn it is has its answer made, its reply formed, and its planning trigger taken. -/
theorem State.serve_of_serves {s : State} {i code tag : Nat} {c : Instr} {body : List Byte}
    {f : State → Reply × State} (h : s.serves i c) (hc : c.request = some (code, tag, body)) :
    s.serve code tag body f = ((f s).2.formReply i (f s).1).takeTrigger := by
  simp [State.serve, State.takeRequest_of_serves h hc]

theorem State.takeRequest_of_not_running {s : State} {code tag : Nat} {body : List Byte}
    (h : s.run ≠ .running) : s.takeRequest code tag body = (s, none) := by
  simp [State.takeRequest, h]

theorem State.serve_of_not_running {s : State} {code tag : Nat} {body : List Byte}
    {f : State → Reply × State} (h : s.run ≠ .running) : s.serve code tag body f = s := by
  simp [State.serve, State.takeRequest_of_not_running h]

/-- Another request is the oldest: it is not this one's turn. -/
theorem State.takeRequest_of_other {s : State} {i code tag : Nat} {body : List Byte}
    (ho : oldestWaiting s.link.queue = some i)
    (hi : s.link.queue[i]? ≠ some { code := code, tag := tag, body := body, stage := .waiting }) :
    s.takeRequest code tag body = (s, none) := by
  unfold State.takeRequest
  simp [ho, hi]

/-- Taking a request leaves everything but the link's queue and events. -/
theorem State.takeRequest_cases (s : State) (code tag : Nat) (body : List Byte) :
    (s.takeRequest code tag body).1 = s ∨
      (oldestWaiting s.link.queue = none ∧ (s.takeRequest code tag body).1 = s.arrive code tag body) := by
  unfold State.takeRequest
  split
  · exact .inl rfl
  · split
    · split
      · exact .inl rfl
      · split <;> exact .inl rfl
    · rename_i h
      refine .inr ⟨h, ?_⟩
      dsimp only
      split <;> rfl

/-- Forming a reply and noting a trigger do not touch each other. -/
theorem State.formReply_noteTrigger (s : State) (i : Nat) (r : Reply) :
    s.noteTrigger.formReply i r = (s.formReply i r).noteTrigger := rfl

/-! ## Naming a record (R2, R181) -/

theorem State.patronIndex_of_named {s : State} {n k : Nat} (hn : n ≤ Config.patronMax)
    (h : n = k ∧ n ≠ 0 ∨ n = 0 ∧ s.link.patronCtx = some k) : s.patronIndex n = .ok k := by
  unfold State.patronIndex
  rcases h with ⟨rfl, h0⟩ | ⟨rfl, hc⟩
  · simp [Nat.not_lt.2 hn, h0]
  · simp [hc]

theorem State.titleIndex_of_named {s : State} {n k : Nat} (hn : n ≤ Config.titleMax)
    (h : n = k ∧ n ≠ 0 ∨ n = 0 ∧ s.link.titleCtx = some k) : s.titleIndex n = .ok k := by
  unfold State.titleIndex
  rcases h with ⟨rfl, h0⟩ | ⟨rfl, hc⟩
  · simp [Nat.not_lt.2 hn, h0]
  · simp [hc]

/-- A patron named by index or by the context is found. -/
theorem State.findPatron_of_named {s : State} {n k : Nat} {p : Patron} (hn : n ≤ Config.patronMax)
    (h : n = k ∧ n ≠ 0 ∨ n = 0 ∧ s.link.patronCtx = some k) (hp : s.patron k = some p) :
    s.findPatron n = .ok (k, p) := by
  simp [State.findPatron, State.patronIndex_of_named hn h, hp]

/-- A title named by index or by the context is found. -/
theorem State.findTitle_of_named {s : State} {n k : Nat} {r : Title} (hn : n ≤ Config.titleMax)
    (h : n = k ∧ n ≠ 0 ∨ n = 0 ∧ s.link.titleCtx = some k) (hr : s.title k = some r) :
    s.findTitle n = .ok (k, r) := by
  simp [State.findTitle, State.titleIndex_of_named hn h, hr]

/-- An accepted request leaves the patron context at the record it named. -/
theorem State.usePatron_of_named {s : State} {n k : Nat}
    (h : n = k ∧ n ≠ 0 ∨ n = 0 ∧ s.link.patronCtx = some k) :
    s.usePatron n = s.setLink { s.link with patronCtx := some k } := by
  unfold State.usePatron
  rcases h with ⟨rfl, h0⟩ | ⟨rfl, hc⟩
  · simp [h0]
  · simp only [← hc, if_true]
    rfl

/-- An accepted request leaves the title context at the record it named. -/
theorem State.useTitle_of_named {s : State} {n k : Nat}
    (h : n = k ∧ n ≠ 0 ∨ n = 0 ∧ s.link.titleCtx = some k) :
    s.useTitle n = s.setLink { s.link with titleCtx := some k } := by
  unfold State.useTitle
  rcases h with ⟨rfl, h0⟩ | ⟨rfl, hc⟩
  · simp [h0]
  · simp only [← hc, if_true]
    rfl

end Sys2Proof.Machine
end

