-- ==== Sys2Proof/Laws/Tables.lean ====
section
/-!
SUPPORT. The laws of tables: what reading an index gives after a record is written or freed, and that both keep
the indexes rising.
-/

namespace Sys2Proof.Machine

@[simp] theorem Table.look_put {α : Type} (t : Table α) (k : Nat) (v : α) : (t.put k v).look k = some v := by
  induction t with
  | nil => simp [Table.put, Table.look]
  | cons e t ih =>
    obtain ⟨j, w⟩ := e
    simp only [Table.put]
    split
    · simp [Table.look]
    · split
      · simp [Table.look]
      · rename_i _ h
        simp [Table.look, ih, Ne.symm h]

/-- A record that is found stands in the table. -/
theorem Table.mem_of_look {α : Type} {t : Table α} {k : Nat} {v : α} (h : t.look k = some v) : (k, v) ∈ t := by
  induction t with
  | nil => exact absurd h (by simp [Table.look])
  | cons e rest ih =>
    obtain ⟨j, w⟩ := e
    by_cases hj : j = k
    · subst hj
      simp only [Table.look, if_true, Option.some.injEq] at h
      simp [h]
    · simp only [Table.look, hj, if_false] at h
      exact List.mem_cons_of_mem _ (ih h)

theorem Table.look_put_of_ne {α : Type} (t : Table α) {j k : Nat} (v : α) (h : j ≠ k) :
    (t.put k v).look j = t.look j := by
  induction t with
  | nil => simp [Table.put, Table.look, Ne.symm h]
  | cons e t ih =>
    obtain ⟨i, w⟩ := e
    simp only [Table.put]
    split
    · simp [Table.look, Ne.symm h]
    · split
      · rename_i hk
        subst hk
        simp [Table.look, Ne.symm h]
      · simp [Table.look, ih]

@[simp] theorem Table.put_put {α : Type} (t : Table α) (k : Nat) (v w : α) : (t.put k v).put k w = t.put k w := by
  induction t with
  | nil => simp [Table.put]
  | cons e t ih =>
    obtain ⟨j, x⟩ := e
    simp only [Table.put]
    split
    · simp [Table.put]
    · split <;> simp [Table.put, *]

theorem Table.look_del_of_ne {α : Type} (t : Table α) {j k : Nat} (h : j ≠ k) : (t.del k).look j = t.look j := by
  induction t with
  | nil => rfl
  | cons e t ih =>
    obtain ⟨i, w⟩ := e
    simp only [Table.del]
    split
    · rename_i hk
      subst hk
      simp [Table.look, Ne.symm h]
    · simp [Table.look, ih]

/-- Below every listed index nothing is listed. -/
theorem Table.look_of_all_lt {α : Type} (t : Table α) (k : Nat) (h : ∀ e ∈ t, k < e.1) : t.look k = none := by
  induction t with
  | nil => rfl
  | cons e t ih =>
    obtain ⟨j, w⟩ := e
    have hj : k < j := h (j, w) (by simp)
    simp [Table.look, Nat.ne_of_gt hj, ih (fun e he => h e (by simp [he]))]

/-- A freed record is FREE. -/
theorem Table.look_del {α : Type} (t : Table α) (k : Nat) (h : t.rising = true) : (t.del k).look k = none := by
  induction t with
  | nil => rfl
  | cons e t ih =>
    obtain ⟨j, w⟩ := e
    simp only [Table.rising, Bool.and_eq_true, List.all_eq_true, decide_eq_true_eq] at h
    simp only [Table.del]
    split
    · rename_i hk
      subst hk
      exact Table.look_of_all_lt t j h.1
    · rename_i hk
      simp [Table.look, hk, ih h.2]

theorem Table.mem_put {α : Type} (t : Table α) (k : Nat) (v : α) {e : Nat × α} (h : e ∈ t.put k v) :
    e = (k, v) ∨ e ∈ t := by
  induction t with
  | nil => simpa [Table.put] using h
  | cons x t ih =>
    obtain ⟨j, w⟩ := x
    simp only [Table.put] at h
    split at h
    · simpa using h
    · split at h
      · rcases List.mem_cons.1 h with h | h
        · exact .inl h
        · exact .inr (by simp [h])
      · rcases List.mem_cons.1 h with h | h
        · exact .inr (by simp [h])
        · rcases ih h with h | h
          · exact .inl h
          · exact .inr (by simp [h])

theorem Table.mem_del {α : Type} (t : Table α) (k : Nat) {e : Nat × α} (h : e ∈ t.del k) : e ∈ t := by
  induction t with
  | nil => simp [Table.del] at h
  | cons x t ih =>
    obtain ⟨j, w⟩ := x
    simp only [Table.del] at h
    split at h
    · simp [h]
    · rcases List.mem_cons.1 h with h | h
      · simp [h]
      · simp [ih h]

/-- Writing a record keeps the indexes rising. -/
theorem Table.rising_put {α : Type} (t : Table α) (k : Nat) (v : α) (h : t.rising = true) :
    (t.put k v).rising = true := by
  induction t with
  | nil => simp [Table.put, Table.rising]
  | cons e t ih =>
    obtain ⟨j, w⟩ := e
    have h' := h
    simp only [Table.rising, Bool.and_eq_true, List.all_eq_true, decide_eq_true_eq] at h
    simp only [Table.put]
    split
    · rename_i hk
      simp only [Table.rising, Bool.and_eq_true, List.all_eq_true, decide_eq_true_eq, List.mem_cons]
      refine ⟨?_, h⟩
      rintro e (rfl | he)
      · exact hk
      · exact Nat.lt_trans hk (h.1 e he)
    · split
      · rename_i hk
        subst hk
        simpa [Table.rising] using h
      · rename_i h1 h2
        simp only [Table.rising, Bool.and_eq_true, List.all_eq_true, decide_eq_true_eq]
        refine ⟨fun e he => ?_, ih h.2⟩
        rcases Table.mem_put t k v he with rfl | he
        · show j < k
          omega
        · exact h.1 e he

/-- Freeing a record keeps the indexes rising. -/
theorem Table.rising_del {α : Type} (t : Table α) (k : Nat) (h : t.rising = true) : (t.del k).rising = true := by
  induction t with
  | nil => rfl
  | cons e t ih =>
    obtain ⟨j, w⟩ := e
    simp only [Table.rising, Bool.and_eq_true, List.all_eq_true, decide_eq_true_eq] at h
    simp only [Table.del]
    split
    · exact h.2
    · simp only [Table.rising, Bool.and_eq_true, List.all_eq_true, decide_eq_true_eq]
      exact ⟨fun e he => h.1 e (Table.mem_del t k he), ih h.2⟩

/-! ## Records of the state -/

@[simp] theorem State.patron_setPatron (s : State) (k : Nat) (p : Patron) : (s.setPatron k p).patron k = some p :=
  Table.look_put _ _ _

theorem State.patron_setPatron_of_ne (s : State) {j k : Nat} (p : Patron) (h : j ≠ k) :
    (s.setPatron k p).patron j = s.patron j := Table.look_put_of_ne _ _ h

@[simp] theorem State.title_setTitle (s : State) (k : Nat) (r : Title) : (s.setTitle k r).title k = some r :=
  Table.look_put _ _ _

theorem State.title_setTitle_of_ne (s : State) {j k : Nat} (r : Title) (h : j ≠ k) :
    (s.setTitle k r).title j = s.title j := Table.look_put_of_ne _ _ h

@[simp] theorem State.loan_setLoan (s : State) (k : Nat) (l : Loan) : (s.setLoan k l).loan k = some l :=
  Table.look_put _ _ _

@[simp] theorem State.plan_setPlan (s : State) (k : Nat) (p : Plan) : (s.setPlan k p).plan k = some p :=
  Table.look_put _ _ _

theorem State.plan_setPlan_of_ne (s : State) {j k : Nat} (p : Plan) (h : j ≠ k) :
    (s.setPlan k p).plan j = s.plan j := Table.look_put_of_ne _ _ h

@[simp] theorem State.image_setImage (s : State) (k : Nat) (e : Image) : (s.setImage k e).image k = some e :=
  Table.look_put _ _ _

theorem State.image_setImage_of_ne (s : State) {j k : Nat} (e : Image) (h : j ≠ k) :
    (s.setImage k e).image j = s.image j := Table.look_put_of_ne _ _ h

/-- A slot of the rack reads back what was written to it. -/
theorem State.slot_setSlot (s : State) {n : Nat} (x : Slot) (hr : s.rack.length = 8) (h1 : 1 ≤ n) (h8 : n ≤ 8) :
    (s.setSlot n x).slot n = x := by
  have : n - 1 < s.rack.length := by omega
  simp [State.slot, State.setSlot, State.setRack, List.getD, this]

/-- Writing one slot leaves another. -/
theorem State.slot_setSlot_of_ne (s : State) {m n : Nat} (x : Slot) (h1 : 1 ≤ n) (hm : 1 ≤ m) (h : m ≠ n) :
    (s.setSlot n x).slot m = s.slot m := by
  have : n - 1 ≠ m - 1 := by omega
  simp [State.slot, State.setSlot, State.setRack, List.getD, List.getElem?_set_ne this]

end Sys2Proof.Machine
end

