-- ==== Sys2Proof/Tests/Slice0.lean ====
section
/-!
SUPPORT. The author's own tests: the checks of WellFormed, one small command at a time, and for every statement
with hypotheses a state and operands that meet them together. Expected values are worked out from the rules.
-/

namespace Sys2Proof.Tests

open Sys2Proof.Machine

/-! ## A small library -/

/-- Patron 1: ACTIVE, player C4, one cartridge out of two, no set out of two. -/
def ann : Patron :=
  { number := 101, state := .active, media := { audio := true, ebraille := false, pbraille := true },
    cls := .c4, cartLimit := 2, setLimit := 2, cartCount := 1, setCount := 0, key := 7, pauseUntil := none,
    lastService := none, deferral := .none, history := [], orders := [] }

/-- Title 1: AUDIO, 600 pages, two blocks. -/
def tale : Title :=
  { catalogue := 9001, format := .audio, withdrawn := false, pages := 600, check := 5#32, bad := false,
    failures := 0, volumes := 0, copies := [], holds := [] }

/-- Title 2: PBRAILLE in two volumes, copy 1 on the shelf and fourteen places ABSENT. -/
def tome : Title :=
  { catalogue := 9002, format := .pbraille, withdrawn := false, pages := 0, check := 0#32, bad := false,
    failures := 0, volumes := 2, copies := .shelf :: List.replicate 14 .absent, holds := [] }

/-- Loan 1: a cartridge with title 1, out with patron 1, due on day 60. -/
def loan1 : Loan :=
  { kind := .cartridge 77 [9001], patron := 1, overdue := false, dispatch := 18, due := 60, stage := 0 }

def noon : TimeOfDay := { hour := 12, minute := 0, second := 0 }

/-- The part after reset with these records, its clock running at noon of day 31 (2000-02-01). -/
def shop : State :=
  { State.reset with
    records := { patrons := [(1, ann)], titles := [(1, tale), (2, tome)], loans := [(1, loan1)], lost := [] },
    calendar :=
      { Calendar.empty with
        clock := { day := 31, time := noon, running := true, prescaler := 2 }, lastRoll := some 31 } }

/-- A day roll runs. -/
def rolling (p : RollPlace) (s : State) : State :=
  s.setCalendar { s.calendar with roll := some { date := 31, place := p } }

/-- The command's request stands in the queue and nothing else does. -/
def asked (c : Instr) (s : State) : State :=
  match c.request with
  | some (code, tag, body) => s.setQueue [{ code := code, tag := tag, body := body, stage := .waiting }]
  | none => s

/-- The command's request is served now, and no trigger is left untaken, as a decidable condition. -/
abbrev Ready (c : Instr) (s : State) : Prop :=
  s.run = .running ∧ s.link.events.reading = false ∧ oldestWaiting s.link.queue = some 0 ∧
    c.request.isSome = true ∧
    s.link.queue[0]? = c.request.map (fun r => { code := r.1, tag := r.2.1, body := r.2.2, stage := .waiting }) ∧
    s.planner.due = false

theorem ready_serves {c : Instr} {s : State} (h : Ready c s) : s.serves 0 c ∧ s.quiet := by
  obtain ⟨h1, h2, h3, h4, h5, h6⟩ := h
  obtain ⟨⟨code, tag, body⟩, hr⟩ := Option.isSome_iff_exists.1 h4
  exact ⟨⟨h1, h2, h3, code, tag, body, hr, by simpa [hr] using h5⟩, h6⟩

/-- A request put alone into the queue of a running part is served now. -/
theorem ready_asked {c : Instr} {s : State} (hc : c.request.isSome = true) (hr : s.run = .running)
    (he : s.link.events.reading = false) (hd : s.planner.due = false) : Ready c (asked c s) := by
  obtain ⟨⟨code, tag, body⟩, h⟩ := Option.isSome_iff_exists.1 hc
  have ha : asked c s = s.setQueue [{ code := code, tag := tag, body := body, stage := .waiting }] := by
    simp [asked, h]
  rw [ha]
  exact ⟨hr, he, rfl, hc, by simp [h, State.setQueue, State.setLink], hd⟩

/-- The outcome is this next state. -/
def answers (o : Answer) (t : State) : Bool :=
  match o with
  | .next u => decide (u = t)
  | .fault _ => false
  | .refused _ => false

/-- What the outcome's next state shows. -/
def after (o : Answer) (q : State → Bool) : Bool :=
  match o with
  | .next u => q u
  | .fault _ => false
  | .refused _ => false

/-- A flag is raised. -/
def raised (f : Flag) (t : State) : Bool := t.link.events.main.getLsbD f.bit

/-! ## The checks of WellFormed -/

/-- One command outside each check: a TAG, a half field, a word field, an action, a frame's length, a bank, a
socket below and above, and a good read of the wrong length. -/
def illFormed : List Instr :=
  [.identify 256, .eventsEnable 0 65536, .contextSet 0 65536 0, .contextSet 0 0 65536,
    .settingsPut 0 256 0 0 0 0 0 0, .settingsPut 0 0 0 65536 0 0 0 0,
    .patronPutCreate 0 4294967296 0 0 0 0 0, .titlePutCreate 0 0 0 4294967296 0 0, .loanGet 0 65536,
    .orderAdd 0 0 0 256 0 0, .copiesAdjustAdd 0 1 2 1, .copiesAdjustAdd 0 1 3 1, .slotStatus 0 256,
    .unknownRequest 0 256 [], .fetchAbandon 0 256, .imageData 0 0 4294967296 [], .fillWriteComplete 4,
    .frameReadComplete 4, .cartridgeInsert 0, .cartridgeInsert 9, .cartridgeRemove 9, .markCycleDone 0,
    .identityReadDone 1 true [], .pageReadDone 1 true [0#8], .readerIdentityDone true [0#8],
    .cartOpTimeout 9 0, .reportAnsweringNoOperation 0, .clockSet 0 65536 1 1 0 0 0]

theorem test_ill_formed_refused : illFormed.all (fun i => !i.wellFormed) = true := by decide

/-- LEN counts CODE and TAG with the body, so a body has 4,110 bytes at most (R176). -/
theorem test_long_body_refused :
    (Instr.unknownRequest 0 0 (List.replicate 4111 0#8)).wellFormed = false ∧
      (Instr.imageData 0 0 0 (List.replicate 4106 0#8)).wellFormed = false := by
  decide +kernel

theorem test_well_formed :
    [Instr.identify 255, .eventsEnable 0 65535, .cartridgeInsert 1, .cartridgeInsert 8, .fillWriteComplete 3,
      .copiesAdjustAdd 0 1 4 1, .identityReadDone 8 false [], .readerIdentityDone true (List.replicate 12 0#8)
      ].all (·.wellFormed) = true := by decide

/-- The table gives no row bits: no word spells a command, and the queue is as it was. -/
theorem test_no_word_spells :
    decodeTableWord 32 7 = none ∧ (shop.withFetchWord 32 7) = shop := by decide

/-! ## Small facts worked by hand -/

/-- 00_scope.md, R161: 2000-01-01 is a Saturday; 2100 is no leap year; 2199-12-31 is day 73,048. -/
theorem test_dates :
    weekday (dayNumber 2000 1 1) = 5 ∧ validDate 2100 2 29 = false ∧ validDate 2000 2 29 = true ∧
      dayNumber 2199 12 31 = 73048 ∧ dateOf 59 = (2000, 2, 29) ∧ dateOf 60 = (2000, 3, 1) := by decide +kernel

/-- 10.1, worked by hand: the frame of IDENTIFY with TAG 5. CHECK is 2 + 0 + 1 + 5. -/
theorem test_frame :
    frameBytes 1 5 [] = [0xD3#8, 0x02#8, 0x00#8, 0x01#8, 0x05#8, 0x08#8, 0x00#8] := by decide

/-- 00_scope.md: 600 pages are two blocks of 512 and 75 frames of 8. -/
theorem test_units : blockSize 600 = 2 ∧ framesOf 600 = 75 ∧ blockSize 512 = 1 := by decide

/-! ## The part as a whole -/

theorem witness_StepRunsFrontCommand : State.reset.pending = [] := rfl

theorem witness_CommandsCompleteAndLeaveTheirQueue :
    (Instr.cartridgeInsert 8).wellFormed = true ∧
      after (exec (.cartridgeInsert 8) shop) (fun t => decide (t.pending = shop.pending)) = true ∧
      exec (.cartridgeInsert 0) shop = .fault (.noSuchSocket 0) ∧
      exec (.cartridgeInsert 9) shop = .fault (.noSuchSocket 9) ∧
      exec (.fillWriteComplete 4) shop = .fault (.noSuchBank 4) := by
  exact ⟨by decide, by decide, rfl, rfl, rfl⟩

/-- An enabled flag stands and the output is asserted. -/
def calling : State :=
  shop.setEvents { shop.link.events with enables := 0x1000#15, attention := true }

theorem witness_StepKeepsAttentionRight :
    (∃ t, step (calling.setPending [.clockTick]) = .next t) ∧ calling.attentionRight ∧
      ∃ t, step ((shop.setRun .off).setPending [.clockTick]) = .next t ∧ (shop.setRun .off).attentionRight ∧
        (shop.setRun .off).link.events.enables = 0#15 ∧ t.run ≠ .running := by
  refine ⟨⟨_, rfl⟩, ⟨fun _ => ⟨.clockStopped, rfl, rfl⟩, fun _ => rfl⟩, _, rfl, ?_, rfl, by decide⟩
  refine ⟨fun h => absurd h (by decide), ?_⟩
  rintro ⟨f, -, h⟩
  exact absurd h (by simp [shop, State.reset, Events.clear, State.setRun])

def waiting (code : Nat) : Request := { code := code, tag := 1, body := [], stage := .waiting }
def formed (code : Nat) : Request := { code := code, tag := 1, body := [], stage := .formed [0#8] }

/-- Four requests, one of them an EVENTS READ being served. -/
def busy : State :=
  (shop.setQueue [{ waiting 4 with stage := .serving }, waiting 1, waiting 1, waiting 1]).setEvents
    { shop.link.events with reading := true }

theorem witness_StepKeepsRequestsSettingsClockTriggers :
    (∃ t, step (busy.setPending [.clockTick]) = .next t) ∧ busy.link.queue.length ≤ 4 ∧ busy.oneServed ∧
      busy.link.settings.inRange ∧ busy.calendar.clock.right ∧ busy.quiet :=
  ⟨⟨_, rfl⟩, by decide, by unfold State.oneServed; decide, by unfold Settings.inRange; decide,
    by unfold Clock.right; decide, rfl⟩

theorem witness_StepKeepsFormsAndNumbers :
    (∃ t, step (shop.setPending [.clockTick]) = .next t) ∧ shop.shaped ∧ shop.ordered ∧ shop.numbered ∧
      flashWf (flashWrite shop.store.flash 4095 [1#8, 0xFF#8, 2#8]) = true :=
  ⟨⟨_, rfl⟩, by unfold State.shaped; decide, by unfold State.ordered; decide, by unfold State.numbered; decide,
    by decide⟩

theorem witness_StepKeepsListsBounded :
    (∃ t, step (shop.setPending [.clockTick]) = .next t) ∧ shop.bounded :=
  ⟨⟨_, rfl⟩, by
    refine ⟨by decide, by decide, by decide, by decide, by decide, by decide, by decide, by decide, by decide, ?_⟩
    intro sl h
    have hs : sl = Slot.bare := by simpa [shop, State.reset] using h
    subst hs
    exact ⟨by decide, fun c h => by simp [Slot.bare] at h, fun o h => by simp [Slot.bare] at h,
      fun o h => by simp [Slot.bare] at h⟩⟩

/-- The five turns of IDENTIFY: three pending and none waiting; four pending; behind another; behind an EVENTS
READ; while the reset input is held. -/
theorem witness_RequestTurns :
    let c := Instr.identify 1
    let three := shop.setQueue [formed 2, formed 2, formed 2]
    let four := shop.setQueue [formed 2, formed 2, formed 2, formed 2]
    let behind := shop.setQueue [waiting 2, waiting 1]
    let held := (asked c shop).setRun .resetHeld
    c.request = some (1, 1, []) ∧ oldestWaiting three.link.queue = none ∧ three.link.queue.length < 4 ∧
      answers (exec c (three.setQueue (three.link.queue ++ [waiting 1])))
        ((three.setQueue (three.link.queue ++ [waiting 1])).formReply 3
          { status := .ok, fields := identifyFields }) = true ∧
      oldestWaiting four.link.queue = none ∧ answers (exec c four) (four.raise .linkFault) = true ∧
      oldestWaiting behind.link.queue = some 0 ∧ behind.link.queue[0]? ≠ some (waiting 1) ∧
      answers (exec c behind) behind = true ∧
      oldestWaiting busy.link.queue = some 1 ∧ busy.link.events.reading = true ∧
      answers (exec c busy) busy = true ∧ held.run ≠ .running ∧ answers (exec c held) held = true := by
  decide

/-- PATRON GET of 2,048 is refused RANGE. -/
theorem witness_RefusedRequestsChangeNothing :
    let c := Instr.patronGet 1 2048
    let s := asked c shop
    Ready c s ∧ after (exec c s) (fun t =>
      decide (t.link.queue[0]?.map (·.stage) = some (.formed [3#8]) ∧ [3#8].head? ≠ some 0#8 ∧
        t = s.setQueue (setStage s.link.queue 0 (.formed [3#8])))) = true := by decide

theorem witness_RollHoldsBackRequests :
    let c := Instr.patronPause 1 1 2000 2 2
    let s := rolling .deferrals (asked c shop)
    heldByRoll c = true ∧ Ready c s ∧ s.rolling = true ∧
      after (exec c (s.setCalendar { s.calendar with roll := none })) (fun t =>
        decide ((t.link.queue[0]?).map (·.stage) = some (.formed (u8 0 ++ [])))) = true ∧
      answers (exec c s) (s.formReply 0 { status := .rolling, fields := [] }) = true := by decide

def order (t : Nat) (st : EntryState) : OrderEntry :=
  { title := t, rush := false, added := 31, oversize := false, state := st }

/-- Patron 1 waits for title 1. -/
def eager : State := shop.setPatron 1 { ann with orders := [order 1 .waiting] }

theorem witness_PlanningTriggerTaken :
    let passing := shop.setPlanner { shop.planner with pass := some [1] }
    let low := { ann with deferral := .fillLow }
    passing.planner.due = false ∧ passing.planner.pass = some [1] ∧
      shop.planner.pass = none ∧ shop.serviceList = [] ∧ eager.planner.pass = none ∧ eager.serviceList = [1] ∧
      (shop.setPatron 1 low).patron 1 = some low ∧ shop.patron 1 = some ann ∧ ann.deferral ≠ .fillLow ∧
      shop.patron 2047 = none ∧
      passing.triggered = passing.setPlanner { passing.planner with rerun := true } ∧
      eager.triggered = eager.setPlanner { eager.planner with pass := some [1] } := by decide

/-! ## Link Port -/

theorem witness_FramesReceivedAndDiscarded :
    let three := shop.setQueue [formed 2, formed 2, formed 2]
    let four := shop.setQueue [formed 2, formed 2, formed 2, formed 2]
    shop.run ≠ .off ∧ three.link.frame = [] ∧ three.link.incoming = [] ∧
      (List.replicate 4110 (0#8 : Byte)).length ≤ 4110 ∧
      answers (exec (.frameReceive (frameBytes 255 255 [7#8])) three) (three.setQueue
        (three.link.queue ++ [{ code := 255, tag := 255, body := [7#8], stage := .waiting }])) = true ∧
      answers (exec (.frameReceive (frameBytes 255 255 [7#8])) four) (four.raise .linkFault) = true := by
  refine ⟨by decide, rfl, rfl, by decide +kernel, by decide, by decide⟩

/-- A frame with LEN 1, which no frame has, and a good one behind its sync. -/
theorem witness_FramesReceivedAndDiscarded_bad :
    let s := shop.setLink { shop.link with frame := [0xD3#8, 1#8, 0#8], incoming := frameBytes 1 5 [] }
    judgeFrame s.link.frame = .bad ∧
      [1#8, 0#8] ++ s.link.incoming = [1#8, 0#8] ++ frameBytes 1 5 [] ∧ 0xD3#8 ∉ [1#8, (0#8 : Byte)] ∧
      s.link.queue.length < 4 ∧
      answers (exec .frameDiscard s) ((s.raise .linkFault).setLink { (s.raise .linkFault).link with
        frame := [], incoming := [], queue := [{ code := 1, tag := 5, body := [], stage := .waiting }] }) =
          true := by decide

theorem witness_RequestsRejectedRepliesPlaced :
    let s := shop.setQueue [formed 127, waiting 1]
    let w := shop.setQueue [waiting 1, formed 127]
    let c := Instr.unknownRequest 1 0x09 []
    let d := Instr.unknownRequest 1 0x01 [0#8]
    s.link.queue = formed 127 :: [waiting 1] ∧ (formed 127).stage = .formed [0#8] ∧
      answers (exec .replyPlace s) (s.setLink
        { s.link with queue := [waiting 1], pipe := [frameBytes 255 1 [0#8]] }) = true ∧
      answers (exec .replyPlace w) w = true ∧ shop.link.queue = [] ∧ answers (exec .replyPlace shop) shop = true ∧
      Ready c (asked c shop) ∧ bodyLengths 0x09 = none ∧
      answers (exec c (asked c shop)) ((asked c shop).formReply 0 { status := .unknown, fields := [] }) = true ∧
      Ready d (asked d shop) ∧
      answers (exec d (asked d shop)) ((asked d shop).formReply 0 { status := .length, fields := [] }) = true := by
  decide

theorem witness_IdentifyStatusContextsSettings_reads :
    Ready (.identify 1) (asked (.identify 1) shop) ∧ Ready (.status 1) (asked (.status 1) shop) := by decide

def plan5 : Plan :=
  { patron := 1, cls := .c2, rush := false,
    placements := [{ title := 1, start := 1, blocks := 2, pages := 600 }], used := 2, fill := 0, faults := 0,
    state := .queued }

def batch (n : Nat) : Manifest := { number := n, date := 30, time := noon, entries := [] }

/-- Loan 20,480, plan 65,535 and two manifests beside the rest. -/
def archive : State :=
  ((shop.setLoan 20480 loan1).setPlan 65535 plan5).setMail { shop.mail with manifests := [batch 4, batch 5] }

theorem witness_ReadsChangeNothing :
    (∀ c ∈ [Instr.settingsGet 1, .writtenOffList 1, .queueList 1, .imageList 1, .fetchList 1, .trayList 1,
      .alarmGet 1, .readerGet 1, .clockGet 1, .closedDayGet 1, .loanGet 1 1, .loanGet 1 20480, .planGet 1 65535,
      .manifestGet 1 0, .manifestGet 1 4, .slotStatus 1 0, .slotStatus 1 1, .slotStatus 1 8, .slotFaultGet 1 1,
      .slotFaultGet 1 8, .binList 1 1, .binList 1 2], Ready c (asked c archive)) ∧
    archive.loan 1 = some loan1 ∧ archive.loan 20480 = some loan1 ∧ archive.plan 65535 = some plan5 ∧
    archive.mail.manifests.getLast? = some (batch 5) ∧
    archive.mail.manifests.find? (fun x => decide (x.number = 4)) = some (batch 4) ∧
    (let c := Instr.loanGet 1 1
     answers (exec c (asked c archive)) ((asked c archive).replied 0 loan1.fields) = true) ∧
    (let c := Instr.slotStatus 1 8
     answers (exec c (asked c archive)) ((asked c archive).replied 0 (u16 1 ++ shop.slotFields 8)) = true) := by
  decide

/-- Patron 1 and title 2 are the contexts, and patron 2,047 and title 8,191 stand. -/
def ctx : State :=
  ((shop.setPatron 2047 { ann with number := 102 }).setTitle 8191 { tale with catalogue := 9003 }).setLink
    { shop.link with patronCtx := some 1, titleCtx := some 2 }

theorem witness_RecordReadsNameAndSetContext :
    (∀ c ∈ [Instr.patronGet 1 2048, .patronGet 1 0, .patronGet 1 2046, .patronGet 1 2047, .patronGet 1 1,
      .loanList 1 0, .loanList 1 1, .loanList 1 2046, .loanList 1 2048, .orderList 1 0, .orderList 1 2046,
      .orderList 1 2047, .orderList 1 2048, .titleGet 1 8192, .titleGet 1 0, .titleGet 1 8190, .titleGet 1 8191,
      .holdList 1 1, .holdList 1 2, .holdList 1 0, .holdList 1 8190, .holdList 1 8192],
      Ready c (asked c ctx) ∧ Ready c (asked c shop)) ∧
    shop.link.patronCtx = none ∧ shop.link.titleCtx = none ∧ ctx.link.patronCtx = some 1 ∧
    ctx.link.titleCtx = some 2 ∧ ctx.patron 2046 = none ∧ ctx.patron 2047 ≠ none ∧ ctx.patron 1 = some ann ∧
    ctx.title 8190 = none ∧ ctx.title 8191 ≠ none ∧ ctx.title 1 = some tale ∧ ctx.title 2 = some tome ∧
    tale.format ≠ .pbraille ∧ tome.format = .pbraille ∧
    (∀ c ∈ [Instr.patronGet 1 0, .loanList 1 0, .orderList 1 2046, .titleGet 1 0, .holdList 1 8190],
     answers (exec c (asked c shop)) ((asked c shop).formReply 0 { status := .noRecord, fields := [] }) = true) ∧
    (∀ c ∈ [Instr.loanList 1 2048, .orderList 1 2048, .holdList 1 8192],
     answers (exec c (asked c shop)) ((asked c shop).formReply 0 { status := .range, fields := [] }) = true) ∧
    (let c := Instr.holdList 1 1
     answers (exec c (asked c ctx)) ((asked c ctx).formReply 0 { status := .state, fields := [] }) = true) ∧
    (let c := Instr.orderList 1 2047
     answers (exec c (asked c ctx)) (((asked c ctx).setLink { (asked c ctx).link with patronCtx := some 2047 }).replied
      0 (u16 0 ++ u8 0)) = true) := by decide

theorem witness_EventsReadSplitsFlags :
    let c := Instr.eventsRead 1
    Ready c (asked c calling) ∧ (asked c calling).attentionRight ∧ busy.link.events.reading = true ∧
      shop.link.events.reading = false ∧ busy.link.queue[0]?.map (·.stage) = some .serving ∧
      answers (exec .eventsReadReply busy) ((busy.replied 0 (u16 0x1000 ++ u16 0)).setEvents
        { main := 0#15, pending := 0#15, enables := 0#15, reading := false, attention := false }) = true :=
  ⟨by decide, ⟨fun _ => ⟨.clockStopped, rfl, rfl⟩, fun _ => rfl⟩, rfl, rfl, rfl, by decide⟩

theorem witness_EventsEnableReplacesSet :
    let c := Instr.eventsEnable 1 0xFFFF
    Ready c (asked c shop) ∧
      answers (exec c (asked c shop)) (((asked c shop).setEvents
        { shop.link.events with enables := 0x7FFF#15, attention := true }).replied 0 (u16 0x7FFF ++ u16 0x1000)) =
          true ∧
      calling.run = .running ∧ Ready (.restart 1) (asked (.restart 1) calling) ∧
      after (exec (.restart 1) (asked (.restart 1) calling)) (fun t => decide (t.link.events.enables = 0#15)) =
        true ∧
      after (exec .resetAssert calling) (fun t => decide (t.link.events.enables = 0#15)) = true ∧
      after (exec (.powerOnStart true true) calling) (fun t => decide (t.link.events.enables = 0#15)) = true := by
  decide

theorem witness_IdentifyStatusContextsSettings :
    (∀ c ∈ [Instr.contextSet 1 2048 0, .contextSet 1 2046 0, .contextSet 1 0 8192, .contextSet 1 2047 8190,
      .contextSet 1 2047 8191, .contextSet 1 0 0, .settingsPut 1 6 121 1001 3 24 60 9], Ready c (asked c ctx)) ∧
    ctx.patron 2046 = none ∧ ctx.patron 2047 ≠ none ∧ ctx.title 8190 = none ∧ ctx.title 8191 ≠ none ∧
    (let c := Instr.contextSet 1 2047 8191
     answers (exec c (asked c ctx)) (((asked c ctx).setLink
      { (asked c ctx).link with patronCtx := some 2047, titleCtx := some 8191 }).replied 0
        (u16 2047 ++ u16 8191 ++ u32 102 ++ u32 9003)) = true) ∧
    (let c := Instr.settingsPut 1 6 121 1001 3 24 60 9
     after (exec c (asked c ctx)) (fun t => decide (t.link.settings =
      { cartDays := 7, setDays := 120, floor := 1000, window := 4, rollHour := 23, rollMinute := 59,
        centreKey := 9 })) = true) := by decide

/-! ## Starts -/

/-- A part with a cartridge in socket 1, a plan bound to it, and the reset input held. -/
def held : State :=
  (((shop.setSlot 1 { Slot.bare with present := true }).setPlan 5 { plan5 with state := .inSlot 1 }).setQueue
    [waiting 1]).setRun .resetHeld

theorem witness_ResetAndPowerLossEndWork :
    shop.run = .running ∧ after (exec .resetAssert shop) (fun t => decide (t.run = .resetHeld)) = true ∧
      held.run ≠ .running ∧ answers (exec .resetAssert held) held = true ∧
      after (exec .powerLoss shop) (fun t => decide (t.run = .off ∧ t.records = shop.records)) = true := by
  decide

theorem witness_StartRebuilds :
    held.run = .resetHeld ∧ held.records.patrons.rising = true ∧ held.records.titles.rising = true ∧
      held.records.loans.rising = true ∧ held.planner.plans.rising = true ∧ held.store.images.rising = true ∧
      held.calendar.roll = none ∧
      after (exec .resetRelease held) (fun t => decide (t.run = .running ∧ t.plan 5 = some plan5 ∧
        t.planner.queue = [5] ∧ (t.slot 1).state = .ident ∧ t.link.queue = [waiting 1] ∧ t.calendar.roll.isSome = held.rollOverdue)) =
          true ∧
      shop.run ≠ .resetHeld ∧ answers (exec .resetRelease shop) shop = true ∧
      after (exec (.powerOnStart true false) held) (fun t => decide (t.run = .running ∧
        t.link.backup = { held := true, good := false, first := true } ∧
        t.link.events.main.getLsbD Flag.backupLow.bit = true ∧ t.link.queue = [])) = true := by decide

theorem witness_LostStartEmptiesRecordMemory :
    State.reset.pending = [] ∧ State.reset.drawn = 0 ∧ State.reset.rack.length = 8 ∧
      (∀ sl ∈ State.reset.rack, sl.present = false) ∧ State.reset.returns.present = false ∧
      State.reset.store.flash = [] ∧
      answers (exec (.powerOnStart false true) shop) State.reset = true := by decide

theorem witness_RestartPlacesRepliesAndRebuilds :
    let s := shop.setQueue [formed 1, waiting 3, waiting 1]
    s.run = .running ∧ s.link.events.reading = false ∧ oldestWaiting s.link.queue = some 1 ∧
      (Instr.restart 1).request = some (3, 1, []) ∧ s.link.queue[1]? = some (waiting 3) ∧
      (s.link.queue.take 1).map (·.stage) = [[0#8]].map Stage.formed ∧
      after (exec (.restart 1) s) (fun t => decide (t.run = .running ∧ t.link.queue = [] ∧
        t.link.pipe = [frameBytes 0x81 1 [0#8], frameBytes 0x83 1 [0#8]])) = true := by decide

/-! ## Record Store -/

theorem witness_RecordsCreatedInLowestFree :
    let c := Instr.patronPutCreate 1 99999999 5 8 7 5 65535
    let d := Instr.titlePutCreate 1 4294967295 1 16711168 9 0
    let e := Instr.titlePutCreate 1 1 3 0 9 41
    let s := asked c shop
    Ready c s ∧ (∀ e ∈ s.records.patrons, e.2.number ≠ 99999999) ∧ s.patron 2 = none ∧ s.patron 1 ≠ none ∧
      s.rolling = false ∧ (mediaOf 5).nonempty = true ∧ Cls.code .c8 = 8 ∧
      after (exec c s) (fun t => decide (t.link.patronCtx = some 2 ∧ t.patron 2 = some
        { number := 99999999, state := .active, media := mediaOf 5, cls := .c8, cartLimit := 6, setLimit := 4,
          cartCount := 0, setCount := 0, key := 65535, pauseUntil := none, lastService := none,
          deferral := .none, history := [], orders := [] })) = true ∧
      Ready d (asked d shop) ∧ Format.code .audio = 1 ∧ (asked d shop).title 3 = none ∧
      shop.title 1 ≠ none ∧ shop.title 2 ≠ none ∧
      (∀ e ∈ shop.records.titles, e.2.catalogue ≠ 4294967295 ∧ e.2.catalogue ≠ 1) ∧
      after (exec d (asked d shop)) (fun t => decide (t.link.titleCtx = some 3 ∧ t.title 3 = some
        { tale with catalogue := 4294967295, pages := 16711168, check := 9#32 })) = true ∧
      Ready e (asked e shop) ∧ Format.code .pbraille = 3 ∧
      after (exec e (asked e shop)) (fun t => decide (t.title 3 = some
        { tome with catalogue := 1, volumes := 40, copies := List.replicate 15 .absent })) = true := by decide

/-- The patron's own number may be kept; the class changes, and with it the oversize marks. -/
theorem witness_PatronUpdatedPausedResumed :
    let c := Instr.patronPutUpdate 1 1 101 1 2 0 4 9
    let r := { ann with orders := [{ order 1 .waiting with oversize := true }], deferral := .fillLow }
    let s := asked c (shop.setPatron 1 r)
    Ready c s ∧ s.patron 1 = some r ∧ r.state ≠ .closed ∧ s.rolling = false ∧ (mediaOf 1).nonempty = true ∧
      (∀ e ∈ s.records.patrons, e.2.number = 101 → e.1 = 1) ∧ Cls.code .c2 = 2 ∧
      after (exec c s) (fun t => decide (t.link.patronCtx = some 1 ∧ t.patron 1 = some
        { ann with media := mediaOf 1, cls := .c2, cartLimit := 1, setLimit := 4, key := 9,
                   orders := [order 1 .waiting] } ∧ t.planner.pass = none)) = true := by decide

theorem witness_PatronUpdatedPausedResumed_pause :
    let c := Instr.patronPause 1 1 2000 2 2
    let d := Instr.patronPause 1 1 0 0 0
    let e := Instr.patronPause 1 1 2000 2 1
    let f := Instr.patronPause 1 1 2000 2 30
    let off := { ann with state := .paused, pauseUntil := some 40 }
    Ready c (asked c shop) ∧ shop.patron 1 = some ann ∧ ann.state ≠ .closed ∧ shop.rolling = false ∧
      validDate 2000 2 2 = true ∧ shop.today < dayNumber 2000 2 2 ∧
      answers (exec c (asked c shop)) (((((asked c shop).setPatron 1
        { ann with state := .paused, pauseUntil := some 32 }).setLink
          { (asked c shop).link with patronCtx := some 1 }).replied 0 []).triggered) = true ∧
      Ready d (asked d (shop.setPatron 1 off)) ∧ (shop.setPatron 1 off).patron 1 = some off ∧
      after (exec d (asked d (shop.setPatron 1 off))) (fun t => decide (t.patron 1 = some ann)) = true ∧
      Ready d (asked d shop) ∧
      answers (exec d (asked d shop)) ((((asked d shop).setLink
        { (asked d shop).link with patronCtx := some 1 }).replied 0 []).triggered) = true ∧
      Ready e (asked e shop) ∧ validDate 2000 2 1 = true ∧ dayNumber 2000 2 1 ≤ shop.today ∧
      answers (exec e (asked e shop)) ((asked e shop).formReply 0 { status := .range, fields := [] }) = true ∧
      Ready f (asked f shop) ∧ validDate 2000 2 30 = false ∧
      answers (exec f (asked f shop)) ((asked f shop).formReply 0 { status := .range, fields := [] }) = true := by
  decide

def setItem (n patron t c : Nat) : Item :=
  { number := n, patron := patron, kind := .set t c, state := .awaitingPull }

/-- Patron 1 has a plan in the queue, a set item in the tray and a place in no queue; patron 2 waits for title 2. -/
def leaving : State :=
  (((((shop.setPatron 1
      { ann with setCount := 1, orders := [order 1 (.planned 5), order 2 (.allocated 7 1)] }).setPatron 2
      { ann with number := 102, orders := [order 2 .hold] }).setTitle 2
      { tome with copies := .item :: List.replicate 14 .absent, holds := [2] }).setPlan 5 plan5).setPlanner
        { (shop.setPlan 5 plan5).planner with queue := [5] }).setMail
          { shop.mail with tray := [setItem 7 1 2 1], lastItem := 7 }

theorem witness_PatronClosedAndReleased :
    let c := Instr.patronClose 1 1
    let s := asked c leaving
    Ready c s ∧ s.records.patrons.rising = true ∧ s.records.titles.rising = true ∧
      s.records.loans.rising = true ∧ s.planner.plans.rising = true ∧ s.store.images.rising = true ∧
      s.patron 1 ≠ none ∧ s.rolling = false ∧
      after (exec c s) (fun t =>
        decide ((t.link.queue[0]?).map (·.stage) = some (.formed (u8 0 ++ [1#8, 1#8, 2#8, 0#8, 1#8])) ∧
          t.patron 1 = some { ann with state := .closed, cartCount := 0 } ∧ t.planner.plans = [] ∧
          t.planner.queue = [] ∧ t.title 2 = some { tome with copies := .item :: List.replicate 14 .absent } ∧
          t.mail.tray = [setItem 8 2 2 1] ∧ t.link.patronCtx = some 1 ∧
          (t.patron 2).map (·.orders) = some [order 2 (.allocated 8 1)])) = true := by decide

/-- The image of title 1, in store blocks 0 and 1. -/
def image (r : Bool) (pins : Nat) : Image :=
  { resident := r, blocks := [0, 1], filled := 75, sum := 5#32, pins := pins }

theorem witness_TitleUpdatedAndWithdrawn :
    let c := Instr.titlePutUpdate 1 2 9002 3 0 0 41
    let d := Instr.titlePutUpdate 1 1 9004 1 16711168 6 0
    let s0 := asked d shop
    let s1 := asked d (shop.setImage 1 (image true 1))
    let s2 := asked d (shop.setImage 1 (image false 0))
    let s3 := asked d (shop.setImage 1 (image true 0))
    Ready c (asked c shop) ∧ shop.title 2 = some tome ∧ tome.format = .pbraille ∧ Format.code .pbraille = 3 ∧
      (∀ e ∈ shop.records.titles, e.2.catalogue = 9002 → e.1 = 2) ∧
      after (exec c (asked c shop)) (fun t => decide (t.title 2 = some { tome with volumes := 40 })) = true ∧
      Ready d s0 ∧ shop.title 1 = some tale ∧ (∀ e ∈ shop.records.titles, e.2.catalogue = 9004 → e.1 = 1) ∧
      s0.image 1 = none ∧
      after (exec d s0) (fun t => decide (t.title 1 =
        some { tale with catalogue := 9004, pages := 16711168, check := 6#32 })) = true ∧
      Ready d s1 ∧ s1.image 1 = some (image true 1) ∧
      answers (exec d s1) (s1.formReply 0 { status := .pinned, fields := [] }) = true ∧
      Ready d s2 ∧ s2.image 1 = some (image false 0) ∧
      answers (exec d s2) (s2.formReply 0 { status := .state, fields := [] }) = true ∧
      Ready d s3 ∧ s3.image 1 = some (image true 0) ∧
      after (exec d s3) (fun t => decide (t.image 1 = none ∧ t.title 1 =
        some { tale with catalogue := 9004, pages := 16711168, check := 6#32 })) = true := by decide

theorem witness_TitleUpdatedAndWithdrawn_mark :
    let w := Instr.titleWithdraw 1 2 255
    let x := Instr.titleWithdraw 1 2 0
    let s4 := asked x ((shop.setTitle 2 { tome with withdrawn := true, holds := [1] }).setPatron 1
      { ann with orders := [order 2 .hold] })
    Ready w (asked w shop) ∧
      after (exec w (asked w shop)) (fun t => decide (t.title 2 = some { tome with withdrawn := true })) = true ∧
      Ready x s4 ∧
      after (exec x s4) (fun t => decide (t.title 2 =
        some { tome with copies := .item :: List.replicate 14 .absent } ∧
          t.mail.tray = [setItem 1 1 2 1])) = true := by decide

theorem witness_CopiesAdjusted :
    let a := Instr.copiesAdjustAdd 1 2 1 255
    let b := Instr.copiesAdjustRemove 1 2 1
    let c := Instr.copiesAdjustFound 1 2 15
    let d := Instr.copiesAdjustAdd 1 2 4 1
    let e := Instr.copiesAdjustAdd 1 2 0 1
    let lost := shop.setTitle 2 { tome with copies := .shelf :: (List.replicate 13 .absent ++ [.missing]) }
    Ready a (asked a shop) ∧ shop.title 2 = some tome ∧ tome.owned = 1 ∧ shop.rolling = false ∧
      after (exec a (asked a shop)) (fun t => decide (t.title 2 = some { tome with copies := List.replicate 15 .shelf } ∧
        (t.link.queue[0]?).map (·.stage) = some (.formed (u8 0 ++ (u8 14 ++ t.copyFields 2))))) = true ∧
      Ready b (asked b shop) ∧ 1 ≤ tome.shelf ∧
      after (exec b (asked b shop)) (fun t => decide (t.title 2 =
        some { tome with copies := List.replicate 15 .absent })) = true ∧
      Ready c (asked c lost) ∧ (lost.title 2).bind (fun r => r.copies[14]?) = some .missing ∧
      after (exec c (asked c lost)) (fun t => decide (t.title 2 =
        some { tome with copies := .shelf :: (List.replicate 13 .absent ++ [.shelf]) })) = true ∧
      Ready d (asked d shop) ∧
      answers (exec d (asked d shop)) ((asked d shop).formReply 0 { status := .range, fields := [] }) = true ∧
      Ready e (asked e shop) ∧
      answers (exec e (asked e shop)) ((asked e shop).formReply 0 { status := .range, fields := [] }) = true := by
  decide

/-! ## Order Desk -/

/-- A title with an image at the tail (position beyond the list) and at place 1; a paper title with a shelf copy,
and one without. -/
theorem witness_OrderAddedAtItsPlace :
    let c := Instr.orderAdd 1 1 1 0 0 255
    let d := Instr.orderAdd 1 1 2 1 0 1
    let e := Instr.orderAdd 1 1 1 0 1 1
    let bare := shop.setTitle 2 { tome with copies := List.replicate 15 .absent }
    let s := asked c (shop.setLoan 1 { loan1 with patron := 2 })
    let re := asked e ((shop.setLoan 1 { loan1 with patron := 2 }).setPatron 1
      { ann with history := [9001], orders := [order 2 .hold] })
    Ready c s ∧ s.patron 1 = some ann ∧ s.title 1 = some tale ∧ ann.media.holds .audio = true ∧
      s.onLoan 1 1 9001 = false ∧ tale.catalogue ∉ ann.history ∧ ann.orders.length < 24 ∧ s.rolling = false ∧
      after (exec c s) (fun t => decide (t.patron 1 = some { ann with orders := [order 1 .waiting] } ∧
        t.planner.pass = some [1] ∧ (t.link.queue[0]?).map (·.stage) = some (.formed [0, 1, 0, 0, 0, 0, 0]))) =
          true ∧
      after (exec e re) (fun t => decide ((t.patron 1).map (·.orders) =
        some [order 1 .waiting, order 2 .hold])) = true ∧
      Ready d (asked d shop) ∧ shop.title 2 = some tome ∧ ann.media.holds .pbraille = true ∧
      shop.onLoan 1 2 9002 = false ∧ ann.setCount < ann.setLimit ∧ shop.setItems < 32 ∧
      tome.shelfCopy = some 1 ∧
      after (exec d (asked d shop)) (fun t => decide (t.patron 1 =
        some { ann with setCount := 1, orders := [{ order 2 (.allocated 1 1) with rush := true }] } ∧
        t.mail.tray = [setItem 1 1 2 1] ∧ (t.title 2).bind (fun r => r.copies[0]?) = some .item)) = true ∧
      Ready d (asked d bare) ∧
      after (exec d (asked d bare)) (fun t => decide ((t.patron 1).map (·.orders) =
        some [{ order 2 .hold with rush := true }] ∧ (t.title 2).map (·.holds) = some [1] ∧
        (t.link.queue[0]?).map (·.stage) = some (.formed [0, 1, 2, 0, 0, 0, 1]))) = true := by decide

theorem witness_OrdersDroppedAndMoved :
    let c := Instr.orderDrop 1 1 1
    let d := Instr.orderDrop 1 1 2
    let e := Instr.orderMove 1 1 2 0
    let f := Instr.orderMove 1 1 3 1
    let g := Instr.orderMove 1 1 0 1
    let two := shop.setPatron 1 { ann with orders := [order 1 .waiting, order 2 .hold] }
    let planned := shop.setPatron 1 { ann with orders := [order 1 (.planned 5)] }
    Ready c (asked c two) ∧ two.title 1 ≠ none ∧ two.rolling = false ∧
      after (exec c (asked c two)) (fun t => decide ((t.patron 1).map (·.orders) = some [order 2 .hold])) = true ∧
      Ready d (asked d two) ∧
      after (exec d (asked d two)) (fun t => decide ((t.patron 1).map (·.orders) = some [order 1 .waiting])) =
        true ∧
      Ready d (asked d leaving) ∧ leaving.item 7 = some (setItem 7 1 2 1) ∧
      after (exec d (asked d leaving)) (fun t => decide (t.mail.tray = [setItem 8 2 2 1] ∧
        (t.link.queue[0]?).map (·.stage) = some (.formed [0, 3, 7, 0, 1]))) = true ∧
      Ready c (asked c planned) ∧
      answers (exec c (asked c planned)) ((asked c planned).formReply 0 { status := .state, fields := [] }) =
        true ∧
      Ready e (asked e two) ∧
      after (exec e (asked e two)) (fun t => decide ((t.patron 1).map (·.orders) =
        some [order 2 .hold, order 1 .waiting])) = true ∧
      Ready f (asked f two) ∧
      answers (exec f (asked f two)) ((asked f two).formReply 0 { status := .range, fields := [] }) = true ∧
      Ready g (asked g two) ∧
      answers (exec g (asked g two)) ((asked g two).formReply 0 { status := .range, fields := [] }) = true := by
  decide

theorem witness_SweepAllocatesToFirstAble :
    let s := (leaving.setTitle 2 { tome with holds := [1, 2] }).setPatron 1 { ann with setLimit := 0 }
    let r := { tome with holds := [1, 2] }
    s.title 2 = some r ∧ r.withdrawn = false ∧ r.shelfCopy = some 1 ∧ s.setItems < 32 ∧
      (s.sweepTitle 2 1).mail.tray = [setItem 7 1 2 1, setItem 8 2 2 1] ∧
      ((s.sweepTitle 2 1).title 2).map (·.holds) = some [1] ∧
      (shop.setTitle 2 { tome with withdrawn := true }).title 2 = some { tome with withdrawn := true } ∧
      (shop.sweepTitle 2 1) = shop := by decide

/-! ## Planner -/

theorem witness_PlanNowAndPlanCancel :
    let c := Instr.planNow 1
    let d := Instr.planCancel 1 5
    let s := asked d leaving
    Ready c (asked c shop) ∧
      after (exec c (asked c shop)) (fun t => decide (t.planner.rerun = false ∧ t.planner.pass = none ∧
        (t.link.queue[0]?).map (·.stage) = some (.formed [0, 0, 0, 0]))) = true ∧
      Ready d s ∧ s.records.patrons.rising = true ∧ s.records.titles.rising = true ∧
      s.records.loans.rising = true ∧ s.planner.plans.rising = true ∧ s.store.images.rising = true ∧
      s.plan 5 = some plan5 ∧ s.patron plan5.patron ≠ none ∧ s.rolling = false ∧
      (∀ m ∈ slotNumbers, (s.slot m).job = some 5 → plan5.state = .inSlot m) ∧
      (5 ∈ s.planner.queue → plan5.state = .queued) ∧
      after (exec d s) (fun t => decide (t.plan 5 = none ∧ t.planner.queue = [] ∧
        (t.patron 1).map (·.cartCount) = some 0 ∧
        (t.patron 1).map (·.orders) = some [order 1 .waiting, order 2 (.allocated 7 1)])) = true := by decide

/-- A pass has patron 1 to take and nobody behind. -/
def passing (p : Patron) (s : State) : State :=
  (s.setPatron 1 p).setPlanner { s.planner with pass := some [1] }

/-- Title 3 is AUDIO and larger than any cartridge of its patron's player. -/
def vast : Title := { tale with catalogue := 9003, pages := 16711168 }

def queueOf (n : Nat) (s : State) : State := s.setPlanner { s.planner with queue := List.range n }

def hungry : Patron := { ann with orders := [order 1 .waiting] }

/-- The stop test at 16 queued plans, and one below it. -/
theorem witness_PassTakesNextPatron_stop :
    let s := passing { hungry with cartCount := 0 } shop
    shop.planner.pass = none ∧ answers (exec .passPatronStep shop) shop = true ∧
      (queueOf 16 s).planner.pass = some [1] ∧ 16 ≤ (queueOf 16 s).planner.queue.length ∧
      after (exec .passPatronStep (queueOf 16 s)) (fun t => decide (t.planner.pass = none ∧ t.planner.plans = [])) =
        true ∧
      (queueOf 15 s).planner.queue.length < 16 ∧
      after (exec .passPatronStep (queueOf 15 s)) (fun t => decide (t.planner.plans.length = 1)) = true := by
  decide +kernel

/-- Nobody there; passed over at the limit; nothing that fits. -/
theorem witness_PassTakesNextPatron_over :
    let p := { hungry with cls := .c2, cartCount := 0, orders := [order 3 .waiting] }
    let gone := passing hungry shop
    let big := passing p (shop.setTitle 3 vast)
    (gone.setRecords { gone.records with patrons := [] }).patron 1 = none ∧
      (passing { hungry with cartCount := 2 } shop).patron 1 = some { hungry with cartCount := 2 } ∧
      (big.pack p).taken = [] ∧
      after (exec .passPatronStep big) (fun t =>
        decide ((t.patron 1).map (·.orders) = some [{ order 3 .waiting with oversize := true }])) = true := by
  decide +kernel

/-- The floor test failed, and passed at its bound; admission refused. -/
theorem witness_PassTakesNextPatron :
    let first := { hungry with cartCount := 0 }
    let low := passing hungry shop
    let even := passing hungry (shop.setLink
      { shop.link with settings := { Settings.default with floor := 0 } })
    let full := passing first (shop.setFetches (List.replicate 16
      { id := 9, title := 9, state := .waiting, expected := 1, next := 0, retries := 0 }))
    (low.pack hungry).taken ≠ [] ∧ (planOf 1 (low.pack hungry).taken).fill = 0 ∧
      low.link.settings.floor = 300 ∧
      after (exec .passPatronStep low) (fun t =>
        decide ((t.patron 1).map (·.deferral) = some .fillLow ∧ t.planner.plans = [])) = true ∧
      even.link.settings.floor ≤ (planOf 1 (even.pack hungry).taken).fill ∧
      after (exec .passPatronStep even) (fun t => decide (t.planner.plans.length = 1)) = true ∧
      full.admissible (planOf 1 (full.pack first).taken).titles = false ∧
      after (exec .passPatronStep full) (fun t =>
        decide ((t.patron 1).map (·.deferral) = some .storeSpace)) = true := by decide +kernel

theorem witness_PlanFitsItsCartridge :
    let p := { ann with orders := [order 1 .waiting] }
    (eager.pack p).taken ≠ [] ∧
      planOf 1 (eager.pack p).taken = { plan5 with fill := 2 * 1000 / 8159 } := by decide

/-- R42 to R45: a window of 4. Title 3 is larger than a C4; title 1, rush, comes first and fills it but for a block. -/
theorem witness_PlanFitsItsCartridge_window :
    let p := { ann with orders := [order 3 .waiting, order 4 .waiting, order 2 .hold,
      { order 1 .waiting with rush := true }, order 5 .waiting] }
    let s := shop.setRecords { shop.records with
      titles := [(1, { tale with pages := 512 * 16318 }), (2, tome), (3, vast), (4, { tale with catalogue := 9004 }),
        (5, { tale with catalogue := 9005, pages := 1 })] }
    let s := s.setLink { s.link with settings := { Settings.default with window := 4 } }
    let wide := s.setLink { s.link with settings := { Settings.default with window := 5 } }
    (s.candidates p).map (·.title) = [1, 3, 4] ∧ (wide.candidates p).map (·.title) = [1, 3, 4, 5] ∧
      (s.pack p).taken.map (·.title) = [1] ∧ (s.pack p).oversize = [3] ∧ (s.pack p).room = 1 ∧
      (wide.pack p).taken.map (·.title) = [1, 5] ∧ (planOf 1 (wide.pack p).taken).rush = true ∧
      (planOf 1 (wide.pack p).taken).used = 16319 ∧ (planOf 1 (wide.pack p).taken).fill = 1000 ∧
      ((markOversize [3] p.orders).map (·.oversize)) = [true, false, false, false, false] := by decide

/-- R43: the ninth title is not taken. -/
theorem witness_PlanFitsItsCartridge_eight :
    let p := { ann with orders := (List.range 9).map (fun j => order (j + 1) .waiting) }
    let s := shop.setRecords { shop.records with
      titles := (List.range 9).map (fun j => (j + 1, { tale with catalogue := 9001 + j })) }
    (s.candidates p).length = 9 ∧ (s.pack p).taken.map (·.title) = [1, 2, 3, 4, 5, 6, 7, 8] := by decide

/-- R46: patron 4 has never been served, patrons 1 and 3 on one day, patron 2 before it; patron 5 has an oversize entry
only, 6 is deferred, 7 at its limit, 8 PAUSED. -/
theorem witness_PlanFitsItsCartridge_service :
    let p := { ann with orders := [order 1 .waiting], lastService := some 9 }
    let s := shop.setRecords { shop.records with
      patrons := [(1, p), (2, { p with number := 102, lastService := some 8 }), (3, { p with number := 103 }),
        (4, { p with number := 104, lastService := none }),
        (5, { p with number := 105, orders := [{ order 1 .waiting with oversize := true }] }),
        (6, { p with number := 106, deferral := .storeSpace }), (7, { p with number := 107, cartCount := 2 }),
        (8, { p with number := 108, state := .paused })] }
    (s.records.patrons.rising && s.records.titles.rising && s.records.loans.rising && s.planner.plans.rising &&
      s.store.images.rising) = true ∧ s.serviceList = [4, 2, 1, 3] := by decide

theorem witness_CommitRecordsPlan :
    let p := { ann with orders := [order 1 .waiting, order 2 .hold] }
    let s := shop.setPatron 1 p
    let t := s.commit plan5
    s.patron 1 = some p ∧ plan5.patron = 1 ∧ p.deferral = .none ∧ (plan5.placements.map (·.title)).Nodup ∧
      s.image 1 = none ∧ t.planner.lastPlan = 1 ∧ t.plan 1 = some plan5 ∧ t.pins 1 = 1 ∧
      t.patron 1 = some { p with cartCount := 2, orders := [order 1 (.planned 1), order 2 .hold] } ∧
      t.link.events.main.getLsbD Flag.fetchWanted.bit = true := by decide

/-- No slot available, behind a rush plan and as one; and a slot that takes the plan at once. -/
theorem witness_CommitRecordsPlan_queue :
    let s := ((eager.setPlan 6 { plan5 with rush := true }).setPlan 7 plan5)
    let s := s.setPlanner { s.planner with queue := [6, 7] }
    let open8 := s.setSlot 8 { Slot.bare with
      present := true, state := .idleBlank,
      cart := some { serial := 1, cls := .c4, cycles := 0, tab := false, marker := .blank, planTag := 0, lastUsed := 0 } }
    s.nextPlan = 1 ∧ 1 ∉ s.planner.queue ∧ plan5.state = .queued ∧ s.rushJobs s.planner.queue = 1 ∧
      (∀ m ∈ slotNumbers, (s.slot m).available = false) ∧ (s.commit plan5).planner.queue = [6, 7, 1] ∧
      (s.commit { plan5 with rush := true }).planner.queue = [6, 1, 7] ∧
      (open8.setPlanner { open8.planner with queue := [] }).nextPlan = 1 ∧
      ((open8.setPlanner { open8.planner with queue := [] }).commit plan5).plan 1 =
        some { plan5 with state := .inSlot 8 } ∧
      ((open8.setPlanner { open8.planner with queue := [] }).commit plan5).planner.queue = [] := by decide

/-! ## Image Store -/

theorem witness_StoreKeepsBytesAndBlocks :
    [0, 32768].Nodup ∧ (∀ b ∈ [0, 131071], b < 131072) ∧ [0, 32768].length + 2 ≤ 131072 ∧
      allocateBlocks [0, 32768] 3 = [65536, 98304, 1] ∧ allocateFrom [0, 32768] 3 0 = [] ∧
      allocateFrom [0, 32768] 3 1 = [98304] ∧ (131071 < 131072 ∧ 131071 ∉ [0, 32768]) ∧
      flashByte (flashWrite [(3, 9#8), (7, 8#8)] 3 [1#8, 0xFF#8]) 3 = 1#8 ∧
      flashByte (flashWrite [(3, 9#8), (7, 8#8)] 3 [1#8, 0xFF#8]) 7 = 8#8 := by decide +kernel

def fetch (id title : Nat) (st : FetchState) : Fetch :=
  { id := id, title := title, state := st, expected := 75, next := 0, retries := 0 }

/-- Title 1 fills in blocks 0 and 1 by fetch 4. -/
def filling (st : FetchState) : State :=
  (shop.setImage 1 { resident := false, blocks := [0, 1], filled := 0, sum := 0#32, pins := 0 }).setFetches
    [fetch 4 1 st]

/-- Frame 74 is the last of 600 pages, and all of its 8 pages are the image's. The frames carry no data here but for
their length. -/
theorem witness_StreamsStartedAndFed :
    let c := Instr.fetchNext 1
    let w := filling .waiting
    let s := filling (.streaming true)
    let ahead := s.setFetches [{ fetch 4 1 (.streaming true) with next := 2 }]
    let op : FillOp := { fetch := 4, title := 1, frame := 0, block := 0, place := 0, data := [], live := true }
    Ready c (asked c w) ∧ w.streams < 2 ∧
      w.store.fetches.find? (fun f => decide (f.state = .waiting)) = some (fetch 4 1 .waiting) ∧
      after (exec c (asked c w)) (fun t => decide (t.store.fetches = [fetch 4 1 (.streaming true)])) = true ∧
      Ready c (asked c shop) ∧ (∀ f ∈ shop.store.fetches, f.state ≠ .waiting) ∧
      answers (exec c (asked c shop)) ((asked c shop).formReply 0 { status := .state, fields := [0#8, 0#8] }) =
        true ∧
      (∀ i ∈ [Instr.imageData 1 4 0 [], .imageData 1 5 0 [], .imageData 1 4 75 [], .imageData 1 4 74 []],
        Ready i (asked i s)) ∧
      (s.setBank 0 { Bank.idle with current := some (.fill op) }).fillOutstanding 4 = true ∧
      s.fillOutstanding 4 = false ∧ s.fetch 5 = none ∧ s.fetch 4 = some (fetch 4 1 (.streaming true)) ∧
      (fetch 4 1 (.streaming true)).expected ≤ 75 ∧ w.fetch 4 = some (fetch 4 1 .waiting) ∧
      ahead.fetch 4 = some { fetch 4 1 (.streaming true) with next := 2 } ∧ s.image 1 ≠ none ∧
      s.title 1 = some tale := by decide

/-- A frame of 4,096 bytes, its request in the queue. -/
theorem witness_StreamsStartedAndFed_frame :
    let frame : List Byte := List.replicate 4096 0#8
    frame.length = 4096 ∧ ∀ fr ∈ [0, 1, 74, 75],
      Ready (.imageData 1 4 fr frame) (asked (.imageData 1 4 fr frame) (filling (.streaming true))) := by
  refine ⟨List.length_replicate, ?_⟩
  intro fr _
  exact ready_asked rfl rfl rfl rfl

/-- The same stream with its last frame, and the sum and retries the cases need. -/
def lastFrame (check : Word) (retries : Nat) (live : Bool) (next : Nat) : State :=
  let s := ((filling (.streaming true)).setTitle 1 { tale with check := check }).setFetches
    [{ fetch 4 1 (.streaming true) with next := next, retries := retries }]
  s.setBank 0 { Bank.idle with current := some (.fill
    { fetch := 4, title := 1, frame := next, block := 1, place := 10, data := [7#8], live := live }) }

theorem witness_FillWriteCompletes :
    ((lastFrame 7#32 0 false 74).bank 0).current = some (.fill
      { fetch := 4, title := 1, frame := 74, block := 1, place := 10, data := [7#8], live := false }) ∧
      (lastFrame 7#32 0 true 74).fetch 4 = some { fetch 4 1 (.streaming true) with next := 74 } ∧
      (0#32 + wordSum [7#8] : Word) = 7#32 ∧
      after (exec (.fillWriteComplete 0) (lastFrame 7#32 0 true 73)) (fun t =>
        decide ((t.image 1).map (·.filled) = some 1 ∧ (t.image 1).map (·.resident) = some false)) = true ∧
      after (exec (.fillWriteComplete 0) (lastFrame 7#32 0 true 74)) (fun t =>
        decide ((t.image 1).map (·.resident) = some true ∧ t.store.fetches = [] ∧ t.store.recency = [1] ∧
          t.store.flash = [(262144 + 40960, 7#8)])) = true ∧
      after (exec (.fillWriteComplete 0) (lastFrame 8#32 1 true 74)) (fun t =>
        decide (t.store.fetches = [{ fetch 4 1 .waiting with retries := 2 }] ∧
          (t.title 1).map (·.failures) = some 1)) = true ∧
      after (exec (.fillWriteComplete 0) (lastFrame 8#32 2 true 74)) (fun t =>
        decide (t.image 1 = none ∧ t.title 1 = some { tale with check := 8#32, bad := true, failures := 3 })) =
          true ∧
      (lastFrame 8#32 2 true 74).records.titles.rising = true ∧
      (lastFrame 8#32 2 true 74).store.images.rising = true := by decide +kernel

/-- R74, R77: of a fill whose sum fails, slot 1 has read from the entry, and slot 2 waits in bank 2 for its first
frame. -/
theorem witness_FillWriteCompletes_mismatch :
    let at_ (j : Nat) (mark : Bool) : Slot := { Slot.bare with
      present := true, state := .programming, job := some j, readMark := mark, cursor := { Cursor.zero with erased := true } }
    let s := (((lastFrame 8#32 0 true 74).setPlan 5 { plan5 with state := .inSlot 1 }).setPlan 6
      { plan5 with state := .inSlot 2, rush := true })
    let s := ((s.setSlot 1 (at_ 5 true)).setSlot 2 (at_ 6 false)).setBank 2
      { Bank.idle with
        current := some (.fill { fetch := 9, title := 9, frame := 0, block := 65536, place := 0, data := [], live := true }),
        reads := [{ slot := 2, block := 65536, place := 0, fate := .deliver }] }
    let s := s.setQueue [{ waiting 0x31 with stage := .writing 4 }]
    s.rack.length = 8 ∧ s.hasRead 1 1 = true ∧ s.hasRead 1 2 = false ∧ s.readWaiting 2 = true ∧
      s.placementOf (s.slot 2) = plan5.placements[0]? ∧
      after (exec (.fillWriteComplete 0) s) (fun t => decide (t.plan 5 = some plan5 ∧ t.planner.queue = [5] ∧
        (t.slot 1).state = .preErase ∧ (t.slot 1).readMark = false ∧ t.slot 2 = { at_ 6 false with state := .waitImage } ∧
        t.readWaiting 2 = false ∧
        (t.link.queue[0]?).map (·.stage) = some (.formed [0, 2, 75, 0, 0, 0, 4, 0]))) = true := by decide +kernel

/-- Slot 8 programs plan 5 and bank 3 reads it a frame. -/
def reading (fate : ReadFate) (hold : Bool) : State :=
  (((shop.setPlan 5 { plan5 with state := .inSlot 8 }).setSlot 8
    { Slot.bare with
      present := true, state := .programming, job := some 5, holdPending := hold, awaiting := hold,
      cursor := { Cursor.zero with erased := true } }).setStore
        { shop.store with flash := [(98304 * 262144, 9#8)] }).setBank 3
          { Bank.idle with current := some (.read { slot := 8, block := 98304, place := 0, fate := fate }) }

theorem witness_FrameReadCompletes :
    let s := reading .deliver false
    s.run = .running ∧ s.rack.length = 8 ∧ s.store.banks.length = 4 ∧
      (s.bank 3).current = some (.read { slot := 8, block := 98304, place := 0, fate := .deliver }) ∧
      (s.slot 8).cursor.erased = true ∧ s.placementOf (s.slot 8) = plan5.placements[0]? ∧
      (s.slot 8).buffer.length = (s.slot 8).cursor.frame ∧
      after (exec (.frameReadComplete 3) s) (fun t => decide ((t.slot 8).op = some
        { op := .grantPermit (.program 1 0 (9#8 :: List.replicate 511 0xFF#8)), elapsed := 0 })) = true ∧
      ((reading .awaited true).slot 8).holdPending = true ∧
      after (exec (.frameReadComplete 3) (reading .awaited true)) (fun t => decide ((t.slot 8).state = .held ∧
        (t.slot 8).remembered = some .programming ∧ (t.bank 3).current = none)) = true ∧
      after (exec (.frameReadComplete 3) ((reading .deliver false).unbind 8)) (fun t =>
        decide ((t.slot 8).finishing = false ∧ (t.slot 8).awaiting = false ∧ (t.bank 3).current = none)) = true ∧
      answers (exec (.frameReadComplete 3) (reading .dropped false))
        ((reading .dropped false).setBank 3 Bank.idle) = true := by decide +kernel

/-- A fill write into store block 65,536, of bank 2. -/
def fillOp (id : Nat) : FillOp :=
  { fetch := id, title := 1, frame := 0, block := 65536, place := 0, data := [], live := true }

/-- A frame read from store block 65,536, of bank 2. -/
def readOp (n : Nat) (fate : ReadFate) : ReadOp := { slot := n, block := 65536, place := 0, fate := fate }

/-- Fetch 4 is the older of two streams and fetch 5 the younger; bank 2 stands so. -/
def arbiter (k : Bank) : State :=
  (shop.setFetches [fetch 4 1 (.streaming true), fetch 5 3 (.streaming false)]).setBank 2 k

/-- R78: the older stream's fill passes the younger's, which comes before any read; reads from slot 1 after slot 8, and
from slot 7, where slot 6 waits not, after slot 5; nothing waiting. -/
theorem witness_BanksGrantTheirOperations :
    let k : Bank := { current := some (.fill (fillOp 9)), fills := [fillOp 5, fillOp 4], reads := [], lastServed := 8 }
    let m : Bank := { k with fills := [], reads := [readOp 8 .deliver, readOp 1 .deliver] }
    let n : Bank := { m with reads := [readOp 2 .deliver, readOp 7 .deliver], lastServed := 5 }
    let idle (b : Bank) : Bank := { b with current := none, fills := [], reads := [] }
    let marked (b : Nat) (s : State) : State := s.setSlot b { s.slot b with readMark := true }
    ((arbiter k).fetch 4).map (·.state) = some (.streaming true) ∧
      ((arbiter k).fetch 5).map (·.state) = some (.streaming false) ∧ (arbiter k).bank 2 = k ∧
      (m.reads.all (fun r => slotNumbers.contains r.slot) && n.reads.all (fun r => slotNumbers.contains r.slot)) = true ∧
      1 = (8 + 0) % 8 + 1 ∧ 7 = (5 + 1) % 8 + 1 ∧
      (arbiter k).grantNext 2 = arbiter { k with current := some (.fill (fillOp 4)), fills := [fillOp 5] } ∧
      (arbiter { k with fills := [fillOp 5], reads := m.reads }).grantNext 2 =
        arbiter { k with current := some (.fill (fillOp 5)), fills := [], reads := m.reads } ∧
      (arbiter m).grantNext 2 = marked 1 (arbiter
        { m with current := some (.read (readOp 1 .deliver)), reads := [readOp 8 .deliver], lastServed := 1 }) ∧
      (arbiter n).grantNext 2 = marked 7 (arbiter
        { n with current := some (.read (readOp 7 .deliver)), reads := [readOp 2 .deliver], lastServed := 7 }) ∧
      (arbiter { m with reads := [readOp 8 .deliver] }).grantNext 2 = marked 8 (arbiter
        { m with current := some (.read (readOp 8 .deliver)), reads := [], lastServed := 8 }) ∧
      (arbiter { k with fills := [] }).grantNext 2 = arbiter (idle k) := by decide +kernel

/-- R78, R79: an operation handed to bank 2, idle and busy; a read lost that waits, one granted and one discarded
already; a fill write lost that waits and one granted. -/
theorem witness_BanksGrantTheirOperations_handed :
    let k : Bank := { current := some (.fill (fillOp 4)), fills := [fillOp 5], reads := [readOp 3 .deliver], lastServed := 6 }
    let idle : Bank := { k with current := none, fills := [], reads := [] }
    let busy (f : ReadFate) : State := arbiter { k with current := some (.read (readOp 3 f)) }
    65536 / 32768 = 2 ∧
      (arbiter idle).handFill (fillOp 5) = arbiter { idle with current := some (.fill (fillOp 5)) } ∧
      (arbiter k).handFill (fillOp 9) = arbiter { k with fills := [fillOp 5, fillOp 9] } ∧
      (arbiter idle).handRead (readOp 8 .deliver) = (arbiter
        { idle with current := some (.read (readOp 8 .deliver)), lastServed := 8 }).setSlot 8
          { Slot.bare with readMark := true } ∧
      (arbiter k).handRead (readOp 1 .deliver) =
        arbiter { k with reads := [readOp 3 .deliver, readOp 1 .deliver] } ∧
      (arbiter k).readWaiting 3 = true ∧ (arbiter k).readGranted 3 = false ∧
      (arbiter k).loseRead 3 .dropped = arbiter { k with reads := [] } ∧ (arbiter k).loseRead 2 .dropped = arbiter k ∧
      (busy .deliver).readGranted 3 = true ∧ (busy .dropped).readGranted 3 = false ∧
      (busy .deliver).loseRead 3 .awaited = arbiter { k with current := some (.read (readOp 3 .awaited)), reads := [] } ∧
      (busy .dropped).loseRead 3 .awaited = arbiter { k with current := some (.read (readOp 3 .dropped)), reads := [] } ∧
      (arbiter k).fillOutstanding 4 = true ∧ (arbiter k).fillOutstanding 5 = true ∧ (arbiter k).fillOutstanding 9 = false ∧
      (arbiter k).loseFill 5 = arbiter { k with fills := [] } ∧
      (arbiter k).loseFill 4 = arbiter { k with current := some (.fill { fillOp 4 with live := false }) } ∧
      ((arbiter k).loseFill 4).fillOutstanding 4 = false := by decide +kernel

/-- The image of title 1 in three store blocks with so many frames filled; slots 1 and 2 wait for its image block 1 at
frame 5, slot 3 for its last, and slot 4 for a block of title 3. -/
def behind (resident : Bool) (filled : Nat) : State :=
  let wait (job block : Nat) : Slot :=
    { Slot.bare with
      present := true, state := .waitImage, job := some job,
      cursor := { Cursor.zero with erased := true, image := block, frame := 5 } }
  let plan (n t : Nat) : Plan :=
    { plan5 with state := .inSlot n, placements := [{ title := t, start := 1, blocks := 3, pages := 1536 }] }
  let s := shop.setImage 1 { resident := resident, blocks := [65536, 98304, 0], filled := filled, sum := 0#32, pins := 3 }
  let s := (((s.setPlan 5 (plan 1 1)).setPlan 6 (plan 2 1)).setPlan 7 (plan 3 1)).setPlan 8 (plan 4 3)
  let s := if resident then s.setStore { s.store with recency := [1] }
    else s.setFetches [{ fetch 4 1 (.streaming true) with expected := 192, next := filled }]
  (((s.setSlot 1 (wait 5 1)).setSlot 2 (wait 6 1)).setSlot 3 (wait 7 2)).setSlot 4 (wait 8 1)

theorem witness_SlotsReadBehindFill :
    let p : Placement := { title := 1, start := 1, blocks := 3, pages := 1536 }
    let s := behind false 128
    let read (n : Nat) : ReadOp := { slot := n, block := 98304, place := 5, fate := .deliver }
    let gone (t : State) := (t.slot 1 = { s.slot 1 with state := .programming, readMark := true } ∧
      t.slot 2 = { s.slot 2 with state := .programming })
    (behind false 63).readable 1 0 = false ∧ (behind false 64).readable 1 0 = true ∧
      (behind false 127).readable 1 1 = false ∧ s.readable 1 1 = true ∧ (behind false 191).readable 1 2 = false ∧
      (behind true 192).readable 1 2 = true ∧ (behind true 192).readable 1 3 = false ∧ s.readable 3 1 = false ∧
      s.placementOf (s.slot 1) = some p ∧ s.image 3 = none ∧
      s.beginBlock 1 p = (s.setSlot 1 { s.slot 1 with state := .programming }).handRead (read 1) ∧
      (s.setSlot 3 { s.slot 3 with state := .directory }).beginBlock 3 p = s ∧
      s.notify 1 1 = s.beginBlock 1 p ∧ s.notify 1 4 = s ∧ s.notify 1 5 = s ∧
      (let t := slotNumbers.foldl (fun v n => v.notify 1 n) s
       gone t ∧ t.slot 3 = s.slot 3 ∧ t.slot 4 = s.slot 4 ∧ t.bank 3 =
        { Bank.idle with current := some (.read (read 1)), reads := [read 2], lastServed := 1 }) ∧
      (let t := slotNumbers.foldl (fun v n => v.notify 1 n) (behind true 192)
       gone t ∧ (t.slot 3).state = .programming ∧ t.slot 4 = s.slot 4) := by decide +kernel

theorem idle_banks : ∀ k ∈ List.replicate 4 Bank.idle, k.right := by
  intro k hk
  rw [List.eq_of_mem_replicate hk]
  exact ⟨fun _ => by decide, by decide, by simp [Bank.idle], by simp [Bank.idle]⟩

theorem behind_images {n : Nat} {e : Image} (h : (behind false 128).image n = some e) :
    n = 1 ∧ e = { resident := false, blocks := [65536, 98304, 0], filled := 128, sum := 0#32, pins := 3 } := by
  have h : (n, e) ∈ [((1, { resident := false, blocks := [65536, 98304, 0], filled := 128, sum := 0#32, pins := 3 }) :
    Nat × Image)] := Table.mem_of_look h
  simpa using h

theorem witness_SlotsReadBehindFill_store : (behind false 128).shaped ∧ (behind false 128).imagesRight := by
  refine ⟨by unfold State.shaped; decide +kernel, by decide, by decide, by decide, by decide, by decide,
    fun t => ⟨fun h => ?_, ?_⟩, by decide, by decide, by decide, fun t => ⟨fun h => ?_, ?_⟩, by decide, by decide,
    by decide, idle_banks⟩
  · cases h
  · rintro ⟨e, he, hr⟩
    rw [(behind_images he).2] at hr
    cases hr
  · have ht : t = 1 := by
      have : t ∈ [1] := h
      simpa using this
    subst ht
    exact ⟨_, rfl, rfl⟩
  · rintro ⟨e, he, -⟩
    rw [(behind_images he).1]
    decide

/-- An image of `n` store blocks from block `b` on. -/
def sized (r : Bool) (pins b n : Nat) : Image := { image r pins with blocks := (List.range n).map (· + b) }

/-- Title 1's image of 40 blocks, title 4's of 2 and title 6's of 3 are RESIDENT and unpinned, title 3's of 2 is pinned and
title 7's of 5 fills; 131,020 blocks are free. Patron 1 waits for store space. -/
def crowded : State :=
  (shop.setPatron 1 { ann with deferral := .storeSpace }).setStore { shop.store with
    images := [(1, sized true 0 0 40), (3, sized true 1 40 2), (4, sized true 0 42 2), (6, sized true 0 44 3),
      (7, sized false 0 47 5)],
    recency := [3, 1, 4, 6], fetches := [{ fetch 2 7 .waiting with expected := 300 }] }

/-- The bounds of admission: blocks, entries of the table and fetches; a title with an image needs none, and counts as
none to evict. -/
theorem witness_AdmissionAndEviction :
    let full (n : Nat) : State := crowded.setStore { crowded.store with
      images := crowded.store.images ++ (List.range n).map (fun j => (j + 100, sized false 0 0 0)) }
    let fetching (n : Nat) : State := crowded.setFetches (List.replicate n (fetch 2 7 .waiting))
    crowded.freeBlocks = 131020 ∧
      crowded.admissible [(9, 131065)] = true ∧ crowded.admissible [(9, 131066)] = false ∧
      crowded.admissible [(9, 131000), (10, 65)] = true ∧ crowded.admissible [(9, 131000), (10, 66)] = false ∧
      crowded.admissible [(1, 40), (9, 131025)] = true ∧ crowded.admissible [(1, 40), (9, 131026)] = false ∧
      crowded.admissible [(7, 5), (9, 131065)] = true ∧
      (full 187).store.images.length = 192 ∧ (full 187).admissible [(9, 1), (10, 1), (11, 1)] = true ∧
      (full 187).admissible [(9, 1), (10, 1), (11, 1), (12, 1)] = false ∧
      (fetching 14).admissible [(9, 1), (10, 1)] = true ∧ (fetching 15).admissible [(9, 1), (10, 1)] = false ∧
      (fetching 16).admissible [(1, 40)] = true := by decide +kernel

/-- Room at once; title 3 passed over for its pin and title 1 evicted, or passed over as admitted; the walk to its end. -/
theorem witness_AdmissionAndEviction_order :
    let out (gone : List Nat) : State := ((crowded.setStore { crowded.store with
      images := crowded.store.images.filter (fun e => decide (e.1 ∉ gone)),
      recency := crowded.store.recency.filter (fun x => decide (x ∉ gone)) }).setPatron 1 ann).noteTrigger
    let run (titles : List Nat) (blocks places : Nat) : State := crowded.evict titles crowded.store.recency blocks places
    crowded.ordered ∧ run [9] 131020 187 = crowded ∧ run [9] 131021 1 = out [1] ∧ run [9] 131060 1 = out [1] ∧
      run [9] 131061 1 = out [1, 4] ∧ run [9, 1] 131021 1 = out [4] ∧ run [9, 1] 131023 1 = out [4, 6] ∧
      run [9] 1 188 = out [1] ∧ run [9] 131065 1 = out [1, 4, 6] ∧ run [9] 131072 1 = out [1, 4, 6] := by
  unfold State.ordered
  decide +kernel

theorem crowded_images {n : Nat} {e : Image} (h : crowded.image n = some e) :
    n ∈ [1, 3, 4, 6] ∧ e.resident = true ∨ n = 7 ∧ e.resident = false := by
  have h : (n, e) ∈ [((1, sized true 0 0 40) : Nat × Image), (3, sized true 1 40 2), (4, sized true 0 42 2),
    (6, sized true 0 44 3), (7, sized false 0 47 5)] := Table.mem_of_look h
  simp only [List.mem_cons, List.not_mem_nil, Prod.mk.injEq, or_false] at h
  rcases h with ⟨rfl, rfl⟩ | ⟨rfl, rfl⟩ | ⟨rfl, rfl⟩ | ⟨rfl, rfl⟩ | ⟨rfl, rfl⟩ <;> decide

theorem witness_AdmissionAndEviction_room :
    let plan := [(9, 131000), (10, 65)]
    crowded.imagesRight ∧ crowded.admissible plan = true ∧
      131065 = ((plan.filter (fun e => decide (crowded.image e.1 = none))).map (·.2)).sum ∧
      (crowded.evict [9, 10] crowded.store.recency 131065 2).freeBlocks = 131065 := by
  refine ⟨⟨by decide +kernel, by decide +kernel, by decide, by decide, by decide, fun t => ⟨fun h => ?_, ?_⟩, by decide,
    by decide, by decide, fun t => ⟨fun h => ?_, ?_⟩, by decide, by decide, by decide, idle_banks⟩, by decide, by decide,
    by decide +kernel⟩
  · have h : t ∈ [3, 1, 4, 6] := h
    simp only [List.mem_cons, List.not_mem_nil, or_false] at h
    rcases h with rfl | rfl | rfl | rfl <;> exact ⟨_, rfl, rfl⟩
  · rintro ⟨e, he, hr⟩
    rcases crowded_images he with ⟨h, -⟩ | ⟨-, h⟩
    · show t ∈ [3, 1, 4, 6]
      simpa [or_left_comm] using h
    · rw [hr] at h; cases h
  · have h : t ∈ [7] := h
    have h : t = 7 := by simpa using h
    subst h
    exact ⟨_, rfl, rfl⟩
  · rintro ⟨e, he, hr⟩
    rcases crowded_images he with ⟨-, h⟩ | ⟨rfl, -⟩
    · rw [hr] at h; cases h
    · decide

theorem witness_ImagesPreloadedDroppedAbandoned :
    let c := Instr.preload 1 1
    let d := Instr.imageDrop 1 1
    let e := Instr.fetchAbandon 1 4
    let full := shop.setFetches (List.replicate 16 (fetch 9 9 .waiting))
    let placed := asked e (((filling .waiting).setPlan 5 plan5).setPlanner
      { ((filling .waiting).setPlan 5 plan5).planner with queue := [5] })
    Ready c (asked c shop) ∧ shop.title 1 = some tale ∧ shop.image 1 = none ∧
      shop.admissible [(1, 2)] = true ∧
      after (exec c (asked c shop)) (fun t => decide ((t.image 1).map (·.blocks) = some [0, 32768] ∧
        t.store.fetches = [fetch 1 1 .waiting] ∧
        (t.link.queue[0]?).map (·.stage) = some (.formed [0, 1, 2, 0, 75, 0, 0, 0, 0]))) = true ∧
      Ready c (asked c full) ∧ full.admissible [(1, 2)] = false ∧
      answers (exec c (asked c full)) ((asked c full).formReply 0 { status := .full, fields := [] }) = true ∧
      Ready d (asked d shop) ∧
      answers (exec d (asked d shop)) ((asked d shop).formReply 0 { status := .noRecord, fields := [] }) = true ∧
      answers (exec d (asked d (shop.setImage 1 (image true 1))))
        ((asked d (shop.setImage 1 (image true 1))).formReply 0 { status := .pinned, fields := [] }) = true ∧
      answers (exec d (asked d (shop.setImage 1 (image false 0))))
        ((asked d (shop.setImage 1 (image false 0))).formReply 0 { status := .state, fields := [] }) = true ∧
      after (exec d (asked d (shop.setImage 1 (image true 0)))) (fun t => decide (t.image 1 = none ∧
        (t.link.queue[0]?).map (·.stage) = some (.formed [0, 2, 0]))) = true ∧
      Ready e placed ∧ placed.fetch 4 = some (fetch 4 1 .waiting) ∧ placed.rolling = false ∧
      placed.planner.plans.rising = true ∧ placed.store.images.rising = true ∧
      placed.plansPlacing 1 = [5] ∧
      after (exec e placed) (fun t => decide (t.image 1 = none ∧ t.store.fetches = [] ∧ t.plan 5 = none ∧
        t.title 1 = some { tale with bad := true } ∧
        t.link.events.main.getLsbD Flag.planFailed.bit = true)) = true := by decide +kernel

/-- R69, R76, R82: a WAITING fetch is abandoned while two stream; they stay the older and the younger, and once the older
goes the younger takes its place. -/
theorem test_abandon_keeps_stream_ages :
    let s := ((((shop.setTitle 3 { tale with catalogue := 9003 }).setTitle 4 { tale with catalogue := 9004 }).setImage 1
      (image false 0)).setImage 3 (image false 0)).setImage 4 (image false 0)
    let s := s.setFetches [fetch 4 1 (.streaming true), fetch 5 3 (.streaming false), fetch 6 4 .waiting]
    let c := Instr.fetchAbandon 1 6
    let d := Instr.fetchAbandon 1 4
    after (exec c (asked c s)) (fun t => decide (t.store.fetches =
        [fetch 4 1 (.streaming true), fetch 5 3 (.streaming false)])) = true ∧
      after (exec d (asked d s)) (fun t => decide (t.store.fetches =
        [fetch 5 3 (.streaming true), fetch 6 4 .waiting])) = true := by decide +kernel

/-! ## Duplication Rack -/

def cart (m : Marker) : Cartridge :=
  { serial := 77, cls := .c2, cycles := 3, tab := false, marker := m, planTag := 0, lastUsed := 0 }

/-- The part with a slot 8. -/
def rack (x : Slot) (s : State) : State := s.setSlot 8 x

/-- A slot at work on plan 5. -/
def working (st : SlotState) (op : Option CartOp) : Slot :=
  { Slot.bare with
    present := true, state := st, cart := some (cart .blank), job := some 5,
    op := op.map (fun o => { op := o, elapsed := 0 }) }

/-- The shop with plan 5 bound to slot 8. -/
def jobs : State := shop.setPlan 5 { plan5 with state := .inSlot 8 }

theorem witness_CartridgesInsertedRemovedCleared :
    let idle := { Slot.bare with present := true, state := .idleBlank, cart := some (cart .blank) }
    let c := Instr.slotClear 1 8
    let d := Instr.slotClear 1 1
    let off := shop.setRun .off
    shop.rack.length = 8 ∧ (shop.slot 8).state = .empty ∧ (shop.slot 1).state = .empty ∧
      after (exec (.cartridgeInsert 8) shop) (fun t => decide (t.slot 8 = { Slot.bare with
        present := true, state := .ident, op := some { op := .readIdentity, elapsed := 0 } })) = true ∧
      answers (exec (.cartridgeInsert 8) (rack idle shop)) (rack idle shop) = true ∧
      answers (exec (.cartridgeRemove 8) (rack idle shop)) shop = true ∧
      answers (exec (.cartridgeRemove 1) shop) shop = true ∧
      (rack (working .waitImage none) jobs).plan 5 = some { plan5 with state := .inSlot 8 } ∧
      after (exec (.cartridgeRemove 8) (rack (working .waitImage none) jobs)) (fun t =>
        decide (t.plan 5 = some plan5 ∧ t.planner.queue = [5] ∧ t.slot 8 = Slot.bare)) = true ∧
      off.run ≠ .running ∧
      answers (exec (.cartridgeInsert 1) off) (off.setSlot 1 { Slot.bare with present := true }) = true ∧
      Ready c (asked c (rack idle shop)) ∧ idle.state = .idleBlank ∧
      after (exec c (asked c (rack idle shop))) (fun t => decide ((t.slot 8).state = .ident)) = true ∧
      Ready d (asked d shop) ∧
      answers (exec d (asked d shop)) ((asked d shop).formReply 0 { status := .state, fields := [] }) = true := by
  decide +kernel

def identArea : List Byte := u32 77 ++ u8 2 ++ u8 0 ++ u16 0 ++ u32 3

/-- A slot that reads the identity area, and one that reads page 0 with a blank stamp. -/
theorem witness_CartridgeIdentified :
    let a := { Slot.bare with present := true, state := .ident, op := some { op := .readIdentity, elapsed := 0 } }
    let b := { a with cart := some (cart .dirty), op := some { op := .readPage 0 0, elapsed := 0 } }
    let stamp := stampPage .c2 3 30
    let lent := rack b (shop.setLoan 1 { loan1 with kind := .cartridge 77 [9001] })
    let free := rack b (shop.setRecords { shop.records with loans := [] })
    let other := free.setSlot 1 { Slot.bare with state := .idleBlank, cart := some (cart .blank) }
    let old := rack { b with cart := some { cart .dirty with cycles := 10000 } } free
    identArea.length = 12 ∧ leAt identArea 0 4 = 77 ∧ leAt identArea 4 1 = Cls.code .c2 ∧
      after (exec (.identityReadDone 8 true identArea) (rack a shop)) (fun t => decide (t.slot 8 =
        { b with cart := some (cart .dirty) })) = true ∧
      after (exec (.identityReadDone 8 true (List.replicate 12 0#8)) (rack a shop)) (fun t =>
        decide ((t.slot 8).fault.map (·.cause) = some .headerBad)) = true ∧
      after (exec (.identityReadDone 8 false []) (rack a shop)) (fun t => decide ((t.slot 8).state = .fault)) = true ∧
      stamp.length = 512 ∧ stampValid stamp .c2 3 = true ∧ lent.serialLoan 77 = some (1, loan1) ∧
      after (exec (.pageReadDone 8 true stamp) lent) (fun t =>
        decide ((t.slot 8).fault.map (·.cause) = some .onLoan)) = true ∧
      (other.serialSlot 77 (fun k => decide (k ≠ 8))).isSome = true ∧
      after (exec (.pageReadDone 8 true stamp) other) (fun t =>
        decide ((t.slot 8).fault.map (·.cause) = some .conflict)) = true ∧
      stampValid (stampPage .c2 10000 30) .c2 10000 = true ∧
      after (exec (.pageReadDone 8 true (stampPage .c2 10000 30)) old) (fun t =>
        decide ((t.slot 8).fault.map (·.cause) = some .worn)) = true ∧
      free.serialLoan 77 = none ∧ free.serialItem 77 = none ∧
      after (exec (.pageReadDone 8 true stamp) free) (fun t => decide ((t.slot 8).state = .idleBlank ∧
        (t.slot 8).cart = some (cart .blank))) = true := by decide +kernel

/-- A valid directory of plan 7: seated again, and with another slot holding the serial; a directory of two pages; pages
that are neither or cannot be read. -/
theorem witness_CartridgeIdentified_marker :
    let b := { Slot.bare with
      present := true, state := .ident, cart := some (cart .dirty), op := some { op := .readPage 0 0, elapsed := 0 } }
    let d : Directory :=
      { cls := 2, planTag := 7, key := 7, number := 101, cycles := 3,
        placements := [{ catalogue := 9001, start := 1, blocks := 2, pages := 600, format := 1 }], spares := [] }
    let page := d.pages.headD []
    let long := u32 markerWord ++ u8 2 ++ u8 2 ++ u8 1 ++ List.replicate 13 0#8 ++ u16 60 ++ List.replicate 490 0#8
    let blank : List Byte := List.replicate 512 0xFF#8
    let free := rack b (shop.setRecords { shop.records with loans := [] })
    let made := (free.setPlan 7 { plan5 with state := .mailing 4 }).setMail { shop.mail with
      tray := [{ number := 4, patron := 1, kind := .cartridge 7 77, state := .awaitingLabel }] }
    let twice := made.setSlot 1 { Slot.bare with state := .idleBlank, cart := some (cart .blank) }
    page.length = 512 ∧ stampValid page .c2 3 = false ∧ hasMarker page 2 = true ∧ directoryPages page = 1 ∧
      directoryOf [page] .c2 3 = some (7, 2) ∧ made.item 4 ≠ none ∧
      after (exec (.pageReadDone 8 true page) made) (fun t => decide ((t.slot 8).state = .done ∧
        (t.slot 8).doneItem = some (7, 4))) = true ∧
      after (exec (.pageReadDone 8 true page) twice) (fun t =>
        decide ((t.slot 8).fault.map (·.cause) = some .conflict)) = true ∧
      after (exec (.pageReadDone 8 true page) free) (fun t => decide ((t.slot 8).state = .preErase ∧
        (t.slot 8).cart = some { cart .written with planTag := 7, lastUsed := 2 } ∧
        (t.slot 8).eraseKind = .extent 2)) = true ∧
      long.length = 512 ∧ hasMarker long 2 = true ∧ directoryPages long = 2 ∧ stampValid long .c2 3 = false ∧
      after (exec (.pageReadDone 8 true long) free) (fun t => decide (t.slot 8 = { b with
        identPages := [long], op := some { op := .readPage 0 1, elapsed := 0 } })) = true ∧
      directoryOf [long, blank] .c2 3 = none ∧
      after (exec (.pageReadDone 8 true blank) (rack { b with identPages := [long] } free)) (fun t =>
        decide ((t.slot 8).cart = some (cart .dirty) ∧ (t.slot 8).state = .preErase)) = true ∧
      hasMarker blank 2 = false ∧
      after (exec (.pageReadDone 8 true blank) free) (fun t => decide ((t.slot 8).cart = some (cart .dirty))) = true ∧
      after (exec (.pageReadDone 8 false []) free) (fun t => decide ((t.slot 8).cart = some (cart .dirty))) = true := by
  decide +kernel

/-- The last page of a block that does not verify, with a reserve block left and with none; a page before it; a
directory whose last page reads back well and badly. -/
theorem witness_PagesReadBack :
    let v := { working .verifying (some (.readPage 1 511)) with
      back := 511, cursor := { Cursor.zero with erased := true, frame := 64 } }
    let d := { working .directory (some (.readPage 0 0)) with pages := [[1#8]], readingBack := true }
    let s := rack v jobs
    jobs.rack.length = 8 ∧ s.placementOf v = plan5.placements[0]? ∧ v.back + 1 = 512 ∧
      (Cls.reserve .c2) = 32 ∧
      after (exec (.pageReadDone 8 false []) s) (fun t => decide ((t.slot 8).state = .programming ∧
        (t.slot 8).spare = some 8160 ∧ (t.slot 8).spares = [(1, 8160)])) = true ∧
      after (exec (.pageReadDone 8 false []) (rack { v with sparesTaken := 32 } jobs)) (fun t =>
        decide ((t.slot 8).fault.map (·.cause) = some .noSpare)) = true ∧
      after (exec (.pageReadDone 8 true [1#8]) (rack { v with back := 510 } jobs)) (fun t =>
        decide ((t.slot 8).back = 511 ∧ (t.slot 8).backOk = false)) = true ∧
      d.pages.length = d.back + 1 ∧
      after (exec (.pageReadDone 8 true [1#8]) (rack d jobs)) (fun t => decide ((t.slot 8).state = .done ∧
        t.plan 5 = some { plan5 with state := .mailing 1 } ∧ t.mail.tray.length = 1)) = true ∧
      after (exec (.pageReadDone 8 true [2#8]) (rack d jobs)) (fun t =>
        decide ((t.slot 8).fault.map (·.cause) = some .headerBad)) = true := by decide +kernel

/-- R98, R99: a block that verifies with another behind it, the last of a placement with another behind it, and the
last of all. -/
theorem witness_PagesReadBack_verifies :
    let erased : List Byte := List.replicate 512 0xFF#8
    let v := { working .verifying (some (.readPage 1 511)) with
      back := 511, readMark := true, cursor := { Cursor.zero with erased := true, frame := 64 },
      buffer := List.replicate 64 (List.replicate 4096 0xFF#8) }
    let last := { v with cursor := { v.cursor with image := 1, frame := 11 } }
    let stored := (jobs.setImage 1 (image true 1)).setStore
      { (jobs.setImage 1 (image true 1)).store with recency := [1, 2] }
    let two := stored.setPlan 5 { plan5 with
      state := .inSlot 8, placements := plan5.placements ++ [{ title := 2, start := 3, blocks := 1, pages := 8 }] }
    stored.rack.length = 8 ∧ v.expected { title := 1, start := 1, blocks := 2, pages := 600 } 511 = erased ∧
      stored.placementOf v = plan5.placements[0]? ∧
      after (exec (.pageReadDone 8 true erased) (rack v stored)) (fun t =>
        decide ((t.slot 8).state = .programming ∧ (t.slot 8).cursor.image = 1 ∧ (t.slot 8).cursor.frame = 0 ∧
          (t.slot 8).buffer = [] ∧ t.readGranted 8 = true)) = true ∧
      two.placementOf { last with cursor := { last.cursor with placement := 1 } } ≠ none ∧
      after (exec (.pageReadDone 8 true erased) (rack last two)) (fun t =>
        decide ((t.slot 8).state = .waitImage ∧ (t.slot 8).cursor.placement = 1 ∧ (t.slot 8).readMark = false ∧
          t.store.recency = [2, 1])) = true ∧
      stored.placementOf { last with cursor := { last.cursor with placement := 1 } } = none ∧
      after (exec (.pageReadDone 8 true erased) (rack last stored)) (fun t =>
        decide ((t.slot 8).state = .directory ∧ (t.slot 8).pages.length = 1 ∧ (t.slot 8).readMark = false ∧
          t.store.recency = [2, 1])) = true := by decide +kernel

/-- R94, R100: a stamp that reads back as written, with and without a job, and badly; a directory's first page of two. -/
theorem witness_PagesReadBack_stamp :
    let stamped (st : SlotState) := { working st (some (.readPage 0 0)) with
      cart := some (cart .written), eraseStep := .stampBack, pages := [[1#8]] }
    let free := { stamped .preErase with job := none }
    let d := { working .directory (some (.readPage 0 0)) with pages := [[1#8], [2#8]], readingBack := true }
    (stamped .erasing).pages.head? = some [1#8] ∧
      after (exec (.pageReadDone 8 true [1#8]) (rack (stamped .erasing) jobs)) (fun t =>
        decide ((t.slot 8).state = .programming ∧ (t.slot 8).cart = some (cart .blank) ∧
          (t.slot 8).op = some { op := .grantPermit (.eraseBlock 0), elapsed := 0 })) = true ∧
      after (exec (.pageReadDone 8 true [1#8]) (rack free shop)) (fun t =>
        decide ((t.slot 8).state = .idleBlank ∧ (t.slot 8).cart = some (cart .blank))) = true ∧
      after (exec (.pageReadDone 8 false [1#8]) (rack free shop)) (fun t =>
        decide ((t.slot 8).fault.map (·.cause) = some .headerBad)) = true ∧
      after (exec (.pageReadDone 8 true [1#8]) (rack d jobs)) (fun t =>
        decide ((t.slot 8).back = 1 ∧ (t.slot 8).backOk = true)) = true := by decide +kernel

theorem witness_WritesTakePermitsAndAdvance :
    let p := working .programming (some (.grantPermit (.eraseBlock 0)))
    let w := { working .programming (some (.write (.program 1 0 [])) ) with
      cursor := { Cursor.zero with erased := true, inBuffer := true }, buffer := [[]] }
    let e := { working .erasing (some (.write .fullErase)) with eraseKind := .full }
    let x := { working .preErase (some (.write (.eraseGroup 0))) with
      eraseKind := .extent 31, cart := some { cart .written with lastUsed := 31 } }
    let z := working .programming (some (.write (.eraseBlock 0)))
    let m := working .erasing (some .markCycle)
    let old := { m with cart := some { cart .blank with cycles := 9999 } }
    jobs.rack.length = 8 ∧
      after (exec (.permitReply 8 true) (rack p jobs)) (fun t => decide ((t.slot 8).started = true ∧
        (t.slot 8).cart = some (cart .dirty) ∧
        (t.slot 8).op = some { op := .write (.eraseBlock 0), elapsed := 0 })) = true ∧
      after (exec (.permitReply 8 false) (rack p jobs)) (fun t =>
        decide ((t.slot 8).fault.map (·.cause) = some .writeProtected)) = true ∧
      (rack w jobs).placementOf w = plan5.placements[0]? ∧
      after (exec (.pageProgramDone 8 true) (rack w jobs)) (fun t =>
        decide ((t.slot 8).cursor.page = 1)) = true ∧
      after (exec (.pageProgramDone 8 false) (rack w jobs)) (fun t =>
        decide ((t.slot 8).fault.map (·.cause) = some .protocol)) = true ∧
      (∀ y ∈ [e, x], after (exec (.eraseDone 8 false) (rack { y with holdPending := true } jobs)) (fun t =>
        decide ((t.slot 8).fault.map (·.cause) = some .protocol)) = true) ∧
      after (exec (.eraseDone 8 false) (rack { x with
        op := some { op := .suspend, elapsed := 0 }, suspended := x.op } jobs)) (fun t =>
          decide ((t.slot 8).fault.map (·.cause) = some .protocol ∧ (t.slot 8).suspended = none)) = true ∧
      e.eraseOps = 1 ∧ x.eraseOps = 2 ∧
      after (exec (.eraseDone 8 true) (rack e jobs)) (fun t => decide ((t.slot 8).eraseStep = .mark ∧
        (t.slot 8).op = some { op := .markCycle, elapsed := 0 })) = true ∧
      after (exec (.eraseDone 8 true) (rack x jobs)) (fun t => decide ((t.slot 8).eraseStep = .erase 1 ∧
        (t.slot 8).op = some { op := .grantPermit (.eraseGroup 255), elapsed := 0 })) = true ∧
      z.cursor = Cursor.zero ∧ z.spare = none ∧
      after (exec (.eraseDone 8 true) (rack z jobs)) (fun t => decide ((t.slot 8).state = .waitImage ∧
        (t.slot 8).cursor.erased = true)) = true ∧
      after (exec (.markCycleDone 8) (rack m jobs)) (fun t =>
        decide ((t.slot 8).cart.map (·.cycles) = some 4 ∧ (t.slot 8).eraseStep = .stamp)) = true ∧
      after (exec (.markCycleDone 8) (rack old jobs)) (fun t =>
        decide ((t.slot 8).fault.map (·.cause) = some .worn)) = true := by decide +kernel

theorem witness_SlotsHeldAndReleased :
    let c := Instr.slotHold 1 8
    let d := Instr.slotRelease 1 8
    let o : OpInHand := { op := .write (.eraseGroup 0), elapsed := 5 }
    let e := { working .erasing none with eraseKind := .extent 31, op := some o }
    let w := working .waitImage none
    let f := { working .erasing none with eraseKind := .full, op := some { o with op := .write .fullErase } }
    let u := { e with suspended := some o, holdPending := true, op := some { op := .suspend, elapsed := 0 } }
    let h := { u with state := .held, remembered := some .erasing, holdPending := false, op := none }
    let r := { h with state := .erasing, remembered := none, op := some { op := .resume, elapsed := 0 } }
    Ready c (asked c (rack e jobs)) ∧ o.op.isExtentErase = true ∧
      answers (exec c (asked c (rack e jobs))) ((rack u (asked c jobs)).replied 0 [1#8, 1#8]) = true ∧
      Ready c (asked c (rack w jobs)) ∧
      after (exec c (asked c (rack w jobs))) (fun t => decide ((t.slot 8).state = .held ∧
        (t.slot 8).remembered = some .waitImage)) = true ∧
      Ready c (asked c (rack f jobs)) ∧ f.eraseKind = .full ∧
      answers (exec c (asked c (rack f jobs))) ((asked c (rack f jobs)).formReply 0
        { status := .state, fields := [] }) = true ∧
      answers (exec (.suspendDone 8) (rack u jobs)) (rack h jobs) = true ∧
      Ready d (asked d (rack h jobs)) ∧
      answers (exec d (asked d (rack h jobs))) ((rack r (asked d jobs)).replied 0 []) = true ∧
      Ready d (asked d (rack w jobs)) ∧
      answers (exec d (asked d (rack w jobs))) ((asked d (rack w jobs)).formReply 0
        { status := .state, fields := [] }) = true ∧
      answers (exec (.resumeDone 8) (rack r jobs)) (rack e jobs) = true := by decide +kernel

/-- R85, R108: the first write since identification, refused, has not started: the marker read at identification stands,
the BLANK of a program phase and the WRITTEN of an erase phase. One that runs out of time, or is refused after another
write, leaves DIRTY. -/
theorem witness_WritesTakePermitsAndAdvance_refused :
    let p := working .programming (some (.grantPermit (.eraseBlock 0)))
    let old := { cart .written with planTag := 7, lastUsed := 40 }
    let x := { working .preErase (some (.grantPermit (.eraseGroup 0))) with
      job := none, cart := some old, eraseKind := .extent 40 }
    let then_ (y : Slot) (c : Instr) (m : Marker) : Bool :=
      after (exec (.permitReply 8 true) (rack y jobs)) (fun s => after (exec c s) (fun t =>
        decide ((t.slot 8).state = .fault ∧ (t.slot 8).cart.map (·.marker) = some m)))
    then_ p (.eraseDone 8 false) .blank = true ∧ then_ x (.eraseDone 8 false) .written = true ∧
      then_ p (.cartOpTimeout 8 40000) .dirty = true ∧ then_ x (.cartOpTimeout 8 800000) .dirty = true ∧
      then_ { p with started := true } (.eraseDone 8 false) .dirty = true ∧
      after (exec (.permitReply 8 true) (rack p jobs)) (fun s => decide ((s.slot 8).unstarted = some (cart .blank) ∧
        ((s.unbind 8).slot 8).unstarted = none ∧ ((s.unbind 8).slot 8).cart = some (cart .dirty))) = true := by
  decide +kernel

/-- R96, R98, R100: a frame's last page with a frame behind it, read from the image, waited for, or programmed into a
spare; the block's last; the stamp; a directory's pages. -/
theorem witness_WritesTakePermitsAndAdvance_frames :
    let w := { working .programming (some (.write (.program 1 7 []))) with
      cursor := { Cursor.zero with erased := true, inBuffer := true, page := 7 }, buffer := [[]] }
    let stored := jobs.setImage 1 (image true 1)
    let spare := { w with spare := some 8160, buffer := [[], [7#8]] }
    let last := { w with cursor := { w.cursor with frame := 63 } }
    let stamp := { working .erasing (some (.write (.program 0 0 []))) with eraseStep := .stamp }
    let d := { working .directory (some (.write (.program 0 0 []))) with pages := [[1#8], [2#8]] }
    stored.placementOf w = plan5.placements[0]? ∧ stored.readable 1 0 = true ∧ jobs.readable 1 0 = false ∧
      after (exec (.pageProgramDone 8 true) (rack w stored)) (fun t =>
        decide ((t.slot 8).cursor.frame = 1 ∧ (t.slot 8).op = none ∧ t.readGranted 8 = true)) = true ∧
      after (exec (.pageProgramDone 8 true) (rack w jobs)) (fun t =>
        decide ((t.slot 8).state = .waitImage)) = true ∧
      after (exec (.pageProgramDone 8 true) (rack spare jobs)) (fun t =>
        decide ((t.slot 8).op = some { op := .grantPermit (.program 8160 8 [7#8]), elapsed := 0 })) = true ∧
      after (exec (.pageProgramDone 8 true) (rack last jobs)) (fun t =>
        decide ((t.slot 8).state = .verifying ∧ (t.slot 8).op = some { op := .readPage 1 0, elapsed := 0 })) = true ∧
      after (exec (.pageProgramDone 8 true) (rack stamp jobs)) (fun t =>
        decide ((t.slot 8).op = some { op := .readPage 0 0, elapsed := 0 })) = true ∧
      after (exec (.pageProgramDone 8 true) (rack d jobs)) (fun t =>
        decide ((t.slot 8).op = some { op := .grantPermit (.program 0 1 [2#8]), elapsed := 0 })) = true ∧
      after (exec (.pageProgramDone 8 true) (rack { d with back := 1 } jobs)) (fun t =>
        decide ((t.slot 8).readingBack = true ∧
          (t.slot 8).op = some { op := .readPage 0 0, elapsed := 0 })) = true := by decide +kernel

/-- R106, R107: slot 8 loses its job with an operation in hand. Its report clears the finishing mark, after which
pre-erase begins, or finds a fault. -/
theorem witness_WritesTakePermitsAndAdvance_finishing :
    let lose (x : Slot) : State := (rack x jobs).unbind 8
    let begun (c : Instr) (x : Slot) : Bool := after (exec c (lose x)) (fun t =>
      decide ((t.slot 8).state = .preErase ∧ (t.slot 8).finishing = false))
    let faulted (c : Instr) (x : Slot) (k : FaultCause) : Bool := after (exec c (lose x)) (fun t =>
      decide ((t.slot 8).fault.map (fun r => (r.cause, r.phase, r.plan)) = some (k, some .finishing, none) ∧
        t.plan 5 = jobs.plan 5))
    let op (o : CartOp) := working .programming (some o)
    let stamp := { working .erasing (some (.readPage 0 0)) with pages := [[1#8]] }
    let d := { working .directory (some (.readPage 0 1)) with pages := [[1#8], [2#8]], back := 1, readingBack := true }
    let v := { working .verifying (some (.readPage 1 511)) with
      back := 511, sparesTaken := 32, cursor := { Cursor.zero with erased := true, frame := 64 } }
    let stopped := { working .erasing (some .suspend) with suspended := some { op := .write (.eraseGroup 0), elapsed := 5 } }
    (rack (op .markCycle) jobs).leavePlace 5 { plan5 with state := .inSlot 8 } = lose (op .markCycle) ∧
      (lose (op .markCycle)).slot 8 = { Slot.bare with
        present := true, state := .idleDirty, cart := some (cart .dirty), finishing := true,
        op := some { op := .markCycle, elapsed := 0 } } ∧
      begun (.permitReply 8 true) (op (.grantPermit .fullErase)) = true ∧
      faulted (.permitReply 8 false) (op (.grantPermit .fullErase)) .writeProtected = true ∧
      begun (.pageProgramDone 8 true) (op (.write (.program 1 0 []))) = true ∧
      faulted (.pageProgramDone 8 false) (op (.write (.program 1 0 []))) .protocol = true ∧
      begun (.eraseDone 8 true) (op (.write .fullErase)) = true ∧
      faulted (.eraseDone 8 false) (op (.write .fullErase)) .protocol = true ∧
      begun (.markCycleDone 8) (op .markCycle) = true ∧ begun (.suspendDone 8) stopped = true ∧
      after (exec (.eraseDone 8 true) (lose stopped)) (fun t =>
        decide ((t.slot 8).suspended = none ∧ (t.slot 8).finishing = true)) = true ∧
      after (exec (.resumeDone 8) (lose { stopped with op := some { op := .resume, elapsed := 0 } })) (fun t =>
        decide ((t.slot 8).op = stopped.suspended ∧ (t.slot 8).finishing = true)) = true ∧
      begun (.pageReadDone 8 true [1#8]) stamp = true ∧ faulted (.pageReadDone 8 true [2#8]) stamp .headerBad = true ∧
      begun (.pageReadDone 8 true [2#8]) d = true ∧ faulted (.pageReadDone 8 false [2#8]) d .headerBad = true ∧
      begun (.pageReadDone 8 false []) { d with back := 0 } = true ∧
      begun (.pageReadDone 8 false []) { v with sparesTaken := 31 } = true ∧
      faulted (.pageReadDone 8 false []) v .noSpare = true := by decide +kernel

/-- Holds of the other phases, each with an operation in hand and with none. -/
theorem witness_SlotsHeldAndReleased_holds :
    let c := Instr.slotHold 1 8
    let held (t : State) := (t.slot 8).state = .held ∧ (t.slot 8).op = none
    let waits (t : State) := (t.slot 8).holdPending = true
    let tells (t : State) (x : List Byte) : Prop := (t.link.queue[0]?).map Request.stage = some (.formed (0#8 :: x))
    let x := { working .preErase (some .markCycle) with job := none, eraseKind := .extent 31 }
    let p := working .programming (some (.write (.program 1 0 [])))
    let v := working .verifying (some (.readPage 1 0))
    let bare (st : SlotState) := { working st none with eraseKind := .extent 31 }
    (∀ y ∈ [x, p, v, bare .preErase, bare .programming, bare .verifying], Ready c (asked c (rack y jobs))) ∧
      after (exec c (asked c (rack x jobs))) (fun t => decide (waits t ∧ tells t [0#8, 0#8])) = true ∧
      after (exec c (asked c (rack p jobs))) (fun t => decide (waits t ∧ tells t [2#8, 0#8])) = true ∧
      after (exec c (asked c (rack v jobs))) (fun t => decide (waits t ∧ tells t [3#8, 0#8])) = true ∧
      after (exec c (asked c (rack (bare .preErase) jobs))) (fun t => decide (held t)) = true ∧
      (reading .deliver false).readGranted 8 = true ∧
      after (exec c (asked c (reading .deliver false))) (fun t => decide (waits t ∧ (t.slot 8).awaiting = true)) =
        true ∧
      after (exec c (asked c (rack (bare .programming) jobs))) (fun t => decide (held t)) = true ∧
      after (exec c (asked c (rack (bare .verifying) jobs))) (fun t => decide (held t)) = true := by decide +kernel

/-- Operations that complete under a pending hold. -/
theorem witness_SlotsHeldAndReleased_pending :
    let held (t : State) := (t.slot 8).state = .held ∧ (t.slot 8).op = none ∧ (t.slot 8).holdPending = false
    let hold (y : Slot) := rack { y with holdPending := true } jobs
    let e := { working .erasing (some (.write (.eraseGroup 0))) with eraseKind := .extent 31 }
    after (exec (.permitReply 8 true) (hold (working .programming (some (.grantPermit (.eraseBlock 0))))))
        (fun t => decide (held t)) = true ∧ e.eraseStep = .erase 0 ∧ e.eraseOps = 2 ∧
      after (exec (.eraseDone 8 true) (hold e)) (fun t => decide (held t ∧ (t.slot 8).eraseStep = .erase 1)) = true ∧
      after (exec (.markCycleDone 8) (hold (working .preErase (some .markCycle)))) (fun t => decide (held t ∧
        (t.slot 8).eraseStep = .stamp ∧ (t.slot 8).cart.map (·.cycles) = some 4)) = true ∧
      after (exec (.pageProgramDone 8 true) (hold (working .programming (some (.write (.program 1 0 []))))))
        (fun t => decide (held t ∧ (t.slot 8).cursor.page = 1)) = true ∧
      after (exec (.pageReadDone 8 true [1#8]) (hold (working .verifying (some (.readPage 1 0)))))
        (fun t => decide (held t ∧ (t.slot 8).back = 1 ∧ (t.slot 8).backOk = false)) = true ∧
      after (exec (.resumeDone 8) (hold (working .erasing (some .resume)))) (fun t => decide ((t.slot 8).op =
        some { op := .suspend, elapsed := 0 })) = true := by decide +kernel

/-- Releases into each phase. -/
theorem witness_SlotsHeldAndReleased_releases :
    let d := Instr.slotRelease 1 8
    let h (ph : Phase) : Slot :=
      { working .held none with remembered := some ph, eraseKind := .extent 31, cursor := { Cursor.zero with erased := true } }
    let out (y : Slot) (st : SlotState) (o : Option CartOp) : Bool :=
      after (exec d (asked d (rack y jobs))) (fun t =>
        decide ((t.slot 8).state = st ∧ (t.slot 8).op.map (·.op) = o))
    let susp := some ({ op := .write (.eraseGroup 0), elapsed := 5 } : OpInHand)
    let stamp := stampPage .c2 3 31
    (∀ ph ∈ [Phase.preErase, .erasing, .programming, .verifying, .waitImage], Ready d (asked d (rack (h ph) jobs))) ∧
      out { h .preErase with suspended := susp, job := none } .preErase (some .resume) ∧
      out (h .erasing) .erasing (some (.grantPermit (.eraseGroup 0))) ∧
      out { h .erasing with eraseStep := .mark } .erasing (some .markCycle) ∧
      out { h .erasing with eraseStep := .stamp } .erasing (some (.grantPermit (.program 0 0 stamp))) ∧
      out { h .erasing with eraseStep := .stampBack } .erasing (some (.readPage 0 0)) ∧
      out { h .erasing with eraseStep := .ended } .programming (some (.grantPermit (.eraseBlock 0))) ∧
      out { h .preErase with eraseStep := .ended, job := none } .idleBlank none ∧
      out { h .programming with cursor := Cursor.zero } .programming (some (.grantPermit (.eraseBlock 0))) ∧
      (rack (h .programming) jobs).placementOf (h .programming) = plan5.placements[0]? ∧
      out { h .programming with cursor := { Cursor.zero with erased := true, frame := 64 } } .verifying
        (some (.readPage 1 0)) ∧
      out { h .programming with spare := some 8160, buffer := [[]] } .programming
        (some (.grantPermit (.program 8160 0 []))) ∧
      out (h .programming) .waitImage none ∧ out (h .verifying) .verifying (some (.readPage 1 0)) ∧
      out (h .waitImage) .waitImage none ∧
      after (exec (.resumeDone 8) (rack { working .preErase (some .resume) with suspended := susp, job := none } shop))
        (fun t => decide ((t.slot 8).op = susp ∧ (t.slot 8).suspended = none)) = true := by decide +kernel

/-- R112: held at the read-back of its stamp, a slot still shows the operations of its erase set (356 for a C4 used up to
block 11,017, 5.5); a suspend in hand is no suspended erase of a HELD slot. -/
theorem test_worked_held_stamp :
    let c4 := { cart .written with cls := .c4, lastUsed := 11017 }
    let y : Slot := { working .preErase (some (.readPage 0 0)) with
      job := none, cart := some c4, eraseKind := .extent 11017, eraseStep := .stampBack, holdPending := true,
      pages := [[1#8]] }
    let z : Slot := { y with suspended := some { op := .write (.eraseGroup 0), elapsed := 0 } }
    after (exec (.pageReadDone 8 true [1#8]) (rack y shop)) (fun t => decide ((t.slot 8).state = .held ∧
      (t.slot 8).eraseFields = u8 1 ++ u16 356 ++ u16 356)) = true ∧
      ((rack z shop).slotFields 8)[2]? = some 0#8 ∧
      ((rack { z with state := .held } shop).slotFields 8)[2]? = some 1#8 := by decide +kernel

/-- R91: the cancel of a plan in the queue is no event of matching, and slot 8 stays as it was. -/
theorem test_cancel_offers_nothing :
    let idle := { Slot.bare with present := true, state := .idleBlank, cart := some (cart .blank) }
    let s := rack idle ((shop.setPlan 5 plan5).setPlan 6 plan5)
    let c := Instr.planCancel 1 5
    let s := asked c (s.setPlanner { s.planner with queue := [5, 6] })
    after (exec c s) (fun t => decide (t.planner.queue = [6] ∧ t.slot 8 = idle)) = true := by decide +kernel

theorem witness_SlotsFault_reads :
    let i := { Slot.bare with
      present := true, state := .ident, cart := some (cart .dirty), op := some { op := .readPage 0 0, elapsed := 7 } }
    let free := shop.setRecords { shop.records with loans := [] }
    answers (exec (.cartOpTimeout 8 2000) (rack (working .waitImage none) jobs)) (rack (working .waitImage none) jobs) =
        true ∧
      answers (exec (.cartOpTimeout 8 2000) ((rack i shop).setRun .off)) ((rack i shop).setRun .off) = true ∧
      after (exec (.cartOpTimeout 8 2000) (rack i free)) (fun t => decide ((t.slot 8).state = .preErase ∧
        (t.slot 8).cart = some (cart .dirty))) = true ∧
      after (exec (.cartOpTimeout 8 2000) (rack { i with cart := none } free)) (fun t =>
        decide ((t.slot 8).fault.map (·.cause) = some .headerBad)) = true ∧
      answers (exec (.reportAnsweringNoOperation 8) ((rack i shop).setRun .resetHeld)) ((rack i shop).setRun .resetHeld) =
        true ∧
      (rack (working .waitImage none) shop).plan 5 = none ∧
      ((rack (working .waitImage none) shop).slotFault 8 .timeout).planner = shop.planner := by decide +kernel

theorem witness_SlotsFault :
    let i := { Slot.bare with present := true, state := .ident, op := some { op := .readIdentity, elapsed := 7 } }
    let w := working .programming (some (.write (.program 1 0 [])))
    let third := rack w (shop.setPlan 5 { plan5 with state := .inSlot 8, faults := 2 })
    (CartOp.readIdentity).limit = 2000 ∧
      answers (exec (.cartOpTimeout 8 1999) (rack i shop)) (rack
        { i with op := some { op := .readIdentity, elapsed := 1999 } } shop) = true ∧
      after (exec (.cartOpTimeout 8 2000) (rack i shop)) (fun t =>
        decide ((t.slot 8).fault.map (·.cause) = some .headerBad)) = true ∧
      after (exec (.cartOpTimeout 8 2000) (rack w jobs)) (fun t =>
        decide ((t.slot 8).fault.map (·.cause) = some .timeout ∧
          t.plan 5 = some { plan5 with faults := 1 } ∧ t.planner.queue = [5])) = true ∧
      after (exec (.reportAnsweringNoOperation 8) (rack w jobs)) (fun t =>
        decide ((t.slot 8).fault.map (·.cause) = some .protocol)) = true ∧
      (shop.slot 1).state = .empty ∧ answers (exec (.reportAnsweringNoOperation 1) shop) shop = true ∧
      third.plan 5 = some { plan5 with state := .inSlot 8, faults := 2 } ∧
      third.planner.plans.rising = true ∧ third.records.patrons.rising = true ∧
      (third.slotFault 8 .protocol).plan 5 = none ∧
      (third.slotFault 8 .protocol).link.events.main.getLsbD Flag.planFailed.bit = true ∧
      (rack i shop).slot 8 = i ∧ i.job = none := by decide +kernel

/-- A slot that holds a cartridge of this class, count and marker. -/
def holding (st : SlotState) (c : Cls) (cycles : Nat) (m : Marker) : Slot :=
  { Slot.bare with present := true, state := st, cart := some { cart m with cls := c, cycles := cycles } }

def planFor (patron : Nat) (c : Cls) : Plan := { plan5 with patron := patron, cls := c }

/-- 5.4, the worked case: slots 1 and 5 hold C8 cartridges of counts 120 and 80, slot 6 a C4; plans 52, 53 and 54 are of
C2, C4 and C8, the players of their patrons C8, C4 and C8. -/
def matching : State :=
  let s := (shop.setPatron 2 { ann with number := 102, cls := .c8 }).setPatron 3 { ann with number := 103, cls := .c4 }
  let s := ((s.setPlan 52 (planFor 2 .c2)).setPlan 53 (planFor 3 .c4)).setPlan 54 (planFor 2 .c8)
  let s := ((s.setSlot 1 (holding .idleBlank .c8 120 .blank)).setSlot 5 (holding .idleBlank .c8 80 .blank)).setSlot 6
    (holding .idleBlank .c4 30 .blank)
  s.setPlanner { s.planner with queue := [52, 53, 54] }

theorem witness_JobsMatchedToSlots :
    let equal := matching.setSlot 1 (holding .idleBlank .c8 80 .blank)
    let done := (matching.bind 6 52).bind 5 54
    matching.shaped ∧ matching.slotFor (planFor 2 .c2) = some 6 ∧ matching.slotFor (planFor 3 .c4) = some 6 ∧
      (matching.bind 6 52).slotFor (planFor 3 .c4) = none ∧ matching.slotFor (planFor 2 .c8) = some 5 ∧
      equal.slotFor (planFor 2 .c8) = some 1 ∧ (matching.setSlot 6 Slot.bare).slotFor (planFor 2 .c2) = some 5 ∧
      (matching.setSlot 5 (holding .preErase .c8 80 .dirty)).slotFor (planFor 2 .c8) = some 5 ∧
      (matching.setSlot 5 (holding .held .c8 80 .dirty)).slotFor (planFor 2 .c8) = some 1 ∧
      matching.plan 52 = some (planFor 2 .c2) ∧ matching.plan 53 = some (planFor 3 .c4) ∧
      matching.matchJobs = done ∧ done.planner.queue = [53] ∧ (done.slot 1).state = .idleBlank ∧
      (done.slot 5).job = some 54 ∧ (done.slot 6).job = some 52 := by
  unfold State.shaped
  decide +kernel

/-- What a binding makes of each state, at both ends of the erase kinds, with 15, 16 and 17 plans in the queue. -/
theorem witness_JobsMatchedToSlots_bind :
    let queued (n : Nat) (x : Slot) : State :=
      let s := matching.setSlot 8 x
      s.setPlanner { s.planner with queue := 52 :: (List.range (n - 1)).map (· + 100) }
    let bound (n : Nat) (due : Bool) (x y : Slot) : Bool := decide ((queued n x).bind 8 52 =
      ((queued n x).setPlanner { (queued n x).planner with
        plans := (queued n x).planner.plans.put 52 { planFor 2 .c2 with state := .inSlot 8 },
        queue := (List.range (n - 1)).map (· + 100), due := due }).setSlot 8 { y with job := some 52 })
    let asks (x : Slot) (st : SlotState) (k : EraseKind) (o : CartOp) : Slot :=
      { x with state := st, eraseKind := k, op := some { op := o, elapsed := 0 } }
    let written (last : Nat) : Slot :=
      { holding .idleDirty .c8 9 .written with
        cart := some { cart .written with cls := .c8, cycles := 9, lastUsed := last } }
    let blank := holding .idleBlank .c8 9 .blank
    let dirty := holding .idleDirty .c8 9 .dirty
    let pre : Slot := { asks dirty .preErase .full (.write .fullErase) with eraseStep := .erase 0, sparesTaken := 3, readMark := true }
    bound 3 false blank (asks blank .programming .skipped (.grantPermit (.eraseBlock 0))) ∧
      bound 15 false blank (asks blank .programming .skipped (.grantPermit (.eraseBlock 0))) ∧
      bound 16 true blank (asks blank .programming .skipped (.grantPermit (.eraseBlock 0))) ∧
      bound 17 false blank (asks blank .programming .skipped (.grantPermit (.eraseBlock 0))) ∧
      bound 3 false dirty (asks dirty .erasing .full (.grantPermit .fullErase)) ∧
      bound 3 false (written 30) (asks (written 30) .erasing (.extent 30) (.grantPermit (.eraseBlock 0))) ∧
      bound 3 false (written 31) (asks (written 31) .erasing (.extent 31) (.grantPermit (.eraseGroup 0))) ∧
      bound 3 false pre { pre with state := .erasing, sparesTaken := 0, readMark := false } := by decide +kernel

/-- Of two IDLE_DIRTY slots the walk leaves unbound, the one with the finishing mark stays; a job of the queue without a
plan is passed over. -/
theorem witness_JobsMatchedToSlots_preErase :
    let dirty := holding .idleDirty .c2 9 .dirty
    let s := (shop.setSlot 7 dirty).setSlot 8 { dirty with finishing := true }
    let t := s.setPlanner { s.planner with queue := [99] }
    s.shaped ∧ s.matchJobs = s.setSlot 7
        { dirty with state := .preErase, op := some { op := .grantPermit .fullErase, elapsed := 0 } } ∧
      t.plan 99 = none ∧ t.matchJobs = s.matchJobs.setPlanner { s.planner with queue := [99] } := by
  unfold State.shaped
  decide +kernel

/-- R73, R77: the image of two blocks becomes RESIDENT; slot 8 waits for its last, slot 7 for a block of another title, slot 6
for a block beyond it. -/
theorem witness_FillWriteCompletes_resident :
    let wait (job block : Nat) : Slot :=
      { working .waitImage none with job := some job, cursor := { Cursor.zero with erased := true, image := block } }
    let s := (((lastFrame 7#32 0 true 74).setPlan 5 { plan5 with state := .inSlot 8 }).setPlan 6
      { plan5 with state := .inSlot 7, placements := [{ title := 3, start := 1, blocks := 2, pages := 600 }] }).setPlan 7
        { plan5 with state := .inSlot 6 }
    let s := ((s.setSlot 8 (wait 5 1)).setSlot 7 (wait 6 1)).setSlot 6 (wait 7 2)
    s.shaped ∧ (s.placementOf (s.slot 8)).map (·.title) = some 1 ∧ (s.placementOf (s.slot 7)).map (·.title) = some 3 ∧
      after (exec (.fillWriteComplete 0) s) (fun t => decide ((t.slot 8).state = .programming ∧
        t.slot 7 = wait 6 1 ∧ t.slot 6 = wait 7 2 ∧ (t.bank 0).current =
          some (.read { slot := 8, block := 1, place := 0, fate := .deliver }))) = true := by
  unfold State.shaped
  decide +kernel

/-- R103, R79: a slot bound from IDLE_BLANK is held while its first frame is read; what was kept for a refused write is gone
(log entry 46). -/
theorem witness_FrameReadCompletes_held :
    let s := reading .deliver false
    let x : Slot := { s.slot 8 with cart := some (cart .dirty), unstarted := some (cart .blank) }
    let s := s.setSlot 8 x
    let c := Instr.slotHold 1 8
    Ready c (asked c s) ∧ after (exec c (asked c s)) (fun t => decide ((t.slot 8).unstarted = some (cart .blank) ∧
      (t.bank 3).current = some (.read { slot := 8, block := 98304, place := 0, fate := .awaited })) &&
      answers (exec (.frameReadComplete 3) t) ((t.setSlot 8
        { x with state := .held, remembered := some .programming, holdPending := false, awaiting := false,
                 unstarted := none }).setBank 3 Bank.idle)) = true := by decide +kernel

/-! ## Counts and bindings -/

/-- Plan 5 stands in slot 8, plan 6 in the queue and plan 7 in the tray, all with title 1, whose image fills; title
3's is RESIDENT. Patron 1 has a set of title 2 in the tray, patron 2 waits for it. -/
def mid : State :=
  { shop with
    records :=
      { patrons :=
          [(1, { ann with cartCount := 4, setCount := 1, orders := [order 2 (.allocated 7 1)] }),
            (2, { ann with number := 102, cartCount := 0, orders := [order 2 .hold] })],
        titles := [(1, tale), (2, { tome with copies := .item :: List.replicate 14 .absent, holds := [2] })],
        loans := [(1, loan1)], lost := [] },
    planner :=
      { shop.planner with
        plans :=
          [(5, { plan5 with state := .inSlot 8 }), (6, { plan5 with rush := true }),
            (7, { plan5 with state := .mailing 9 })],
        queue := [6] },
    store :=
      { shop.store with
        images := [(1, { image false 2 with filled := 0 }), (3, { image true 0 with blocks := [2] })],
        recency := [3], fetches := [fetch 4 1 .waiting] },
    rack :=
      List.replicate 7 Slot.bare ++
        [{ working .waitImage none with sparesTaken := 1, spares := [(1, 8160)] }],
    mail :=
      { shop.mail with
        tray := [setItem 7 1 2 1, { number := 9, patron := 1, kind := .cartridge 7 88, state := .awaitingLabel }] } }

theorem mid_shaped : mid.shaped ∧ mid.ordered := by
  unfold State.shaped State.ordered
  decide +kernel

theorem mid_plans {n : Nat} {p : Plan} (h : mid.plan n = some p) :
    (n = 5 ∧ p = { plan5 with state := .inSlot 8 }) ∨ (n = 6 ∧ p = { plan5 with rush := true }) ∨
      (n = 7 ∧ p = { plan5 with state := .mailing 9 }) := by
  have := Table.mem_of_look h
  simpa [mid] using this

theorem mid_plansBound : mid.plansBound := by
  refine ⟨⟨by decide, fun n => ⟨fun h => ?_, ?_⟩, by decide⟩, ⟨?_, ?_⟩, ⟨by decide, ?_, ?_⟩, by decide, by decide,
    by decide, by decide, by decide⟩
  · have hn : n = 6 := by simpa [mid] using h
    subst hn
    exact ⟨_, rfl, rfl⟩
  · rintro ⟨p, hp, hq⟩
    rcases mid_plans hp with ⟨rfl, rfl⟩ | ⟨rfl, rfl⟩ | ⟨rfl, rfl⟩
    · exact absurd hq (by decide)
    · decide
    · exact absurd hq (by decide)
  · intro n p k hp hk
    rcases mid_plans hp with ⟨rfl, rfl⟩ | ⟨rfl, rfl⟩ | ⟨rfl, rfl⟩ <;> cases hk
    exact ⟨by decide, fun _ => by decide⟩
  · intro k hk
    have : k = 8 ∨ (mid.slot k).job = none := by
      revert hk
      revert k
      decide
    rcases this with rfl | hj
    · refine ⟨fun _ => by decide, fun n hn => ?_⟩
      cases hn
      exact ⟨_, rfl, rfl⟩
    · exact ⟨fun h => by simp [hj] at h, fun n hn => by simp [hj] at hn⟩
  · intro x hx n serial hk
    have : x = setItem 7 1 2 1 ∨
        x = { number := 9, patron := 1, kind := .cartridge 7 88, state := .awaitingLabel } := by
      simpa [mid] using hx
    rcases this with rfl | rfl <;> cases hk
    exact ⟨_, rfl, rfl, rfl⟩
  · intro n p item hp hi
    rcases mid_plans hp with ⟨rfl, rfl⟩ | ⟨rfl, rfl⟩ | ⟨rfl, rfl⟩ <;> cases hi
    exact ⟨_, List.mem_cons_of_mem _ (List.mem_cons_self ..), rfl, _, rfl⟩

theorem mid_holdsRight : mid.holdsRight := by
  refine ⟨fun e he => ?_, fun e he => ?_⟩
  · have : e = (1, tale) ∨ e = (2, { tome with copies := .item :: List.replicate 14 .absent, holds := [2] }) := by
      simpa [mid] using he
    rcases this with rfl | rfl
    · exact ⟨by decide, by simp [tale]⟩
    · refine ⟨by decide, fun k hk => ?_⟩
      have hk : k = 2 := by simpa using hk
      subst hk
      exact ⟨_, rfl, _, List.mem_cons_self .., rfl, rfl⟩
  · have : e = (1, { ann with cartCount := 4, setCount := 1, orders := [order 2 (.allocated 7 1)] }) ∨
        e = (2, { ann with number := 102, cartCount := 0, orders := [order 2 .hold] }) := by
      simpa [mid] using he
    rcases this with rfl | rfl
    · exact ⟨by decide, by decide, fun o ho hh => by
        have : o = order 2 (.allocated 7 1) := by simpa using ho
        subst this
        cases hh⟩
    · refine ⟨by decide, by decide, fun o ho _ => ?_⟩
      have : o = order 2 .hold := by simpa using ho
      subst this
      exact ⟨_, rfl, by decide⟩

theorem mid_images {n : Nat} {e : Image} (h : mid.image n = some e) :
    (n = 1 ∧ e = { image false 2 with filled := 0 }) ∨ (n = 3 ∧ e = { image true 0 with blocks := [2] }) := by
  have := Table.mem_of_look h
  simpa [mid] using this

theorem witness_StepKeepsPlansBound :
    (∃ t, step (mid.setPending [.clockTick]) = .next t) ∧ mid.shaped ∧ mid.ordered ∧ mid.plansBound :=
  ⟨⟨_, rfl⟩, mid_shaped.1, mid_shaped.2, mid_plansBound⟩

theorem witness_StepKeepsImagesPinned :
    (∃ t, step (mid.setPending [.clockTick]) = .next t) ∧ mid.shaped ∧ mid.ordered ∧ mid.plansBound ∧
      mid.holdsRight ∧ mid.imagesRight ∧ mid.pinsRight := by
  refine ⟨⟨_, rfl⟩, mid_shaped.1, mid_shaped.2, mid_plansBound, mid_holdsRight, ?_, by decide, by decide⟩
  refine ⟨by decide, by decide, by decide, by decide, by decide, fun t => ⟨fun h => ?_, ?_⟩, by decide, by decide,
    by decide, fun t => ⟨fun h => ?_, ?_⟩, by decide, by decide, fun f h => ?_, idle_banks⟩
  · have ht : t = 3 := by simpa [mid] using h
    subst ht
    exact ⟨_, rfl, rfl⟩
  · rintro ⟨e, he, hr⟩
    rcases mid_images he with ⟨rfl, rfl⟩ | ⟨rfl, rfl⟩
    · cases hr
    · decide
  · have ht : t = 1 := by simpa [mid, fetch] using h
    subst ht
    exact ⟨_, rfl, rfl⟩
  · rintro ⟨e, he, hr⟩
    rcases mid_images he with ⟨rfl, rfl⟩ | ⟨rfl, rfl⟩
    · decide
    · cases hr
  · have hn : mid.store.banks.flatMap Bank.liveFills = [] := by decide
    rw [hn] at h
    cases h

theorem witness_StepKeepsCountsRight :
    (∃ t, step (mid.setPending [.clockTick]) = .next t) ∧ mid.shaped ∧ mid.ordered ∧ mid.holdsRight ∧
      mid.plansBound ∧ mid.countsRight :=
  ⟨⟨_, rfl⟩, mid_shaped.1, mid_shaped.2, mid_holdsRight, mid_plansBound, by unfold State.countsRight; decide⟩

/-- R10, R91: the two plans and the set item of patron 1 go, the set to patron 2; no slot but the one unbound takes
anything. -/
theorem witness_PatronClosedAndReleased_counts :
    let c := Instr.patronClose 1 1
    after (exec c (asked c mid)) (fun t => decide ((t.patron 1).map (fun p => (p.cartCount, p.setCount)) = some (1, 0) ∧
      (t.title 2).bind (fun r => r.copies[0]?) = some .item ∧ t.planner.plans = [] ∧
      (t.slot 8).state = .preErase)) = true := by decide +kernel

/-! ## Mail Desk -/

def cartItem (n : Nat) (st : ItemState) : Item :=
  { number := n, patron := 1, kind := .cartridge 5 77, state := st }

/-- Item 3 waits for its pull, item 4 for its label, item 65,535 has one. -/
def tray : State :=
  (shop.setPlan 5 { plan5 with state := .mailing 4 }).setMail
    { shop.mail with
      tray := [setItem 3 1 2 1, cartItem 4 .awaitingLabel, { setItem 65535 1 2 2 with state := .labelled 30 noon }] }

theorem witness_MailRequestsAnswered :
    let a := Instr.shelfPulled 1 3
    let b := Instr.shelfPulled 1 4
    let c := Instr.mailLabel 1 0
    let d := Instr.mailLabel 1 65535
    let e := Instr.mailLabel 1 3
    let f := Instr.alarmPut 1 4 255 255 60
    let g := Instr.alarmPut 1 1 0 24 255
    (∀ x ∈ [a, b, c, d, e, f, g], Ready x (asked x tray)) ∧ tray.item 3 = some (setItem 3 1 2 1) ∧
      after (exec a (asked a tray)) (fun t =>
        decide (t.item 3 = some { setItem 3 1 2 1 with state := .awaitingLabel })) = true ∧
      answers (exec b (asked b tray)) ((asked b tray).formReply 0 { status := .state, fields := [] }) = true ∧
      tray.mail.tray.find? (fun y => decide (y.state = .awaitingLabel)) = some (cartItem 4 .awaitingLabel) ∧
      after (exec c (asked c tray)) (fun t => decide (t.item 4 = some (cartItem 4 (.labelled 31 noon)))) = true ∧
      after (exec d (asked d tray)) (fun t => decide (t.mail = tray.mail)) = true ∧
      answers (exec e (asked e tray)) ((asked e tray).formReply 0 { status := .state, fields := [] }) = true ∧
      after (exec f (asked f tray)) (fun t => decide (t.mail.alarms[3]? =
        some { weekdays := 0x7F#7, hour := none, minute := some 59 })) = true ∧
      after (exec g (asked g tray)) (fun t => decide (t.mail.alarms[0]? =
        some { weekdays := 0#7, hour := some 23, minute := none })) = true := by decide

def closing (sel : List Nat) (s : State) : State :=
  s.setMail { s.mail with close := some { selection := sel, date := 31, time := noon, anySet := false } }

/-- A cartridge item with another behind it, a set item alone, a close whose items were all withdrawn. -/
theorem witness_ItemsDispatched :
    let s := closing [4, 3] tray
    let u := closing [65535] (tray.setTitle 2 { tome with copies := .shelf :: .item :: List.replicate 13 .absent })
    let done := { Slot.bare with present := true, state := .done, cart := some (cart .written), doneItem := some (5, 4) }
    s.mail.close = some { selection := [4, 3], date := 31, time := noon, anySet := false } ∧
      s.item 4 = some (cartItem 4 .awaitingLabel) ∧ s.patron 1 = some ann ∧ s.loan 2 = none ∧ s.loan 1 ≠ none ∧
      (s.plan 5).isSome = true ∧
      after (exec .dispatchCartridgeItem (rack done s)) (fun t => decide (t.loan 2 = some
        { kind := .cartridge 77 [9001], patron := 1, overdue := false, dispatch := 31, due := 73, stage := 0 } ∧
        t.plan 5 = none ∧ (t.patron 1).map (·.history) = some [9001] ∧ (t.slot 8).dispatched = true ∧
        t.mail.tray.length = 2)) = true ∧
      (u.title 2).map (·.format) = some .pbraille ∧ u.item 65535 ≠ none ∧
      after (exec .dispatchSetItem u) (fun t => decide (t.loan 2 = some
        { kind := .set 2 2 2 [], patron := 1, overdue := false, dispatch := 31, due := 87, stage := 0 } ∧
        (t.title 2).bind (fun r => r.copies[1]?) = some (.loan 2) ∧ t.mail.close = none)) = true ∧
      (let hungry := { ann with deferral := .fillLow, orders := [order 1 (.planned 5), order 9 .waiting] }
       after (exec .dispatchCartridgeItem (rack done (s.setPatron 1 hungry))) (fun t =>
        decide ((t.patron 1).map (fun q => (q.orders, q.deferral)) = some ([order 9 .waiting], .none)))) = true ∧
      (let hungry := { ann with orders := [order 2 (.allocated 65535 2), order 9 .waiting] }
       after (exec .dispatchSetItem (u.setPatron 1 hungry)) (fun t =>
        decide ((t.patron 1).map (·.orders) = some [order 9 .waiting]))) = true ∧
      after (exec .dispatchSetItem (closing [] shop)) (fun t => decide (t.mail = shop.mail ∧
        t.link.events.main.getLsbD Flag.pickupEmpty.bit = true)) = true ∧
      shop.dueDate false 73007 = 73048 ∧ shop.dueDate false 73006 = 73048 ∧ shop.dueDate true 0 = 56 := by
  decide +kernel

/-- The last selected item goes: the close stored with three and with four manifests before it, the batch numbers 1 after
65,535, and the set limit's sweep; a waiting close held, dropped, begun and empty. -/
theorem witness_ItemsDispatched_end :
    let s := closing [65535] ((tray.setTitle 2 { tome with copies := .shelf :: .item :: List.replicate 13 .absent,
                                                           holds := [2] }).setPatron 2
      { ann with number := 102, orders := [order 2 .hold] })
    let kept (n last : Nat) (s : State) : State :=
      s.setMail { s.mail with manifests := (List.range n).map batch, lastBatch := last }
    let entry : ManifestEntry := { item := 65535, patronNumber := 101, what := .inr (9002, 2), loan := 2 }
    let stored (n : Nat) : Manifest := { number := n, date := 31, time := noon, entries := [entry] }
    let behind (s : State) : State := s.setMail { s.mail with waitingClose := true }
    let labelled (s : State) : State := s.setMail { s.mail with
      tray := s.mail.tray ++ [{ setItem 8 1 2 3 with state := .labelled 30 noon }] }
    let runs (s : State) (q : State → Bool) : Bool := after (exec .dispatchSetItem s) q
    s.shaped ∧ s.ordered ∧ s.numbered ∧ s.item 65535 ≠ none ∧ s.patron 1 = some ann ∧
      runs (kept 3 7 s) (fun t => decide (t.mail.manifests = [batch 0, batch 1, batch 2, stored 8] ∧
        t.mail.lastBatch = 8 ∧ t.mail.openBatch = none ∧ t.mail.close = none ∧ raised .batchClosed t = true ∧
        t.item 1 = some (setItem 1 2 2 1))) = true ∧
      runs (kept 4 65535 s) (fun t => decide (t.mail.manifests = [batch 1, batch 2, batch 3, stored 1] ∧
        t.mail.lastBatch = 1)) = true ∧
      runs (kept 4 65534 s) (fun t => decide (t.mail.lastBatch = 65535)) = true ∧
      runs (rolling .deferrals (behind s)) (fun t => decide (t.mail.close = none ∧ t.mail.heldClose = true ∧
        t.mail.waitingClose = false)) = true ∧
      runs ((behind (labelled s)).setClock { day := 73048, time := noon, running := false, prescaler := 0 }) (fun t =>
        decide (t.mail.close = none ∧ t.mail.heldClose = false ∧ t.mail.waitingClose = false ∧
          raised .pickupEmpty t = false)) = true ∧
      runs (behind (labelled s)) (fun t => decide (t.mail.waitingClose = false ∧ t.mail.close = some
        { selection := [8], date := 31, time := noon, anySet := false })) = true ∧
      runs (behind s) (fun t => decide (t.mail.close = none ∧ t.mail.waitingClose = false ∧
        raised .pickupEmpty t = true)) = true := by
  unfold State.shaped State.ordered State.numbered
  decide +kernel

/-- A close whose items left are withdrawn, with a batch open, at either command; one item going while another remains, the
whole state; the read history at its size. -/
theorem witness_ItemsDispatched_rest :
    let s := closing [] (shop.setMail { shop.mail with openBatch := some (batch 9) })
    let out := (shop.setMail { shop.mail with manifests := [batch 9] }).raise .batchClosed
    let u := closing [65535, 4] (tray.setTitle 2 { tome with copies := .shelf :: .item :: List.replicate 13 .absent })
    let loan : Loan := { kind := .set 2 2 2 [], patron := 1, overdue := false, dispatch := 31, due := 87, stage := 0 }
    let entry : ManifestEntry := { item := 65535, patronNumber := 101, what := .inr (9002, 2), loan := 2 }
    answers (exec .dispatchCartridgeItem s) out = true ∧ answers (exec .dispatchSetItem s) out = true ∧
      answers (exec .dispatchSetItem u) ((u.setRecords { u.records with
        patrons := [(1, { ann with history := [9002], lastService := some 31 })],
        titles := [(1, tale), (2, { tome with copies := .shelf :: .loan 2 :: List.replicate 13 .absent })],
        loans := [(1, loan1), (2, loan)] }).setMail { u.mail with
          tray := [setItem 3 1 2 1, cartItem 4 .awaitingLabel],
          close := some { selection := [4], date := 31, time := noon, anySet := true },
          openBatch := some { number := 1, date := 31, time := noon, entries := [entry] }, lastBatch := 1 }) = true ∧
      historyAdd (List.range 48) 47 = List.range 48 ∧
      historyAdd (List.range 48) 0 = (List.range 48).tail ++ [0] ∧
      historyAdd (List.range 48) 99 = (List.range 48).tail ++ [99] ∧
      historyAdd (List.range 47) 99 = List.range 47 ++ [99] := by decide +kernel

/-! ## Returns Desk -/

def inReader (present : Bool) (st : ReaderState) (identifying : Bool) (s : State) : State :=
  s.setReturns { s.returns with present := present, reader := st, identifying := identifying }

theorem witness_ReaderReadsReturns :
    let r := inReader true .reading true shop
    let bin : BinEntry := { serial := none, reason := .unknown, date := 1 }
    let full := r.setReturns { r.returns with inspect := List.replicate 39 bin }
    let away := (inReader true .reading true shop).setLoan 1 { loan1 with patron := 1 }
    shop.returns.reader = .empty ∧
      answers (exec .readerInsert shop) r = true ∧
      answers (exec .readerInsert (inReader false .result false shop)) (inReader true .result false shop) = true ∧
      answers (exec .readerRemove r) shop = true ∧
      after (exec .readerRemove (inReader true .pendingRoll true shop)) (fun t =>
        decide (t.returns.removed = true ∧ t.returns.reader = .pendingRoll)) = true ∧
      answers (exec (.readerReadTimeout 1999) r) r = true ∧
      after (exec (.readerReadTimeout 2000) r) (fun t =>
        decide (t.returns.inspect = [{ serial := none, reason := .unreadable, date := 31 }])) = true ∧
      shop.returns.identifying = false ∧ answers (exec (.readerIdentityDone true identArea) shop) shop = true ∧
      identityOf false [] = none ∧ full.returns.inspect.length = 39 ∧
      after (exec (.readerIdentityDone false []) full) (fun t =>
        decide (t.link.events.main.getLsbD Flag.binFull.bit = true ∧ t.returns.inspect.length = 40)) = true ∧
      identityOf true identArea = some { serial := 77, cls := .c2, cycles := 3, tab := false } ∧
      away.binned 77 = false ∧ away.serialItem 77 = none ∧ away.serialSlot 77 (fun _ => true) = none ∧
      away.serialLoan 77 = some (1, loan1) ∧ away.patron 1 = some ann ∧ (rolling .deferrals away).rolling = true ∧
      after (exec (.readerIdentityDone true identArea) (rolling .deferrals away)) (fun t =>
        decide (t.returns.reader = .pendingRoll ∧ t.returns.kept = identityOf true identArea ∧ t.returns.pending.map (·.serial) = some 77)) = true ∧
      away.rolling = false ∧
      after (exec (.readerIdentityDone true identArea) away) (fun t => decide (t.loan 1 = none ∧
        t.patron 1 = some { ann with cartCount := 0 } ∧ t.returns.reader = .result ∧
        t.returns.kept = identityOf true identArea ∧ t.returns.reuse = [{ serial := some 77, reason := .checkedIn, date := 31 }])) = true := by decide +kernel

/-- R135, R137, R138: every outcome of a good read, in rooms and full bins. -/
theorem witness_ReaderReadsReturns_outcomes :
    let r := inReader true .reading true (shop.setRecords { shop.records with loans := [] })
    let bin : BinEntry := { serial := none, reason := .unknown, date := 1 }
    let full (b : BinName) (s : State) : State := s.setReturns (s.returns.setBin b (List.replicate 40 bin))
    let late := r.setLost [{ kind := .cartridge 77, patron := 9, date := 5 }]
    let area (cycles : Nat) := u32 77 ++ u8 2 ++ u8 0 ++ u16 0 ++ u32 cycles
    let shows (cycles : Nat) (s : State) (o : ReturnOutcome) (b : Option BinName) (spill : Bool) : Bool :=
      after (exec (.readerIdentityDone true (area cycles)) s) (fun t => decide (
        t.returns.result.map (fun x => (x.outcome, x.bin, x.spill)) = some (o, b, spill) ∧ t.records.lost = [] ∧
        t.link.events.main.getLsbD Flag.returnRead.bit = true))
    identityOf true (area 3) = identityOf true identArea ∧ r.rolling = false ∧ r.related 77 = false ∧
      late.lostSerial 77 = some { kind := .cartridge 77, patron := 9, date := 5 } ∧ late.serialLoan 77 = none ∧
      shows 9999 r .unknown (some .inspect) false = true ∧ shows 10000 r .worn (some .inspect) false = true ∧
      shows 3 (full .inspect r) .noBin none false = true ∧ shows 3 (full .reuse r) .unknown (some .inspect) false = true ∧
      shows 3 late .late (some .reuse) false = true ∧ shows 10000 late .worn (some .inspect) false = true ∧
      shows 3 (full .reuse late) .late (some .inspect) true = true ∧
      shows 3 (full .inspect (full .reuse late)) .noBin none true = true ∧
      after (exec (.readerIdentityDone true (area 3)) (rolling .deferrals late)) (fun t =>
        decide (t.returns.reader = .pendingRoll ∧ t.records.lost = late.records.lost)) = true ∧
      shows 3 (r.setReturns { r.returns with reuse := [{ bin with serial := some 77 }] }) .alreadyBinned none false = true ∧
      shows 3 (r.setSlot 8 { Slot.bare with state := .fault, cart := some (cart .dirty) }) .conflict none false = true ∧
      shows 3 (r.setMail { r.mail with
        tray := [{ number := 4, patron := 1, kind := .cartridge 5 77, state := .awaitingLabel }] }) .conflict none
          false = true := by decide +kernel

/-- A set of two volumes, one returned: on loan 20,480, and written off. -/
theorem witness_VolumesReturnedAndBinsTaken :
    let l := { loan1 with kind := .set 2 1 2 [2] }
    let s := shop.setLoan 20480 l
    let v := (shop.setTitle 2 { tome with copies := .missing :: List.replicate 14 .absent }).setLost
      [{ kind := .set 2 1 2 [], patron := 1, date := 5 }]
    let a := Instr.returnVolumeLoan 1 20480 2
    let b := Instr.returnVolumeLoan 1 20480 1
    let c := Instr.returnVolumeLate 1 2 1 1
    let bin : BinEntry := { serial := some 9, reason := .unknown, date := 1 }
    let d := Instr.binTake 1 1 255
    let e := Instr.binTake 1 2 0
    let full := shop.setReturns { shop.returns with reuse := List.replicate 40 bin }
    (∀ x ∈ [a, b, c, d, e], Ready x (asked x s) ∧ Ready x (asked x v) ∧ Ready x (asked x full)) ∧
      s.loan 20480 = some l ∧ s.rolling = false ∧
      after (exec a (asked a s)) (fun t => decide (t.loan 20480 = some l)) = true ∧
      after (exec b (asked b (shop.setLoan 20480 { l with kind := .set 2 1 2 [] }))) (fun t =>
        decide (t.loan 20480 = some { l with kind := .set 2 1 2 [1] })) = true ∧
      after (exec b (asked b (s.setTitle 2 { tome with copies := .loan 20480 :: List.replicate 14 .absent })))
        (fun t => decide (t.loan 20480 = none ∧ t.title 2 = some tome)) = true ∧
      v.records.lost.find? (fun x => x.isCopy 2 1) = some { kind := .set 2 1 2 [], patron := 1, date := 5 } ∧
      after (exec c (asked c v)) (fun t => decide (t.records.lost =
        [{ kind := .set 2 1 2 [1], patron := 1, date := 5 }])) = true ∧
      after (exec c (asked c (v.setLost [{ kind := .set 2 1 2 [2], patron := 1, date := 5 }]))) (fun t =>
        decide (t.records.lost = [] ∧ t.title 2 = some tome)) = true ∧
      after (exec d (asked d full)) (fun t => decide (t.returns.reuse = [])) = true ∧
      after (exec e (asked e full)) (fun t => decide (t.returns = full.returns)) = true := by decide +kernel

/-- R154: a read begun at a start while a pending result stands: the same cartridge, another, a bad read, and 2 ms. -/
theorem witness_ReaderReadsReturns_start :
    let pend : Pending := { serial := 77, cls := .c2, cycles := 3, date := 30, time := noon }
    let r : Returns := { shop.returns with
      present := true, reader := .pendingRoll, identifying := true, pending := some pend }
    let s := shop.setReturns r
    let other := u32 78 ++ u8 2 ++ u8 0 ++ u16 0 ++ u32 3
    let gone (k : Option Identity) (b : Bool) : State :=
      shop.setReturns { r with identifying := false, kept := k, removed := b }
    identityOf false identArea = none ∧ (identityOf true other).map (·.serial) = some 78 ∧
      answers (exec (.readerIdentityDone true identArea) s) (gone (identityOf true identArea) false) = true ∧
      answers (exec (.readerIdentityDone true other) s) (gone (identityOf true other) true) = true ∧
      answers (exec (.readerIdentityDone false identArea) s) (gone none true) = true ∧
      answers (exec (.readerReadTimeout 1999) s) s = true ∧
      answers (exec (.readerReadTimeout 2000) s) (gone none true) = true := by decide +kernel

/-! ## Calendar -/

def stopped (day : Nat) (time : TimeOfDay) : State :=
  shop.setClock { day := day, time := time, running := false, prescaler := 0 }

theorem witness_CalendarRequestsServed :
    let a := Instr.clockStop 1
    let b := Instr.clockSet 1 2199 12 31 23 59 59
    let c := Instr.clockStart 1
    let d := Instr.closedDayPutUsed 1 24 255 31 6
    let e := Instr.closedDayPutUsed 1 1 12 255 255
    let f := Instr.closedDayPutClear 1 24
    let g := Instr.remindersRead 1
    let s := stopped 31 noon
    (∀ x ∈ [a, b, c, d, e, f, g], Ready x (asked x s) ∧ Ready x (asked x shop)) ∧ shop.calendar.roll = none ∧
      after (exec a (asked a shop)) (fun t => decide (t.calendar.clock = s.calendar.clock)) = true ∧
      answers (exec a (asked a s)) ((asked a s).replied 0 (dateField 31 ++ timeField noon)) = true ∧
      answers (exec b (asked b shop)) ((asked b shop).formReply 0 { status := .clockRunning, fields := [] }) =
        true ∧
      validDate 2199 12 31 = true ∧
      after (exec b (asked b s)) (fun t => decide (t.calendar.clock.day = 73048)) = true ∧
      s.calendar.clock.atEnd = false ∧
      after (exec c (asked c s)) (fun t => decide (t.calendar.clock.running = true ∧
        t.calendar.clock.prescaler = 1 ∧ t.rolling = false)) = true ∧
      after (exec c (asked c (stopped 33 noon))) (fun t => decide (t.rolling = true)) = true ∧
      after (exec d (asked d s)) (fun t => decide (t.calendar.closedDays[23]? =
        some (some { month := none, day := some 31, weekday := some 6 }))) = true ∧
      after (exec f (asked f s)) (fun t => decide (t.calendar.closedDays[23]? = some none)) = true := by
  decide +kernel

def ticking (day h m se : Nat) : State :=
  shop.setClock { day := day, time := { hour := h, minute := m, second := se }, running := true, prescaler := 2 }

/-- The roll time is 02:00, the alarm of the statement at the same minute of every day; item 65,535 is labelled. -/
def alarmed (h m : Nat) (s : State) : State :=
  s.setMail { s.mail with
    alarms := [{ weekdays := 0x7F#7, hour := some h, minute := some m }, .disabled, .disabled, .disabled],
    tray := [{ setItem 65535 1 2 2 with state := .labelled 30 noon }] }

theorem witness_ClockTicks :
    let s := ticking 32 1 58 59
    let r := ticking 32 1 59 59
    answers (exec .clockTick (stopped 31 noon)) (stopped 31 noon) = true ∧
      answers (exec .clockTick (ticking 31 23 59 58)) (ticking 31 23 59 59) = true ∧
      (ticking 73048 23 59 58).calendar.clock.advance.atEnd = true ∧
      after (exec .clockTick (ticking 73048 23 59 58)) (fun t =>
        decide (t.calendar.clock.running = false)) = true ∧
      (∀ r ∈ [RunState.running, .resetHeld, .off],
        after (exec .clockTick (((ticking 73048 23 59 58).setEvents Events.clear).setRun r)) (fun t =>
          decide (t.calendar.clock.running = false ∧
            t.link.events.main.getLsbD Flag.clockStopped.bit = decide (r ≠ .off))) = true) ∧
      answers (exec .clockTick ((ticking 31 23 59 59).setRun .off)) ((ticking 32 0 0 0).setRun .off) = true ∧
      after (exec .clockTick s) (fun t => decide (t.calendar.within60 = true ∧
        t.link.events.main.getLsbD Flag.rollSoon.bit = true)) = true ∧
      after (exec .clockTick r) (fun t => decide (t.calendar.roll.map (·.date) = some 32)) = true ∧
      after (exec .clockTick (alarmed 3 0 (ticking 31 2 59 59))) (fun t =>
        decide (t.mail.close = some
          { selection := [65535], date := 31, time := { noon with hour := 3 }, anySet := false })) = true ∧
      after (exec .clockTick (rolling .deferrals (alarmed 3 0 (ticking 31 2 59 59)))) (fun t =>
        decide (t.mail.heldClose = true)) = true ∧
      after (exec .clockTick ((alarmed 3 0 (ticking 31 2 59 59)).setMail
        { (alarmed 3 0 shop).mail with tray := [] })) (fun t =>
        decide (t.link.events.main.getLsbD Flag.pickupEmpty.bit = true)) = true ∧
      after (exec .clockTick (closing [65535] (alarmed 3 0 (ticking 31 2 59 59)))) (fun t =>
        decide (t.mail.waitingClose = true ∧ t.mail.heldClose = false)) = true ∧
      (closing [65535] (alarmed 2 0 r)).mail.close ≠ none ∧
      (alarmed 2 0 r).mail.close = none ∧ (alarmed 2 0 r).labelled = [65535] ∧
      (alarmed 2 0 r).mail.alarms.any (fun a => a.fires 32 2 0) = true := by decide +kernel

theorem witness_RollStepsWalkTheRecords :
    let s (due : Nat) (p : RollPlace) := rolling p (shop.setLoan 1 { loan1 with due := due })
    let back := { ann with state := .paused, pauseUntil := some 31 }
    let gone := { ann with state := .closed }
    let p := rolling (.patrons 1) (shop.setPatron 1 back)
    let q := rolling (.patrons 1) ((shop.setRecords { shop.records with loans := [] }).setPatron 1 gone)
    (s 31 (.loans 1)).loanFrom 1 = some 1 ∧
      after (exec .rollLoanStep (s 31 (.loans 1))) (fun t => decide (t.loan 1 = some { loan1 with due := 31 })) =
        true ∧
      after (exec .rollLoanStep (s 10 (.loans 1))) (fun t => decide (t.loan 1 =
        some { loan1 with due := 10, overdue := true, stage := 2 } ∧ t.calendar.reminders.length = 2)) = true ∧
      after (exec .rollLoanStep ((s 10 (.loans 1)).setCalendar { (s 10 (.loans 1)).calendar with
          roll := some { date := 100, place := .loans 1 } })) (fun t => decide (t.loan 1 = none ∧
        t.records.lost = [{ kind := .cartridge 77, patron := 1, date := 100 }] ∧
        (t.patron 1).map (·.cartCount) = some 0)) = true ∧
      p.rollPatronFrom 31 1 = some 1 ∧
      after (exec .rollPatronStep p) (fun t => decide (t.patron 1 = some ann)) = true ∧
      q.rollPatronFrom 31 1 = some 1 ∧ q.records.patrons.rising = true ∧
      after (exec .rollPatronStep q) (fun t => decide (t.patron 1 = none)) = true ∧
      after (exec .rollDeferralClear (rolling .deferrals (shop.setPatron 1 { ann with deferral := .fillLow })))
        (fun t => decide (t.patron 1 = some ann)) = true ∧
      after (exec .rollFinish (rolling .finish shop)) (fun t => decide (t.rolling = false ∧
        t.calendar.lastRoll = some 31 ∧ t.calendar.follow = .trigger)) = true ∧
      shop.calendar.roll = none ∧ answers (exec .rollFinish shop) shop = true := by decide +kernel

/-- The roll passes on: to a loan there is, to the patrons, to the deferrals; a Reminder List with room for one. -/
theorem witness_RollStepsWalkTheRecords_passing :
    let due10 := rolling (.loans 1) (shop.setLoan 1 { loan1 with due := 10 })
    let r : Reminder := { loan := 9, patron := 9, stage := 1, date := 1 }
    let full (n : Nat) := due10.setCalendar { due10.calendar with reminders := List.replicate n r }
    let back := shop.setPatron 1 { ann with state := .paused, pauseUntil := some 31 }
    let place (s : State) : Option RollPlace := s.calendar.roll.map (·.place)
    place (shop.setRoll 31 (.loans 1)) = some (.loans 1) ∧ place (shop.setRoll 31 (.loans 2)) = some .deferrals ∧
      place (back.setRoll 31 (.loans 2)) = some (.patrons 1) ∧ place (back.setRoll 31 (.patrons 1)) = some (.patrons 1) ∧
      place (back.setRoll 30 (.patrons 1)) = some .deferrals ∧ place (back.setRoll 31 (.patrons 2)) = some .deferrals ∧
      (rolling (.loans 2) back).loanFrom 2 = none ∧
      after (exec .rollLoanStep (rolling (.loans 2) back)) (fun t => decide (place t = some (.patrons 1))) = true ∧
      (rolling (.patrons 2) back).rollPatronFrom 31 2 = none ∧
      after (exec .rollPatronStep (rolling (.patrons 2) back)) (fun t => decide (place t = some .deferrals)) = true ∧
      after (exec .rollLoanStep (full 63)) (fun t => decide (t.calendar.reminders.length = 64 ∧
        (t.loan 1).map (·.stage) = some 1)) = true ∧
      after (exec .rollLoanStep (full 64)) (fun t => decide (t.calendar.reminders.length = 64 ∧
        (t.loan 1).map (fun l => (l.stage, l.overdue)) = some (0, true))) = true := by decide +kernel

theorem witness_WorkFollowsTheRoll :
    let f (x : Follow) (s : State) := s.setCalendar { s.calendar with follow := x }
    let pend : Pending := { serial := 77, cls := .c2, cycles := 3, date := 30, time := noon }
    let h := f .heldClose ((alarmed 3 0 shop).setMail { (alarmed 3 0 shop).mail with heldClose := true })
    let p := f .pendingResult (shop.setReturns
      { shop.returns with present := true, reader := .pendingRoll, pending := some pend })
    after (exec .rollEndPlanningTrigger (f .trigger eager)) (fun t => decide (t.calendar.follow = .nothing)) = true ∧
      answers (exec .rollEndPlanningTrigger shop) shop = true ∧
      h.today ≠ 73048 ∧ h.rolling = false ∧ h.mail.close = none ∧ h.labelled = [65535] ∧
      after (exec .heldCloseRelease h) (fun t => decide (t.mail.close.isSome = true ∧ t.mail.heldClose = false ∧
        t.calendar.follow = .nothing)) = true ∧
      after (exec .heldCloseRelease (h.setClock { day := 73048, time := noon, running := true, prescaler := 2 }))
        (fun t => decide (t.mail.close = none ∧ t.mail.heldClose = false)) = true ∧
      answers (exec .heldCloseRelease shop) shop = true ∧
      answers (exec .pendingResultComplete shop) shop = true ∧
      p.serialSlot 77 (fun _ => true) = none ∧ p.serialLoan 77 = some (1, loan1) ∧ p.patron 1 = some ann ∧
      p.records.patrons.rising = true ∧ p.records.loans.rising = true ∧
      after (exec .pendingResultComplete p) (fun t => decide (t.loan 1 = none ∧ t.returns.pending = none ∧
        t.returns.reader = .result ∧ t.calendar.follow = .nothing ∧
        t.patron 1 = some { ann with cartCount := 0 })) = true := by decide +kernel

/-- R123, R172: the held close behind a close in progress, in the next roll, and with nothing LABELLED. -/
theorem witness_WorkFollowsTheRoll_close :
    let f (x : Follow) (s : State) : State := s.setCalendar { s.calendar with follow := x }
    let h := f .heldClose ((alarmed 3 0 shop).setMail { (alarmed 3 0 shop).mail with heldClose := true })
    let busy := closing [65535] h
    let bare := h.setMail { h.mail with tray := [] }
    let rolls := rolling .deferrals h
    h.returns.pending = none ∧
      answers (exec .heldCloseRelease busy) (f .nothing (busy.setMail
        { busy.mail with heldClose := false, waitingClose := true })) = true ∧
      answers (exec .heldCloseRelease rolls) (f .nothing rolls) = true ∧
      answers (exec .heldCloseRelease bare) ((f .nothing (bare.setMail { bare.mail with heldClose := false })).raise
        .pickupEmpty) = true ∧
      answers (exec .rollEndPlanningTrigger (f .trigger h)) h = true ∧
      answers (exec .pendingResultComplete (f .pendingResult shop)) shop = true := by decide +kernel

/-- R141, R142, R154: every outcome of a pending result, in the bins, the reader and the records. -/
theorem witness_WorkFollowsTheRoll_outcomes :
    let pend (cycles : Nat) : Pending := { serial := 77, cls := .c2, cycles := cycles, date := 30, time := noon }
    let base := shop.setRecords { shop.records with loans := [] }
    let pending (cycles : Nat) (s : State) : State := (s.setReturns { s.returns with
      present := true, reader := .pendingRoll, pending := some (pend cycles) }).setCalendar
        { s.calendar with follow := .pendingResult }
    let bin : BinEntry := { serial := none, reason := .unknown, date := 1 }
    let full (b : BinName) (n : Nat) (s : State) : State := s.setReturns (s.returns.setBin b (List.replicate n bin))
    let late := base.setLost [{ kind := .cartridge 77, patron := 9, date := 5 }]
    let shows (cycles : Nat) (s : State) (o : ReturnOutcome) (b : Option BinName) (spill : Bool) (held : Option Nat) : Bool :=
      after (exec .pendingResultComplete (pending cycles s)) (fun t => decide (
        t.returns.result.map (fun x => (x.outcome, x.bin, x.spill, x.heldBy)) = some (o, b, spill, held) ∧
        t.records.lost = [] ∧ t.returns.pending = none ∧ t.returns.reader = .result ∧ t.calendar.follow = .nothing ∧
        raised .returnRead t = true))
    let holds (n : Nat) (s : State) : State := s.setSlot n (holding .fault .c2 3 .dirty)
    let reader (present removed identifying : Bool) (x : ReaderState) (again : Bool) : Bool :=
      let s := pending 3 base
      after (exec .pendingResultComplete (s.setReturns { s.returns with
          present := present, removed := removed, identifying := identifying, kept := identityOf true identArea }))
        (fun t => decide (t.returns.reader = x ∧ t.returns.identifying = again ∧ t.returns.removed = false ∧
          t.returns.kept = if x = .result then identityOf true identArea else none))
    shows 9999 base .unknown (some .inspect) false none ∧ shows 10000 base .worn (some .inspect) false none ∧
      shows 3 late .late (some .reuse) false none ∧ shows 10000 late .worn (some .inspect) false none ∧
      shows 3 (full .reuse 39 late) .late (some .reuse) false none ∧
      shows 3 (full .reuse 40 late) .late (some .inspect) true none ∧
      shows 3 (full .inspect 40 (full .reuse 40 late)) .noBin none true none ∧
      shows 3 (full .inspect 40 base) .noBin none false none ∧
      shows 3 (holds 8 (holds 4 base)) .unknown none false (some 4) ∧
      shows 3 (holds 8 late) .late none false (some 8) ∧
      shows 3 (base.setReturns { base.returns with reuse := [{ bin with serial := some 77 }] }) .unknown (some .inspect)
        false none ∧
      shows 3 (base.setMail { base.mail with tray := [cartItem 4 .awaitingLabel] }) .unknown (some .inspect) false none ∧
      after (exec .pendingResultComplete (pending 3 (holds 8 shop))) (fun t => decide (t.loan 1 = none ∧
        (t.patron 1).map (·.cartCount) = some 0 ∧
        t.returns.result.map (fun x => (x.outcome, x.heldBy)) = some (.checkedIn, some 8))) = true ∧
      after (exec .pendingResultComplete (pending 3 (full .inspect 39 base))) (fun t => raised .binFull t) = true ∧
      reader true false false .result false ∧ reader true true false .reading true ∧
      reader false true false .empty false ∧ reader true false true .reading true := by decide +kernel

/-- The states above have the shape, the order, the numbers and the clock the statements ask for. -/
theorem witness_shapes :
    ∀ s ∈ [shop, jobs, held, leaving, tray, closing [4, 3] tray, filling .waiting, lastFrame 7#32 0 true 74,
        reading .deliver false, ticking 31 23 59 58, ticking 73048 23 59 58, alarmed 2 0 (ticking 32 1 59 59)],
      s.shaped ∧ s.ordered ∧ s.numbered ∧ s.calendar.clock.right := by
  unfold State.shaped State.ordered State.numbered Clock.right
  decide +kernel

/-! ## The manual's worked cases -/

def audio (catalogue pages : Nat) : Title := { tale with catalogue := catalogue, pages := pages }

/-- 3.3, the first case: three titles on a C4 at fill 675, and T3 oversize. -/
theorem test_worked_packing :
    let p := { ann with orders := [order 1 .waiting, order 2 .hold, order 3 .waiting, order 4 .waiting,
      order 5 .waiting, order 6 .waiting] }
    let s := shop.setRecords { shop.records with
      titles := [(1, audio 1 3500000), (2, tome), (3, audio 3 9000000),
        (4, { audio 4 40000 with format := .ebraille }), (5, audio 5 5200000), (6, audio 6 2100000)] }
    let q := { p with media := { audio := true, ebraille := true, pbraille := true } }
    let plan := planOf 1 (s.pack q).taken
    (s.pack q).oversize = [3] ∧ plan.cls = .c4 ∧ plan.used = 11017 ∧ plan.fill = 675 ∧
      plan.placements.map (fun x => (x.title, x.start, x.blocks)) =
        [(1, 1, 6836), (4, 6837, 79), (6, 6916, 4102)] := by decide +kernel

/-- 3.3, the last case: 8,159 blocks fit a C2 at fill 1000, and 8,160 need a C4 at fill 500. -/
theorem test_worked_fit :
    planClass (blockSize 4177408) = .c2 ∧ fillOf 8159 .c2 = 1000 ∧ planClass (blockSize 4177409) = .c4 ∧
      fillOf 8160 .c4 = 500 := by decide

/-- 5.5: the erase set of a C4 used to block 11,017 is 346 group erases and 10 block erases. -/
theorem test_worked_erase_set :
    extentOps .c4 11017 = 356 ∧ extentErase .c4 11017 343 = .eraseGroup 343 ∧
      extentErase .c4 11017 344 = .eraseBlock 11008 ∧ extentErase .c4 11017 353 = .eraseBlock 11017 ∧
      extentErase .c4 11017 354 = .eraseGroup 510 ∧ extentErase .c4 11017 355 = .eraseGroup 511 := by decide

/-- 10.6: the stamp of count 4,218 on a C4 dated 2030-03-29, word by word. -/
theorem test_worked_stamp :
    let page := stampPage .c4 4218 (dayNumber 2030 3 29)
    [leAt page 0 4, leAt page 4 4, leAt page 8 4, leAt page 12 4, leAt page 16 4] =
      [0x5A3C96A5, 0x00000401, 0x0000107A, 0x1D0307EE, 0x773FB30E] := by decide +kernel

/-- 8.4: a due date of 2030-03-28 moved to the 29th; a set's, 2030-04-11, stands; every day closed adds 14. -/
theorem test_worked_due_date :
    let entry (m d w : Option Nat) : Option ClosedDay := some { month := m, day := d, weekday := w }
    let s := shop.setCalendar { shop.calendar with
      closedDays := entry (some 3) (some 28) none :: entry none none (some 6) :: List.replicate 22 none }
    let t := shop.setCalendar { shop.calendar with
      closedDays := entry none none none :: List.replicate 23 none }
    dayNumber 2030 1 1 = 10958 ∧ s.dueDate false (dayNumber 2030 2 14) = 11045 ∧
      s.dueDate true (dayNumber 2030 2 14) = 11058 ∧
      t.dueDate false (dayNumber 2030 2 14) = dayNumber 2030 4 11 := by decide +kernel

/-- 4.9: four completions of one bank, a fill write first, then slots 7 and 2 after slot 5. -/
theorem test_worked_bank :
    let read (slot : Nat) : ReadOp := { slot := slot, block := 65536, place := 0, fate := .dropped }
    let fill : FillOp :=
      { fetch := 21, title := 1, frame := 0, block := 65536, place := 0, data := [], live := true }
    let s0 := (shop.setBank 2 { Bank.idle with current := some (.read (read 5)), lastServed := 5 }
      |>.handRead (read 2) |>.handFill fill |>.handRead (read 7))
    let s1 := s0.grantNext 2
    let s2 := s1.grantNext 2
    let s3 := s2.grantNext 2
    (s1.bank 2).current = some (.fill fill) ∧ (s1.bank 2).lastServed = 5 ∧
      (s2.bank 2).current = some (.read (read 7)) ∧ (s2.bank 2).lastServed = 7 ∧
      (s3.bank 2).current = some (.read (read 2)) ∧ (s3.bank 2).lastServed = 2 ∧
      ((s3.grantNext 2).bank 2).current = none := by decide

/-- 9.7: a frame that lost its last byte swallows the sync of the next; both sound frames are recovered. -/
theorem test_worked_stream :
    let broken := (frameBytes 0x52 21 []).dropLast
    let bytes := broken ++ frameBytes 0x52 22 [] ++ frameBytes 0x52 23 []
    after (exec (.frameReceive bytes) shop) (fun t => decide (t.link.queue = []) &&
      after (exec .frameDiscard t) (fun u => decide (u.link.queue.map (·.tag) = [22, 23] ∧
        u.link.frame = [] ∧ u.link.events.main.getLsbD Flag.linkFault.bit = true))) = true := by decide +kernel

/-- 2.5: ORDER MOVE from 2 to 9 of a list of five puts the entry last. -/
theorem test_worked_move :
    let l := [order 25 .waiting, order 12 .waiting, order 31 .waiting, order 40 .hold, order 7 (.planned 118)]
    let c := Instr.orderMove 1 1 2 9
    after (exec c (asked c (shop.setPatron 1 { ann with orders := l }))) (fun t => decide
      ((t.patron 1).map (fun p => p.orders.map (·.title)) = some [25, 31, 40, 7, 12] ∧
        (t.link.queue[0]?).map (·.stage) = some (.formed [0, 5, 12, 0]))) = true := by decide

/-- 2.6: P5 is PAUSED and P9 at its limit, so P14 takes copy 1 on item 2,210. -/
theorem test_worked_sweep :
    let s := (shop.setRecords { shop.records with
      patrons := [(5, { ann with state := .paused }), (9, { ann with number := 109, setCount := 2 }),
        (14, { ann with number := 114, setLimit := 1, orders := [order 40 .hold] })],
      titles := [(40, { tome with copies := .shelf :: .loan 311 :: List.replicate 13 .absent, holds := [5, 9, 14] })]
      }).setMail { shop.mail with lastItem := 2209 }
    let t := s.sweep [40]
    (t.title 40).map (·.holds) = some [5, 9] ∧ t.mail.tray = [setItem 2210 14 40 1] ∧
      (t.patron 14).map (·.orders) = some [order 40 (.allocated 2210 1)] ∧
      (t.patron 14).map (·.setCount) = some 1 ∧ t.link.events.main.getLsbD Flag.holdFilled.bit = true := by decide

/-- 6.8: the weekday alarms of Friday 2030-03-29 and the hourly one of the Saturday after. -/
theorem test_worked_alarms :
    let a1 : Alarm := { weekdays := 0x1F#7, hour := some 11, minute := some 30 }
    let a3 : Alarm := { weekdays := 0x20#7, hour := none, minute := some 45 }
    let friday := dayNumber 2030 3 29
    a1.fires friday 11 30 = true ∧ a1.fires (friday + 1) 11 30 = false ∧ a3.fires friday 0 45 = false ∧
      a3.fires (friday + 1) 0 45 = true ∧ a3.fires (friday + 1) 23 45 = true := by decide +kernel

/-- 7.4: with REUSE full a LATE cartridge spills to INSPECT, and with both full there is no bin. -/
theorem test_worked_bins :
    chooseBin .checkedIn 39 38 = (some (.reuse, .checkedIn), false) ∧
      chooseBin .late 40 38 = (some (.inspect, .spill), true) ∧
      chooseBin .unknown 40 39 = (some (.inspect, .unknown), false) ∧ chooseBin .checkedIn 40 40 = (none, true) := by
  decide

end Sys2Proof.Tests
end

section
/-!
PROOF. The event summary: when the attention output is in line (R190), and what raising flags one after another
leaves (R187).
-/

namespace Sys2Proof.Machine

/-! ## The attention output in line (R190) -/

/-- The attention output stands as R190 gives it. -/
def Events.inLine (e : Events) : Prop := e.attention = e.asserted

theorem Events.raise_inLine (e : Events) (f : Flag) : (e.raise f).inLine := e.raise_attention f
theorem Events.take_inLine (e : Events) : e.take.inLine := e.take_attention
theorem Events.reply_inLine (e : Events) : e.reply.inLine := e.reply_attention
theorem Events.enable_inLine (e : Events) (x : FlagSet) : (e.enable x).inLine := e.enable_attention x
theorem Events.clear_inLine : Events.clear.inLine := rfl

/-- Driving an output that is in line changes nothing. -/
theorem Events.drive_of_inLine {e : Events} (h : e.inLine) : e.drive = e := by
  unfold Events.drive
  rw [← h]

/-- With no flag enabled the output in line is released. -/
theorem Events.attention_of_enables_zero {e : Events} (h : e.inLine) (hz : e.enables = 0#15) :
    e.attention = false := by
  rw [h, Events.asserted, hz]
  simp

/-- Every bit of a flag set is a flag's (10.5). -/
theorem Flag.exists_bit {i : Nat} (h : i < 15) : ∃ f : Flag, f.bit = i := by
  interval_cases i
  exacts [⟨.slotDone, rfl⟩, ⟨.slotFault, rfl⟩, ⟨.planFailed, rfl⟩, ⟨.fetchWanted, rfl⟩, ⟨.batchClosed, rfl⟩,
    ⟨.pickupEmpty, rfl⟩, ⟨.holdFilled, rfl⟩, ⟨.returnRead, rfl⟩, ⟨.binFull, rfl⟩, ⟨.reminders, rfl⟩,
    ⟨.rollSoon, rfl⟩, ⟨.rollDone, rfl⟩, ⟨.clockStopped, rfl⟩, ⟨.backupLow, rfl⟩, ⟨.linkFault, rfl⟩]

/-- A flag set is not empty exactly when a flag stands in it. -/
theorem FlagSet.ne_zero_iff (x : FlagSet) : x ≠ 0#15 ↔ ∃ f : Flag, x.getLsbD f.bit = true := by
  constructor
  · intro hx
    by_contra hn
    refine hx (BitVec.eq_of_getLsbD_eq fun i hi => ?_)
    obtain ⟨f, rfl⟩ := Flag.exists_bit hi
    simpa using fun h => hn ⟨f, h⟩
  · rintro ⟨f, hf⟩ rfl
    simp at hf

theorem Events.asserted_iff (e : Events) :
    e.asserted = true ↔
      ∃ f : Flag, (e.main.getLsbD f.bit || e.pending.getLsbD f.bit) = true ∧ e.enables.getLsbD f.bit = true := by
  simp [Events.asserted, FlagSet.ne_zero_iff]

theorem State.attentionRight_iff (s : State) : s.attentionRight ↔ s.link.events.inLine := by
  unfold State.attentionRight Events.inLine
  rw [← Events.asserted_iff]
  exact Bool.eq_iff_iff.symm

/-! ## The halves of the summary (R187, R188) -/

/-- Taking an EVENTS READ leaves an output in line as it stands: the flags and the enables do not change. -/
theorem Events.take_of_inLine {e : Events} (h : e.inLine) : e.take = { e with reading := true } := by
  have line : Events.inLine { e with reading := true } := h
  exact Events.drive_of_inLine line

theorem Events.raise_of_reading {e : Events} (h : e.reading = true) (f : Flag) :
    (e.raise f).main = e.main ∧ (e.raise f).pending = e.pending ||| f.mask := by
  simp [Events.raise, h]

theorem Events.raise_of_not_reading {e : Events} (h : e.reading = false) (f : Flag) :
    (e.raise f).main = e.main ||| f.mask ∧ (e.raise f).pending = e.pending := by
  simp [Events.raise, h]

/-- The reply's events: the pending half has become the main half. -/
theorem Events.reply_eq (e : Events) :
    e.reply =
      { main := e.pending, pending := 0#15, enables := e.enables, reading := false,
        attention := decide (e.pending &&& e.enables ≠ 0#15) } := by
  simp [Events.reply, Events.drive, Events.asserted]

/-! ## Flags raised one after another (R187) -/

/-- `e.RaisedTo e'`: raising flags, none or one after another, makes `e'` of `e`. -/
inductive Events.RaisedTo (e : Events) : Events → Prop
  | refl : e.RaisedTo e
  | raise {e' : Events} (h : e.RaisedTo e') (f : Flag) : e.RaisedTo (e'.raise f)

@[simp] theorem Events.RaisedTo.self (e : Events) : e.RaisedTo e := .refl

theorem Events.RaisedTo.trans {a b c : Events} (hab : a.RaisedTo b) (hbc : b.RaisedTo c) : a.RaisedTo c := by
  induction hbc with
  | refl => exact hab
  | raise _ f ih => exact ih.raise f

theorem Events.RaisedTo.enables_eq {e e' : Events} (h : e.RaisedTo e') : e'.enables = e.enables := by
  induction h with
  | refl => rfl
  | raise _ f ih => rw [Events.raise_enables, ih]

theorem Events.RaisedTo.inLine {e e' : Events} (h : e.RaisedTo e') (he : e.inLine) : e'.inLine := by
  cases h with
  | refl => exact he
  | raise _ f => exact Events.raise_inLine _ f

end Sys2Proof.Machine
end

section
/-!
PROOF. What the operations of the blocks do to the event summary: they leave it, or they raise flags.
-/

namespace Sys2Proof.Machine

/-! ## Operations on the link that leave the event summary -/

@[simp] theorem State.setEvents_events (s : State) (e : Events) : (s.setEvents e).link.events = e := rfl

@[simp] theorem State.usePatron_events (s : State) (i : Nat) : (s.usePatron i).link.events = s.link.events := by
  unfold State.usePatron
  split <;> rfl

@[simp] theorem State.useTitle_events (s : State) (i : Nat) : (s.useTitle i).link.events = s.link.events := by
  unfold State.useTitle
  split <;> rfl

@[simp] theorem State.setQueue_events (s : State) (q : List Request) :
    (s.setQueue q).link.events = s.link.events := rfl

@[simp] theorem State.formReply_events (s : State) (i : Nat) (r : Reply) :
    (s.formReply i r).link.events = s.link.events := rfl

@[simp] theorem State.formWriting_events (s : State) (id : Nat) (r : Reply) :
    (s.formWriting id r).link.events = s.link.events := by
  unfold State.formWriting
  split <;> rfl

@[simp] theorem State.placeReply_events (s : State) : s.placeReply.link.events = s.link.events := by
  unfold State.placeReply
  repeat' split
  all_goals rfl

@[simp] theorem State.releasePatron_events (s : State) (k : Nat) :
    (s.releasePatron k).link.events = s.link.events := by
  unfold State.releasePatron
  dsimp only
  split <;> simp

/-! ## Operations that raise flags at most

Each lemma takes the operation as the last of a chain: if raising flags led from `e` to the summary before it,
raising flags leads from `e` to the summary after it. -/

section Raising

/-- An operation applied along a list raises flags at most when each application does. -/
theorem State.foldl_raised {α : Type} {f : State → α → State} {e : Events} {s : State}
    (h : e.RaisedTo s.link.events) (l : List α)
    (hf : ∀ (s : State) (x : α), e.RaisedTo s.link.events → e.RaisedTo (f s x).link.events) :
    e.RaisedTo (l.foldl f s).link.events := by
  induction l generalizing s with
  | nil => exact h
  | cons x l ih => exact ih (hf s x h)

variable {e : Events} {s : State} (h : e.RaisedTo s.link.events)
include h

@[simp] theorem State.raise_raised (f : Flag) : e.RaisedTo (s.raise f).link.events := h.raise f

/-! ### Link Port -/

@[simp] theorem State.arrive_raised (code tag : Nat) (body : List Byte) :
    e.RaisedTo (s.arrive code tag body).link.events := by
  unfold State.arrive
  split <;> simp [h]

@[simp] theorem State.takeRequest_raised (code tag : Nat) (body : List Byte) :
    e.RaisedTo (s.takeRequest code tag body).1.link.events := by
  obtain hs | ⟨-, hs⟩ := s.takeRequest_cases code tag body <;> simp [hs, h]

@[simp] theorem State.receiveByte_raised (b : Byte) : e.RaisedTo (s.receiveByte b).link.events := by
  unfold State.receiveByte
  dsimp only
  repeat' split
  case h_1 =>
    have hunting : e.RaisedTo (s.setFrame []).link.events := h
    exact State.arrive_raised hunting _ _ _
  all_goals exact h

@[simp] theorem State.receive_raised (bytes : List Byte) : e.RaisedTo (s.receive bytes).link.events := by
  induction bytes generalizing s with
  | nil => exact h
  | cons b rest ih =>
    unfold State.receive
    split
    · exact h
    · exact ih (State.receiveByte_raised h b)

@[simp] theorem State.discardFrame_raised : e.RaisedTo s.discardFrame.link.events := by
  have dropped : e.RaisedTo ((s.raise .linkFault).setFrame []).link.events := h.raise .linkFault
  exact State.receive_raised dropped _

/-! ### Holds (R28, R35) -/

theorem State.sweepOnce_raised {t : State} {k : Nat} (ht : s.sweepOnce k = some t) :
    e.RaisedTo t.link.events := by
  unfold State.sweepOnce at ht
  repeat' split at ht
  all_goals simp only [Option.some.injEq, reduceCtorEq] at ht
  subst ht
  simp [h]

@[simp] theorem State.sweepTitle_raised (t fuel : Nat) : e.RaisedTo (s.sweepTitle t fuel).link.events := by
  induction fuel generalizing s with
  | zero => exact h
  | succ fuel ih =>
    unfold State.sweepTitle
    split
    · next s' hs => exact ih (State.sweepOnce_raised h hs)
    · exact h

@[simp] theorem State.sweep_raised (titles : List Nat) : e.RaisedTo (s.sweep titles).link.events :=
  State.foldl_raised h titles fun _ t hs => State.sweepTitle_raised hs t Config.copyMax

@[simp] theorem State.sweepPatron_raised (p : Nat) : e.RaisedTo (s.sweepPatron p).link.events :=
  State.sweep_raised h _

/-! ### Slots (R54, R55, R89, R98 to R101, R107 to R109) -/

@[simp] theorem State.failPlan_raised (n : Nat) : e.RaisedTo (s.failPlan n).link.events := by
  simp [State.failPlan, h]

@[simp] theorem State.planFault_raised (job : Nat) : e.RaisedTo (s.planFault job).link.events := by
  unfold State.planFault
  split
  · exact h
  · dsimp only
    split <;> simp [h]

@[simp] theorem State.slotFault_raised (n : Nat) (cause : FaultCause) :
    e.RaisedTo (s.slotFault n cause).link.events := by
  unfold State.slotFault
  dsimp only
  split <;> simp [h]

@[simp] theorem State.finishRead_raised (n : Nat) (ok : Bool) (page : List Byte) :
    e.RaisedTo (s.finishRead n ok page).link.events := by
  unfold State.finishRead
  repeat' split
  all_goals simp [h]

@[simp] theorem State.reachDone_raised (n : Nat) : e.RaisedTo (s.reachDone n).link.events := by
  unfold State.reachDone
  dsimp only
  repeat' split
  all_goals simp [h]

@[simp] theorem State.takeSpare_raised (n : Nat) (p : Placement) : e.RaisedTo (s.takeSpare n p).link.events := by
  unfold State.takeSpare
  dsimp only
  repeat' split
  all_goals simp [h]

@[simp] theorem State.identified_raised (n : Nat) (c : Cartridge) : e.RaisedTo (s.identified n c).link.events := by
  unfold State.identified
  dsimp only
  repeat' split
  all_goals simp [h]

/-! ### Duplication Rack -/

@[simp] theorem State.identityRead_raised (n : Nat) (i : Option Identity) :
    e.RaisedTo (s.identityRead n i).link.events := by
  unfold State.identityRead
  split <;> simp [h]

@[simp] theorem State.identifyAs_raised (n : Nat) (m : Marker) (plan last : Nat) :
    e.RaisedTo (s.identifyAs n m plan last).link.events := by
  unfold State.identifyAs
  split <;> simp [h]

@[simp] theorem State.identPage_raised (n : Nat) (ok : Bool) (page : List Byte) :
    e.RaisedTo (s.identPage n ok page).link.events := by
  unfold State.identPage
  dsimp only
  repeat' split
  all_goals simp [h]

@[simp] theorem State.stampRead_raised (n : Nat) (ok : Bool) (page : List Byte) :
    e.RaisedTo (s.stampRead n ok page).link.events := by
  unfold State.stampRead
  dsimp only
  split <;> simp [h]

@[simp] theorem State.verifyRead_raised (n : Nat) (ok : Bool) (page : List Byte) :
    e.RaisedTo (s.verifyRead n ok page).link.events := by
  unfold State.verifyRead
  dsimp only
  repeat' split
  all_goals simp [h]

@[simp] theorem State.directoryRead_raised (n : Nat) (ok : Bool) (page : List Byte) :
    e.RaisedTo (s.directoryRead n ok page).link.events := by
  unfold State.directoryRead
  dsimp only
  repeat' split
  all_goals simp [h]

@[simp] theorem State.pageRead_raised (n : Nat) (ok : Bool) (page : List Byte) :
    e.RaisedTo (s.pageRead n ok page).link.events := by
  unfold State.pageRead
  dsimp only
  repeat' split
  all_goals simp [h]

@[simp] theorem State.permitReply_raised (n : Nat) (granted : Bool) (w : WriteOp) :
    e.RaisedTo (s.permitReply n granted w).link.events := by
  unfold State.permitReply
  dsimp only
  repeat' split
  all_goals simp [h]

@[simp] theorem State.writeRefused_raised (n : Nat) : e.RaisedTo (s.writeRefused n).link.events := by
  simp [State.writeRefused, h]

@[simp] theorem State.programDone_raised (n : Nat) (ok : Bool) : e.RaisedTo (s.programDone n ok).link.events := by
  unfold State.programDone
  dsimp only
  repeat' split
  all_goals simp [h]

@[simp] theorem State.eraseDone_raised (n : Nat) (ok : Bool) (op : CartOp) :
    e.RaisedTo (s.eraseDone n ok op).link.events := by
  unfold State.eraseDone
  dsimp only
  repeat' split
  all_goals simp [h]

@[simp] theorem State.markDone_raised (n : Nat) : e.RaisedTo (s.markDone n).link.events := by
  unfold State.markDone
  dsimp only
  repeat' split
  all_goals simp [h]

@[simp] theorem State.timeOut_raised (n : Nat) (op : CartOp) : e.RaisedTo (s.timeOut n op).link.events := by
  unfold State.timeOut
  split <;> simp [h]

@[simp] theorem State.runFor_raised (n ran : Nat) : e.RaisedTo (s.runFor n ran).link.events := by
  unfold State.runFor
  repeat' split
  all_goals simp [h]

/-- A report raises flags at most when the operation it answers does. -/
theorem State.report_raised (n : Nat) (answers : CartOp → Bool) {f : CartOp → State → State}
    (hf : ∀ o, e.RaisedTo (f o s).link.events) : e.RaisedTo (s.report n answers f).link.events := by
  unfold State.report
  repeat' split
  all_goals simp [h, hf]

/-! ### Planner (R48, R50) -/

@[simp] theorem State.admitPlan_raised (p : Plan) : e.RaisedTo (s.admitPlan p).link.events := by
  unfold State.admitPlan
  dsimp only
  split <;> simp [h]

@[simp] theorem State.commit_raised (p : Plan) : e.RaisedTo (s.commit p).link.events := by
  simp [State.commit, h]

@[simp] theorem State.planFor_raised (k : Nat) (p : Patron) : e.RaisedTo (s.planFor k p).link.events := by
  unfold State.planFor
  dsimp only
  repeat' split
  all_goals simp [h]

@[simp] theorem State.passStep_raised : e.RaisedTo s.passStep.link.events := by
  have kept (x : Planner) : e.RaisedTo (s.setPlanner x).link.events := h
  have served (x : Planner) (k : Nat) (p : Patron) := State.planFor_raised (kept x) k p
  unfold State.passStep
  dsimp only
  repeat' split
  all_goals simp [h, served]

/-! ### Image Store (R72 to R76) -/

@[simp] theorem State.requeueFetch_raised (id : Nat) : e.RaisedTo (s.requeueFetch id).link.events := by
  unfold State.requeueFetch
  split <;> simp [h]

@[simp] theorem State.imageMismatch_raised (t id : Nat) : e.RaisedTo (s.imageMismatch t id).link.events := by
  unfold State.imageMismatch
  dsimp only
  split <;> simp [h]

@[simp] theorem State.failPlans_raised (plans : List Nat) : e.RaisedTo (s.failPlans plans).link.events := by
  unfold State.failPlans
  split <;> simp [h]

@[simp] theorem State.imageBad_raised (t id failures : Nat) : e.RaisedTo (s.imageBad t id failures).link.events := by
  simp [State.imageBad, h]

@[simp] theorem State.afterFrame_raised (f : FillOp) (g : Fetch) : e.RaisedTo (s.afterFrame f g).link.events := by
  unfold State.afterFrame
  repeat' split
  all_goals simp [h]

@[simp] theorem State.fillComplete_raised (b : Nat) (f : FillOp) : e.RaisedTo (s.fillComplete b f).link.events := by
  unfold State.fillComplete
  dsimp only
  repeat' split
  all_goals simp [h]

/-! ### Mail Desk (R121 to R128) -/

@[simp] theorem State.closeBegin_raised : e.RaisedTo s.closeBegin.link.events := by
  unfold State.closeBegin
  split <;> simp [h]

@[simp] theorem State.closeCall_raised : e.RaisedTo s.closeCall.link.events := by
  unfold State.closeCall
  repeat' split
  all_goals simp [h]

@[simp] theorem State.storeBatch_raised (m : Manifest) : e.RaisedTo (s.storeBatch m).link.events :=
  h.raise .batchClosed

@[simp] theorem State.takeWaiting_raised : e.RaisedTo s.takeWaiting.link.events := by
  have kept (x : Mail) : e.RaisedTo (s.setMail x).link.events := h
  have begun (x : Mail) := State.closeBegin_raised (kept x)
  unfold State.takeWaiting
  dsimp only
  repeat' split
  all_goals simp [h, begun]

@[simp] theorem State.closeEnd_raised (c : Close) : e.RaisedTo (s.closeEnd c).link.events := by
  unfold State.closeEnd
  dsimp only
  refine State.takeWaiting_raised ?_
  split
  · next m _ =>
    have ended : e.RaisedTo (s.setMail { s.mail with close := none }).link.events := h
    have stored := State.storeBatch_raised ended m
    split
    · exact State.sweep_raised stored _
    · exact stored
  · exact h.raise .pickupEmpty

@[simp] theorem State.afterDispatch_raised : e.RaisedTo s.afterDispatch.link.events := by
  unfold State.afterDispatch
  repeat' split
  all_goals simp [h]

@[simp] theorem State.stepCartridge_raised : e.RaisedTo s.stepCartridge.link.events := by
  unfold State.stepCartridge
  repeat' split
  all_goals simp [h]

@[simp] theorem State.stepSet_raised : e.RaisedTo s.stepSet.link.events := by
  unfold State.stepSet
  repeat' split
  all_goals simp [h]

/-! ### Returns Desk (R135 to R154) -/

@[simp] theorem State.push_raised (b : BinName) (serial : Option Nat) (reason : BinReason) :
    e.RaisedTo (s.push b serial reason).link.events := by
  unfold State.push
  dsimp only
  split
  · exact h.raise .binFull
  · exact h

@[simp] theorem State.setResult_raised (r : Result) : e.RaisedTo (s.setResult r).link.events :=
  h.raise .returnRead

@[simp] theorem State.binCartridge_raised (c : Classification) (r : Result) :
    e.RaisedTo (s.binCartridge c r).link.events := by
  unfold State.binCartridge
  split <;> simp [h]

@[simp] theorem State.classify_raised (serial : Nat) (cls : Cls) (cycles : Nat) :
    e.RaisedTo (s.classify serial cls cycles).link.events := by
  simp [State.classify, h]

@[simp] theorem State.readEnds_raised (i : Option Identity) : e.RaisedTo (s.readEnds i).link.events := by
  unfold State.readEnds
  dsimp only
  repeat' split
  all_goals simp [h]

@[simp] theorem State.readerRead_raised (i : Option Identity) : e.RaisedTo (s.readerRead i).link.events := by
  unfold State.readerRead
  repeat' split
  all_goals simp [h]

@[simp] theorem State.classifyHeld_raised (p : Pending) (slot : Nat) :
    e.RaisedTo (s.classifyHeld p slot).link.events := by
  simp [State.classifyHeld, h]

@[simp] theorem State.completePending_raised : e.RaisedTo s.completePending.link.events := by
  unfold State.completePending
  split
  · exact h
  · next p _ =>
    simp only [State.setReturns_link, State.afterPending_frame]
    have taken : e.RaisedTo (s.setReturns { s.returns with pending := none }).link.events := h
    split
    · exact State.classifyHeld_raised taken p _
    · exact State.classify_raised taken _ _ _

@[simp] theorem State.completeSet_raised (loan patron t c : Nat) :
    e.RaisedTo (s.completeSet loan patron t c).link.events := by
  simp [State.completeSet, h]

/-! ### Calendar (R155 to R172) -/

@[simp] theorem State.warnRoll_raised : e.RaisedTo s.warnRoll.link.events := by
  unfold State.warnRoll
  split
  · exact h.raise .rollSoon
  · exact h

@[simp] theorem State.minuteBoundary_raised : e.RaisedTo s.minuteBoundary.link.events := by
  have warned : e.RaisedTo s.warnRoll.link.events := State.warnRoll_raised h
  have drawn (n : Nat) : e.RaisedTo (s.warnRoll.setDrawn n).link.events := warned
  have called (n : Nat) := State.closeCall_raised (drawn n)
  unfold State.minuteBoundary
  dsimp only
  repeat' split
  all_goals simp [warned, called]

@[simp] theorem State.endStop_raised : e.RaisedTo s.endStop.link.events := by
  unfold State.endStop
  split
  · dsimp only
    split
    · exact h
    · exact h.raise .clockStopped
  · exact h

@[simp] theorem State.tick_raised : e.RaisedTo s.tick.link.events := by
  unfold State.tick
  dsimp only
  repeat' split
  all_goals simp [h]

@[simp] theorem State.writeOff_raised (id : Nat) (l : Loan) (date : Nat) :
    e.RaisedTo (s.writeOff id l date).link.events := by
  unfold State.writeOff
  dsimp only
  split <;> simp [h]

@[simp] theorem State.rollLoan_raised (id : Nat) (l : Loan) (date : Nat) :
    e.RaisedTo (s.rollLoan id l date).link.events := by
  unfold State.rollLoan
  dsimp only
  repeat' split
  all_goals simp [h]

@[simp] theorem State.loanStep_raised : e.RaisedTo s.loanStep.link.events := by
  unfold State.loanStep
  repeat' split
  all_goals simp [h]

@[simp] theorem State.rollPatron_raised (k : Nat) (p : Patron) : e.RaisedTo (s.rollPatron k p).link.events := by
  unfold State.rollPatron
  split <;> simp [h]

@[simp] theorem State.patronStep_raised : e.RaisedTo s.patronStep.link.events := by
  unfold State.patronStep
  repeat' split
  all_goals simp [h]

@[simp] theorem State.finishRoll_raised (date : Nat) : e.RaisedTo (s.finishRoll date).link.events := by
  unfold State.finishRoll
  dsimp only
  have dropped (u : State) : u.dropHeld.link = u.link := by simp
  rw [dropped]
  split
  · exact (h.raise .rollDone).raise .reminders
  · exact h.raise .rollDone

@[simp] theorem State.finishStep_raised : e.RaisedTo s.finishStep.link.events := by
  unfold State.finishStep
  split
  · exact State.finishRoll_raised h _
  · exact h

@[simp] theorem State.releaseClose_raised : e.RaisedTo s.releaseClose.link.events := by
  have released : e.RaisedTo (s.setMail { s.mail with heldClose := false }).link.events := h
  unfold State.releaseClose
  dsimp only
  split
  · exact released
  · exact State.closeCall_raised released

/-! ### Starts (R192) -/

@[simp] theorem State.emptyRecords_raised : e.RaisedTo s.emptyRecords.link.events := h.raise .clockStopped

@[simp] theorem State.rebuildImages_raised : e.RaisedTo s.rebuildImages.link.events := by
  unfold State.rebuildImages
  dsimp only
  split <;> simp [h]

@[simp] theorem State.rebuildMail_raised : e.RaisedTo s.rebuildMail.link.events := by
  unfold State.rebuildMail
  repeat' split
  all_goals simp [h]

@[simp] theorem State.rebuildReturns_raised : e.RaisedTo s.rebuildReturns.link.events := by
  unfold State.rebuildReturns
  split <;> simp [h]

@[simp] theorem State.rebuild_raised : e.RaisedTo s.rebuild.link.events := by
  have hi : e.RaisedTo s.rebuildPlans.rebuildImages.link.events := by simp [h]
  simpa [State.rebuild] using State.rebuildReturns_raised (State.rebuildMail_raised hi)

@[simp] theorem State.takeBackup_raised (held good : Bool) : e.RaisedTo (s.takeBackup held good).link.events := by
  unfold State.takeBackup
  dsimp only
  split
  · exact h
  · exact h.raise .backupLow

end Raising

end Sys2Proof.Machine
end

section
/-!
PROOF. What one command does to the run state and the event summary (R187 to R192).
-/

namespace Sys2Proof.Machine

/-! ## Operations that raise flags at most, on the whole state -/

/-- From `s` to `t` the run state stands and the event summary changes by raised flags alone. -/
structure State.OnlyRaises (s t : State) : Prop where
  run : t.run = s.run
  raised : s.link.events.RaisedTo t.link.events

theorem State.OnlyRaises.refl (s : State) : s.OnlyRaises s := ⟨rfl, .refl⟩

theorem State.OnlyRaises.trans {s t u : State} (h : s.OnlyRaises t) (h' : t.OnlyRaises u) : s.OnlyRaises u :=
  ⟨h'.run.trans h.run, h.raised.trans h'.raised⟩

theorem State.OnlyRaises.of_eq {s t : State} (hr : t.run = s.run) (he : t.link.events = s.link.events) :
    s.OnlyRaises t :=
  ⟨hr, he ▸ .refl⟩

/-- Taking a planning trigger touches neither (R49). -/
theorem State.OnlyRaises.takeTrigger {s t : State} (h : s.OnlyRaises t) : s.OnlyRaises t.takeTrigger :=
  h.trans (.of_eq (by simp) (by simp))

theorem State.OnlyRaises.formReply {s t : State} (h : s.OnlyRaises t) (i : Nat) (r : Reply) :
    s.OnlyRaises (t.formReply i r) :=
  h.trans (.of_eq (by simp) (by simp))

/-! ## Answers to requests -/

@[simp] theorem answerStatus_events (s : State) : (answerStatus s).2.link.events = s.link.events := rfl

@[simp] theorem answerContextSet_events (patron title : Nat) (s : State) :
    (answerContextSet patron title s).2.link.events = s.link.events := by
  unfold answerContextSet
  repeat' split
  all_goals rfl

@[simp] theorem answerSettingsPut_events (x : Settings) (s : State) :
    (answerSettingsPut x s).2.link.events = s.link.events := rfl

@[simp] theorem answerPatronCreate_events (number media playerClass cartLimit setLimit key : Nat) (s : State) :
    (answerPatronCreate number media playerClass cartLimit setLimit key s).2.link.events = s.link.events := by
  unfold answerPatronCreate
  repeat' split
  all_goals simp

@[simp] theorem answerPatronGet_events (patron : Nat) (s : State) :
    (answerPatronGet patron s).2.link.events = s.link.events := by
  unfold answerPatronGet
  split <;> simp

@[simp] theorem answerTitleCreate_events (catalogue format pages check volumes : Nat) (s : State) :
    (answerTitleCreate catalogue format pages check volumes s).2.link.events = s.link.events := by
  unfold answerTitleCreate
  repeat' split
  all_goals simp

@[simp] theorem answerTitleUpdate_events (title catalogue format pages check volumes : Nat) (s : State) :
    (answerTitleUpdate title catalogue format pages check volumes s).2.link.events = s.link.events := by
  unfold answerTitleUpdate
  dsimp only
  repeat' split
  all_goals simp

@[simp] theorem answerTitleGet_events (title : Nat) (s : State) :
    (answerTitleGet title s).2.link.events = s.link.events := by
  unfold answerTitleGet
  split <;> simp

@[simp] theorem answerLoanList_events (patron : Nat) (s : State) :
    (answerLoanList patron s).2.link.events = s.link.events := by
  unfold answerLoanList
  split <;> simp

@[simp] theorem answerOrderMove_events (patron fromPos toPos : Nat) (s : State) :
    (answerOrderMove patron fromPos toPos s).2.link.events = s.link.events := by
  unfold answerOrderMove
  dsimp only
  repeat' split
  all_goals simp

@[simp] theorem answerOrderList_events (patron : Nat) (s : State) :
    (answerOrderList patron s).2.link.events = s.link.events := by
  unfold answerOrderList
  split <;> simp

@[simp] theorem answerHoldList_events (title : Nat) (s : State) :
    (answerHoldList title s).2.link.events = s.link.events := by
  unfold answerHoldList
  repeat' split
  all_goals simp

@[simp] theorem answerImageDrop_events (title : Nat) (s : State) :
    (answerImageDrop title s).2.link.events = s.link.events := by
  unfold answerImageDrop
  repeat' split
  all_goals simp

theorem answerUnknown_onlyRaises (code : Nat) (body : List Byte) (s : State) :
    s.OnlyRaises (answerUnknown code body s).2 := by
  unfold answerUnknown
  split <;> exact .refl s

theorem answerPatronUpdate_onlyRaises (patron number media playerClass cartLimit setLimit key : Nat) (s : State) :
    s.OnlyRaises (answerPatronUpdate patron number media playerClass cartLimit setLimit key s).2 := by
  refine ⟨by simp, ?_⟩
  unfold answerPatronUpdate State.afterPatronUpdate
  dsimp only
  repeat' split
  all_goals simp

theorem answerPatronPause_onlyRaises (patron year month day : Nat) (s : State) :
    s.OnlyRaises (answerPatronPause patron year month day s).2 := by
  refine ⟨by simp, ?_⟩
  unfold answerPatronPause State.pausePatron
  repeat' split
  all_goals simp

theorem answerPatronClose_onlyRaises (patron : Nat) (s : State) :
    s.OnlyRaises (answerPatronClose patron s).2 := by
  refine ⟨by simp, ?_⟩
  unfold answerPatronClose State.sweepAfterClose
  dsimp only
  repeat' split
  all_goals simp

theorem answerTitleWithdraw_onlyRaises (title flag : Nat) (s : State) :
    s.OnlyRaises (answerTitleWithdraw title flag s).2 := by
  refine ⟨by simp, ?_⟩
  unfold answerTitleWithdraw State.withdrawTitle
  dsimp only
  repeat' split
  all_goals simp

/-- An action of COPIES ADJUST works on the records alone (R19). -/
theorem copiesAction_link {action count k n : Nat} {t : Title} {s u : State} {sweeps : Bool}
    (h : copiesAction action count k t s = .ok (n, u, sweeps)) : u.run = s.run ∧ u.link = s.link := by
  unfold copiesAction at h
  repeat' split at h
  all_goals simp only [Except.ok.injEq, Prod.mk.injEq, reduceCtorEq] at h
  all_goals
    obtain ⟨-, rfl, -⟩ := h
    simp [State.unloseCopy]

theorem answerCopies_onlyRaises (title action count : Nat) (s : State) :
    s.OnlyRaises (answerCopies title action count s).2 := by
  unfold answerCopies
  split
  · exact .refl s
  · split
    · exact .refl s
    · split
      · exact .refl s
      · split
        · exact .refl s
        · next n u sweeps hc =>
          obtain ⟨hrun, hlink⟩ := copiesAction_link hc
          have hu : s.OnlyRaises u := .of_eq hrun (by rw [hlink])
          split
          · exact .refl s
          · cases sweeps
            · exact hu.trans (.of_eq (by simp) (by simp))
            · exact hu.trans ⟨by simp, by simp⟩

/-- An accepted hold works on the slot and the banks alone (R103). -/
theorem State.holdSlot_link {s t : State} {n : Nat} (h : s.holdSlot n = some t) :
    t.run = s.run ∧ t.link = s.link := by
  unfold State.holdSlot at h
  dsimp only at h
  repeat' split at h
  all_goals simp only [Option.some.injEq, reduceCtorEq] at h
  all_goals
    subst h
    simp

theorem answerSlotHold_onlyRaises (slot : Nat) (s : State) : s.OnlyRaises (answerSlotHold slot s).2 := by
  unfold answerSlotHold
  split
  · exact .refl s
  · split
    · exact .refl s
    · next t ht =>
      obtain ⟨hrun, hlink⟩ := State.holdSlot_link ht
      exact .of_eq hrun (by simp [hlink])

theorem answerOrderAdd_onlyRaises (patron title rush reread position : Nat) (s : State) :
    s.OnlyRaises (answerOrderAdd patron title rush reread position s).2 := by
  refine ⟨by simp, ?_⟩
  unfold answerOrderAdd
  dsimp only
  repeat' split
  all_goals simp

theorem answerOrderDrop_onlyRaises (patron title : Nat) (s : State) :
    s.OnlyRaises (answerOrderDrop patron title s).2 := by
  refine ⟨by simp, ?_⟩
  unfold answerOrderDrop State.dropEntry
  dsimp only
  repeat' split
  all_goals simp

theorem answerFetchAbandon_onlyRaises (fetch : Nat) (s : State) :
    s.OnlyRaises (answerFetchAbandon fetch s).2 := by
  refine ⟨by simp, ?_⟩
  unfold answerFetchAbandon
  dsimp only
  repeat' split
  all_goals simp

theorem answerPreload_onlyRaises (title : Nat) (s : State) : s.OnlyRaises (answerPreload title s).2 := by
  refine ⟨by simp, ?_⟩
  unfold answerPreload
  dsimp only
  repeat' split
  all_goals simp

theorem answerReturnLoan_onlyRaises (loan volume : Nat) (s : State) :
    s.OnlyRaises (answerReturnLoan loan volume s).2 := by
  refine ⟨by simp, ?_⟩
  unfold answerReturnLoan
  dsimp only
  repeat' split
  all_goals simp

theorem answerReturnLate_onlyRaises (title copy volume : Nat) (s : State) :
    s.OnlyRaises (answerReturnLate title copy volume s).2 := by
  refine ⟨by simp, ?_⟩
  unfold answerReturnLate
  dsimp only
  repeat' split
  all_goals simp

theorem answerClockStop_onlyRaises (s : State) : s.OnlyRaises (answerClockStop s).2 := by
  refine ⟨by simp, ?_⟩
  unfold answerClockStop
  dsimp only
  repeat' split
  · exact .refl
  · exact .raise .refl .clockStopped
  · exact .refl

/-! ## Taking and serving a request -/

theorem State.takeRequest_onlyRaises (s : State) (code tag : Nat) (body : List Byte) :
    s.OnlyRaises (s.takeRequest code tag body).1 :=
  ⟨by simp, State.takeRequest_raised .refl code tag body⟩

/-- A request is taken only while the part runs (R179). -/
theorem State.running_of_takeRequest {s t : State} {code tag i : Nat} {body : List Byte}
    (h : s.takeRequest code tag body = (t, some i)) : s.run = .running := by
  by_contra hr
  rw [State.takeRequest_of_not_running hr] at h
  cases h

/-- Serving a request: none is taken, or the part runs and its answer is made on the state it was taken in. -/
theorem State.serve_cases (s : State) (code tag : Nat) (body : List Byte) (f : State → Reply × State) :
    s.OnlyRaises (s.serve code tag body f) ∨
      s.run = .running ∧ ∃ t i, s.OnlyRaises t ∧
        s.serve code tag body f = ((f t).2.formReply i (f t).1).takeTrigger := by
  have ht := s.takeRequest_onlyRaises code tag body
  unfold State.serve
  split
  · next t h =>
    rw [h] at ht
    exact .inl ht
  · next t i h =>
    rw [h] at ht
    exact .inr ⟨State.running_of_takeRequest h, t, i, ht, rfl⟩

theorem State.serve_onlyRaises {s : State} {code tag : Nat} {body : List Byte} {f : State → Reply × State}
    (hf : ∀ t : State, t.OnlyRaises (f t).2) : s.OnlyRaises (s.serve code tag body f) := by
  obtain h | ⟨-, t, i, ht, h⟩ := s.serve_cases code tag body f
  · exact h
  · rw [h]
    exact ((ht.trans (hf t)).formReply i _).takeTrigger

theorem State.takeFrame_onlyRaises (s : State) (tag id frame : Nat) (data : List Byte) :
    s.OnlyRaises (s.takeFrame tag id frame data) := by
  have ht := s.takeRequest_onlyRaises 0x31 tag (u8 id ++ u32 frame ++ data)
  unfold State.takeFrame
  split
  · next t h =>
    rw [h] at ht
    exact ht
  · next t i h =>
    rw [h] at ht
    split
    · exact ht
    · split
      · exact ht.formReply i _
      · exact ht.trans (.of_eq (by simp) (by simp))

end Sys2Proof.Machine
end

section
/-!
PROOF. What every command does to the run state and the event summary, and the attention output after it
(R187 to R192).
-/

namespace Sys2Proof.Machine

/-- What one command does to the run state and the event summary. -/
inductive State.EventStep (s t : State) : Prop
  /-- Flags are raised at most. -/
  | raises (h : s.OnlyRaises t)
  /-- An EVENTS READ is taken (R188). -/
  | takes {u : State} (hu : s.OnlyRaises u) (run : t.run = u.run) (events : t.link.events = u.link.events.take)
  /-- The reply of an EVENTS READ is formed (R188). -/
  | replies (run : t.run = s.run) (events : t.link.events = s.link.events.reply)
  /-- An EVENTS ENABLE is served, while the part runs (R189). -/
  | enables {u : State} (hu : s.OnlyRaises u) (x : FlagSet) (running : t.run = .running)
      (events : t.link.events = u.link.events.enable x)
  /-- A start clears the summary; the rebuild may raise flags after that (R192). -/
  | starts (h : Events.clear.RaisedTo t.link.events)
  /-- The reset input is released and the rebuild follows (R192). -/
  | releases (running : t.run = .running) (raised : s.link.events.RaisedTo t.link.events)

/-! ## The starts (R191, R192) -/

theorem State.rebuild_run (s : State) : s.rebuild.run = .running := by
  unfold State.rebuild State.beginService
  dsimp only
  split <;> simp

theorem State.powerOn_raised (s : State) (held good : Bool) :
    Events.clear.RaisedTo (s.powerOn held good).link.events := by
  have lost : Events.clear.RaisedTo s.losePower.link.events := .refl
  have taken := State.takeBackup_raised lost held good
  unfold State.powerOn
  dsimp only
  split
  · exact State.rebuild_raised taken
  · exact State.rebuild_raised (State.emptyRecords_raised taken)

/-- A RESTART that is taken, with the earlier replies formed, clears the summary; one that waits changes no more than
its arrival does (R191; log entry 19). -/
theorem State.restart_eventStep (s : State) (tag : Nat) : s.EventStep (s.restart tag) := by
  have ht := s.takeRequest_onlyRaises 0x03 tag []
  unfold State.restart
  split
  · next u h =>
    rw [h] at ht
    exact .raises ht
  · next u i h =>
    rw [h] at ht
    split
    · exact .starts (State.rebuild_raised .refl)
    · exact .raises ht

/-- The start of a RESTART whose turn it is, with the earlier replies formed, clears the summary. -/
theorem State.restart_raised {s : State} {i tag : Nat} (h : s.serves i (.restart tag))
    (hf : ∀ r ∈ s.link.queue.take i, ∃ reply, r.stage = .formed reply) :
    Events.clear.RaisedTo (s.restart tag).link.events := by
  have taken : s.takeRequest 0x03 tag [] = (s, some i) := State.takeRequest_of_serves h rfl
  have formed : formedBefore s.link.queue i = true := by
    refine List.all_eq_true.2 fun r hr => ?_
    obtain ⟨reply, hst⟩ := hf r hr
    simp [hst]
  simp only [State.restart, taken, formed, if_true]
  exact State.rebuild_raised .refl

/-! ## The Link Port's own event requests (R188, R189) -/

theorem State.takeEvents_eventStep (s : State) (tag : Nat) : s.EventStep (s.takeEvents tag) := by
  have ht := s.takeRequest_onlyRaises 0x04 tag []
  unfold State.takeEvents
  split
  · next u h =>
    rw [h] at ht
    exact .raises ht
  · next u i h =>
    rw [h] at ht
    exact .takes ht rfl rfl

theorem State.replyEvents_eventStep (s : State) : s.EventStep s.replyEvents := by
  unfold State.replyEvents
  split
  · exact .replies rfl rfl
  · exact .raises (.refl s)

theorem State.serveEnable_eventStep (s : State) (tag enables : Nat) :
    s.EventStep (s.serve 0x05 tag (u16 enables) (answerEventsEnable enables)) := by
  obtain h | ⟨hr, u, i, hu, h⟩ := s.serve_cases 0x05 tag (u16 enables) (answerEventsEnable enables)
  · exact .raises h
  · refine .enables hu (BitVec.ofNat 15 enables) ?_ ?_
    · rw [h]
      simp [hu.run, hr]
    · rw [h]
      simp [answerEventsEnable]

/-! ## Reports of the rack and the banks -/

/-- What a command leaves, once its effect is known. -/
theorem State.EventStep.of_next {s t u : State} (hu : s.EventStep u) (h : (.next u : Answer) = .next t) :
    s.EventStep t := by
  cases h
  exact hu

/-- A socket event raises flags at most when its work in the running part does. -/
theorem State.socketEvent_eventStep {s t : State} {n : Nat} {f : State → State}
    (h : s.socketEvent n f = .next t) (hf : s.OnlyRaises (f s)) : s.EventStep t := by
  unfold State.socketEvent at h
  split at h
  · cases h
  · split at h <;> cases h
    · exact .raises (.refl s)
    · exact .raises hf.takeTrigger

theorem State.report_run (s : State) (n : Nat) (answers : CartOp → Bool) {f : CartOp → State → State}
    (hf : ∀ o, (f o s).run = s.run) : (s.report n answers f).run = s.run := by
  unfold State.report
  repeat' split
  all_goals simp [hf]

/-- A socket's report raises flags at most when the operation it answers does. -/
theorem State.socketReport_eventStep {s t : State} {n : Nat} {g : State → State} {answers : CartOp → Bool}
    {f : CartOp → State → State} (h : s.socketEvent n g = .next t) (hg : g s = s.report n answers f)
    (hf : ∀ o, s.OnlyRaises (f o s)) : s.EventStep t :=
  State.socketEvent_eventStep h
    (hg ▸ ⟨s.report_run n answers fun o => (hf o).run,
      State.report_raised .refl n answers fun o => (hf o).raised⟩)

/-! ## Every command -/

/-- A request served by an answer that raises flags at most. -/
theorem State.EventStep.served {s t : State} {code tag : Nat} {body : List Byte} {f : State → Reply × State}
    (h : (.next (s.serve code tag body f) : Answer) = .next t) (hf : ∀ u : State, u.OnlyRaises (f u).2) :
    s.EventStep t :=
  .of_next (.raises (State.serve_onlyRaises hf)) h

/-- Work done while a condition holds, and nothing otherwise. -/
theorem State.EventStep.guarded {s t u v : State} {p : Prop} [Decidable p]
    (h : (if p then .next u else .next v : Answer) = .next t) (hu : s.OnlyRaises u) (hv : s.OnlyRaises v) :
    s.EventStep t := by
  split at h <;> cases h
  · exact .raises hu
  · exact .raises hv

theorem exec_eventStep {c : Instr} {s t : State} (h : exec c s = .next t) : s.EventStep t := by
  cases c
  case frameReceive bytes =>
    exact .guarded h (.refl s) ⟨by simp, State.receive_raised .refl _⟩
  case frameDiscard => exact .guarded h ⟨by simp, State.discardFrame_raised .refl⟩ (.refl s)
  case replyPlace => exact .of_next (.raises (.of_eq (by simp) (by simp))) h
  case unknownRequest tag code body =>
    exact .guarded h (.refl s) (State.serve_onlyRaises (answerUnknown_onlyRaises code body))
  case restart tag => exact .of_next (s.restart_eventStep tag) h
  case eventsRead tag => exact .of_next (s.takeEvents_eventStep tag) h
  case eventsReadReply => exact .of_next s.replyEvents_eventStep h
  case eventsEnable tag enables => exact .of_next (s.serveEnable_eventStep tag enables) h
  case identify | status | contextSet | settingsPut | settingsGet | patronPutCreate | patronGet |
      titlePutCreate | titlePutUpdate | titleGet |
      loanGet | loanList | writtenOffList | orderMove | orderList | holdList | planNow | planGet | planCancel |
      queueList | fetchNext | imageDrop | imageList | fetchList | slotStatus | slotRelease | slotClear |
      slotFaultGet | shelfPulled | mailLabel | trayList | manifestGet | alarmPut | alarmGet | readerGet | binList |
      binTake | clockGet | clockSet | clockStart | closedDayPutUsed | closedDayPutClear | closedDayGet |
      remindersRead =>
    exact .served h fun u => .of_eq (by simp) (by simp)
  case patronPutUpdate => exact .served h fun u => answerPatronUpdate_onlyRaises _ _ _ _ _ _ _ u
  case patronPause => exact .served h fun u => answerPatronPause_onlyRaises _ _ _ _ u
  case patronClose => exact .served h fun u => answerPatronClose_onlyRaises _ u
  case copiesAdjustAdd | copiesAdjustRemove | copiesAdjustFound =>
    exact .served h fun u => answerCopies_onlyRaises _ _ _ u
  case slotHold => exact .served h fun u => answerSlotHold_onlyRaises _ u
  case titleWithdraw => exact .served h fun u => answerTitleWithdraw_onlyRaises _ _ u
  case orderAdd => exact .served h fun u => answerOrderAdd_onlyRaises _ _ _ _ _ u
  case orderDrop => exact .served h fun u => answerOrderDrop_onlyRaises _ _ u
  case fetchAbandon => exact .served h fun u => answerFetchAbandon_onlyRaises _ u
  case preload => exact .served h fun u => answerPreload_onlyRaises _ u
  case returnVolumeLoan => exact .served h fun u => answerReturnLoan_onlyRaises _ _ u
  case returnVolumeLate => exact .served h fun u => answerReturnLate_onlyRaises _ _ _ u
  case clockStop => exact .served h fun u => answerClockStop_onlyRaises u
  case passPatronStep => exact .guarded h ⟨by simp, State.passStep_raised .refl⟩ (.refl s)
  case imageData => exact .of_next (.raises (s.takeFrame_onlyRaises _ _ _ _)) h
  case fillWriteComplete bank =>
    change execFillWriteComplete bank s = _ at h
    unfold execFillWriteComplete at h
    repeat' split at h
    all_goals cases h
    · exact .raises (.refl s)
    · exact .raises (.takeTrigger ⟨by simp, State.fillComplete_raised .refl _ _⟩)
    · exact .raises (.refl s)
  case frameReadComplete bank =>
    change execFrameReadComplete bank s = _ at h
    unfold execFrameReadComplete at h
    repeat' split at h
    all_goals cases h
    all_goals exact .raises (.of_eq (by simp) (by simp))
  case cartridgeInsert slot =>
    change execCartridgeInsert slot s = _ at h
    unfold execCartridgeInsert State.setPresent at h
    repeat' split at h
    all_goals cases h
    all_goals exact .raises (.of_eq (by simp) (by simp))
  case cartridgeRemove slot =>
    change execCartridgeRemove slot s = _ at h
    unfold execCartridgeRemove State.setPresent at h
    repeat' split at h
    all_goals cases h
    all_goals exact .raises (.of_eq (by simp) (by simp))
  case identityReadDone slot ok area =>
    change execIdentityReadDone slot ok area s = _ at h
    exact State.socketReport_eventStep h rfl fun _ => ⟨by simp, State.identityRead_raised .refl _ _⟩
  case pageReadDone slot ok page =>
    change execPageReadDone slot ok page s = _ at h
    exact State.socketReport_eventStep h rfl fun _ => ⟨by simp, State.pageRead_raised .refl _ _ _⟩
  case permitReply slot granted =>
    change execPermitReply slot granted s = _ at h
    refine State.socketReport_eventStep h rfl fun o => ?_
    split
    · exact ⟨by simp, State.permitReply_raised .refl _ _ _⟩
    · exact .refl s
  case pageProgramDone slot ok =>
    change execPageProgramDone slot ok s = _ at h
    exact State.socketReport_eventStep h rfl fun _ => ⟨by simp, State.programDone_raised .refl _ _⟩
  case eraseDone slot ok =>
    change execEraseDone slot ok s = _ at h
    exact State.socketReport_eventStep h rfl fun _ => ⟨by simp, State.eraseDone_raised .refl _ _ _⟩
  case markCycleDone slot =>
    change execMarkCycleDone slot s = _ at h
    exact State.socketReport_eventStep h rfl fun _ => ⟨by simp, State.markDone_raised .refl _⟩
  case suspendDone slot =>
    change execSuspendDone slot s = _ at h
    exact State.socketReport_eventStep h rfl fun _ => .of_eq (by simp) (by simp)
  case resumeDone slot =>
    change execResumeDone slot s = _ at h
    exact State.socketReport_eventStep h rfl fun _ => .of_eq (by simp) (by simp)
  case reportAnsweringNoOperation slot =>
    change execReportAnsweringNoOperation slot s = _ at h
    exact State.socketReport_eventStep h rfl fun _ => .refl s
  case cartOpTimeout slot ran =>
    change execCartOpTimeout slot ran s = _ at h
    exact State.socketEvent_eventStep h ⟨by simp, State.runFor_raised .refl _ _⟩
  case clockTick => exact .of_next (.raises ⟨by simp, State.tick_raised .refl⟩) h
  case dispatchCartridgeItem =>
    exact .guarded h (.takeTrigger ⟨by simp, State.stepCartridge_raised .refl⟩) (.refl s)
  case dispatchSetItem => exact .guarded h (.takeTrigger ⟨by simp, State.stepSet_raised .refl⟩) (.refl s)
  case readerInsert => exact .guarded h (.of_eq (by simp) (by simp)) (.of_eq (by simp) (by simp))
  case readerRemove => exact .guarded h (.of_eq (by simp) (by simp)) (.of_eq (by simp) (by simp))
  case readerIdentityDone =>
    exact .guarded h (.takeTrigger ⟨by simp, State.readerRead_raised .refl _⟩) (.refl s)
  case readerReadTimeout =>
    exact .guarded h (.takeTrigger ⟨by simp, State.readerRead_raised .refl _⟩) (.refl s)
  case rollLoanStep => exact .guarded h (.takeTrigger ⟨by simp, State.loanStep_raised .refl⟩) (.refl s)
  case rollPatronStep => exact .guarded h (.takeTrigger ⟨by simp, State.patronStep_raised .refl⟩) (.refl s)
  case rollDeferralClear => exact .guarded h (.of_eq (by simp) (by simp)) (.refl s)
  case rollFinish => exact .guarded h ⟨by simp, State.finishStep_raised .refl⟩ (.refl s)
  case rollEndPlanningTrigger => exact .guarded h (.of_eq (by simp) (by simp)) (.refl s)
  case heldCloseRelease => exact .guarded h ⟨by simp, by simp⟩ (.refl s)
  case pendingResultComplete => exact .guarded h (.takeTrigger ⟨by simp, by simp⟩) (.refl s)
  case powerOnStart held good => exact .of_next (.starts (s.powerOn_raised held good)) h
  case powerLoss => exact .of_next (.starts .refl) h
  case resetAssert =>
    change execResetAssert s = _ at h
    unfold execResetAssert at h
    split at h <;> cases h
    · exact .starts .refl
    · exact .raises (.refl s)
  case resetRelease =>
    change execResetRelease s = _ at h
    unfold execResetRelease at h
    split at h <;> cases h
    · exact .releases s.rebuild_run (State.rebuild_raised .refl)
    · exact .raises (.refl s)

/-! ## The attention output (R190) -/

/-- Whatever the command, an output in line before it is in line after it. -/
theorem State.EventStep.inLine {s t : State} (h : s.EventStep t) (hs : s.link.events.inLine) :
    t.link.events.inLine := by
  cases h with
  | raises h => exact h.raised.inLine hs
  | takes _ _ he => exact he ▸ Events.take_inLine _
  | replies _ he => exact he ▸ Events.reply_inLine _
  | enables _ _ _ he => exact he ▸ Events.enable_inLine _ _
  | starts h => exact h.inLine Events.clear_inLine
  | releases _ h => exact h.inLine hs

/-- A part that does not run has no flag enabled, when it had none enabled before unless it ran. -/
theorem State.EventStep.enables_zero {s t : State} (h : s.EventStep t)
    (hs : s.run ≠ .running → s.link.events.enables = 0#15) (ht : t.run ≠ .running) :
    t.link.events.enables = 0#15 := by
  cases h with
  | raises h => rw [h.raised.enables_eq, hs (h.run ▸ ht)]
  | takes hu hr he =>
    rw [he, ← hs (hu.run ▸ hr ▸ ht)]
    exact hu.raised.enables_eq
  | replies hr he =>
    rw [he, ← hs (hr ▸ ht)]
    rfl
  | enables _ _ hr _ => exact absurd hr ht
  | starts h => exact h.enables_eq
  | releases hr _ => exact absurd hr ht

/-- A step is one command, met with the run state and the link as they stand. -/
theorem step_eventStep {s t : State} (h : step s = .next t) :
    ∃ u : State, u.run = s.run ∧ u.link = s.link ∧ u.EventStep t := by
  unfold step at h
  split at h
  · cases h
    exact ⟨s, rfl, rfl, .raises (.refl s)⟩
  · next c rest _ => exact ⟨s.setPending rest, rfl, rfl, exec_eventStep h⟩

theorem step_keeps_attentionRight {s t : State} (h : step s = .next t) (hs : s.attentionRight) :
    t.attentionRight := by
  rw [State.attentionRight_iff] at *
  obtain ⟨u, -, hlink, hu⟩ := step_eventStep h
  exact hu.inLine (hlink ▸ hs)

theorem step_keeps_enables_zero {s t : State} (h : step s = .next t)
    (hs : s.run ≠ .running → s.link.events.enables = 0#15) (ht : t.run ≠ .running) :
    t.link.events.enables = 0#15 := by
  obtain ⟨u, hrun, hlink, hu⟩ := step_eventStep h
  exact hu.enables_zero (hrun ▸ hlink ▸ hs) ht

end Sys2Proof.Machine
end

section
/-!
PROOF. The statements of the event summary and the attention output (R187 to R190).
-/

namespace Sys2Proof.Proofs

open Sys2Proof Sys2Proof.Machine

/-- Settles O4: every command's effect on the event summary is one of those of `State.EventStep`, each of which
leaves the output in line and, while the part does not run, no flag enabled. -/
theorem stepKeepsAttentionRight : Obligations.StepKeepsAttentionRight := by
  refine ⟨fun s t h hs => step_keeps_attentionRight h hs, fun s t h hs hz ht => ?_⟩
  have right := step_keeps_attentionRight h hs
  have zero := step_keeps_enables_zero h hz ht
  exact ⟨zero, Events.attention_of_enables_zero ((State.attentionRight_iff t).1 right) zero⟩

/-! ## EVENTS READ (R187, R188) -/

/-- The request being served is found at its place, when none before it is being served. -/
theorem findIdx_serving {q : List Request} {i : Nat} {r : Request} (hi : q[i]? = some r) (hr : r.stage = .serving)
    (hbefore : ∀ j p, j < i → q[j]? = some p → p.stage ≠ .serving) :
    q.findIdx? (fun r => decide (r.stage = .serving)) = some i := by
  obtain ⟨hlt, rfl⟩ := List.getElem?_eq_some_iff.1 hi
  rw [List.findIdx?_eq_some_iff_getElem]
  refine ⟨hlt, by simpa using hr, fun j hj => ?_⟩
  simpa using hbefore j _ hj (List.getElem?_eq_getElem (hj.trans hlt))

/-- Settles O22, by what each operation on the two halves leaves. -/
theorem eventsReadSplitsFlags : Obligations.EventsReadSplitsFlags := by
  refine ⟨fun s i tag h hs => ?_, fun s f hr => Events.raise_of_reading hr f,
    fun s f hr => Events.raise_of_not_reading hr f, fun s i r hi hr hbefore => ?_⟩
  · have taken : s.takeRequest 0x04 tag [] = (s, some i) := State.takeRequest_of_serves h rfl
    have line := Events.take_of_inLine ((State.attentionRight_iff s).1 hs)
    change Host.Outcome.next (s.takeEvents tag) = _
    simp only [State.takeEvents, taken, line]
    rfl
  · change Host.Outcome.next s.replyEvents = _
    simp only [State.replyEvents, findIdx_serving hi hr hbefore, Events.reply_eq]
    rfl

/-! ## EVENTS ENABLE (R189, R190) -/

/-- Settles O23: the answer is EVENTS ENABLE's own, and every start leads from the cleared summary by raised flags
alone. -/
theorem eventsEnableReplacesSet : Obligations.EventsEnableReplacesSet := by
  refine ⟨fun s i tag x h hq => ?_, fun s t held good h => ?_, fun s t hr h => ?_, fun s t i tag h hf ht => ?_⟩
  · change Host.Outcome.next (s.serve 0x05 tag (u16 x) (answerEventsEnable x)) = _
    rw [State.serve_of_serves h rfl, State.takeTrigger_of_quiet]
    · rfl
    · exact hq
  · cases h
    exact (s.powerOn_raised held good).enables_eq
  · change execResetAssert s = _ at h
    rw [execResetAssert, if_pos hr] at h
    cases h
    rfl
  · cases ht
    exact (State.restart_raised h hf).enables_eq

end Sys2Proof.Proofs
end

section
/-!
PROOF. Steps and requests: whose turn a request is (R178, R179), what its answer leaves, and how commands
complete.
-/

namespace Sys2Proof.Machine

/-! ## Serving a request -/

/-- A request whose turn it is, accepted: the reply is formed on what the answer leaves, and the trigger taken. -/
theorem State.serve_accept {s t : State} {i code tag : Nat} {c : Instr} {body fields : List Byte}
    {f : State → Reply × State} (h : s.serves i c) (hc : c.request = some (code, tag, body))
    (hf : f s = accept t fields) : s.serve code tag body f = (t.replied i fields).takeTrigger := by
  rw [State.serve_of_serves h hc, hf]
  rfl

/-- An accepted request that meets no planning trigger. -/
theorem State.serve_accept_quiet {s t : State} {i code tag : Nat} {c : Instr} {body fields : List Byte}
    {f : State → Reply × State} (h : s.serves i c) (hc : c.request = some (code, tag, body))
    (hf : f s = accept t fields) (hq : t.quiet) : s.serve code tag body f = t.replied i fields := by
  rw [State.serve_accept h hc hf]
  exact State.takeTrigger_of_quiet hq

/-- A request whose turn it is, refused: only its reply is formed. -/
theorem State.serve_refuse {s : State} {i code tag : Nat} {c : Instr} {body : List Byte} {st : Status}
    {f : State → Reply × State} (h : s.serves i c) (hc : c.request = some (code, tag, body))
    (hf : f s = refuse s st) (hq : s.quiet) :
    s.serve code tag body f = s.formReply i { status := st, fields := [] } := by
  rw [State.serve_of_serves h hc, hf]
  exact State.takeTrigger_of_quiet hq

/-! ## Whose turn a request is (R178, R179) -/

/-- How a request is answered once it is taken. -/
def State.serveTaken (f : State → Reply × State) (a : State × Option Nat) : State :=
  match a with
  | (s, none) => s
  | (s, some i) => ((f s).2.formReply i (f s).1).takeTrigger

theorem State.serve_eq_serveTaken (s : State) (code tag : Nat) (body : List Byte) (f : State → Reply × State) :
    s.serve code tag body f = State.serveTaken f (s.takeRequest code tag body) := rfl

/-- The answer by which a request command is served, but for the four whose reply is formed otherwise. -/
def answerOf (c : Instr) : State → Reply × State :=
  match c with
  | .unknownRequest _ code body => answerUnknown code body
  | .identify _ => fun s => accept s identifyFields
  | .status _ => answerStatus
  | .eventsEnable _ enables => answerEventsEnable enables
  | .contextSet _ patron title => answerContextSet patron title
  | .settingsPut _ cartDays setDays floor window hour minute key =>
    answerSettingsPut (clampSettings cartDays setDays floor window hour minute key)
  | .settingsGet _ => fun s => accept s s.link.settings.fields
  | .patronPutCreate _ number media playerClass cartLimit setLimit key =>
    answerPatronCreate number media playerClass cartLimit setLimit key
  | .patronPutUpdate _ patron number media playerClass cartLimit setLimit key =>
    answerPatronUpdate patron number media playerClass cartLimit setLimit key
  | .patronGet _ patron => answerPatronGet patron
  | .patronPause _ patron year month day => answerPatronPause patron year month day
  | .patronClose _ patron => answerPatronClose patron
  | .titlePutCreate _ catalogue format pages check volumes =>
    answerTitleCreate catalogue format pages check volumes
  | .titlePutUpdate _ title catalogue format pages check volumes =>
    answerTitleUpdate title catalogue format pages check volumes
  | .titleGet _ title => answerTitleGet title
  | .titleWithdraw _ title flag => answerTitleWithdraw title flag
  | .copiesAdjustAdd _ title action count => answerCopies title action count
  | .copiesAdjustRemove _ title count => answerCopies title 2 count
  | .copiesAdjustFound _ title copy => answerCopies title 3 copy
  | .loanGet _ loan => answerLoanGet loan
  | .loanList _ patron => answerLoanList patron
  | .writtenOffList _ => fun s => accept s (listField Lost.line s.records.lost ++ u16 s.records.lost.length)
  | .orderAdd _ patron title rush reread position => answerOrderAdd patron title rush reread position
  | .orderDrop _ patron title => answerOrderDrop patron title
  | .orderMove _ patron fromPos toPos => answerOrderMove patron fromPos toPos
  | .orderList _ patron => answerOrderList patron
  | .holdList _ title => answerHoldList title
  | .planNow _ => answerPlanNow
  | .planGet _ plan => answerPlanGet plan
  | .planCancel _ plan => answerPlanCancel plan
  | .queueList _ => fun s => accept s
      (listField s.queueLine s.planner.queue ++ u8 (s.plansIn 0) ++ u8 (s.plansIn 1) ++ u8 (s.plansIn 2) ++
        u8 s.planner.code ++ u16 (s.deferred .fillLow) ++ u16 (s.deferred .storeSpace))
  | .fetchNext _ => answerFetchNext
  | .fetchAbandon _ fetch => answerFetchAbandon fetch
  | .preload _ title => answerPreload title
  | .imageDrop _ title => answerImageDrop title
  | .imageList _ => fun s => accept s s.imageListFields
  | .fetchList _ => fun s => accept s (listField s.fetchLine s.store.fetches)
  | .slotStatus _ slot => answerSlotStatus slot
  | .slotHold _ slot => answerSlotHold slot
  | .slotRelease _ slot => answerSlotRelease slot
  | .slotClear _ slot => answerSlotClear slot
  | .slotFaultGet _ slot => answerSlotFaultGet slot
  | .shelfPulled _ item => answerShelfPulled item
  | .mailLabel _ item => answerMailLabel item
  | .trayList _ => fun s => accept s s.trayFields
  | .manifestGet _ batch => answerManifestGet batch
  | .alarmPut _ entry weekdays hour minute => answerAlarmPut entry weekdays hour minute
  | .alarmGet _ => fun s => accept s (listField Alarm.fields s.mail.alarms)
  | .readerGet _ => fun s => accept s s.returns.fields
  | .returnVolumeLoan _ loan volume => answerReturnLoan loan volume
  | .returnVolumeLate _ title copy volume => answerReturnLate title copy volume
  | .binList _ bin => answerBinList bin
  | .binTake _ bin count => answerBinTake bin count
  | .clockGet _ => fun s => accept s s.clockFields
  | .clockStop _ => answerClockStop
  | .clockSet _ year month day hour minute second => answerClockSet year month day hour minute second
  | .clockStart _ => answerClockStart
  | .closedDayPutUsed _ entry month day weekday => answerClosedUsed entry month day weekday
  | .closedDayPutClear _ entry => answerClosedClear entry
  | .closedDayGet _ => fun s => accept s (listField closedFields s.calendar.closedDays)
  | .remindersRead _ => answerRemindersRead
  | _ => fun s => refuse s .unknown

/-- The request commands whose reply is formed otherwise than by an answer: RESTART, EVENTS READ, IMAGE DATA. -/
def answeredApart (c : Instr) : Bool :=
  match c with
  | .restart _ => true
  | .eventsRead _ => true
  | .imageData _ _ _ _ => true
  | _ => false

/-- Every other request command serves its answer. -/
theorem exec_request {c : Instr} {code tag : Nat} {body : List Byte} (hc : c.request = some (code, tag, body))
    (ha : answeredApart c = false) (s : State) : exec c s = .next (s.serve code tag body (answerOf c)) := by
  cases c
  case unknownRequest tag' code' body' =>
    by_cases hj : judge code' body' = .served
    · simp [Instr.request, hj] at hc
    · simp only [Instr.request, hj, if_false, Option.some.injEq, Prod.mk.injEq] at hc
      obtain ⟨rfl, rfl, rfl⟩ := hc
      change execUnknownRequest _ _ _ s = _
      rw [execUnknownRequest, if_neg hj]
      rfl
  case restart | eventsRead | imageData => cases ha
  all_goals cases hc
  all_goals rfl

/-- What RESTART does once it is taken. -/
def State.restartTaken (a : State × Option Nat) : State :=
  match a with
  | (s, none) => s
  | (s, some i) =>
    if formedBefore s.link.queue i then
      ((s.formReply i { status := .ok, fields := [] }).placeReplies (i + 1)).endWork.clearLink.rebuild
    else s

/-- What EVENTS READ does once it is taken. -/
def State.eventsTaken (a : State × Option Nat) : State :=
  match a with
  | (s, none) => s
  | (s, some i) => (s.setQueue (setStage s.link.queue i .serving)).setEvents s.link.events.take

/-- What IMAGE DATA does once it is taken. -/
def State.dataTaken (id frame : Nat) (data : List Byte) (a : State × Option Nat) : State :=
  match a with
  | (s, none) => s
  | (s, some i) =>
    if data.length = Config.frameBytes ∧ s.fillOutstanding id then s
    else
      match s.judgeData id frame data with
      | .inl r => s.formReply i r
      | .inr f => (s.setQueue (setStage s.link.queue i (.writing id))).handFill (s.fillOf f frame data)

theorem State.restart_eq (s : State) (tag : Nat) :
    s.restart tag = State.restartTaken (s.takeRequest 0x03 tag []) := rfl

theorem State.takeEvents_eq (s : State) (tag : Nat) :
    s.takeEvents tag = State.eventsTaken (s.takeRequest 0x04 tag []) := rfl

theorem State.takeFrame_eq (s : State) (tag id frame : Nat) (data : List Byte) :
    s.takeFrame tag id frame data =
      State.dataTaken id frame data (s.takeRequest 0x31 tag (u8 id ++ u32 frame ++ data)) := rfl

/-- A request command acts on the request it takes, and on nothing where it takes none. -/
theorem exec_of_taken {c : Instr} {code tag : Nat} {body : List Byte}
    (hc : c.request = some (code, tag, body)) :
    ∃ g : State × Option Nat → State,
      (∀ s, exec c s = .next (g (s.takeRequest code tag body))) ∧ ∀ s, g (s, none) = s := by
  by_cases ha : answeredApart c = false
  · exact ⟨State.serveTaken (answerOf c), exec_request hc ha, fun _ => rfl⟩
  · cases c
    case restart => cases hc; exact ⟨State.restartTaken, fun _ => rfl, fun _ => rfl⟩
    case eventsRead => cases hc; exact ⟨State.eventsTaken, fun _ => rfl, fun _ => rfl⟩
    case imageData tag' id frame data =>
      cases hc
      exact ⟨State.dataTaken id frame data, fun _ => rfl, fun _ => rfl⟩
    all_goals exact absurd rfl ha

/-- With no request waiting, one that joins the queue is the oldest waiting. -/
theorem oldestWaiting_append {q : List Request} (h : oldestWaiting q = none) (r : Request)
    (hr : r.stage = .waiting) : oldestWaiting (q ++ [r]) = some q.length := by
  unfold oldestWaiting at *
  rw [List.findIdx?_append, h]
  simp [hr]

/-- A frame that arrives while none waits is taken as the request it becomes. -/
theorem State.takeRequest_of_arrival {s : State} {code tag : Nat} {body : List Byte} (hr : s.run = .running)
    (ho : oldestWaiting s.link.queue = none) (hl : s.link.queue.length < 4) :
    s.takeRequest code tag body = (s.setQueue (s.link.queue ++
      [{ code := code, tag := tag, body := body, stage := .waiting }])).takeRequest code tag body := by
  have joined := oldestWaiting_append ho { code := code, tag := tag, body := body, stage := .waiting } rfl
  simp [State.takeRequest, hr, ho, State.arrive, Config.requestMax, hl, State.setQueue, joined]

/-- A frame that arrives while 4 requests are pending and none waits is lost (R178). -/
theorem State.takeRequest_of_full {s : State} {code tag : Nat} {body : List Byte} (hr : s.run = .running)
    (ho : oldestWaiting s.link.queue = none) (hl : 4 ≤ s.link.queue.length) :
    s.takeRequest code tag body = (s.raise .linkFault, none) := by
  have lost : s.arrive code tag body = s.raise .linkFault := by
    simp [State.arrive, Config.requestMax, Nat.not_lt.2 hl]
  simp [State.takeRequest, hr, ho, lost]

/-- While an EVENTS READ is being served the request behind it is not taken. -/
theorem State.takeRequest_of_reading {s : State} {i code tag : Nat} {body : List Byte}
    (ho : oldestWaiting s.link.queue = some i) (he : s.link.events.reading = true) :
    s.takeRequest code tag body = (s, none) := by
  simp [State.takeRequest, ho, he]

end Sys2Proof.Machine
end

section
/-!
PROOF. The statements of steps, turns, replies and reads.
-/

namespace Sys2Proof.Proofs

open Sys2Proof Sys2Proof.Machine

/-- Settles O1: both parts are the two cases of `step`. -/
theorem stepRunsFrontCommand : Obligations.StepRunsFrontCommand := by
  refine ⟨fun c s => rfl, fun s h => ?_⟩
  unfold step
  rw [h]

/-- Settles O13, by what taking a request gives in each of the five cases. -/
theorem requestTurns : Obligations.RequestTurns := by
  intro c s code tag body hc
  obtain ⟨g, exec_eq, none_eq⟩ := exec_of_taken hc
  refine ⟨fun hr ho hl => ?_, fun hr ho hl => ?_, fun i ho hi => ?_, fun i ho he => ?_, fun hr => ?_⟩
  · rw [exec_eq, exec_eq, ← State.takeRequest_of_arrival hr ho hl]
  · rw [exec_eq, State.takeRequest_of_full hr ho hl, none_eq]
  · rw [exec_eq, State.takeRequest_of_other ho hi, none_eq]
  · rw [exec_eq, State.takeRequest_of_reading ho he, none_eq]
  · rw [exec_eq, State.takeRequest_of_not_running hr, none_eq]

end Sys2Proof.Proofs
end

section
/-!
PROOF. The planning trigger (R47 to R49) and the frames of the link (R176 to R180).
-/

namespace Sys2Proof.Machine

/-- A trigger noted in a quiet state and taken: what the pass makes of it (R49). -/
theorem State.triggered_eq {s : State} (h : s.quiet) :
    s.triggered = match s.planner.pass with
      | none => s.beginPass
      | some _ => s.setPlanner { s.planner with rerun := true } := by
  have due : s.setPlanner { s.noteTrigger.planner with due := false } = s := by
    have same : { s.noteTrigger.planner with due := false } = s.planner := by
      unfold State.quiet at h
      simp only [State.noteTrigger, State.setPlanner_planner, ← h]
    rw [same]
    rfl
  unfold State.triggered State.takeTrigger
  cases hp : s.planner.pass with
  | none =>
    have pass : s.noteTrigger.planner.pass = none := hp
    simp only [pass]
    change (s.setPlanner { s.noteTrigger.planner with due := false }).beginPass = _
    rw [due]
  | some l =>
    have pass : s.noteTrigger.planner.pass = some l := hp
    simp only [pass]
    unfold State.quiet at h
    simp [State.noteTrigger, State.setPlanner, hp, ← h]

theorem State.beginPass_of_empty {s : State} (h : s.serviceList = []) :
    s.beginPass = s.setPlanner { s.planner with pass := none, rerun := false } := by
  simp [State.beginPass, h]

theorem State.beginPass_of_ne {s : State} (h : s.serviceList ≠ []) :
    s.beginPass = s.setPlanner { s.planner with pass := some s.serviceList, rerun := false } := by
  unfold State.beginPass
  split
  · contradiction
  · rfl

/-! ## Reading the bytes of a frame (R176) -/

theorem leNat_u16 {n : Nat} (h : n < 65536) : leNat (u16 n) = n := by
  simp only [u16, leNat, BitVec.toNat_ofNat]
  omega

theorem leNat_u8 {n : Nat} (h : n < 256) : leNat (u8 n) = n := by
  simp only [u8, leNat, BitVec.toNat_ofNat]
  omega

theorem sum16_lt (bytes : List Byte) : sum16 bytes < 65536 := Nat.mod_lt _ (by decide)

/-- The bytes between a frame's sync and its sum. -/
def frameInner (code tag : Nat) (body : List Byte) : List Byte :=
  u16 (body.length + 2) ++ u8 code ++ u8 tag ++ body

theorem frameBytes_eq (code tag : Nat) (body : List Byte) :
    frameBytes code tag body = 0xD3#8 :: (frameInner code tag body ++ u16 (sum16 (frameInner code tag body))) := rfl

theorem frameInner_length (code tag : Nat) (body : List Byte) :
    (frameInner code tag body).length = body.length + 4 := by
  simp only [frameInner, u16, u8, List.length_append, List.length_cons, List.length_nil]
  omega

theorem frameBytes_length (code tag : Nat) (body : List Byte) :
    (frameBytes code tag body).length = body.length + 7 := by
  simp [frameBytes_eq, frameInner_length, u16]

theorem leAt_frameBytes_len {code tag : Nat} {body : List Byte} (hb : body.length ≤ 4110) :
    leAt (frameBytes code tag body) 1 2 = body.length + 2 := leNat_u16 (by omega)

theorem leAt_frameBytes_code {code : Nat} (tag : Nat) (body : List Byte) (hc : code < 256) :
    leAt (frameBytes code tag body) 3 1 = code := leNat_u8 hc

theorem leAt_frameBytes_tag (code : Nat) {tag : Nat} (body : List Byte) (ht : tag < 256) :
    leAt (frameBytes code tag body) 4 1 = tag := leNat_u8 ht

theorem frameBytes_body (code tag : Nat) (body : List Byte) :
    ((frameBytes code tag body).drop 5).take body.length = body := by
  change (body ++ u16 _).take body.length = body
  simp

/-- The first bytes of a frame read as the frame's do. -/
theorem leAt_append {p rest : List Byte} {k n : Nat} (h : k + n ≤ p.length) : leAt (p ++ rest) k n = leAt p k n := by
  unfold leAt
  rw [List.drop_append_of_le_length (by omega), List.take_append_of_le_length (by simp; omega)]

/-- A frame received in part is not judged (R177). -/
theorem judgeFrame_of_part {code tag : Nat} {body p rest : List Byte} (hb : body.length ≤ 4110)
    (hp : p ++ rest = frameBytes code tag body) (hr : rest ≠ []) : judgeFrame p = .incomplete := by
  unfold judgeFrame
  by_cases hl : p.length < 3
  · rw [if_pos hl]
  · have total : p.length + rest.length = body.length + 7 := by
      rw [← List.length_append, hp, frameBytes_length]
    have more := List.length_pos_of_ne_nil hr
    have len : leAt p 1 2 = body.length + 2 := by
      rw [← leAt_frameBytes_len (code := code) (tag := tag) hb, ← hp, leAt_append (by omega)]
    have fits : ¬(leAt p 1 2 < 2 ∨ Config.lenMax < leAt p 1 2) := by
      rw [len, Config.lenMax]
      omega
    rw [if_neg hl, if_neg fits, if_pos (by omega)]

/-- A whole frame is good. -/
theorem judgeFrame_frameBytes {code tag : Nat} {body : List Byte} (hb : body.length ≤ 4110) :
    judgeFrame (frameBytes code tag body) = .good := by
  have length := frameBytes_length code tag body
  have len := leAt_frameBytes_len (code := code) (tag := tag) hb
  have inner : ((frameBytes code tag body).drop 1).take (body.length + 2 + 2) = frameInner code tag body := by
    rw [← frameInner_length code tag body, frameBytes_eq]
    simp
  have sum : leAt (frameBytes code tag body) (body.length + 2 + 3) 2 = sum16 (frameInner code tag body) := by
    have place : (frameBytes code tag body).drop (body.length + 2 + 3) = u16 (sum16 (frameInner code tag body)) := by
      rw [frameBytes_eq, List.drop_succ_cons, ← frameInner_length code tag body]
      simp
    rw [leAt, place]
    exact leNat_u16 (sum16_lt _)
  unfold judgeFrame
  simp only [len, inner, sum]
  rw [if_neg (by omega), if_neg (by rw [Config.lenMax]; omega), if_neg (by omega), if_pos trivial]

/-! ## The receiver (R176, R177) -/

/-- In HUNT a byte that is not the sync is passed over. -/
theorem State.receive_junk {s : State} (junk more : List Byte) (hf : s.link.frame = []) (hj : 0xD3#8 ∉ junk) :
    s.receive (junk ++ more) = s.receive more := by
  induction junk with
  | nil => rfl
  | cons b junk ih =>
    simp only [List.mem_cons, not_or] at hj
    have passed : s.receiveByte b = s := by simp [State.receiveByte, hf, Ne.symm hj.1]
    have judged : judgeFrame s.link.frame ≠ .bad := by rw [hf]; decide
    rw [List.cons_append, State.receive, if_neg judged, passed]
    exact ih hj.2

/-- The rest of a frame under way makes it a request, or loses it (R178). -/
theorem State.receive_rest {s : State} {code tag : Nat} {body : List Byte} (rest more : List Byte)
    (hb : body.length ≤ 4110) (hc : code < 256) (ht : tag < 256) (h0 : s.link.frame ≠ []) (hr : rest ≠ [])
    (hp : s.link.frame ++ rest = frameBytes code tag body) :
    s.receive (rest ++ more) = ((s.setFrame []).arrive code tag body).receive more := by
  induction rest generalizing s with
  | nil => exact absurd rfl hr
  | cons b rest ih =>
    have judged : judgeFrame s.link.frame ≠ .bad := by
      rw [judgeFrame_of_part hb hp hr]
      decide
    have under : s.link.frame.isEmpty = false := by simpa using h0
    have joined : (s.link.frame ++ [b]) ++ rest = frameBytes code tag body := by simpa using hp
    rw [List.cons_append, State.receive, if_neg judged, State.receiveByte]
    simp only [under, Bool.false_eq_true, if_false]
    by_cases hrest : rest = []
    · rw [hrest, List.append_nil] at joined
      have last : body.length + 2 - 2 = body.length := by omega
      rw [joined, judgeFrame_frameBytes hb, hrest]
      simp only [leAt_frameBytes_code tag body hc, leAt_frameBytes_tag code body ht, leAt_frameBytes_len hb,
        last, frameBytes_body, List.nil_append]
    · rw [judgeFrame_of_part hb joined hrest]
      have step := ih (s := s.setFrame (s.link.frame ++ [b])) (by simp [State.setFrame]) hrest joined
      simpa [State.setFrame] using step

/-- A good frame taken from HUNT. -/
theorem State.receive_frameBytes {s : State} {code tag : Nat} {body : List Byte} (more : List Byte)
    (hb : body.length ≤ 4110) (hc : code < 256) (ht : tag < 256) (hf : s.link.frame = []) :
    s.receive (frameBytes code tag body ++ more) = ((s.setFrame []).arrive code tag body).receive more := by
  have judged : judgeFrame s.link.frame ≠ .bad := by rw [hf]; decide
  rw [frameBytes_eq, List.cons_append, State.receive, if_neg judged]
  have sync : s.receiveByte 0xD3#8 = s.setFrame [0xD3#8] := by simp [State.receiveByte, hf]
  have rest := State.receive_rest (s := s.setFrame [0xD3#8])
    (frameInner code tag body ++ u16 (sum16 (frameInner code tag body))) more hb hc ht
    (List.cons_ne_nil _ _) (by simp [frameInner, u16]) (frameBytes_eq code tag body).symm
  rw [sync, rest]
  rfl

theorem State.arrive_of_room {s : State} (code tag : Nat) (body : List Byte) (h : s.link.queue.length < 4) :
    s.arrive code tag body = s.setQueue (s.link.queue ++
      [{ code := code, tag := tag, body := body, stage := .waiting }]) := if_pos h

theorem State.arrive_of_full {s : State} (code tag : Nat) (body : List Byte) (h : ¬s.link.queue.length < 4) :
    s.arrive code tag body = s.raise .linkFault := if_neg h

theorem State.setIncoming_self {s : State} (h : s.link.incoming = []) : s.setIncoming [] = s := by
  unfold State.setIncoming
  rw [← h]
  rfl

end Sys2Proof.Machine

namespace Sys2Proof.Proofs

open Sys2Proof Sys2Proof.Machine

/-- Settles O16, by the Planner's state at the trigger and the patron's deferral. -/
theorem planningTriggerTaken : Obligations.PlanningTriggerTaken := by
  refine ⟨fun s hq => ⟨fun l hl => ?_, fun hp hl => ?_, fun hp hl => ?_⟩, fun s k =>
    ⟨fun p hp hd => ?_, fun p hp hd => ?_, fun hp => ?_⟩⟩
  · rw [State.triggered_eq hq, hl]
  · rw [State.triggered_eq hq, hp, State.beginPass_of_empty hl]
    simp [← hp]
  · rw [State.triggered_eq hq, hp, State.beginPass_of_ne hl]
  · simp [State.clearFillLow, hp, hd]
  · simp [State.clearFillLow, hp, hd]
  · simp [State.clearFillLow, hp]

/-- Settles O17, by the receiver's walk along a good frame, from HUNT or after the bytes a bad frame gives back. -/
theorem framesReceivedAndDiscarded : Obligations.FramesReceivedAndDiscarded := by
  refine ⟨fun s code tag body hr hf hi hc ht hb => ?_, fun s sync rest junk code tag body hf hbad hj hn hc ht hb hl => ?_⟩
  · change execFrameReceive _ s = _
    have walk := State.receive_frameBytes [] hb hc ht hf
    have hunting : s.setFrame [] = s := by
      unfold State.setFrame
      rw [← hf]
      rfl
    rw [List.append_nil, hunting, State.receive] at walk
    rw [execFrameReceive, if_neg hr, hi, List.nil_append, walk]
    by_cases hl : s.link.queue.length < 4
    · rw [State.arrive_of_room code tag body hl, if_pos hl]
      exact congrArg _ (State.setIncoming_self hi)
    · rw [State.arrive_of_full code tag body hl, if_neg hl]
      exact congrArg _ (State.setIncoming_self hi)
  · change execFrameDiscard s = _
    have under : s.link.frame.drop 1 = rest := by rw [hf]; rfl
    rw [execFrameDiscard, if_pos hbad, State.discardFrame, under, hj]
    have hunting : ((s.raise .linkFault).setFrame []).link.frame = [] := rfl
    have walk := State.receive_frameBytes [] hb hc ht hunting
    rw [List.append_nil] at walk
    have room : (((s.raise .linkFault).setFrame []).setFrame []).link.queue.length < 4 := hl
    rw [State.receive_junk junk _ hunting hn, walk, State.receive, State.arrive_of_room code tag body room]
    rfl

end Sys2Proof.Proofs
end

section
/-!
PROOF. The replies of the link (R179, R180), the reads (R2, R16, R21, R23, R39, R58, R59, R82), IDENTIFY, STATUS,
the contexts and the settings (R182 to R186).
-/

namespace Sys2Proof.Machine

/-! ## Naming a record: what is refused (R2) -/

theorem State.findPatron_of_range {s : State} {n : Nat} (h : Config.patronMax < n) :
    s.findPatron n = .error .range := by
  simp [State.findPatron, State.patronIndex, h]

theorem State.findPatron_of_noContext {s : State} (h : s.link.patronCtx = none) :
    s.findPatron 0 = .error .noRecord := by
  simp [State.findPatron, State.patronIndex, h]

theorem State.findPatron_of_free {s : State} {n k : Nat} (hn : n ≤ Config.patronMax)
    (h : n = k ∧ n ≠ 0 ∨ n = 0 ∧ s.link.patronCtx = some k) (hp : s.patron k = none) :
    s.findPatron n = .error .noRecord := by
  simp [State.findPatron, State.patronIndex_of_named hn h, hp]

theorem State.findTitle_of_range {s : State} {n : Nat} (h : Config.titleMax < n) :
    s.findTitle n = .error .range := by
  simp [State.findTitle, State.titleIndex, h]

theorem State.findTitle_of_noContext {s : State} (h : s.link.titleCtx = none) :
    s.findTitle 0 = .error .noRecord := by
  simp [State.findTitle, State.titleIndex, h]

theorem State.findTitle_of_free {s : State} {n k : Nat} (hn : n ≤ Config.titleMax)
    (h : n = k ∧ n ≠ 0 ∨ n = 0 ∧ s.link.titleCtx = some k) (hr : s.title k = none) :
    s.findTitle n = .error .noRecord := by
  simp [State.findTitle, State.titleIndex_of_named hn h, hr]

/-! ## The reads of a patron, and of a title -/

/-- The reads that name a patron: refused as the naming is, and otherwise answered with the context left there. -/
theorem answerPatronRead_of_error {c : Instr} {tag n : Nat} {st : Status} {s : State}
    (hc : c = .patronGet tag n ∨ c = .loanList tag n ∨ c = .orderList tag n)
    (h : s.findPatron n = .error st) : answerOf c s = refuse s st := by
  obtain rfl | rfl | rfl := hc
  · simp [answerOf, answerPatronGet, h]
  · simp [answerOf, answerLoanList, h]
  · simp [answerOf, answerOrderList, h]

theorem answerTitleRead_of_error {c : Instr} {tag n : Nat} {st : Status} {s : State}
    (hc : c = .titleGet tag n ∨ c = .holdList tag n) (h : s.findTitle n = .error st) :
    answerOf c s = refuse s st := by
  obtain rfl | rfl := hc
  · simp [answerOf, answerTitleGet, h]
  · simp [answerOf, answerHoldList, h]

/-! ## Values outside their range (R183) -/

theorem clamp_eq {lo hi : Nat} (h : lo ≤ hi) (x : Nat) : clamp lo hi x = max lo (min hi x) := by
  unfold clamp
  split
  · omega
  · split <;> omega

theorem clamp_zero_eq (hi x : Nat) : clamp 0 hi x = min hi x := by
  rw [clamp_eq (Nat.zero_le hi)]
  omega

/-! ## CONTEXT SET (R182) -/

theorem contextField_of_range {max i : Nat} {held : Bool} (h : max < i) :
    contextField max i held = .error .range := by
  have : i ≠ 0 := by omega
  simp [contextField, this, h]

theorem contextField_of_free {max i : Nat} (h1 : 1 ≤ i) (h : i ≤ max) :
    contextField max i false = .error .noRecord := by
  have : i ≠ 0 := by omega
  simp [contextField, this, Nat.not_lt.2 h]

theorem contextField_of_held {max i : Nat} {held : Bool} (h : i = 0 ∨ i ≤ max ∧ held = true) :
    contextField max i held = .ok (if i = 0 then none else some i) := by
  unfold contextField
  by_cases h0 : i = 0
  · simp [h0]
  · obtain ⟨hm, hh⟩ := h.resolve_left h0
    simp [h0, Nat.not_lt.2 hm, hh]

/-! ## The end of work (R191) -/

theorem State.endWork_workEnded (s : State) (r : RunState) :
    WorkEnded s ((s.endWork.clearLink.emptyPipe).setRun r) := by
  refine ⟨?_, ?_, ?_, ?_, ?_, ?_, ?_, ?_, ?_, ?_⟩ <;> simp [State.endWork, State.clearLink, State.emptyPipe]
  · rfl
  · exact fun _ _ => rfl

/-! ## Requests the part does not serve (R179) -/

theorem answerUnknown_of_unserved {code : Nat} {body : List Byte} (s : State) (h : judge code body ≠ .served) :
    answerUnknown code body s = refuse s (if bodyLengths code = none then .unknown else .length) := by
  unfold answerUnknown
  cases hb : bodyLengths code with
  | none => simp [judge, hb]
  | some ls =>
    have unlisted : body.length ∉ ls := fun hl => h (by simp [judge, hb, hl])
    simp [judge, hb, unlisted]

end Sys2Proof.Machine

namespace Sys2Proof.Proofs

open Sys2Proof Sys2Proof.Machine

/-- A refused request, once its answer is known. -/
theorem exec_refused {c : Instr} {s : State} {i : Nat} {st : Status} (h : s.serves i c)
    (ha : answeredApart c = false) (hq : s.quiet) (hf : answerOf c s = refuse s st) :
    exec c s = .next (s.formReply i { status := st, fields := [] }) := by
  obtain ⟨-, -, -, code, tag, body, hc, -⟩ := id h
  rw [exec_request hc ha, State.serve_refuse h hc hf hq]

/-- An accepted request, once its answer is known. -/
theorem exec_accepted {c : Instr} {s t : State} {i : Nat} {fields : List Byte} (h : s.serves i c)
    (ha : answeredApart c = false) (hf : answerOf c s = accept t fields) :
    exec c s = .next (t.replied i fields).takeTrigger := by
  obtain ⟨-, -, -, code, tag, body, hc, -⟩ := id h
  rw [exec_request hc ha, State.serve_accept h hc hf]

/-- An accepted request that meets no planning trigger. -/
theorem exec_accepted_quiet {c : Instr} {s t : State} {i : Nat} {fields : List Byte} (h : s.serves i c)
    (ha : answeredApart c = false) (hf : answerOf c s = accept t fields) (hq : t.quiet) :
    exec c s = .next (t.replied i fields) := by
  obtain ⟨-, -, -, code, tag, body, hc, -⟩ := id h
  rw [exec_request hc ha, State.serve_accept_quiet h hc hf hq]

/-- An accepted request whose answer is a planning trigger (R49). -/
theorem exec_accepted_trigger {c : Instr} {s t : State} {i : Nat} {fields : List Byte} (h : s.serves i c)
    (ha : answeredApart c = false) (hf : answerOf c s = accept t.noteTrigger fields) :
    exec c s = .next (t.replied i fields).triggered := exec_accepted h ha hf

/-- Settles O18: a reply is placed by the queue's first entry, and an unknown request is judged by its length. -/
theorem requestsRejectedRepliesPlaced : Obligations.RequestsRejectedRepliesPlaced := by
  refine ⟨⟨fun s r rest reply hq hr hc => ?_, fun s r rest hq hr => ?_, fun s hq => ?_⟩,
    fun s i tag code body h hquiet => ?_⟩
  · change Host.Outcome.next s.placeReply = _
    simp [State.placeReply, hq, hr, Request.replyFrame, replyCode, hc]
  · change Host.Outcome.next s.placeReply = _
    unfold State.placeReply
    rw [hq]
    cases hst : r.stage with
    | formed reply => exact absurd hst (hr reply)
    | waiting | serving | writing => simp [hst]
  · change Host.Outcome.next s.placeReply = _
    simp [State.placeReply, hq]
  · refine exec_refused h rfl hquiet ?_
    have unserved : judge code body ≠ .served := by
      obtain ⟨-, -, -, _, _, _, hc, -⟩ := id h
      intro hj
      simp [Instr.request, hj] at hc
    exact answerUnknown_of_unserved s unserved

/-- Settles O20: each of these reads accepts what it finds and leaves the state. -/
theorem readsChangeNothing : Obligations.ReadsChangeNothing := by
  refine ⟨fun s i tag hq => ?_, fun s i tag hq => ⟨fun n l h h1 hn hl => ?_, fun n p h h1 hp => ?_,
    fun n m h hm => ?_, fun n h h1 h8 => ?_, fun h => ?_, fun n h h1 h8 => ?_, fun h => ?_, fun h => ?_⟩⟩
  · have read {c : Instr} {fields : List Byte} (ha : answeredApart c = false)
        (hf : answerOf c s = accept s fields) (h : s.serves i c) : exec c s = .next (s.replied i fields) :=
      exec_accepted_quiet h ha hf hq
    exact ⟨read rfl rfl, read rfl rfl, read rfl rfl, read rfl rfl, read rfl rfl, read rfl rfl, read rfl rfl,
      read rfl rfl, read rfl rfl, read rfl rfl⟩
  · refine exec_accepted_quiet h rfl ?_ hq
    have named : ¬(n = 0 ∨ Config.loanMax < n) := by
      rw [Config.loanMax]
      omega
    simp [answerOf, answerLoanGet, State.findLoan, named, hl]
  · refine exec_accepted_quiet h rfl ?_ hq
    have named : n ≠ 0 := by omega
    simp [answerOf, answerPlanGet, State.findPlan, named, hp]
  · refine exec_accepted_quiet h rfl ?_ hq
    have found : s.mail.manifest n = some m := by
      obtain ⟨rfl, hm⟩ | ⟨hn, hm⟩ := hm
      · simpa [Mail.manifest] using hm
      · simpa [Mail.manifest, hn] using hm
    simp [answerOf, answerManifestGet, found]
  · refine exec_accepted_quiet h rfl ?_ hq
    have inRack : ¬Config.slots < n := by
      rw [Config.slots]
      omega
    have named : n ≠ 0 := by omega
    simp [answerOf, answerSlotStatus, inRack, named, listField]
  · exact exec_accepted_quiet h rfl rfl hq
  · refine exec_accepted_quiet h rfl ?_ hq
    have numbered : slotNumber n = true := decide_eq_true ⟨h1, h8⟩
    simp only [answerOf, answerSlotFaultGet, numbered]
    cases (s.slot n).fault <;> rfl
  · exact exec_accepted_quiet h rfl rfl hq
  · exact exec_accepted_quiet h rfl rfl hq

/-- Settles O21: the record is named as R2 gives, and the context left at it. -/
theorem recordReadsNameAndSetContext : Obligations.RecordReadsNameAndSetContext := by
  refine ⟨fun s i tag n hq => ⟨fun c hc h => ?_, ?_⟩,
    fun s i tag n hq => ⟨fun c hc h => ?_, ?_⟩⟩
  · have apart : answeredApart c = false := by obtain rfl | rfl | rfl := hc <;> rfl
    refine ⟨fun hn => ?_, fun hn hx => ?_, fun k hn hk hp => ?_⟩
    · exact exec_refused h apart hq (answerPatronRead_of_error hc (State.findPatron_of_range hn))
    · subst hn
      exact exec_refused h apart hq (answerPatronRead_of_error hc (State.findPatron_of_noContext hx))
    · exact exec_refused h apart hq (answerPatronRead_of_error hc (State.findPatron_of_free hn hk hp))
  · intro k hn hk t p hp
    have found := State.findPatron_of_named hn hk hp
    have used := State.usePatron_of_named hk
    refine ⟨fun h => exec_accepted_quiet h rfl ?_ hq, fun h => exec_accepted_quiet h rfl ?_ hq,
      fun h => exec_accepted_quiet h rfl ?_ hq⟩
    · simp [answerOf, answerPatronGet, found, used, t]
    · simp [answerOf, answerLoanList, found, used, t]
    · simp [answerOf, answerOrderList, found, used, t]
  · have apart : answeredApart c = false := by obtain rfl | rfl := hc <;> rfl
    refine ⟨fun hn => ?_, fun hn hx => ?_, fun k hn hk hr => ?_⟩
    · exact exec_refused h apart hq (answerTitleRead_of_error hc (State.findTitle_of_range hn))
    · subst hn
      exact exec_refused h apart hq (answerTitleRead_of_error hc (State.findTitle_of_noContext hx))
    · exact exec_refused h apart hq (answerTitleRead_of_error hc (State.findTitle_of_free hn hk hr))
  · intro k hn hk t r hr
    have found := State.findTitle_of_named hn hk hr
    have used := State.useTitle_of_named hk
    refine ⟨fun h => exec_accepted_quiet h rfl ?_ hq, fun h hf => exec_refused h rfl hq ?_,
      fun h hf => exec_accepted_quiet h rfl ?_ hq⟩
    · simp [answerOf, answerTitleGet, found, used, t]
    · simp [answerOf, answerHoldList, found, hf]
    · simp [answerOf, answerHoldList, found, used, hf, t]
      rfl

/-- Settles O24: the fields are checked in their order, the patron's first, and every value is clamped. -/
theorem identifyStatusContextsSettings : Obligations.IdentifyStatusContextsSettings := by
  refine ⟨fun s i tag h hq => exec_accepted_quiet h rfl rfl hq,
    fun s i tag h hq => exec_accepted_quiet h rfl rfl hq, fun s i tag p t h hq => ?_,
    fun s i tag cart set floor window hour minute key h hq => ?_⟩
  · have refused {st : Status} (hf : answerContextSet p t s = refuse s st) :
        exec (.contextSet tag p t) s = .next (s.formReply i { status := st, fields := [] }) :=
      exec_refused h rfl hq hf
    refine ⟨fun hp => refused ?_, fun h1 hp hx => refused ?_, fun hp => ?_⟩
    · simp [answerContextSet, contextField_of_range (show Config.patronMax < p from hp)]
    · simp [answerContextSet, hx, contextField_of_free h1 (show p ≤ Config.patronMax from hp)]
    · have patron : contextField Config.patronMax p (s.patron p).isSome = .ok (if p = 0 then none else some p) :=
        contextField_of_held (hp.imp_right fun h => ⟨h.1, Option.isSome_iff_ne_none.2 h.2⟩)
      refine ⟨fun ht => refused ?_, fun h1 ht hx => refused ?_, fun ht => ?_⟩
      · simp [answerContextSet, patron, contextField_of_range (show Config.titleMax < t from ht)]
      · simp [answerContextSet, patron, hx, contextField_of_free h1 (show t ≤ Config.titleMax from ht)]
      · have title : contextField Config.titleMax t (s.title t).isSome = .ok (if t = 0 then none else some t) :=
          contextField_of_held (ht.imp_right fun h => ⟨h.1, Option.isSome_iff_ne_none.2 h.2⟩)
        refine exec_accepted_quiet h rfl ?_ hq
        simp only [answerOf, answerContextSet, patron, title]
  · exact ⟨clampSettings cart set floor window hour minute key, clamp_eq (by decide) _, clamp_eq (by decide) _,
      clamp_zero_eq _ _, clamp_eq (by decide) _, clamp_zero_eq _ _, clamp_zero_eq _ _, rfl,
      exec_accepted_quiet h rfl rfl hq⟩

/-- Settles O25: either end of work is `State.endWork` on a cleared link. -/
theorem resetAndPowerLossEndWork : Obligations.ResetAndPowerLossEndWork := by
  exact ⟨⟨fun s hr => ⟨s.assertReset, if_pos hr, rfl, State.endWork_workEnded s .resetHeld⟩,
    fun s hr => if_neg hr⟩, fun s => ⟨s.losePower, rfl, rfl, State.endWork_workEnded s .off⟩⟩

end Sys2Proof.Proofs
end

section
/-!
PROOF. Commands complete, and leave the queue of the commands that wait (log entries 9, 30).
-/

namespace Sys2Proof.Machine

/-! ## What two answers leave, said once -/

/-- What an action of COPIES ADJUST makes of the state, and what it needs (R19). -/
theorem copiesAction_cases {action count k n : Nat} {t : Title} {s u : State} {sweeps : Bool}
    (h : copiesAction action count k t s = .ok (n, u, sweeps)) :
    (action = 1 ∧ t.owned < Config.copyMax ∧ n = min count (Config.copyMax - t.owned) ∧ sweeps = true ∧
        u = s.setTitle k { t with copies := addCopies n t.copies }) ∨
      (action = 2 ∧ count ≤ t.shelf ∧ n = count ∧ sweeps = false ∧
        u = s.setTitle k { t with copies := removeCopies count t.copies }) ∨
      (action = 3 ∧ count ≠ 0 ∧ count ≤ Config.copyMax ∧ t.copy count = .missing ∧ n = 1 ∧ sweeps = true ∧
        u = (s.moveCopy k count .shelf).unloseCopy k count) := by
  unfold copiesAction at h
  repeat' split at h
  all_goals simp only [Except.ok.injEq, Prod.mk.injEq, reduceCtorEq] at h
  all_goals
    obtain ⟨rfl, rfl, rfl⟩ := h
    simp_all

/-- COPIES ADJUST leaves the state, or its action with the sweep and the context (R19). -/
theorem answerCopies_cases (title action count : Nat) (s : State) :
    (answerCopies title action count s).2 = s ∨
      ∃ k t n u sweeps, s.findTitle title = .ok (k, t) ∧ t.format = .pbraille ∧
        copiesAction action count k t s = .ok (n, u, sweeps) ∧
        (answerCopies title action count s).2 = (if sweeps then u.sweep [k] else u).useTitle title := by
  unfold answerCopies
  split
  · exact .inl rfl
  · next k t hf =>
    split
    · exact .inl rfl
    · split
      · exact .inl rfl
      · next hp =>
        split
        · exact .inl rfl
        · next n u sweeps hc =>
          split
          · exact .inl rfl
          · exact .inr ⟨k, t, n, u, sweeps, hf, not_not.1 hp, hc, rfl⟩

theorem answerCopies_pending (title action count : Nat) (s : State) :
    (answerCopies title action count s).2.pending = s.pending := by
  obtain h | ⟨k, t, n, u, sweeps, -, -, hc, h⟩ := answerCopies_cases title action count s
  · rw [h]
  · have hu : u.pending = s.pending := by
      obtain ⟨-, -, -, -, rfl⟩ | ⟨-, -, -, -, rfl⟩ | ⟨-, -, -, -, -, -, rfl⟩ := copiesAction_cases hc <;>
        simp [State.unloseCopy]
    rw [h]
    cases sweeps <;> simp [hu]

theorem State.holdSlot_pending {s t : State} {n : Nat} (h : s.holdSlot n = some t) : t.pending = s.pending := by
  unfold State.holdSlot at h
  dsimp only at h
  repeat' split at h
  all_goals simp only [Option.some.injEq, reduceCtorEq] at h
  all_goals
    subst h
    simp

theorem answerSlotHold_pending (slot : Nat) (s : State) : (answerSlotHold slot s).2.pending = s.pending := by
  unfold answerSlotHold
  split
  · rfl
  · split
    · rfl
    · next t ht => simp [State.holdSlot_pending ht]

/-! ## What the commands that are no requests do -/

/-- The work of a socket's report or time-out, and the socket it names. -/
def socketWork (c : Instr) : Option (Nat × (State → State)) :=
  match c with
  | .identityReadDone n ok area => some (n, fun s =>
    s.report n (fun o => decide (o = .readIdentity)) fun _ s => s.identityRead n (identityOf ok area))
  | .pageReadDone n ok page => some (n, fun s => s.report n CartOp.isPageRead fun _ s => s.pageRead n ok page)
  | .permitReply n granted => some (n, fun s =>
    s.report n CartOp.isPermit fun o s =>
      match o with
      | .grantPermit w => s.permitReply n granted w
      | _ => s)
  | .pageProgramDone n ok => some (n, fun s => s.report n CartOp.isProgram fun _ s => s.programDone n ok)
  | .eraseDone n ok => some (n, fun s => s.report n (s.slot n).awaitsErase fun o s => s.eraseDone n ok o)
  | .markCycleDone n => some (n, fun s =>
    s.report n (fun o => decide (o = .markCycle)) fun _ s => s.markDone n)
  | .suspendDone n => some (n, fun s =>
    s.report n (fun o => decide (o = .suspend)) fun _ s => s.suspendDone n)
  | .resumeDone n => some (n, fun s =>
    s.report n (fun o => decide (o = .resume)) fun _ s => s.resumeDone n)
  | .cartOpTimeout n ran => some (n, fun s => s.runFor n ran)
  | .reportAnsweringNoOperation n => some (n, fun s => s.report n (fun _ => false) fun _ s => s)
  | _ => none

theorem exec_socketWork {c : Instr} {n : Nat} {f : State → State} (h : socketWork c = some (n, f)) (s : State) :
    exec c s = s.socketEvent n f := by
  cases c
  case identityReadDone | pageReadDone | permitReply | pageProgramDone | eraseDone | markCycleDone |
      suspendDone | resumeDone | cartOpTimeout | reportAnsweringNoOperation =>
    cases h
    rfl
  all_goals cases h

/-- The work of a command of the part's own, a report of the reader, or a start: its condition and its effect. -/
def ownWork (c : Instr) : Option ((State → Bool) × (State → State)) :=
  match c with
  | .frameReceive bytes => some (fun s => decide (s.run ≠ .off), fun s => s.receive (s.link.incoming ++ bytes))
  | .frameDiscard => some (fun s => decide (judgeFrame s.link.frame = .bad), State.discardFrame)
  | .replyPlace => some (fun _ => true, State.placeReply)
  | .eventsReadReply => some (fun _ => true, State.replyEvents)
  | .passPatronStep => some (fun s => decide (s.run = .running), State.passStep)
  | .clockTick => some (fun _ => true, State.tick)
  | .dispatchCartridgeItem => some (fun s => decide (s.run = .running), fun s => s.stepCartridge.takeTrigger)
  | .dispatchSetItem => some (fun s => decide (s.run = .running), fun s => s.stepSet.takeTrigger)
  | .readerIdentityDone ok area =>
    some (fun s => decide (s.run = .running), fun s => (s.readerRead (identityOf ok area)).takeTrigger)
  | .readerReadTimeout ran =>
    some (fun s => decide (s.run = .running ∧ Config.shortLimit ≤ ran), fun s => (s.readerRead none).takeTrigger)
  | .rollLoanStep => some (fun s => decide (s.run = .running), fun s => s.loanStep.takeTrigger)
  | .rollPatronStep => some (fun s => decide (s.run = .running), fun s => s.patronStep.takeTrigger)
  | .rollDeferralClear => some (fun s => decide (s.run = .running), State.deferralStep)
  | .rollFinish => some (fun s => decide (s.run = .running), State.finishStep)
  | .rollEndPlanningTrigger =>
    some (fun s => decide (s.run = .running ∧ s.calendar.follow = .trigger),
      fun s => (s.noteTrigger.setFollow (s.followAfter false)).takeTrigger)
  | .heldCloseRelease =>
    some (fun s => decide (s.run = .running ∧ s.calendar.follow = .heldClose),
      fun s => s.releaseClose.setFollow (s.followAfter true))
  | .pendingResultComplete =>
    some (fun s => decide (s.run = .running ∧ s.calendar.follow = .pendingResult ∧ s.rolling = false),
      fun s => (s.completePending.setFollow .nothing).takeTrigger)
  | .powerOnStart held good => some (fun _ => true, fun s => s.powerOn held good)
  | .powerLoss => some (fun _ => true, State.losePower)
  | .resetAssert => some (fun s => decide (s.run = .running), State.assertReset)
  | .resetRelease => some (fun s => decide (s.run = .resetHeld), State.rebuild)
  | _ => none

/-- Work done while its condition holds, and nothing otherwise. -/
theorem exec_ownWork {c : Instr} {p : State → Bool} {f : State → State} (h : ownWork c = some (p, f)) (s : State) :
    exec c s = .next (if p s then f s else s) := by
  have guarded {q : Prop} [Decidable q] {u : State} (hp : p s = decide q) (hu : f s = u) :
      (if q then .next u else .next s : Answer) = .next (if p s then f s else s) := by
    rw [hp, hu]
    by_cases hq : q <;> simp [hq]
  cases c
  case frameReceive bytes =>
    cases h
    change execFrameReceive bytes s = _
    unfold execFrameReceive
    by_cases hr : s.run = .off <;> simp [hr]
  case replyPlace | eventsReadReply | clockTick | powerOnStart | powerLoss => cases h; rfl
  case frameDiscard | passPatronStep | dispatchCartridgeItem | dispatchSetItem | readerIdentityDone |
      readerReadTimeout | rollLoanStep | rollPatronStep | rollDeferralClear | rollFinish |
      rollEndPlanningTrigger | heldCloseRelease | pendingResultComplete | resetAssert | resetRelease =>
    cases h
    exact guarded rfl rfl
  all_goals cases h

/-- The commands of a socket or a bank that are judged by their operand, and those of the reader's socket. -/
theorem exec_cartridgeInsert (n : Nat) (s : State) : exec (.cartridgeInsert n) s = execCartridgeInsert n s := rfl
theorem exec_cartridgeRemove (n : Nat) (s : State) : exec (.cartridgeRemove n) s = execCartridgeRemove n s := rfl
theorem exec_fillWriteComplete (b : Nat) (s : State) : exec (.fillWriteComplete b) s = execFillWriteComplete b s := rfl
theorem exec_frameReadComplete (b : Nat) (s : State) : exec (.frameReadComplete b) s = execFrameReadComplete b s := rfl
theorem exec_readerInsert (s : State) : exec .readerInsert s = execReaderInsert s := rfl
theorem exec_readerRemove (s : State) : exec .readerRemove s = execReaderRemove s := rfl

/-- What the commands of a kind of their own leave: a removal, an insertion, a completion of a bank, the reader's
socket. -/
inductive State.HandEffect (s : State) : State → Prop
  | idle : HandEffect s s
  | present {n : Nat} (hn : n ∈ slotNumbers) (hr : s.run ≠ .running) (present : Bool) :
    HandEffect s (s.setPresent n present)
  | insert {n : Nat} (hn : n ∈ slotNumbers) (hr : s.run = .running) : HandEffect s (s.insertCartridge n)
  | remove {n : Nat} (hn : n ∈ slotNumbers) (hr : s.run = .running) (he : (s.slot n).state ≠ .empty) :
    HandEffect s (s.removeCartridge n).takeTrigger
  | fill {b : Nat} {f : FillOp} (hb : b < 4) (hr : s.run = .running) (hf : (s.bank b).current = some (.fill f)) :
    HandEffect s (s.fillComplete b f).takeTrigger
  | read {b : Nat} {r : ReadOp} (hb : b < 4) (hr : s.run = .running) (hf : (s.bank b).current = some (.read r)) :
    HandEffect s (s.readComplete b r).takeTrigger
  | readerPresent (hr : s.run ≠ .running) (present : Bool) :
    HandEffect s (s.setReturns { s.returns with present := present })
  | readerInsert (hr : s.run = .running) : HandEffect s s.readerInsert
  | readerRemove (hr : s.run = .running) : HandEffect s s.readerRemove

theorem mem_slotNumbers {n : Nat} : n ∈ slotNumbers ↔ 1 ≤ n ∧ n ≤ 8 := by
  simp only [slotNumbers, List.mem_cons, List.not_mem_nil, or_false]
  omega

theorem mem_slotNumbers_of_named {n : Nat} (h : ¬(n = 0 ∨ Config.slots < n)) : n ∈ slotNumbers := by
  rw [mem_slotNumbers]
  have : Config.slots = 8 := rfl
  omega

/-- A command that completes is a request, a socket's report, work of the part's own, or one of the six others. -/
theorem exec_kinds {c : Instr} {s t : State} (h : exec c s = .next t) :
    (∃ code tag body, c.request = some (code, tag, body)) ∨
      (∃ n f, socketWork c = some (n, f) ∧ n ∈ slotNumbers ∧
        t = if s.run = .running then (f s).takeTrigger else s) ∨
      (∃ p f, ownWork c = some (p, f) ∧ t = if p s then f s else s) ∨ s.HandEffect t := by
  cases hc : c.request with
  | some r => exact .inl ⟨_, _, _, rfl⟩
  | none =>
    cases hw : socketWork c with
    | some w =>
      obtain ⟨n, f⟩ := w
      rw [exec_socketWork hw] at h
      unfold State.socketEvent at h
      refine .inr (.inl ⟨n, f, rfl, ?_⟩)
      split at h
      · cases h
      · next hn =>
        refine ⟨mem_slotNumbers_of_named hn, ?_⟩
        split at h
        · next hr => cases h; rw [if_neg hr]
        · next hr => cases h; rw [if_pos (not_not.1 hr)]
    | none =>
      cases ho : ownWork c with
      | some w =>
        obtain ⟨p, f⟩ := w
        rw [exec_ownWork ho] at h
        cases h
        exact .inr (.inr (.inl ⟨p, f, rfl, rfl⟩))
      | none =>
        refine .inr (.inr (.inr ?_))
        cases c
        case unknownRequest tag code body =>
          have served : judge code body = .served := by
            by_contra hj
            simp [Instr.request, hj] at hc
          change execUnknownRequest tag code body s = _ at h
          rw [execUnknownRequest, if_pos served] at h
          cases h
          exact .idle
        case cartridgeInsert n =>
          rw [exec_cartridgeInsert] at h
          unfold execCartridgeInsert at h
          split at h
          · cases h
          · next hn =>
            split at h
            · next hr => cases h; exact .present (mem_slotNumbers_of_named hn) hr true
            · next hr => cases h; exact .insert (mem_slotNumbers_of_named hn) (not_not.1 hr)
        case cartridgeRemove n =>
          rw [exec_cartridgeRemove] at h
          unfold execCartridgeRemove at h
          split at h
          · cases h
          · next hn =>
            split at h
            · next hr => cases h; exact .present (mem_slotNumbers_of_named hn) hr false
            · next hr =>
              split at h
              · cases h; exact .idle
              · next he => cases h; exact .remove (mem_slotNumbers_of_named hn) (not_not.1 hr) he
        case fillWriteComplete b =>
          rw [exec_fillWriteComplete] at h
          unfold execFillWriteComplete at h
          split at h
          · cases h
          · next hb =>
            split at h
            · cases h; exact .idle
            · next hr =>
              split at h
              · next f hf => cases h; exact .fill (Nat.not_le.1 hb) (not_not.1 hr) hf
              · cases h; exact .idle
        case frameReadComplete b =>
          rw [exec_frameReadComplete] at h
          unfold execFrameReadComplete at h
          split at h
          · cases h
          · next hb =>
            split at h
            · cases h; exact .idle
            · next hr =>
              split at h
              · next r hf => cases h; exact .read (Nat.not_le.1 hb) (not_not.1 hr) hf
              · cases h; exact .idle
        case readerInsert =>
          rw [exec_readerInsert] at h
          unfold execReaderInsert at h
          split at h
          · next hr => cases h; exact .readerInsert hr
          · next hr => cases h; exact .readerPresent hr true
        case readerRemove =>
          rw [exec_readerRemove] at h
          unfold execReaderRemove at h
          split at h
          · next hr => cases h; exact .readerRemove hr
          · next hr => cases h; exact .readerPresent hr false
        all_goals simp [Instr.request, socketWork, ownWork] at hc hw ho

/-! ## The queue of the commands that wait -/

theorem answerOf_pending (c : Instr) (s : State) : (answerOf c s).2.pending = s.pending := by
  cases c
  case copiesAdjustAdd | copiesAdjustRemove | copiesAdjustFound => exact answerCopies_pending _ _ _ s
  case slotHold => exact answerSlotHold_pending _ s
  all_goals simp [answerOf]

theorem State.serveTaken_pending {f : State → Reply × State} (hf : ∀ s, (f s).2.pending = s.pending)
    (a : State × Option Nat) : (State.serveTaken f a).pending = a.1.pending := by
  obtain ⟨s, none | i⟩ := a
  · rfl
  · simp [State.serveTaken, hf]

theorem State.restartTaken_pending (a : State × Option Nat) : (State.restartTaken a).pending = a.1.pending := by
  obtain ⟨s, none | i⟩ := a
  · rfl
  · unfold State.restartTaken
    dsimp only
    split <;> simp

theorem State.eventsTaken_pending (a : State × Option Nat) : (State.eventsTaken a).pending = a.1.pending := by
  obtain ⟨s, none | i⟩ := a <;> rfl

theorem State.dataTaken_pending (id frame : Nat) (data : List Byte) (a : State × Option Nat) :
    (State.dataTaken id frame data a).pending = a.1.pending := by
  obtain ⟨s, none | i⟩ := a
  · rfl
  · unfold State.dataTaken
    dsimp only
    repeat' split
    all_goals simp

theorem exec_restart (tag : Nat) (s : State) : exec (.restart tag) s = .next (s.restart tag) := rfl

theorem exec_eventsRead (tag : Nat) (s : State) : exec (.eventsRead tag) s = .next (s.takeEvents tag) := rfl

theorem exec_imageData (tag id frame : Nat) (data : List Byte) (s : State) :
    exec (.imageData tag id frame data) s = .next (s.takeFrame tag id frame data) := rfl

theorem exec_request_pending {c : Instr} {code tag : Nat} {body : List Byte} {s t : State}
    (hc : c.request = some (code, tag, body)) (h : exec c s = .next t) : t.pending = s.pending := by
  by_cases ha : answeredApart c = false
  · rw [exec_request hc ha] at h
    cases h
    rw [State.serve_eq_serveTaken, State.serveTaken_pending (answerOf_pending c)]
    simp
  · cases c
    case restart =>
      rw [exec_restart] at h
      cases h
      simp [State.restart_eq, State.restartTaken_pending]
    case eventsRead =>
      rw [exec_eventsRead] at h
      cases h
      simp [State.takeEvents_eq, State.eventsTaken_pending]
    case imageData =>
      rw [exec_imageData] at h
      cases h
      simp [State.takeFrame_eq, State.dataTaken_pending]
    all_goals exact absurd rfl ha

theorem State.report_pending {s : State} {n : Nat} {answers : CartOp → Bool} {f : CartOp → State → State}
    (hf : ∀ o, (f o s).pending = s.pending) : (s.report n answers f).pending = s.pending := by
  unfold State.report
  repeat' split
  all_goals simp [hf]

theorem socketWork_pending {c : Instr} {n : Nat} {f : State → State} (h : socketWork c = some (n, f)) (s : State) :
    (f s).pending = s.pending := by
  cases c
  case permitReply n granted =>
    cases h
    refine State.report_pending fun o => ?_
    cases o <;> simp
  case identityReadDone | pageReadDone | pageProgramDone | eraseDone | markCycleDone | suspendDone | resumeDone |
      reportAnsweringNoOperation =>
    cases h
    exact State.report_pending fun _ => by simp
  case cartOpTimeout => cases h; simp
  all_goals cases h

theorem ownWork_pending {c : Instr} {p : State → Bool} {f : State → State} (h : ownWork c = some (p, f)) (s : State) :
    (f s).pending = s.pending := by
  cases c
  case frameReceive | frameDiscard | replyPlace | eventsReadReply | passPatronStep | clockTick |
      dispatchCartridgeItem | dispatchSetItem | readerIdentityDone | readerReadTimeout | rollLoanStep |
      rollPatronStep | rollDeferralClear | rollFinish | rollEndPlanningTrigger | heldCloseRelease |
      pendingResultComplete | powerOnStart | powerLoss | resetAssert | resetRelease =>
    cases h
    simp
  all_goals cases h

theorem State.HandEffect.pending_eq {s t : State} (h : s.HandEffect t) : t.pending = s.pending := by
  cases h
  case present => rfl
  all_goals simp

theorem exec_pending {c : Instr} {s t : State} (h : exec c s = .next t) : t.pending = s.pending := by
  obtain ⟨code, tag, body, hc⟩ | ⟨n, f, hw, -, rfl⟩ | ⟨p, f, ho, rfl⟩ | he := exec_kinds h
  · exact exec_request_pending hc h
  · split
    · simp [socketWork_pending hw]
    · rfl
  · split
    · exact ownWork_pending ho s
    · rfl
  · exact he.pending_eq

/-! ## Every command completes -/

theorem State.socketEvent_completes (s : State) (n : Nat) (f : State → State) :
    (∃ t, s.socketEvent n f = .next t) ∨ ((n = 0 ∨ 8 < n) ∧ s.socketEvent n f = .fault (.noSuchSocket n)) := by
  unfold State.socketEvent
  by_cases hn : n = 0 ∨ Config.slots < n
  · exact .inr ⟨hn, if_pos hn⟩
  · rw [if_neg hn]
    split <;> exact .inl ⟨_, rfl⟩

/-- The bank a completion names. -/
def bankNamed (c : Instr) : Option Nat :=
  match c with
  | .fillWriteComplete b => some b
  | .frameReadComplete b => some b
  | _ => none

/-- The rack socket a report or an event names. -/
def socketNamed (c : Instr) : Option Nat :=
  match c with
  | .cartridgeInsert n => some n
  | .cartridgeRemove n => some n
  | c => (socketWork c).map (·.1)

/-- A command completes, but for one that names a socket or a bank the part does not have. -/
theorem exec_completes (c : Instr) (s : State) :
    (∃ t, exec c s = .next t) ∨
      (∃ n, socketNamed c = some n ∧ (n = 0 ∨ 8 < n) ∧ exec c s = .fault (.noSuchSocket n)) ∨
        ∃ b, bankNamed c = some b ∧ 4 ≤ b ∧ exec c s = .fault (.noSuchBank b) := by
  cases hc : c.request with
  | some r =>
    obtain ⟨g, exec_eq, -⟩ := exec_of_taken hc
    exact .inl ⟨_, exec_eq s⟩
  | none =>
    cases hw : socketWork c with
    | some w =>
      obtain ⟨n, f⟩ := w
      rw [exec_socketWork hw]
      refine (s.socketEvent_completes n f).imp_right fun h => .inl ⟨n, ?_, h⟩
      cases c
      case cartridgeInsert | cartridgeRemove => cases hw
      all_goals simp [socketNamed, hw]
    | none =>
      cases ho : ownWork c with
      | some w => exact .inl ⟨_, exec_ownWork ho s⟩
      | none =>
        cases c
        case unknownRequest tag code body =>
          have served : judge code body = .served := by
            by_contra hj
            simp [Instr.request, hj] at hc
          exact .inl ⟨s, if_pos served⟩
        case cartridgeInsert n =>
          rw [exec_cartridgeInsert]
          unfold execCartridgeInsert
          split
          · next hn => exact .inr (.inl ⟨n, rfl, hn, rfl⟩)
          · split <;> exact .inl ⟨_, rfl⟩
        case cartridgeRemove n =>
          rw [exec_cartridgeRemove]
          unfold execCartridgeRemove
          split
          · next hn => exact .inr (.inl ⟨n, rfl, hn, rfl⟩)
          · split
            · exact .inl ⟨_, rfl⟩
            · split <;> exact .inl ⟨_, rfl⟩
        case fillWriteComplete b =>
          rw [exec_fillWriteComplete]
          unfold execFillWriteComplete
          split
          · next hb => exact .inr (.inr ⟨b, rfl, hb, rfl⟩)
          · split
            · exact .inl ⟨_, rfl⟩
            · split <;> exact .inl ⟨_, rfl⟩
        case frameReadComplete b =>
          rw [exec_frameReadComplete]
          unfold execFrameReadComplete
          split
          · next hb => exact .inr (.inr ⟨b, rfl, hb, rfl⟩)
          · split
            · exact .inl ⟨_, rfl⟩
            · split <;> exact .inl ⟨_, rfl⟩
        case readerInsert =>
          rw [exec_readerInsert]
          unfold execReaderInsert
          split <;> exact .inl ⟨_, rfl⟩
        case readerRemove =>
          rw [exec_readerRemove]
          unfold execReaderRemove
          split <;> exact .inl ⟨_, rfl⟩
        all_goals simp [Instr.request, socketWork, ownWork] at hc hw ho

/-- A command that can be sent names a socket of the rack. -/
theorem wellFormed_socketNamed {c : Instr} {n : Nat} (h : c.wellFormed = true) (hn : socketNamed c = some n) :
    n ∈ slotNumbers := by
  rw [mem_slotNumbers]
  cases c
  case cartridgeInsert | cartridgeRemove | permitReply | pageProgramDone | eraseDone | markCycleDone |
      suspendDone | resumeDone | cartOpTimeout | reportAnsweringNoOperation =>
    cases hn
    exact of_decide_eq_true h
  case identityReadDone | pageReadDone =>
    cases hn
    exact of_decide_eq_true (Bool.and_eq_true_iff.1 h).1
  all_goals cases hn

/-- A command that can be sent names a bank of the store. -/
theorem wellFormed_bankNamed {c : Instr} {b : Nat} (h : c.wellFormed = true) (hb : bankNamed c = some b) : b < 4 := by
  cases c
  case fillWriteComplete | frameReadComplete =>
    cases hb
    exact of_decide_eq_true h
  all_goals cases hb

end Sys2Proof.Machine

namespace Sys2Proof.Proofs

open Sys2Proof Sys2Proof.Machine

/-- Settles O2: a command stops only for a socket or a bank it names, and none touches the queue. -/
theorem commandsCompleteAndLeaveTheirQueue : Obligations.CommandsCompleteAndLeaveTheirQueue := by
  refine ⟨⟨fun c s hw => ?_, fun c s => ?_⟩, fun c s t h => exec_pending h⟩
  · obtain h | ⟨n, hn, hout, -⟩ | ⟨b, hb, hout, -⟩ := exec_completes c s
    · exact h
    · have inRack := mem_slotNumbers.1 (wellFormed_socketNamed hw hn)
      omega
    · have inStore := wellFormed_bankNamed hw hb
      omega
  · exact (exec_completes c s).imp_right
      (Or.imp (fun ⟨n, _, h⟩ => ⟨n, h⟩) (fun ⟨b, _, h⟩ => ⟨b, h⟩))

end Sys2Proof.Proofs
end

section
/-!
PROOF. A request refused changes nothing but its reply (R179), and a running day roll refuses what it holds back
(R168).
-/

namespace Sys2Proof.Machine

/-! ## The queue after a stage is set -/

theorem setStage_getElem? (q : List Request) (i : Nat) (st : Stage) :
    (setStage q i st)[i]? = (q[i]?).map (fun r => { r with stage := st }) := by
  induction q generalizing i with
  | nil => rfl
  | cons r q ih =>
    cases i with
    | zero => rfl
    | succ i => simpa [setStage] using ih i

/-- A request whose turn it is stands in the queue, waiting. -/
theorem State.serves_queue {s : State} {i : Nat} {c : Instr} (h : s.serves i c) :
    ∃ r, s.link.queue[i]? = some r ∧ r.stage = .waiting := by
  obtain ⟨-, -, -, code, tag, body, -, hi⟩ := h
  exact ⟨_, hi, rfl⟩

/-- The reply formed is the one that stands in the queue. -/
theorem State.formReply_stage {s : State} {i : Nat} (hi : i < s.link.queue.length) (x : Reply) :
    ((s.formReply i x).link.queue[i]?).map (·.stage) = some (.formed x.body) := by
  have stage := setStage_getElem? s.link.queue i (.formed x.body)
  rw [List.getElem?_eq_getElem hi] at stage
  change ((setStage s.link.queue i (.formed x.body))[i]?).map (·.stage) = _
  rw [stage]
  rfl

/-- Only an accepted request's reply begins with the byte 0. -/
theorem Reply.body_head (x : Reply) : x.body.head? = some 0#8 ↔ x.status = .ok := by
  obtain ⟨st, fields⟩ := x
  cases st <;> simp [Reply.body, u8, Status.code]

/-! ## What an answer leaves of the queue, and of the state where it refuses -/

theorem answerCopies_queue (title action count : Nat) (s : State) :
    (answerCopies title action count s).2.link.queue = s.link.queue := by
  obtain h | ⟨k, t, n, u, sweeps, -, -, hc, h⟩ := answerCopies_cases title action count s
  · rw [h]
  · have hu : u.link.queue = s.link.queue := by rw [(copiesAction_link hc).2]
    rw [h]
    cases sweeps <;> simp [hu]

theorem answerSlotHold_queue (slot : Nat) (s : State) :
    (answerSlotHold slot s).2.link.queue = s.link.queue := by
  unfold answerSlotHold
  split
  · rfl
  · split
    · rfl
    · next t ht => simp [(State.holdSlot_link ht).2]

@[simp] theorem State.formWriting_queue_length (s : State) (id : Nat) (r : Reply) :
    (s.formWriting id r).link.queue.length = s.link.queue.length := by
  unfold State.formWriting
  split
  · exact setStage_length _ _ _
  · rfl

theorem answerOf_queue_length (c : Instr) (s : State) :
    (answerOf c s).2.link.queue.length = s.link.queue.length := by
  cases c
  case copiesAdjustAdd | copiesAdjustRemove | copiesAdjustFound => exact congrArg _ (answerCopies_queue _ _ _ s)
  case slotHold => exact congrArg _ (answerSlotHold_queue _ s)
  case fetchAbandon =>
    simp only [answerOf, answerFetchAbandon]
    repeat' split
    all_goals simp
  all_goals simp [answerOf]

/-- What a request that is not accepted leaves: the state (R179). -/
def Refuses (f : State → Reply × State) : Prop := ∀ s, (f s).1.status = .ok ∨ (f s).2 = s

theorem answerOf_refuses (c : Instr) : Refuses (answerOf c) := by
  intro s
  cases c
  all_goals
    simp only [answerOf, answerUnknown, answerStatus, answerEventsEnable, answerContextSet, answerSettingsPut,
      answerPatronCreate, answerPatronUpdate, answerPatronGet, answerPatronPause, answerPatronClose,
      answerTitleCreate, answerTitleUpdate, answerTitleGet, answerTitleWithdraw, answerCopies, answerLoanGet,
      answerLoanList, answerOrderAdd, answerOrderDrop, answerOrderMove, answerOrderList, answerHoldList,
      answerPlanNow, answerPlanGet, answerPlanCancel, answerFetchNext, answerFetchAbandon, answerPreload,
      answerImageDrop, answerSlotStatus, answerSlotHold, answerSlotRelease, answerSlotClear, answerSlotFaultGet,
      answerShelfPulled, answerMailLabel, answerManifestGet, answerAlarmPut, answerReturnLoan, answerReturnLate,
      answerBinList, answerBinTake, answerClockStop, answerClockSet, answerClockStart, answerClosedUsed,
      answerClosedClear, putClosedDay, answerRemindersRead]
    repeat' split
  all_goals simp

/-! ## A day roll left out (R168) -/

/-- The state with no day roll running. -/
def State.unrolled (s : State) : State := s.setCalendar { s.calendar with roll := none }

@[simp] theorem State.unrolled_rolling (s : State) : s.unrolled.rolling = false := rfl
@[simp] theorem State.unrolled_planner (s : State) : s.unrolled.planner = s.planner := rfl
@[simp] theorem State.unrolled_records (s : State) : s.unrolled.records = s.records := rfl
@[simp] theorem State.unrolled_clock (s : State) : s.unrolled.calendar.clock = s.calendar.clock := rfl
@[simp] theorem State.unrolled_patron (s : State) (k : Nat) : s.unrolled.patron k = s.patron k := rfl
@[simp] theorem State.unrolled_title (s : State) (k : Nat) : s.unrolled.title k = s.title k := rfl
@[simp] theorem State.unrolled_findPatron (s : State) (n : Nat) : s.unrolled.findPatron n = s.findPatron n := rfl
@[simp] theorem State.unrolled_findTitle (s : State) (n : Nat) : s.unrolled.findTitle n = s.findTitle n := rfl
@[simp] theorem State.unrolled_findLoan (s : State) (n : Nat) : s.unrolled.findLoan n = s.findLoan n := rfl
@[simp] theorem State.unrolled_findPlan (s : State) (n : Nat) : s.unrolled.findPlan n = s.findPlan n := rfl
@[simp] theorem State.unrolled_fetch (s : State) (n : Nat) : s.unrolled.fetch n = s.fetch n := rfl
@[simp] theorem State.unrolled_patronIndex (s : State) (n : Nat) : s.unrolled.patronIndex n = s.patronIndex n := rfl
@[simp] theorem State.unrolled_titleIndex (s : State) (n : Nat) : s.unrolled.titleIndex n = s.titleIndex n := rfl
@[simp] theorem State.unrolled_numberHeld (s : State) (n k : Nat) : s.unrolled.numberHeld n k = s.numberHeld n k := rfl
@[simp] theorem State.unrolled_untilDate (s : State) (y m d : Nat) :
    s.unrolled.untilDate y m d = s.untilDate y m d := rfl
@[simp] theorem State.unrolled_onLoan (s : State) (k t c : Nat) : s.unrolled.onLoan k t c = s.onLoan k t c := rfl
@[simp] theorem State.unrolled_immediateCopy (s : State) (k : Nat) (r : Title) :
    s.unrolled.immediateCopy k r = s.immediateCopy k r := rfl

/-! A record that is not found is not found with an error: OK is none. -/

@[simp] theorem State.patronIndex_ne_ok (s : State) (n : Nat) : s.patronIndex n ≠ .error .ok := by
  unfold State.patronIndex
  repeat' split
  all_goals simp

@[simp] theorem State.titleIndex_ne_ok (s : State) (n : Nat) : s.titleIndex n ≠ .error .ok := by
  unfold State.titleIndex
  repeat' split
  all_goals simp

@[simp] theorem State.findPatron_ne_ok (s : State) (n : Nat) : s.findPatron n ≠ .error .ok := by
  unfold State.findPatron
  split
  · next e he =>
    rintro ⟨⟩
    exact s.patronIndex_ne_ok n he
  · split <;> simp

@[simp] theorem State.findTitle_ne_ok (s : State) (n : Nat) : s.findTitle n ≠ .error .ok := by
  unfold State.findTitle
  split
  · next e he =>
    rintro ⟨⟩
    exact s.titleIndex_ne_ok n he
  · split <;> simp

@[simp] theorem State.findLoan_ne_ok (s : State) (n : Nat) : s.findLoan n ≠ .error .ok := by
  unfold State.findLoan
  repeat' split
  all_goals simp_all

@[simp] theorem State.findPlan_ne_ok (s : State) (n : Nat) : s.findPlan n ≠ .error .ok := by
  unfold State.findPlan
  repeat' split
  all_goals simp_all

@[simp] theorem State.untilDate_ne_ok (s : State) (y m d : Nat) : s.untilDate y m d ≠ .error .ok := by
  unfold State.untilDate
  repeat' split
  all_goals simp_all

/-- A request held back by a roll: accepted with the roll IDLE, it is refused ROLLING while one runs. -/
def HeldBack (f : State → Reply × State) : Prop :=
  ∀ s : State, s.rolling = true → (f s.unrolled).1.status = .ok → f s = refuse s .rolling

theorem answerPatronCreate_heldBack (number media cls cart set key : Nat) : HeldBack (answerPatronCreate number media cls cart set key) := by
  intro s hr h
  simp only [answerPatronCreate, State.unrolled_rolling] at h ⊢
  repeat' split at h
  all_goals simp_all

theorem answerPatronUpdate_heldBack (n number media cls cart set key : Nat) : HeldBack (answerPatronUpdate n number media cls cart set key) := by
  intro s hr h
  simp only [answerPatronUpdate, State.unrolled_rolling] at h ⊢
  repeat' split at h
  all_goals simp_all

theorem answerPatronPause_heldBack (n y m d : Nat) : HeldBack (answerPatronPause n y m d) := by
  intro s hr h
  simp only [answerPatronPause, State.unrolled_rolling] at h ⊢
  repeat' split at h
  all_goals simp_all

theorem answerPatronClose_heldBack (n : Nat) : HeldBack (answerPatronClose n) := by
  intro s hr h
  simp only [answerPatronClose, State.unrolled_rolling] at h ⊢
  repeat' split at h
  all_goals simp_all

theorem answerOrderDrop_heldBack (n m : Nat) : HeldBack (answerOrderDrop n m) := by
  intro s hr h
  simp only [answerOrderDrop, State.unrolled_rolling] at h ⊢
  repeat' split at h
  all_goals simp_all

theorem answerOrderMove_heldBack (n a b : Nat) : HeldBack (answerOrderMove n a b) := by
  intro s hr h
  simp only [answerOrderMove, State.unrolled_rolling] at h ⊢
  repeat' split at h
  all_goals simp_all

theorem answerPlanCancel_heldBack (n : Nat) : HeldBack (answerPlanCancel n) := by
  intro s hr h
  simp only [answerPlanCancel, State.unrolled_rolling] at h ⊢
  repeat' split at h
  all_goals simp_all

theorem answerFetchAbandon_heldBack (n : Nat) : HeldBack (answerFetchAbandon n) := by
  intro s hr h
  simp only [answerFetchAbandon, State.unrolled_rolling] at h ⊢
  repeat' split at h
  all_goals simp_all

theorem answerReturnLoan_heldBack (loan volume : Nat) : HeldBack (answerReturnLoan loan volume) := by
  intro s hr h
  simp only [answerReturnLoan, State.unrolled_rolling] at h ⊢
  repeat' split at h
  all_goals simp_all

theorem answerReturnLate_heldBack (title copy volume : Nat) : HeldBack (answerReturnLate title copy volume) := by
  intro s hr h
  simp only [answerReturnLate, State.unrolled_rolling] at h ⊢
  repeat' split at h
  all_goals simp_all
  · rw [if_neg (by omega), if_neg (by omega)]

theorem answerClockStop_heldBack : HeldBack answerClockStop := by
  intro s hr h
  simp only [answerClockStop, State.unrolled_rolling] at h ⊢
  repeat' split at h
  all_goals simp_all

theorem answerClockSet_heldBack (y m d hour minute second : Nat) : HeldBack (answerClockSet y m d hour minute second) := by
  intro s hr h
  simp only [answerClockSet, State.unrolled_rolling] at h ⊢
  repeat' split at h
  all_goals simp_all

theorem answerClockStart_heldBack : HeldBack answerClockStart := by
  intro s hr h
  simp only [answerClockStart, State.unrolled_rolling] at h ⊢
  repeat' split at h
  all_goals simp_all

/-- A chain of checks that bars nothing has passed its first one. -/
theorem passed_of_ite {α : Type} {c : Prop} [Decidable c] {a : α} {b : Option α}
    (h : (if c then some a else b) = none) : ¬ c ∧ b = none := by
  split at h
  · cases h
  · exact ⟨‹_›, h⟩

/-- A chain of checks that refuses nothing has passed its first one. -/
theorem passed_of_ite_error {ε α : Type} {c : Prop} [Decidable c] {e : ε} {b : Except ε α} {x : α}
    (h : (if c then .error e else b) = .ok x) : ¬ c ∧ b = .ok x := by
  split at h
  · cases h
  · exact ⟨‹_›, h⟩

theorem State.orderAddBar_ne_ok (s : State) (k t : Nat) (reread : Bool) : s.orderAddBar k t reread ≠ some .ok := by
  unfold State.orderAddBar
  repeat' split
  all_goals simp

/-- An order that nothing bars with the roll IDLE is barred by the roll that runs, its last check (R26). -/
theorem State.orderAddBar_rolling {s : State} {k t : Nat} {reread : Bool} (hr : s.rolling = true)
    (h : s.unrolled.orderAddBar k t reread = none) : s.orderAddBar k t reread = some .rolling := by
  unfold State.orderAddBar at h ⊢
  rw [State.unrolled_patron, State.unrolled_title] at h
  cases hp : s.patron k with
  | none => simp [hp] at h
  | some p =>
    cases ht : s.title t with
    | none =>
      simp only [hp, ht] at h
      exact nomatch (passed_of_ite h).2
    | some r =>
      simp only [hp, ht] at h ⊢
      obtain ⟨closed, h⟩ := passed_of_ite h
      obtain ⟨barred, h⟩ := passed_of_ite h
      obtain ⟨listed, h⟩ := passed_of_ite h
      obtain ⟨lent, h⟩ := passed_of_ite h
      obtain ⟨read, h⟩ := passed_of_ite h
      obtain ⟨long, h⟩ := passed_of_ite h
      obtain ⟨waiting, -⟩ := passed_of_ite h
      rw [State.unrolled_onLoan] at lent
      rw [State.unrolled_immediateCopy] at waiting
      rw [if_neg closed, if_neg barred, if_neg listed, if_neg lent, if_neg read, if_neg long, if_neg waiting, if_pos hr]

theorem answerOrderAdd_heldBack (n m rush reread position : Nat) :
    HeldBack (answerOrderAdd n m rush reread position) := by
  intro s hr h
  simp only [answerOrderAdd, State.unrolled_patronIndex, State.unrolled_titleIndex] at h ⊢
  cases hk : s.patronIndex n with
  | error e => simp_all
  | ok k =>
    cases ht : s.titleIndex m with
    | error e => simp_all
    | ok t =>
      cases hb : s.unrolled.orderAddBar k t (flagOf reread) with
      | some e =>
        have := s.unrolled.orderAddBar_ne_ok k t (flagOf reread)
        simp_all
      | none => simp [State.orderAddBar_rolling hr hb]

theorem copiesAction_ne_ok (action count k : Nat) (t : Title) (s : State) :
    copiesAction action count k t s ≠ .error .ok := by
  unfold copiesAction
  repeat' split
  all_goals simp

/-- Whether an action of COPIES ADJUST can be taken does not hang on the roll. -/
theorem copiesAction_unrolled {action count k : Nat} {t : Title} {s : State} {x : Nat × State × Bool}
    (h : copiesAction action count k t s.unrolled = .ok x) : ∃ y, copiesAction action count k t s = .ok y := by
  unfold copiesAction at h ⊢
  split at h
  · obtain ⟨some, h⟩ := passed_of_ite_error h
    obtain ⟨room, -⟩ := passed_of_ite_error h
    exact ⟨_, by rw [if_neg some, if_neg room]⟩
  · obtain ⟨some, h⟩ := passed_of_ite_error h
    obtain ⟨there, -⟩ := passed_of_ite_error h
    exact ⟨_, by rw [if_neg some, if_neg there]⟩
  · obtain ⟨named, h⟩ := passed_of_ite_error h
    obtain ⟨missing, -⟩ := passed_of_ite_error h
    exact ⟨_, by rw [if_neg named, if_neg missing]⟩
  · cases h

theorem answerCopies_heldBack (title action count : Nat) : HeldBack (answerCopies title action count) := by
  intro s hr h
  simp only [answerCopies, State.unrolled_findTitle, State.unrolled_rolling] at h ⊢
  split at h
  · simp_all
  · next k t hf =>
    split at h
    · simp_all
    · next ha =>
      rw [if_neg ha]
      split at h
      · simp_all
      · next hp =>
        rw [if_neg hp]
        split at h
        · next e he =>
          have := copiesAction_ne_ok action count k t s.unrolled
          simp_all
        · next n u sweeps hc =>
          obtain ⟨y, hy⟩ := copiesAction_unrolled hc
          simp [hy, hr]

@[simp] theorem State.clearLink_queue (s : State) : s.clearLink.link.queue = [] := rfl

/-- Every request that the table after R168 lists is held back. -/
theorem answerOf_heldBack {c : Instr} (h : heldByRoll c = true) : HeldBack (answerOf c) := by
  cases c
  case patronPutCreate => exact answerPatronCreate_heldBack _ _ _ _ _ _
  case patronPutUpdate => exact answerPatronUpdate_heldBack _ _ _ _ _ _ _
  case patronPause => exact answerPatronPause_heldBack _ _ _ _
  case patronClose => exact answerPatronClose_heldBack _
  case copiesAdjustAdd | copiesAdjustRemove | copiesAdjustFound => exact answerCopies_heldBack _ _ _
  case orderAdd => exact answerOrderAdd_heldBack _ _ _ _ _
  case orderDrop => exact answerOrderDrop_heldBack _ _
  case orderMove => exact answerOrderMove_heldBack _ _ _
  case planCancel => exact answerPlanCancel_heldBack _
  case fetchAbandon => exact answerFetchAbandon_heldBack _
  case returnVolumeLoan => exact answerReturnLoan_heldBack _ _
  case returnVolumeLate => exact answerReturnLate_heldBack _ _ _
  case clockStop => exact answerClockStop_heldBack
  case clockSet => exact answerClockSet_heldBack _ _ _ _ _ _
  case clockStart => exact answerClockStart_heldBack
  all_goals cases h

theorem answeredApart_of_heldByRoll {c : Instr} (h : heldByRoll c = true) : answeredApart c = false := by
  cases c
  case restart | eventsRead | imageData => cases h
  all_goals rfl

/-- Whose turn a request is does not hang on the roll. -/
theorem State.serves_unrolled {s : State} {i : Nat} {c : Instr} (h : s.serves i c) : s.unrolled.serves i c := h

end Sys2Proof.Machine

namespace Sys2Proof.Proofs

open Sys2Proof Sys2Proof.Machine

/-- What a served request leaves has its own reply in the queue. -/
theorem served_stage {c : Instr} {s t : State} {i : Nat} (h : s.serves i c) (ha : answeredApart c = false)
    (ht : exec c s = .next t) :
    (t.link.queue[i]?).map (·.stage) = some (.formed (answerOf c s).1.body) := by
  obtain ⟨r, hr, -⟩ := State.serves_queue h
  obtain ⟨-, -, -, code, tag, body, hc, -⟩ := id h
  rw [exec_request hc ha, State.serve_of_serves h hc] at ht
  cases ht
  have here : i < (answerOf c s).2.link.queue.length := by
    rw [answerOf_queue_length]
    exact (List.getElem?_eq_some_iff.1 hr).1
  have untouched : ((answerOf c s).2.formReply i (answerOf c s).1).takeTrigger.link =
      ((answerOf c s).2.formReply i (answerOf c s).1).link := by simp
  rw [untouched]
  exact State.formReply_stage here _

/-- A request refused by an answer of its own. -/
theorem refused_of_answer {c : Instr} {s t : State} {i : Nat} {reply : List Byte} (h : s.serves i c)
    (hq : s.quiet) (ha : answeredApart c = false) (ht : exec c s = .next t)
    (hi : (t.link.queue[i]?).map (·.stage) = some (.formed reply)) (hr : reply.head? ≠ some 0#8) :
    t = s.setQueue (setStage s.link.queue i (.formed reply)) := by
  have stage := (served_stage h ha ht).symm.trans hi
  simp only [Option.some.injEq, Stage.formed.injEq] at stage
  subst stage
  have refused : (answerOf c s).1.status ≠ .ok := fun hok => hr ((Reply.body_head _).2 hok)
  have same := (answerOf_refuses c s).resolve_left refused
  obtain ⟨-, -, -, code, tag, body, hc, -⟩ := id h
  rw [exec_request hc ha, State.serve_of_serves h hc, same] at ht
  have quiet : (s.formReply i (answerOf c s).1).takeTrigger = s.formReply i (answerOf c s).1 :=
    State.takeTrigger_of_quiet hq
  rw [quiet] at ht
  cases ht
  rfl

/-- IMAGE DATA refused, or found a duplicate, has its reply formed and changes nothing else. -/
theorem refused_imageData {s t : State} {i tag id frame : Nat} {data reply : List Byte}
    (h : s.serves i (.imageData tag id frame data)) (ht : exec (.imageData tag id frame data) s = .next t)
    (hi : (t.link.queue[i]?).map (·.stage) = some (.formed reply)) :
    t = s.setQueue (setStage s.link.queue i (.formed reply)) := by
  obtain ⟨r, hr, hw⟩ := State.serves_queue h
  have here := (List.getElem?_eq_some_iff.1 hr).1
  rw [exec_imageData, State.takeFrame_eq, State.takeRequest_of_serves h rfl] at ht
  cases ht
  unfold State.dataTaken at hi ⊢
  dsimp only at hi ⊢
  split at hi
  · simp [hr, hw] at hi
  · next hl =>
    rw [if_neg hl]
    split at hi
    · next x hx =>
      rw [State.formReply_stage here] at hi
      simp only [Option.some.injEq, Stage.formed.injEq] at hi
      subst hi
      rfl
    · have stage := setStage_getElem? s.link.queue i (.writing id)
      simp [State.setQueue, stage, hr] at hi

/-- Settles O14: an answer that refuses leaves the state, and of the three requests answered otherwise IMAGE DATA
alone can be refused. -/
theorem refusedRequestsChangeNothing : Obligations.RefusedRequestsChangeNothing := by
  intro c s t i reply h hq ht hi hr
  obtain ⟨r, hr', hw⟩ := State.serves_queue h
  by_cases ha : answeredApart c = false
  · exact refused_of_answer h hq ha ht hi hr
  · cases c
    case restart tag =>
      rw [exec_restart, State.restart_eq, State.takeRequest_of_serves h rfl] at ht
      cases ht
      unfold State.restartTaken at hi
      dsimp only at hi
      split at hi
      · simp at hi
      · simp [hr', hw] at hi
    case eventsRead tag =>
      rw [exec_eventsRead, State.takeEvents_eq, State.takeRequest_of_serves h rfl] at ht
      cases ht
      have stage := setStage_getElem? s.link.queue i .serving
      simp [State.eventsTaken, stage, hr', State.setQueue] at hi
    case imageData => exact refused_imageData h ht hi
    all_goals exact absurd rfl ha

/-- Settles O15: with the roll IDLE the answer accepts, so with the roll running its last check refuses. -/
theorem rollHoldsBackRequests : Obligations.RollHoldsBackRequests := by
  intro c s t i fields hc h hq hr ht hi
  have ha := answeredApart_of_heldByRoll hc
  have stage := served_stage (State.serves_unrolled h) ha ht
  have accepted : (answerOf c s.unrolled).1.status = .ok := by
    have body := stage.symm.trans hi
    simp only [Option.some.injEq, Stage.formed.injEq] at body
    rw [← Reply.body_head, body]
    rfl
  exact exec_refused h ha hq (answerOf_heldBack hc s hr accepted)

end Sys2Proof.Proofs
end

section
/-!
PROOF. The records of patrons and titles created and changed (R6, R7, R9, R14, R15, R17).
-/

namespace Sys2Proof.Machine

/-! ## Contexts after the work of a request -/

theorem State.usePatron_after {s v : State} {n k : Nat}
    (h : n = k ∧ n ≠ 0 ∨ n = 0 ∧ s.link.patronCtx = some k) (hv : v.link.patronCtx = s.link.patronCtx) :
    v.usePatron n = v.setLink { v.link with patronCtx := some k } :=
  State.usePatron_of_named (hv ▸ h)

theorem State.useTitle_after {s v : State} {n k : Nat}
    (h : n = k ∧ n ≠ 0 ∨ n = 0 ∧ s.link.titleCtx = some k) (hv : v.link.titleCtx = s.link.titleCtx) :
    v.useTitle n = v.setLink { v.link with titleCtx := some k } :=
  State.useTitle_of_named (hv ▸ h)

/-! ## The lowest-numbered FREE record of a table -/

/-- The first key missing from `a` on is the one with every key below it held. -/
theorem Table.gap_eq {α : Type} {t : Table α} {a k : Nat} (hr : t.rising = true) (ha : ∀ e ∈ t, a ≤ e.1)
    (hak : a ≤ k) (hk : t.look k = none) (hb : ∀ j, a ≤ j → j < k → t.look j ≠ none) : t.gap a = k := by
  induction t generalizing a with
  | nil =>
    by_contra hne
    exact hb a le_rfl (lt_of_le_of_ne hak hne) rfl
  | cons e t ih =>
    obtain ⟨j, w⟩ := e
    simp only [Table.rising, Bool.and_eq_true, List.all_eq_true, decide_eq_true_eq] at hr
    by_cases hja : j = a
    · subst hja
      have hjk : j ≠ k := by
        rintro rfl
        simp [Table.look] at hk
      have below (m : Nat) (hm : j ≠ m) : Table.look ((j, w) :: t) m = Table.look t m := by
        simp [Table.look, hm]
      have rest := ih hr.2 (fun e he => hr.1 e he) (by omega) (below k hjk ▸ hk)
        (fun m hm hmk => below m (by omega) ▸ hb m (by omega) hmk)
      simpa [Table.gap] using rest
    · have free : Table.look ((j, w) :: t) a = none := by
        refine Table.look_of_all_lt _ _ fun e he => ?_
        have first : a < j := lt_of_le_of_ne (ha _ List.mem_cons_self) (Ne.symm hja)
        obtain rfl | he := List.mem_cons.1 he
        · exact first
        · exact first.trans (hr.1 e he)
      have hka : a = k := by
        by_contra hne
        exact hb a le_rfl (lt_of_le_of_ne hak hne) free
      rw [Table.gap, if_neg hja, hka]

theorem Table.free_eq {α : Type} {t : Table α} {k max : Nat} (hr : t.rising = true) (h1 : ∀ e ∈ t, 1 ≤ e.1)
    (hk1 : 1 ≤ k) (hkm : k ≤ max) (hk : t.look k = none) (hb : ∀ j, 1 ≤ j → j < k → t.look j ≠ none) :
    t.free max = some k := by
  simp [Table.free, Table.gap_eq hr h1 hk1 hk hb, hkm]

/-! ## Field codes and their values -/

@[simp] theorem clsOf_code (c : Cls) : clsOf c.code = some c := by cases c <;> rfl

@[simp] theorem formatOf_code (f : Format) : formatOf f.code = some f := by cases f <;> rfl

theorem patronFieldsOk_of {number media : Nat} (h1 : 1 ≤ number) (h2 : number ≤ 99999999)
    (hm : (mediaOf media).nonempty = true) : patronFieldsOk number media = true := by
  simp [patronFieldsOk, Config.patronNumberMax, h1, h2, hm]

theorem State.numberHeld_eq_false {s : State} {number k : Nat}
    (h : ∀ e ∈ s.records.patrons, e.2.number = number → e.1 = k) : s.numberHeld number k = false := by
  simp only [State.numberHeld, List.any_eq_false, decide_eq_true_eq]
  exact fun e he hx => hx.2 (h e he hx.1)

theorem State.catalogueHeld_eq_false {s : State} {cat k : Nat}
    (h : ∀ e ∈ s.records.titles, e.2.catalogue = cat → e.1 = k) : s.catalogueHeld cat k = false := by
  simp only [State.catalogueHeld, List.any_eq_false, decide_eq_true_eq]
  exact fun e he hx => hx.2 (h e he hx.1)

theorem pagesOk_of {f : Format} {pages : Nat} (h : f.hasImage = true → 1 ≤ pages ∧ pages ≤ 16711168) :
    pagesOk f pages = true := by
  cases hf : f.hasImage with
  | false => simp [pagesOk, hf]
  | true =>
    obtain ⟨h1, h2⟩ := h hf
    simp [pagesOk, hf, Config.pagesMax, h1, h2]

theorem newPatron_eq (number media cart set key : Nat) (c : Cls) : newPatron number media c cart set key =
    { number := number, state := .active, media := mediaOf media, cls := c,
      cartLimit := max 1 (min 6 cart), setLimit := min 4 set, cartCount := 0, setCount := 0, key := key,
      pauseUntil := none, lastService := none, deferral := .none, history := [], orders := [] } := by
  rw [newPatron, clamp_eq (by decide), clamp_zero_eq]

theorem newTitle_eq (cat pages check vols : Nat) (f : Format) : newTitle cat f pages check vols =
    { catalogue := cat, format := f, withdrawn := false, pages := if f.hasImage then pages else 0,
      check := if f.hasImage then BitVec.ofNat 32 check else 0#32, bad := false, failures := 0,
      volumes := if f.hasImage then 0 else max 1 (min 40 vols),
      copies := if f.hasImage then [] else List.replicate 15 .absent, holds := [] } := by
  rw [newTitle, clamp_eq (by decide), Config.copyMax]

theorem Patron.update_eq (r : Patron) (number media cart set key : Nat) (c : Cls) :
    r.update number media c cart set key =
      { r with
        number := number, media := mediaOf media, cls := c, cartLimit := max 1 (min 6 cart),
        setLimit := min 4 set, key := key,
        orders := if c = r.cls then r.orders else r.orders.map (fun e => { e with oversize := false }) } := by
  rw [Patron.update, clamp_eq (by decide), clamp_zero_eq]

/-! ## What UPDATE and PAUSE leave of the context -/

theorem State.afterPatronUpdate_patronCtx (s : State) (k : Nat) (old new : Patron) :
    (s.afterPatronUpdate k old new).link.patronCtx = s.link.patronCtx := by
  unfold State.afterPatronUpdate
  split <;> split <;> simp

theorem State.untilDate_of_later {s : State} {y m d : Nat} (hv : validDate y m d = true)
    (h : s.today < dayNumber y m d) : s.untilDate y m d = .ok (some (dayNumber y m d)) := by
  have dated : ¬(y = 0 ∧ m = 0 ∧ d = 0) := by
    rintro ⟨rfl, rfl, rfl⟩
    simp [validDate] at hv
  simp [State.untilDate, dated, hv, h]

theorem State.untilDate_of_bad {s : State} {y m d : Nat}
    (h : (validDate y m d = false ∧ ¬(y = 0 ∧ m = 0 ∧ d = 0)) ∨
      (validDate y m d = true ∧ dayNumber y m d ≤ s.today)) : s.untilDate y m d = .error .range := by
  obtain ⟨hv, dated⟩ | ⟨hv, early⟩ := h
  · simp [State.untilDate, dated, hv]
  · have dated : ¬(y = 0 ∧ m = 0 ∧ d = 0) := by
      rintro ⟨rfl, rfl, rfl⟩
      simp [validDate] at hv
    simp [State.untilDate, dated, hv, Nat.not_lt.2 early]

/-! ## A title's update -/

/-- A trigger met already is the event's one trigger (R49). -/
theorem State.takeTrigger_of_due {s : State} (h : s.planner.due = true) : s.takeTrigger = s.triggered := by
  have noted : s.noteTrigger = s := by
    obtain ⟨_, _, _, _, ⟨_, _, _, _, _, due⟩, _, _, _, _, _, _⟩ := s
    cases h
    rfl
  rw [State.triggered, noted]

@[simp] theorem State.spaceFreed_due (s : State) : s.spaceFreed.planner.due = true := rfl

theorem Title.update_paper {t : Title} (h : t.format = .pbraille) (cat pages check vols : Nat) :
    t.update cat pages check vols = { t with catalogue := cat, volumes := max 1 (min 40 vols) } := by
  simp [Title.update, h, Format.hasImage, clamp_eq]

theorem Format.hasImage_of_ne {f : Format} (h : f ≠ .pbraille) : f.hasImage = true := by
  cases f
  case pbraille => exact absurd rfl h
  all_goals rfl

theorem Title.update_image {t : Title} (h : t.format ≠ .pbraille) (cat pages check vols : Nat) :
    t.update cat pages check vols =
      { t with
        catalogue := cat, pages := pages, check := BitVec.ofNat 32 check,
        bad := if BitVec.ofNat 32 check = t.check then t.bad else false,
        failures := if BitVec.ofNat 32 check = t.check then t.failures else 0 } := by
  simp [Title.update, Format.hasImage_of_ne h]

theorem State.updateTitle_kept {s : State} {k : Nat} {t u : Title}
    (h : s.image k = none ∨ t.pages = u.pages ∧ u.check = t.check) :
    s.updateTitle k t u = if t.pages = u.pages then s.setTitle k u else (s.setTitle k u).clearOversizeOf k := by
  obtain none | ⟨pages, check⟩ := h
  · simp [State.updateTitle, State.dropImage, none]
  · simp [State.updateTitle, Title.imageChanged, pages, check]

theorem Title.imageChanged_of {t u : Title} (h : ¬(t.pages = u.pages ∧ u.check = t.check)) :
    t.imageChanged u = true := by
  simp only [Title.imageChanged, decide_eq_true_eq]
  by_contra hc
  exact h ⟨not_not.1 (fun hp => hc (.inl hp)), not_not.1 (fun hp => hc (.inr (Ne.symm hp)))⟩

theorem State.updateTitle_dropped {s : State} {k : Nat} {t u : Title} {e : Image} (he : s.image k = some e)
    (h : ¬(t.pages = u.pages ∧ u.check = t.check)) :
    s.updateTitle k t u =
      if t.pages = u.pages then ((s.removeImage k).spaceFreed).setTitle k u
      else (((s.removeImage k).spaceFreed).setTitle k u).clearOversizeOf k := by
  simp [State.updateTitle, Title.imageChanged_of h, State.dropImage, he]

theorem State.withdrawTitle_flag (s : State) (k : Nat) (r : Title) (flag : Nat) :
    s.withdrawTitle k r (flagOf flag) =
      if r.withdrawn = true ∧ flag = 0 ∧ .shelf ∈ r.copies then
        (s.setTitle k { r with withdrawn := decide (flag ≠ 0) }).sweep [k]
      else s.setTitle k { r with withdrawn := decide (flag ≠ 0) } := by
  simp [State.withdrawTitle, flagOf, and_assoc]

end Sys2Proof.Machine

namespace Sys2Proof.Proofs

open Sys2Proof Sys2Proof.Machine

/-- Settles O29: with every lower record held and this one FREE, it is the first gap of the rising table. -/
theorem recordsCreatedInLowestFree : Obligations.RecordsCreatedInLowestFree := by
  refine ⟨fun s i tag number media cart set key k c h hq ho hn h1 h2 hm hx hk1 hk2 hk hb hr => ?_,
    fun s i tag cat pages check vols k f h hq ho hn hc hp hx hk1 hk2 hk hb => ?_⟩
  · obtain ⟨rising, -⟩ := ho
    obtain ⟨patrons, -⟩ := hn
    have free : s.records.patrons.free Config.patronMax = some k :=
      Table.free_eq rising (fun e he => (patrons e he).1) hk1 hk2 hk hb
    have unheld : s.numberHeld number 0 = false := State.numberHeld_eq_false fun e he hs => absurd hs (hx e he)
    refine exec_accepted_trigger h rfl ?_
    simp [answerOf, answerPatronCreate, patronFieldsOk_of h1 h2 hm, unheld, free, hr, newPatron_eq,
      State.usePatron, Nat.ne_of_gt hk1]
  · obtain ⟨-, rising, -⟩ := ho
    obtain ⟨-, titles, -⟩ := hn
    have free : s.records.titles.free Config.titleMax = some k :=
      Table.free_eq rising (fun e he => (titles e he).1) hk1 hk2 hk hb
    have unheld : s.catalogueHeld cat 0 = false := State.catalogueHeld_eq_false fun e he hs => absurd hs (hx e he)
    refine exec_accepted_quiet h rfl ?_ (by exact hq)
    simp [answerOf, answerTitleCreate, pagesOk_of hp, hc, unheld, free, newTitle_eq, State.useTitle,
      Nat.ne_of_gt hk1]

/-- Settles O30: the checks of the form pass, and what follows is the model's own update. -/
theorem patronUpdatedPausedResumed : Obligations.PatronUpdatedPausedResumed := by
  refine ⟨fun s i tag n number media cart set key k c r h hq hn hk hp h1 h2 hm hc hx hr => ?_,
    fun s i tag n y m d k r h hq hn hk hp hc hr => ⟨fun hv hd => ?_, fun hd hs => ?_, fun hd hs => ?_, fun hd => ?_⟩⟩
  · refine exec_accepted_trigger h rfl ?_
    have ctx := State.afterPatronUpdate_patronCtx
      (s.setPatron k (r.update number media c cart set key)) k r (r.update number media c cart set key)
    have used := State.usePatron_after hk ctx
    simp only [answerOf, answerPatronUpdate, State.findPatron_of_named hn hk hp, clsOf_code,
      patronFieldsOk_of h1 h2 hm, hc, State.numberHeld_eq_false hx, hr, used, Bool.not_true, if_false,
      Bool.false_eq_true]
    simp only [State.afterPatronUpdate, Patron.update_eq]
  · refine exec_accepted_trigger h rfl ?_
    have used : (s.setPatron k { r with state := .paused, pauseUntil := some (dayNumber y m d) }).usePatron n = _ :=
      State.usePatron_after hk rfl
    simp [answerOf, answerPatronPause, State.findPatron_of_named hn hk hp, State.untilDate_of_later hv hd, hc, hr,
      State.pausePatron, used]
  · refine exec_accepted_trigger h rfl ?_
    have used : ((s.setPatron k { r with state := .active, pauseUntil := none }).sweepPatron k).usePatron n = _ :=
      State.usePatron_after hk (by simp)
    simp [answerOf, answerPatronPause, State.findPatron_of_named hn hk hp, State.untilDate, hd, hs, hr,
      State.pausePatron, used]
  · refine exec_accepted_trigger h rfl ?_
    simp [answerOf, answerPatronPause, State.findPatron_of_named hn hk hp, State.untilDate, hd, hs, hr,
      State.pausePatron, State.usePatron_of_named hk]
  · refine exec_refused h rfl hq ?_
    simp [answerOf, answerPatronPause, State.findPatron_of_named hn hk hp, State.untilDate_of_bad hd]

/-- An update whose form is right goes on to the image it may bar (R15). -/
theorem exec_titleUpdate {s : State} {i tag n cat pages check vols k : Nat} {r : Title}
    (h : s.serves i (.titlePutUpdate tag n cat r.format.code pages check vols)) (hq : s.quiet) (hn : n ≤ 8191)
    (hk : n = k ∧ n ≠ 0 ∨ n = 0 ∧ s.link.titleCtx = some k) (ht : s.title k = some r) (hc : cat ≠ 0)
    (hp : pagesOk r.format pages = true) (hx : ∀ e ∈ s.records.titles, e.2.catalogue = cat → e.1 = k) :
    let u := r.update cat pages check vols
    ((if r.imageChanged u then s.imageBars k else none) = none →
      exec (.titlePutUpdate tag n cat r.format.code pages check vols) s =
        .next ((((s.updateTitle k r u).useTitle n).replied i u.fields).takeTrigger)) ∧
    ∀ e, (if r.imageChanged u then s.imageBars k else none) = some e →
      exec (.titlePutUpdate tag n cat r.format.code pages check vols) s =
        .next (s.formReply i { status := e, fields := [] }) := by
  have found := State.findTitle_of_named hn hk ht
  have unheld := State.catalogueHeld_eq_false hx
  refine ⟨fun hb => exec_accepted h rfl ?_, fun e hb => exec_refused h rfl hq ?_⟩ <;>
    simp [answerOf, answerTitleUpdate, found, hc, hp, unheld, hb]

theorem updateTitle_titleCtx (s : State) (k : Nat) (t u : Title) :
    (s.updateTitle k t u).link.titleCtx = s.link.titleCtx := by
  unfold State.updateTitle State.dropImage
  repeat' split
  all_goals simp

/-- Settles O33: what the fields change of the record decides whether the image bars the update. -/
theorem titleUpdatedAndWithdrawn : Obligations.TitleUpdatedAndWithdrawn := by
  refine ⟨fun s i tag n cat pages check vols k r h hq hn hk ht hc hx => ⟨fun hf => ?_, fun hf h1 h2 => ?_⟩,
    fun s i tag n flag k r h hq hn hk ht => ?_⟩
  · have ok : pagesOk r.format pages = true := by simp [pagesOk, hf, Format.hasImage]
    have bar : (if r.imageChanged (r.update cat pages check vols) then s.imageBars k else none) = none := by
      simp [Title.update_paper hf, Title.imageChanged]
    have update : s.updateTitle k r (r.update cat pages check vols) = s.setTitle k (r.update cat pages check vols) := by
      simp [Title.update_paper hf, State.updateTitle, Title.imageChanged]
    have used : (s.setTitle k (r.update cat pages check vols)).useTitle n = _ := State.useTitle_after hk rfl
    rw [(exec_titleUpdate h hq hn hk ht hc ok hx).1 bar, update, used, Title.update_paper hf,
      State.takeTrigger_of_quiet (by exact hq)]
    rfl
  · have ok : pagesOk r.format pages = true := pagesOk_of fun _ => ⟨h1, h2⟩
    obtain ⟨accepted, refused⟩ := exec_titleUpdate h hq hn hk ht hc ok hx
    have used := State.useTitle_after hk (updateTitle_titleCtx s k r (r.update cat pages check vols))
    intro new u marks
    have update : r.update cat pages check vols = u := Title.update_image hf cat pages check vols
    rw [used] at accepted
    rw [update] at accepted refused
    refine ⟨fun hi => ?_, fun e he hch => ?_⟩
    · have bar : (if r.imageChanged u then s.imageBars k else none) = none := by
        obtain hi | ⟨pages, check⟩ := hi
        · simp [State.imageBars, hi]
        · simp [Title.imageChanged, u, pages, check, new]
      rw [accepted bar, State.updateTitle_kept hi]
      simp only [marks, apply_ite State.link]
      split
      · rw [State.takeTrigger_of_quiet (by exact hq)]
        rfl
      · rw [State.takeTrigger_of_quiet (by exact hq)]
        rfl
    · have changed : r.imageChanged u = true := Title.imageChanged_of hch
      rw [if_pos changed] at accepted refused
      refine ⟨fun hpins => refused _ ?_, fun hpins hres => refused _ ?_, fun hpins hres => ?_⟩
      · simp [State.imageBars, he, hpins]
      · simp [State.imageBars, he, hpins, hres]
      · rw [accepted (by simp [State.imageBars, he, hpins, hres]), State.updateTitle_dropped he hch,
          State.takeTrigger_of_due (by split <;> rfl)]
        by_cases hp : r.pages = pages
        · simp only [marks, if_pos hp, if_pos (show r.pages = u.pages from hp)]
          rfl
        · simp only [marks, if_neg hp, if_neg (show ¬r.pages = u.pages from hp)]
          rfl
  · refine exec_accepted h rfl ?_
    have used : (s.withdrawTitle k r (flagOf flag)).useTitle n = _ :=
      State.useTitle_after hk (by unfold State.withdrawTitle; split <;> simp)
    rw [State.withdrawTitle_flag] at used
    simp only [answerOf, answerTitleWithdraw, State.findTitle_of_named hn hk ht, State.withdrawTitle_flag, used]

end Sys2Proof.Proofs
end

section
/-!
PROOF. COPIES ADJUST (R18, R19) and the changes of an Order List (R26 to R31).
-/

namespace Sys2Proof.Machine

/-! ## The copies an action adds or takes, place by place -/

theorem addCopies_getElem? (n : Nat) (l : List CopyPlace) (j : Nat) :
    (addCopies n l)[j]? = (l[j]?).map (fun c =>
      if c = .absent ∧ (l.take j).countP (fun d => decide (d = .absent)) < n then .shelf else c) := by
  induction l generalizing n j with
  | nil => cases n <;> simp [addCopies]
  | cons d l ih =>
    cases n with
    | zero => simp [addCopies]
    | succ n =>
      cases j with
      | zero => by_cases hd : d = .absent <;> simp [addCopies, hd]
      | succ j => by_cases hd : d = .absent <;> simp [addCopies, hd, ih]

theorem dropCopies_getElem? (n : Nat) (l : List CopyPlace) (j : Nat) :
    (dropCopies n l)[j]? = (l[j]?).map (fun c =>
      if c = .shelf ∧ (l.take j).countP (fun d => decide (d = .shelf)) < n then .absent else c) := by
  induction l generalizing n j with
  | nil => cases n <;> simp [dropCopies]
  | cons d l ih =>
    cases n with
    | zero => simp [dropCopies]
    | succ n =>
      cases j with
      | zero => by_cases hd : d = .shelf <;> simp [dropCopies, hd]
      | succ j => by_cases hd : d = .shelf <;> simp [dropCopies, hd, ih]

@[simp] theorem dropCopies_length (n : Nat) (l : List CopyPlace) : (dropCopies n l).length = l.length := by
  induction l generalizing n with
  | nil => cases n <;> rfl
  | cons d l ih =>
    cases n with
    | zero => rfl
    | succ n => by_cases hd : d = .shelf <;> simp [dropCopies, hd, ih]

/-- The copies removed are the highest-numbered ones: the walk goes from the end. -/
theorem removeCopies_getElem? (n : Nat) (l : List CopyPlace) (j : Nat) :
    (removeCopies n l)[j]? = (l[j]?).map (fun c =>
      if c = .shelf ∧ (l.drop (j + 1)).countP (fun d => decide (d = .shelf)) < n then .absent else c) := by
  by_cases hj : j < l.length
  · have mirrored : l.length - 1 - (l.length - 1 - j) = j := by omega
    have behind : l.length - (l.length - 1 - j) = j + 1 := by omega
    rw [removeCopies, List.getElem?_reverse (by simpa using hj), dropCopies_length, List.length_reverse,
      dropCopies_getElem?, List.getElem?_reverse (by omega), mirrored, List.take_reverse, List.countP_reverse,
      behind]
  · have out : (removeCopies n l).length ≤ j := by simpa [removeCopies] using Nat.not_lt.1 hj
    rw [List.getElem?_eq_none out, List.getElem?_eq_none (Nat.not_lt.1 hj)]
    rfl

/-! ## Writing one record -/

theorem State.onPatron_of {s : State} {k : Nat} {p : Patron} (h : s.patron k = some p) (f : Patron → Patron) :
    s.onPatron k f = s.setPatron k (f p) := by
  simp [State.onPatron, h]

theorem State.onTitle_of {s : State} {k : Nat} {r : Title} (h : s.title k = some r) (f : Title → Title) :
    s.onTitle k f = s.setTitle k (f r) := by
  simp [State.onTitle, h]

theorem Title.copy_of {r : Title} {c : Nat} {p : CopyPlace} (h : r.copies[c - 1]? = some p) : r.copy c = p := by
  simp [Title.copy, List.getD_eq_getElem?_getD, h]

/-- A request that names a patron and a title leaves both contexts there (R2). -/
theorem State.use_after {s v : State} {n m k t : Nat}
    (hk : n = k ∧ n ≠ 0 ∨ n = 0 ∧ s.link.patronCtx = some k)
    (ht : m = t ∧ m ≠ 0 ∨ m = 0 ∧ s.link.titleCtx = some t) (hv : v.link.patronCtx = s.link.patronCtx)
    (hw : v.link.titleCtx = s.link.titleCtx) :
    (v.usePatron n).useTitle m = v.setLink { v.link with patronCtx := some k, titleCtx := some t } := by
  rw [State.usePatron_after hk hv]
  exact State.useTitle_after (v := v.setLink { v.link with patronCtx := some k }) ht hw

/-- COPIES ADJUST, once its action can be taken. -/
theorem answerCopies_of_action {title action count k n : Nat} {t : Title} {s u : State} {sweeps : Bool}
    (hf : s.findTitle title = .ok (k, t)) (ha : ¬(action = 0 ∨ 3 < action)) (hp : t.format = .pbraille)
    (hr : s.rolling = false) (hc : copiesAction action count k t s = .ok (n, u, sweeps)) :
    answerCopies title action count s =
      accept ((if sweeps then u.sweep [k] else u).useTitle title)
        (u8 n ++ (if sweeps then u.sweep [k] else u).copyFields k) := by
  simp only [answerCopies, hf, if_neg ha, hp, ne_eq, not_true_eq_false, if_false, hc, hr, Bool.false_eq_true]

/-! ## An order added (R26, R27) -/

theorem State.orderAddBar_of {s : State} {k t : Nat} {reread : Bool} {p : Patron} {r : Title}
    (hp : s.patron k = some p) (ht : s.title t = some r) (hc : p.state ≠ .closed) (hw : r.withdrawn = false)
    (hm : p.media.holds r.format = true) (hx : ∀ e ∈ p.orders, e.title ≠ t)
    (hl : s.onLoan k t r.catalogue = false) (hh : r.catalogue ∈ p.history → reread = true)
    (ho : p.orders.length < 24) (hr : s.rolling = false)
    (hq : r.format = .pbraille → r.holds.length < 8 ∨ s.immediateCopy k r ≠ none) :
    s.orderAddBar k t reread = none := by
  have unlisted : p.orders.any (fun e => decide (e.title = t)) = false := by
    simpa [List.any_eq_false] using hx
  have unread : (p.history.contains r.catalogue && !reread) = false := by
    cases hb : reread with
    | true => simp
    | false => simpa [hb] using hh
  have room : ¬Config.orderMax ≤ p.orders.length := Nat.not_le.2 ho
  have waiting : ¬(r.format = .pbraille ∧ Config.holdMax ≤ r.holds.length ∧ s.immediateCopy k r = none) := by
    rintro ⟨hf, hlen, hn⟩
    obtain hlt | hne := hq hf
    · exact absurd hlen (Nat.not_le.2 hlt)
    · exact hne hn
  simp only [State.orderAddBar, hp, ht, if_neg hc, hw, hm, unlisted, hl, unread, if_neg room, if_neg waiting, hr,
    Bool.not_true, Bool.or_false, Bool.false_eq_true, if_false]

theorem addPosition_eq (length position : Nat) : addPosition length position =
    if position = 0 ∨ length < position then length + 1 else position := rfl

theorem State.immediateCopy_of {s : State} {k c : Nat} {p : Patron} {r : Title} (hp : s.patron k = some p)
    (ha : p.state = .active) (hl : p.setCount < p.setLimit) (hs : s.setItems < 32) (hc : r.shelfCopy = some c) :
    s.immediateCopy k r = some c := by
  have room : s.setItems < Config.trayRoom := hs
  simp [State.immediateCopy, State.canTake, hp, ha, hl, room, hc]

theorem State.immediateCopy_eq_none {s : State} {k : Nat} {p : Patron} {r : Title} (hp : s.patron k = some p)
    (h : p.state = .paused ∨ p.setLimit ≤ p.setCount ∨ 32 ≤ s.setItems ∨ r.shelfCopy = none) :
    s.immediateCopy k r = none := by
  by_cases hc : r.shelfCopy = none
  · simp [State.immediateCopy, hc]
  · have barred : s.canTake k = false := by
      simp only [State.canTake, hp, decide_eq_false_iff_not, not_and]
      intro ha hl hs
      change s.setItems < 32 at hs
      obtain hp | hl' | hs' | hn := h
      · simp [hp] at ha
      · omega
      · omega
      · exact hc hn
    simp [State.immediateCopy, barred]

@[simp] theorem State.clearFillLow_title (s : State) (k t : Nat) : (s.clearFillLow k).title t = s.title t := by
  simp [State.title]

@[simp] theorem State.setPatron_title (s : State) (k t : Nat) (p : Patron) : (s.setPatron k p).title t = s.title t :=
  rfl

/-- A patron that joins a Hold Queue stands at its tail (R34). -/
theorem Title.holdPlace_append {r : Title} {k : Nat} (h : k ∉ r.holds) :
    Title.holdPlace { r with holds := r.holds ++ [k] } k = r.holds.length + 1 := by
  have first : r.holds.findIdx? (fun p => decide (p = k)) = none := by
    simpa [List.findIdx?_eq_none_iff] using fun p (hp : p ∈ r.holds) (hpk : p = k) => h (hpk ▸ hp)
  simp [Title.holdPlace, List.findIdx?_append, first, List.findIdx?_cons]

end Sys2Proof.Machine

namespace Sys2Proof.Proofs

open Sys2Proof Sys2Proof.Machine

/-- Settles O34: the copies after an action are the model's, place by place. -/
theorem copiesAdjusted : Obligations.CopiesAdjusted := by
  intro s i tag n k r hq hn hk ht hf hr
  have found := State.findTitle_of_named hn hk ht
  have swept (u : State) (hu : u.link.titleCtx = s.link.titleCtx) : (u.sweep [k]).useTitle n = _ :=
    State.useTitle_after hk (v := u.sweep [k]) (by simp [hu])
  refine ⟨fun count copies h h1 ho hc => ?_, fun count copies h h1 ho hc => ?_, fun c h h1 h2 hc => ?_,
    fun action count h ha => ?_⟩
  · have same : copies = addCopies (min count (15 - r.owned)) r.copies :=
      List.ext_getElem? fun j => (hc j).trans (addCopies_getElem? _ _ j).symm
    subst same
    have action : copiesAction 1 count k r s = .ok (min count (15 - r.owned),
        s.setTitle k { r with copies := addCopies (min count (15 - r.owned)) r.copies }, true) := by
      simp only [copiesAction, if_neg (show count ≠ 0 by omega), if_neg (show ¬Config.copyMax ≤ r.owned from Nat.not_le.2 ho)]
      rfl
    refine exec_accepted h rfl ((answerCopies_of_action found (by decide) hf hr action).trans ?_)
    rw [if_pos rfl, swept]
    rfl
  · have same : copies = removeCopies count r.copies :=
      List.ext_getElem? fun j => (hc j).trans (removeCopies_getElem? _ _ j).symm
    subst same
    have action : copiesAction 2 count k r s = .ok (count,
        s.setTitle k { r with copies := removeCopies count r.copies }, false) := by
      simp only [copiesAction, if_neg (show count ≠ 0 by omega), if_neg (show ¬r.shelf < count from Nat.not_lt.2 ho)]
    have used : (s.setTitle k { r with copies := removeCopies count r.copies }).useTitle n = _ :=
      State.useTitle_after hk rfl
    refine exec_accepted_quiet h rfl ((answerCopies_of_action found (by decide) hf hr action).trans ?_) (by exact hq)
    rw [if_neg (by decide), used]
  · have action : copiesAction 3 c k r s = .ok (1,
        (s.setTitle k { r with copies := r.copies.set (c - 1) .shelf }).setLost
          (s.records.lost.filter (fun l => !l.isCopy k c)), true) := by
      have named : ¬(c = 0 ∨ Config.copyMax < c) := by
        rw [Config.copyMax]
        omega
      simp only [copiesAction, if_neg named, Title.copy_of hc, State.moveCopy, State.onTitle_of ht, State.unloseCopy,
        ne_eq, not_true_eq_false, if_false]
      rfl
    refine exec_accepted h rfl ((answerCopies_of_action found (by decide) hf hr action).trans ?_)
    rw [if_pos rfl, swept]
    rfl
  · refine exec_refused h rfl hq ?_
    simp [answerOf, answerCopies, found, ha]

/-- Settles O35: nothing bars the order, and what it makes of the entry hangs on the copy at hand. -/
theorem orderAddedAtItsPlace : Obligations.OrderAddedAtItsPlace := by
  intro s i tag n m rush reread position k t p r h hq hn hk hp hm ht htr hc hw hmed hx hl hh ho hr place entry added
    done
  have patron := State.patronIndex_of_named hn hk
  have title := State.titleIndex_of_named hm ht
  have reread' : r.catalogue ∈ p.history → flagOf reread = true := fun hmem => by simpa [flagOf] using hh hmem
  have bar (hq) := State.orderAddBar_of (reread := flagOf reread) hp htr hc hw hmed hx hl reread' ho hr hq
  have inserted (st : EntryState) : s.insertEntry k place (entry st) = added st := by
    simp [State.insertEntry, State.onPatron_of hp, insertAt, added]
  have answer (hfull : r.format = .pbraille → r.holds.length < 8 ∨ s.immediateCopy k r ≠ none) :
      answerOf (.orderAdd tag n m rush reread position) s =
      let st := s.addedState k r
      let u := (((added st).settleAdd k t st).usePatron n).useTitle m
      accept u.noteTrigger
        (u8 place ++ u8 st.code ++ st.itemCopy ++ u8 (if st = .hold then u.holdPlace t k else 0)) := by
    simp only [answerOf, answerOrderAdd, patron, title, bar hfull, hp, htr, ← inserted]
    rfl
  refine ⟨fun hf => ?_, fun c hf ha hlim hs hcopy => ?_, fun hf hlen hk' hno => ?_⟩
  · have state : s.addedState k r = .waiting := if_neg hf
    have used : (((added .waiting).settleAdd k t .waiting).usePatron n).useTitle m = _ :=
      State.use_after hk ht (by simp [State.settleAdd, added]) (by simp [State.settleAdd, added])
    refine exec_accepted_trigger h rfl ((answer fun hp => absurd hp hf).trans ?_)
    simp only [state, used]
    rfl
  · have copy := State.immediateCopy_of hp ha hlim hs hcopy
    have state : s.addedState k r = .allocated s.nextItem c := by simp [State.addedState, hf, copy]
    have used : (((added (.allocated s.nextItem c)).settleAdd k t (.allocated s.nextItem c)).usePatron n).useTitle m = _ :=
      State.use_after hk ht (by simp [State.settleAdd, added]) (by simp [State.settleAdd, added])
    refine exec_accepted_trigger h rfl ((answer fun _ => .inr (by simp [copy])).trans ?_)
    simp only [state, used]
    simp [EntryState.code, EntryState.itemCopy, State.settleAdd]
  · have copy := State.immediateCopy_eq_none hp hno
    have state : s.addedState k r = .hold := by simp [State.addedState, hf, copy]
    have settled : (added .hold).settleAdd k t .hold = (added .hold).setTitle t { r with holds := r.holds ++ [k] } := by
      have there : (added .hold).title t = some r := by simp [added, htr]
      simp [State.settleAdd, State.onTitle_of there]
    have used : (((added .hold).settleAdd k t .hold).usePatron n).useTitle m = _ :=
      State.use_after hk ht (by simp [State.settleAdd, added]) (by simp [State.settleAdd, added])
    refine exec_accepted_trigger h rfl ((answer fun _ => .inl hlen).trans ?_)
    simp only [state, used, if_true]
    rw [settled]
    have place : ∀ l, (((added .hold).setTitle t { r with holds := r.holds ++ [k] }).setLink l).holdPlace t k =
        r.holds.length + 1 := fun l => by
      have there : (((added .hold).setTitle t { r with holds := r.holds ++ [k] }).setLink l).title t =
          some { r with holds := r.holds ++ [k] } := State.title_setTitle _ _ _
      simp only [State.holdPlace, there, Title.holdPlace_append hk']
    rw [place]
    rfl

end Sys2Proof.Proofs
end

section
/-!
PROOF. Entries dropped and moved (R29, R31) and the hold sweep (R35, R36).
-/

namespace Sys2Proof.Machine

/-! ## An entry dropped -/

theorem answerOrderDrop_of {s : State} {n m k t : Nat} {p : Patron} {r : Title} {e : OrderEntry}
    (hp : s.findPatron n = .ok (k, p)) (ht : s.findTitle m = .ok (t, r))
    (he : p.orders.find? (fun e => decide (e.title = t)) = some e) (hn : e.state.isPlanned = false)
    (hr : s.rolling = false) :
    answerOrderDrop n m s =
      accept ((((s.dropEntry k t e.state).usePatron n).useTitle m).noteTrigger)
        (u8 e.state.code ++ e.state.itemCopy) := by
  simp only [answerOrderDrop, hp, ht, he, hn, hr, Bool.false_eq_true, if_false]

/-- The entries of a title leave the list, which ends a FILL_LOW deferral. -/
def State.dropped (s : State) (k t : Nat) (p : Patron) : State :=
  (s.setPatron k { p with orders := p.orders.filter (fun e => decide (e.title ≠ t)) }).clearFillLow k

theorem State.removeEntries_of_title {s : State} {k : Nat} {p : Patron} (t : Nat) (hp : s.patron k = some p) :
    s.removeEntries k (fun e => decide (e.title = t)) = s.dropped k t p := by
  simp [State.removeEntries, State.onPatron_of hp, State.dropped]

@[simp] theorem State.dropped_mail (s : State) (k t : Nat) (p : Patron) : (s.dropped k t p).mail = s.mail := by
  simp [State.dropped]

theorem State.dropEntry_contexts (s : State) (k t : Nat) (st : EntryState) :
    (s.dropEntry k t st).link.patronCtx = s.link.patronCtx ∧
      (s.dropEntry k t st).link.titleCtx = s.link.titleCtx := by
  unfold State.dropEntry
  split
  · simp
  · dsimp only
    split <;> simp
  · simp

/-! ## An entry moved -/

theorem moveEntry_of {l : List OrderEntry} {a b : Nat} {e : OrderEntry} (h : l[a - 1]? = some e) :
    moveEntry l a b = (l.eraseIdx (a - 1)).take (b - 1) ++ e :: (l.eraseIdx (a - 1)).drop (b - 1) := by
  simp [moveEntry, h, insertAt]

/-! ## One allocation of the sweep -/

theorem State.sweepOnce_eq_none {s : State} {t : Nat} {r : Title} (ht : s.title t = some r)
    (h : r.withdrawn = true ∨ r.shelfCopy = none ∨ r.holds.find? s.canTake = none) : s.sweepOnce t = none := by
  obtain hw | hc | hp := h
  · simp [State.sweepOnce, ht, hw]
  · simp [State.sweepOnce, ht, hc]
  · simp only [State.sweepOnce, ht, hp]
    split
    · rfl
    · cases r.shelfCopy <;> rfl

theorem State.sweepOnce_of {s : State} {t c p : Nat} {r : Title} (ht : s.title t = some r)
    (hw : r.withdrawn = false) (hc : r.shelfCopy = some c) (hp : r.holds.find? s.canTake = some p) :
    s.sweepOnce t =
      some ((((s.leaveHold p t).allocate p t c).setEntry p t (.allocated s.nextItem c)).raise .holdFilled) := by
  simp [State.sweepOnce, ht, hw, hc, hp]

@[simp] theorem State.setTitle_setTitle (s : State) (t : Nat) (r u : Title) :
    (s.setTitle t r).setTitle t u = s.setTitle t u := by
  simp [State.setTitle, State.setRecords]

/-- An allocation takes the patron out of the queue and the copy off the shelf, and adds the item (R35). -/
theorem State.leaveHold_allocate {s : State} {p t c : Nat} {r : Title} (ht : s.title t = some r) :
    (s.leaveHold p t).allocate p t c =
      ((s.setTitle t { r with holds := r.holds.filter (· ≠ p), copies := r.copies.set (c - 1) .item }).addItem p
        (.set t c) .awaitingPull).raiseSets p := by
  have left : s.leaveHold p t = s.setTitle t { r with holds := r.holds.filter (· ≠ p) } := State.onTitle_of ht _
  rw [left, State.allocate, State.moveCopy, State.onTitle_of (State.title_setTitle _ _ _), State.setTitle_setTitle]

end Sys2Proof.Machine

namespace Sys2Proof.Proofs

open Sys2Proof Sys2Proof.Machine

/-- Settles O36: a drop goes by the entry's state, and a move takes the entry out and inserts it again. -/
theorem ordersDroppedAndMoved : Obligations.OrdersDroppedAndMoved := by
  refine ⟨fun s i tag n m k t p e h hq hn hk hp hm ht htr he hr => ?_, fun s i tag n a b k p h hq hn hk hp => ?_⟩
  · obtain ⟨r, hr'⟩ := Option.ne_none_iff_exists'.1 htr
    have patron := State.findPatron_of_named hn hk hp
    have title := State.findTitle_of_named hm ht hr'
    intro u done
    have answer (hs : e.state.isPlanned = false) : exec (.orderDrop tag n m) s = .next
        (done (s.dropEntry k t e.state) (u8 e.state.code ++ e.state.itemCopy)) := by
      obtain ⟨hv, hw⟩ := s.dropEntry_contexts k t e.state
      refine exec_accepted_trigger h rfl ((answerOrderDrop_of patron title he hs hr).trans ?_)
      rw [State.use_after hk ht hv hw]
    have left : s.removeEntries k (fun e => decide (e.title = t)) = u := State.removeEntries_of_title t hp
    refine ⟨fun hs => ?_, fun hs => ?_, fun j c x hs hx => ?_, fun plan hs => ?_⟩
    · rw [answer (by rw [hs]; rfl), hs]
      simp only [State.dropEntry, left]
      rfl
    · rw [answer (by rw [hs]; rfl), hs]
      simp only [State.dropEntry, left]
      rfl
    · have there : u.item j = some x := by simpa [State.item, u] using hx
      rw [answer (by rw [hs]; rfl), hs]
      simp only [State.dropEntry, left, there]
      rfl
    · refine exec_refused h rfl hq ?_
      simp [answerOf, answerOrderDrop, patron, title, he, hs, EntryState.isPlanned]
  · have patron := State.findPatron_of_named hn hk hp
    refine ⟨fun ha => ?_, fun e h1 he hr => ?_⟩
    · refine exec_refused h rfl hq ?_
      have out : (if a = 0 then none else p.orders[a - 1]?) = none := by
        split
        · rfl
        · exact List.getElem?_eq_none (by omega)
      simp [answerOf, answerOrderMove, patron, out]
    · intro place others u
      have there : (if a = 0 then none else p.orders[a - 1]?) = some e := by rw [if_neg (by omega), he]
      have long : 1 ≤ p.orders.length := by
        have := (List.getElem?_eq_some_iff.1 he).1
        omega
      have used : u.usePatron n = _ := State.usePatron_after hk (by simp only [u]; split <;> simp)
      refine exec_accepted_trigger h rfl ?_
      simp only [answerOf, answerOrderMove, patron, there, hr, clamp_eq long, moveEntry_of he, Bool.false_eq_true,
        if_false]
      exact congrArg (fun v : State => accept v.noteTrigger _) used

/-- Settles O37: the sweep's own choice of patron is the first able one. -/
theorem sweepAllocatesToFirstAble : Obligations.SweepAllocatesToFirstAble := by
  intro s t fuel r ht able
  have same : able = s.canTake := by
    funext p
    rfl
  refine ⟨fun h => ?_, fun c p hw hc hp => ?_⟩
  · simp [State.sweepTitle, State.sweepOnce_eq_none ht (same ▸ h)]
  · simp only [State.sweepTitle, State.sweepOnce_of ht hw hc (same ▸ hp), State.leaveHold_allocate ht]
    rfl

end Sys2Proof.Proofs
end

section
/-!
PROOF. The requests of the mail desk (R118, R119, R121), of the returns desk (R147, R149 to R151) and of the calendar
(R158 to R163, R175).
-/

namespace Sys2Proof.Machine

/-! ## Fields of an entry -/

theorem alarmOf_eq (w h m : Nat) : alarmOf w h m =
    { weekdays := BitVec.ofNat 7 w, hour := if h = 255 then none else some (min 23 h),
      minute := if m = 255 then none else some (min 59 m) } := by
  unfold alarmOf anyOf
  split <;> split <;> simp [clamp_zero_eq]

theorem anyField_anyOf (x : Nat) : anyField (anyOf x) = u8 x := by
  unfold anyField anyOf
  split
  · next h => rw [h]; rfl
  · rfl

theorem anyInRange_anyOf {lo hi x : Nat} (h : x = 255 ∨ lo ≤ x ∧ x ≤ hi) : anyInRange lo hi (anyOf x) = true := by
  unfold anyOf
  split
  · rfl
  · next hx =>
    obtain ⟨h1, h2⟩ := h.resolve_left hx
    simp [anyInRange, h1, h2]

/-- MAIL LABEL names the item, or for 0 the oldest one awaiting its label (R119). -/
theorem State.labelItem_of {s : State} {n : Nat} {x : Item}
    (h : n ≠ 0 ∧ s.item n = some x ∨
      n = 0 ∧ s.mail.tray.find? (fun y => decide (y.state = .awaitingLabel)) = some x) : s.labelItem n = some x := by
  obtain ⟨hn, hx⟩ | ⟨hn, hx⟩ := h
  · rw [State.labelItem, if_neg hn, hx]
  · rw [State.labelItem, if_pos hn, hx]

/-! ## The start test (R167) -/

theorem State.startTest_eq {s : State} (hr : s.calendar.roll = none) (hc : s.calendar.clock.running = true) :
    s.startTest = s.rollOverdue := by
  simp [State.startTest, State.rollOverdue, State.rolling, hr, hc]

/-! ## Dates (R161): a date stored and read back -/

theorem daysBeforeYear_mono {a b : Nat} (h : a ≤ b) : daysBeforeYear a ≤ daysBeforeYear b := by
  induction b, h using Nat.le_induction with
  | base => exact le_rfl
  | succ n _ ih => exact ih.trans (by simp [daysBeforeYear])

/-- A day more in every fourth year, but in 2100 (R161). -/
theorem daysBeforeYear_eq (n : Nat) : daysBeforeYear n + (if 100 < n then 1 else 0) = 365 * n + (n + 3) / 4 := by
  induction n with
  | zero => rfl
  | succ n ih =>
    have leap : isLeap (2000 + n) = decide (n % 4 = 0 ∧ n ≠ 100) := by
      rw [isLeap, Bool.eq_iff_iff]
      simp only [Bool.and_eq_true, beq_iff_eq, bne_iff_ne, decide_eq_true_eq]
      omega
    simp only [daysBeforeYear, yearDays, leap, decide_eq_true_eq]
    split at ih <;> split <;> split <;> omega

/-- Walking the years off a day count stops in the year it lies in. -/
theorem yearOf_eq {a k r d fuel : Nat} (hd : d + daysBeforeYear a = daysBeforeYear (a + k) + r)
    (hr : r < yearDays (2000 + (a + k))) (hf : k < fuel) : yearOf (2000 + a) d fuel = (2000 + (a + k), r) := by
  induction k generalizing a d fuel with
  | zero =>
    obtain ⟨fuel, rfl⟩ := Nat.exists_eq_succ_of_ne_zero (Nat.ne_of_gt hf)
    have here : d = r := by
      rw [Nat.add_zero] at hd
      omega
    subst here
    rw [yearOf, if_pos (by simpa using hr)]
    simp
  | succ k ih =>
    obtain ⟨fuel, rfl⟩ := Nat.exists_eq_succ_of_ne_zero (Nat.ne_of_gt (Nat.zero_lt_of_lt hf))
    have shift : a + (k + 1) = a + 1 + k := by omega
    rw [shift] at hd hr ⊢
    have next : daysBeforeYear (a + 1) = daysBeforeYear a + yearDays (2000 + a) := rfl
    have later : daysBeforeYear (a + 1) ≤ daysBeforeYear (a + 1 + k) := daysBeforeYear_mono (by omega)
    rw [yearOf, if_neg (by omega)]
    exact ih (a := a + 1) (by omega) hr (by omega)

theorem daysBeforeMonth_mono {y a b : Nat} (h : a ≤ b) : daysBeforeMonth y a ≤ daysBeforeMonth y b := by
  induction b, h using Nat.le_induction with
  | base => exact le_rfl
  | succ n _ ih => exact ih.trans (by simp [daysBeforeMonth])

theorem monthOf_eq {y a k r d fuel : Nat} (hd : d + daysBeforeMonth y a = daysBeforeMonth y (a + k) + r)
    (hr : r < monthDays y (a + k)) (hf : k < fuel) : monthOf y a d fuel = (a + k, r + 1) := by
  induction k generalizing a d fuel with
  | zero =>
    obtain ⟨fuel, rfl⟩ := Nat.exists_eq_succ_of_ne_zero (Nat.ne_of_gt hf)
    have here : d = r := by
      rw [Nat.add_zero] at hd
      omega
    subst here
    rw [monthOf, if_pos (by simpa using hr)]
    simp
  | succ k ih =>
    obtain ⟨fuel, rfl⟩ := Nat.exists_eq_succ_of_ne_zero (Nat.ne_of_gt (Nat.zero_lt_of_lt hf))
    have shift : a + (k + 1) = a + 1 + k := by omega
    rw [shift] at hd hr ⊢
    have next : daysBeforeMonth y (a + 1) = daysBeforeMonth y a + monthDays y a := rfl
    have later : daysBeforeMonth y (a + 1) ≤ daysBeforeMonth y (a + 1 + k) := daysBeforeMonth_mono (by omega)
    rw [monthOf, if_neg (by omega)]
    exact ih (a := a + 1) (by omega) hr (by omega)

/-- The twelve months make the year. -/
theorem daysBeforeMonth_thirteen (y : Nat) : daysBeforeMonth y 13 = yearDays y := by
  unfold yearDays
  split
  · next h => simp [daysBeforeMonth, monthDays, h]
  · next h => simp [daysBeforeMonth, monthDays, h]

/-- A day of a valid date lies in its year. -/
theorem dayOfYear_lt {y m d : Nat} (hm1 : 1 ≤ m) (hm : m ≤ 12) (hd1 : 1 ≤ d) (hd : d ≤ monthDays y m) :
    daysBeforeMonth y m + (d - 1) < yearDays y := by
  have next : daysBeforeMonth y (m + 1) = daysBeforeMonth y m + monthDays y m := rfl
  have later : daysBeforeMonth y (m + 1) ≤ daysBeforeMonth y 13 := daysBeforeMonth_mono (by omega)
  rw [daysBeforeMonth_thirteen] at later
  omega

theorem dateOf_dayNumber {y m d : Nat} (h : validDate y m d = true) :
    dateOf (dayNumber y m d) = (y, m, d) ∧ dayNumber y m d ≤ 73048 := by
  simp only [validDate, decide_eq_true_eq] at h
  obtain ⟨hy1, hy, hm1, hm, hd1, hd⟩ := h
  have inYear := dayOfYear_lt hm1 hm hd1 hd
  have year : 2000 + (y - 2000) = y := by omega
  refine ⟨?_, ?_⟩
  · have years : yearOf 2000 (dayNumber y m d) 200 = (y, daysBeforeMonth y m + (d - 1)) := by
      have := yearOf_eq (a := 0) (k := y - 2000) (r := daysBeforeMonth y m + (d - 1)) (d := dayNumber y m d)
        (fuel := 200) (by simp [dayNumber, daysBeforeYear, Nat.add_assoc]) (by simpa [year] using inYear) (by omega)
      simpa [year] using this
    have months : monthOf y 1 (daysBeforeMonth y m + (d - 1)) 12 = (m, d) := by
      have first : daysBeforeMonth y 1 = 0 := rfl
      have whole : 1 + (m - 1) = m := by omega
      have := monthOf_eq (y := y) (a := 1) (k := m - 1) (r := d - 1) (d := daysBeforeMonth y m + (d - 1)) (fuel := 12)
        (by rw [whole, first]; omega) (by rw [whole]; omega) (by omega)
      rw [this, whole]
      simp
      omega
    simp only [dateOf, years, months]
  · have next : daysBeforeYear (y - 2000 + 1) = daysBeforeYear (y - 2000) + yearDays (2000 + (y - 2000)) := rfl
    have last : daysBeforeYear (y - 2000 + 1) ≤ daysBeforeYear 200 := daysBeforeYear_mono (by omega)
    have whole := daysBeforeYear_eq 200
    norm_num at whole
    rw [year] at next
    unfold dayNumber
    omega

end Sys2Proof.Machine

namespace Sys2Proof.Proofs

open Sys2Proof Sys2Proof.Machine

/-- Settles O53: the item named is in the state its request asks for, or the request is refused. -/
theorem mailRequestsAnswered : Obligations.MailRequestsAnswered := by
  refine fun s i tag hq => ⟨fun n x h hn hx => ⟨fun t c hk hs => ?_, fun hs => ?_⟩,
    fun n x h hx => ⟨fun hs => ?_, fun date time hs => ?_, fun hs => ?_⟩, fun n w h m hsv h1 h4 => ?_⟩
  · refine exec_accepted_quiet h rfl ?_ (by exact hq)
    simp only [answerOf, answerShelfPulled, if_neg hn, hx, hk, hs]
    rfl
  · refine exec_refused h rfl hq ?_
    simp only [answerOf, answerShelfPulled, if_neg hn, hx]
    split
    · next t c hk hp => simp [hk, hp, ItemKind.isSet] at hs
    · rfl
  · refine exec_accepted_quiet h rfl ?_ (by exact hq)
    simp only [answerOf, answerMailLabel, State.labelItem_of hx, hs]
    rfl
  · refine exec_accepted_quiet h rfl ?_ hq
    simp only [answerOf, answerMailLabel, State.labelItem_of hx, hs]
  · refine exec_refused h rfl hq ?_
    simp only [answerOf, answerMailLabel, State.labelItem_of hx, hs]
  · have named : ¬(n = 0 ∨ Config.alarms < n) := by
      rw [Config.alarms]
      omega
    refine exec_accepted_quiet hsv rfl ?_ (by exact hq)
    simp only [answerOf, answerAlarmPut, if_neg named, alarmOf_eq]

/-- Settles O56: a volume is in already, one of several left, or the last one. -/
theorem volumesReturnedAndBinsTaken : Obligations.VolumesReturnedAndBinsTaken := by
  refine ⟨fun s i tag loan v t c total returned l h hq hr h1 h2 hl hk hv1 hv2 => ?_,
    fun s i tag n k c v patron date total returned r h hq hr hn hk ht hf hc1 hc2 hl hv1 hv2 => ?_,
    fun s i tag count hq => ⟨fun h => exec_accepted_quiet h rfl ?_ (by exact hq),
      fun h => exec_accepted_quiet h rfl ?_ (by exact hq)⟩⟩
  · have found : s.findLoan loan = .ok l := by
      have named : ¬(loan = 0 ∨ Config.loanMax < loan) := by
        rw [Config.loanMax]
        omega
      simp [State.findLoan, named, hl]
    have ranged : ¬(v = 0 ∨ total < v) := by omega
    refine ⟨fun hin => exec_accepted_quiet h rfl ?_ hq, fun hout hm => exec_accepted_quiet h rfl ?_ (by exact hq),
      fun hout hm => exec_accepted h rfl ?_⟩
    · simp [answerOf, answerReturnLoan, found, hk, ranged, hr, hin, volumeFields]
      rfl
    · simp [answerOf, answerReturnLoan, found, hk, ranged, hr, hout, hm, volumeFields]
      rfl
    · simp [answerOf, answerReturnLoan, found, hk, ranged, hr, hout, Nat.not_lt.2 hm, volumeFields, State.completeSet]
      rfl
  · have found := State.findTitle_of_named hn hk ht
    have copy : ¬(c = 0 ∨ Config.copyMax < c) := by
      rw [Config.copyMax]
      omega
    have ranged : ¬(v = 0 ∨ total < v) := by omega
    intro done
    refine ⟨fun hin => exec_accepted_quiet h rfl ?_ hq, fun hout hm => exec_accepted_quiet h rfl ?_ (by exact hq),
      fun hout hm => exec_accepted h rfl ?_⟩
    · simp only [answerOf, answerReturnLate, found, hf, hl, Lost.volumes, ne_eq, not_true_eq_false, if_false, if_neg copy,
        if_neg ranged, hr, Bool.false_eq_true, List.contains_iff_mem.2 hin, if_true, State.useTitle_of_named hk]
      simp [volumeFields, List.append_assoc]
      rfl
    · have used : (s.addLate k c v).useTitle n = _ := State.useTitle_after hk rfl
      simp only [answerOf, answerReturnLate, found, hf, hl, Lost.volumes, ne_eq, not_true_eq_false, if_false, if_neg copy,
        if_neg ranged, hr, Bool.false_eq_true, List.contains_iff_mem, hout, if_pos hm, used]
      simp [volumeFields, List.append_assoc]
      rfl
    · have used : (((s.unloseCopy k c).moveCopy k c .shelf).sweep [k]).useTitle n = _ :=
        State.useTitle_after hk (by simp)
      simp only [answerOf, answerReturnLate, found, hf, hl, Lost.volumes, ne_eq, not_true_eq_false, if_false, if_neg copy,
        if_neg ranged, hr, Bool.false_eq_true, List.contains_iff_mem, hout, if_neg (Nat.not_lt.2 hm), used]
      simp [volumeFields, List.append_assoc]
      rfl
  · simp [answerOf, answerBinTake, binOf, clamp_zero_eq, Returns.bin, Returns.setBin, listField, Config.binMax]
  · simp [answerOf, answerBinTake, binOf, clamp_zero_eq, Returns.bin, Returns.setBin, listField, Config.binMax]

/-- Settles O57: the entries are written as sent, and the calendar's walk over years and months is the inverse of the
day number. -/
theorem calendarRequestsServed : Obligations.CalendarRequestsServed := by
  refine ⟨fun s i tag hq => ⟨fun h hr => ⟨fun hc => ?_, fun hc => ?_⟩, fun y mo d hh mi se h => ⟨fun hc => ?_, ?_⟩,
    fun h hc he hr => ?_, fun n mo d w h h1 h2 hmo hd hw => ?_, fun n h h1 h2 => ?_, fun h => ?_⟩,
    fun y m d h => dateOf_dayNumber h, rfl, rfl⟩
  · have idle : s.rolling = false := by simp [State.rolling, hr]
    refine exec_accepted_quiet h rfl ?_ (by exact hq)
    simp [answerOf, answerClockStop, idle, hc, Clock.fields]
  · have idle : s.rolling = false := by simp [State.rolling, hr]
    refine exec_accepted_quiet h rfl ?_ hq
    simp [answerOf, answerClockStop, idle, hc, Clock.fields]
  · refine exec_refused h rfl hq ?_
    simp [answerOf, answerClockSet, hc]
  · intro hc hr hv hh' hmi hse
    have idle : s.rolling = false := by simp [State.rolling, hr]
    refine exec_accepted_quiet h rfl ?_ (by exact hq)
    simp [answerOf, answerClockSet, idle, hc, hv, TimeOfDay.valid, hh', hmi, hse, Clock.fields, State.setClock, weekday]
  · have idle : s.rolling = false := by simp [State.rolling, hr]
    intro t
    have due : t.startTest = t.rollOverdue := State.startTest_eq hr rfl
    refine exec_accepted_quiet h rfl ?_ (by split <;> exact hq)
    simp only [answerOf, answerClockStart, hc, he, idle, Bool.false_eq_true, if_false]
    change accept (if t.startTest then t.beginRoll else t) (s.calendar.clock.fields ++ flagByte t.startTest) = _
    rw [due, Clock.fields, flagByte]
    split <;> rfl
  · have named : ¬(n = 0 ∨ Config.closedDays < n) := by
      rw [Config.closedDays]
      omega
    refine exec_accepted_quiet h rfl ?_ (by exact hq)
    have month := anyInRange_anyOf hmo
    have day := anyInRange_anyOf hd
    have week : anyInRange 0 6 (anyOf w) = true := anyInRange_anyOf (hw.imp_right fun h => ⟨Nat.zero_le _, h⟩)
    simp [answerOf, answerClosedUsed, named, month, day, week, putClosedDay, closedFields, anyField_anyOf]
    rfl
  · have named : ¬(n = 0 ∨ Config.closedDays < n) := by
      rw [Config.closedDays]
      omega
    refine exec_accepted_quiet h rfl ?_ (by exact hq)
    simp [answerOf, answerClosedClear, named, putClosedDay, closedFields]
    rfl
  · exact exec_accepted_quiet h rfl rfl (by exact hq)

end Sys2Proof.Proofs
end

section
/-!
PROOF. The image store: its bytes, its blocks and the bank order (R61 to R63, R71).
-/

namespace Sys2Proof.Machine

/-! ## Bytes read back -/

theorem flashByte_append_left {l m : List Host.Cell} {x : Nat} (h : ∀ c ∈ l, c.1 ≠ x) :
    flashByte (l ++ m) x = flashByte m x := by
  induction l with
  | nil => rfl
  | cons c l ih =>
    obtain ⟨b, v⟩ := c
    have first : b ≠ x := h (b, v) List.mem_cons_self
    simp only [List.cons_append, flashByte, if_neg first]
    exact ih fun c hc => h c (List.mem_cons_of_mem _ hc)

theorem flashByte_of_absent {l : List Host.Cell} {x : Nat} (h : ∀ c ∈ l, c.1 ≠ x) :
    flashByte l x = Config.erasedByte := by
  simpa [flashByte] using flashByte_append_left (m := []) h

theorem flashByte_append_right {l m : List Host.Cell} {x : Nat} (h : ∀ c ∈ m, c.1 ≠ x) :
    flashByte (l ++ m) x = flashByte l x := by
  induction l with
  | nil => exact flashByte_of_absent h
  | cons c l ih =>
    obtain ⟨b, v⟩ := c
    simp only [List.cons_append, flashByte, ih]

theorem flashByte_filter {m : List Host.Cell} {x : Nat} {p : Host.Cell → Bool} (h : ∀ c ∈ m, c.1 = x → p c = true) :
    flashByte (m.filter p) x = flashByte m x := by
  induction m with
  | nil => rfl
  | cons c m ih =>
    have rest := ih fun c hc => h c (List.mem_cons_of_mem _ hc)
    obtain ⟨b, v⟩ := c
    by_cases hb : b = x
    · rw [List.filter_cons_of_pos (h (b, v) List.mem_cons_self hb)]
      simp [flashByte, hb]
    · by_cases hp : p (b, v) = true
      · simp [hp, flashByte, hb, rest]
      · simp [hp, flashByte, hb, rest]

theorem flashByte_cellsFrom (a x : Nat) (bytes : List Byte) :
    flashByte (cellsFrom a bytes) x =
      if a ≤ x ∧ x < a + bytes.length then bytes.getD (x - a) Config.erasedByte else Config.erasedByte := by
  induction bytes generalizing a with
  | nil =>
    rw [if_neg (by simp)]
    rfl
  | cons v rest ih =>
    by_cases hx : a = x
    · subst hx
      have beyond : flashByte (cellsFrom (a + 1) rest) a = Config.erasedByte := by
        rw [ih, if_neg (by omega)]
      by_cases hv : v = Config.erasedByte
      · simp [cellsFrom, hv, beyond]
      · simp [cellsFrom, hv, flashByte]
    · have shown : flashByte (cellsFrom a (v :: rest)) x = flashByte (cellsFrom (a + 1) rest) x := by
        by_cases hv : v = Config.erasedByte
        · simp [cellsFrom, hv]
        · simp [cellsFrom, hv, flashByte, hx]
      rw [shown, ih]
      by_cases hin : a + 1 ≤ x ∧ x < a + 1 + rest.length
      · have place : x - a = x - (a + 1) + 1 := by omega
        rw [if_pos hin, if_pos (by simp only [List.length_cons]; omega), place, List.getD_cons_succ]
      · rw [if_neg hin, if_neg (by simp only [List.length_cons]; omega)]

theorem flashByte_flashWrite (m : List Host.Cell) (a x : Nat) (bytes : List Byte) :
    flashByte (flashWrite m a bytes) x =
      if a ≤ x ∧ x < a + bytes.length then bytes.getD (x - a) Config.erasedByte else flashByte m x := by
  have written : ∀ c ∈ cellsFrom a bytes, a ≤ c.1 ∧ c.1 < a + bytes.length := fun c hc => cellsFrom_mem a bytes hc
  unfold flashWrite
  by_cases hin : a ≤ x ∧ x < a + bytes.length
  · rw [if_pos hin, List.append_assoc, flashByte_append_left (fun c hc => ?_), flashByte_append_right (fun c hc => ?_),
      flashByte_cellsFrom, if_pos hin]
    · have := of_decide_eq_true (List.mem_filter.1 hc).2
      omega
    · have := of_decide_eq_true (List.mem_filter.1 hc).2
      omega
  · rw [if_neg hin]
    by_cases hx : x < a
    · rw [List.append_assoc, flashByte_append_right (fun c hc => ?_),
        flashByte_filter (fun c _ hc => by simpa [hc] using hx)]
      obtain hc | hc := List.mem_append.1 hc
      · have := written c hc
        omega
      · have := of_decide_eq_true (List.mem_filter.1 hc).2
        omega
    · rw [flashByte_append_left (fun c hc => ?_),
        flashByte_filter (fun c _ hc => by simp only [hc, decide_eq_true_eq]; omega)]
      obtain hc | hc := List.mem_append.1 hc
      · have := of_decide_eq_true (List.mem_filter.1 hc).2
        omega
      · have := written c hc
        omega

/-! ## The lowest free block of a bank, and the next bank that has one -/

theorem lowestFree_eq_some {used : List Nat} {n fuel x : Nat} (h : lowestFree used n fuel = some x) :
    n ≤ x ∧ x < n + fuel ∧ x ∉ used ∧ ∀ y, n ≤ y → y < x → y ∈ used := by
  induction fuel generalizing n with
  | zero => cases h
  | succ fuel ih =>
    unfold lowestFree at h
    split at h
    · next hn =>
      obtain ⟨low, high, free, below⟩ := ih h
      refine ⟨by omega, by omega, free, fun y hy hx => ?_⟩
      obtain rfl | hlt := Nat.eq_or_lt_of_le hy
      · simpa using hn
      · exact below y hlt hx
    · next hn =>
      cases h
      exact ⟨le_rfl, by omega, by simpa using hn, fun y hy hx => by omega⟩

theorem lowestFree_eq_none {used : List Nat} {n fuel : Nat} (h : lowestFree used n fuel = none) {y : Nat}
    (hy : n ≤ y) (hf : y < n + fuel) : y ∈ used := by
  induction fuel generalizing n with
  | zero => omega
  | succ fuel ih =>
    unfold lowestFree at h
    split at h
    · next hn =>
      obtain rfl | hlt := Nat.eq_or_lt_of_le hy
      · simpa using hn
      · exact ih h hlt (by omega)
    · cases h

/-- A block is taken from the first bank of the cycle that has one free, and is the lowest free block there. -/
theorem takeBlock_eq_some {used : List Nat} {b tries x k : Nat} (hb : b < 4) (h : takeBlock used b tries = some (x, k)) :
    ∃ d, d < tries ∧ k = (b + d) % 4 ∧ x / 32768 = k ∧ x ∉ used ∧ (∀ y, y / 32768 = k → y < x → y ∈ used) ∧
      ∀ j y, j < d → y / 32768 = (b + j) % 4 → y ∈ used := by
  induction tries generalizing b with
  | zero => cases h
  | succ tries ih =>
    unfold takeBlock at h
    split at h
    · next z hz =>
      simp only [Option.some.injEq, Prod.mk.injEq] at h
      obtain ⟨rfl, rfl⟩ := h
      obtain ⟨low, high, free, below⟩ := lowestFree_eq_some hz
      rw [Config.bankBlocks] at low high below
      exact ⟨0, by omega, by omega, by omega, free, fun y hy hyx => below y (by omega) hyx, fun j y hj => by omega⟩
    · next hz =>
      rw [Config.banks] at h
      obtain ⟨d, hd, rfl, bank, free, below, before⟩ := ih (Nat.mod_lt _ (by decide)) h
      have shift : ((b + 1) % 4 + d) % 4 = (b + (d + 1)) % 4 := by omega
      rw [shift] at bank below ⊢
      refine ⟨d + 1, by omega, rfl, bank, free, below, fun j y hj hy => ?_⟩
      cases j with
      | zero =>
        refine lowestFree_eq_none hz ?_ ?_
        · rw [Config.bankBlocks]; omega
        · rw [Config.bankBlocks]; omega
      | succ j => exact before j y (by omega) (by omega)

theorem takeBlock_eq_none {used : List Nat} {b tries : Nat} (hb : b < 4) (h : takeBlock used b tries = none) {j y : Nat}
    (hj : j < tries) (hy : y / 32768 = (b + j) % 4) : y ∈ used := by
  induction tries generalizing b j with
  | zero => omega
  | succ tries ih =>
    unfold takeBlock at h
    split at h
    · cases h
    · next hz =>
      rw [Config.banks] at h
      cases j with
      | zero =>
        refine lowestFree_eq_none hz ?_ ?_
        · rw [Config.bankBlocks]; omega
        · rw [Config.bankBlocks]; omega
      | succ j => exact ih (Nat.mod_lt _ (by decide)) h (j := j) (by omega) (by omega)

/-- While a block is free, an allocation takes one as R63 gives and goes on from the next bank. -/
theorem allocateFrom_succ {used : List Nat} {b : Nat} (n : Nat) (hb : b < 4) (hx : ∃ x, x < 131072 ∧ x ∉ used) :
    ∃ d x, d < 4 ∧ x / 32768 = (b + d) % 4 ∧ x ∉ used ∧
      (∀ y, y / 32768 = (b + d) % 4 → y < x → y ∈ used) ∧
      (∀ j y, j < d → y / 32768 = (b + j) % 4 → y ∈ used) ∧
      allocateFrom used b (n + 1) = x :: allocateFrom (x :: used) ((b + d + 1) % 4) n := by
  cases h : takeBlock used b Config.banks with
  | none =>
    obtain ⟨x, hx, free⟩ := hx
    refine absurd (takeBlock_eq_none hb h (j := (x / 32768 + 4 - b) % 4) (y := x) ?_ ?_) free
    · rw [Config.banks]; omega
    · omega
  | some e =>
    obtain ⟨x, k⟩ := e
    obtain ⟨d, hd, rfl, bank, free, below, before⟩ := takeBlock_eq_some hb h
    have next : ((b + d) % 4 + 1) % 4 = (b + d + 1) % 4 := by omega
    refine ⟨d, x, hd, bank, free, below, before, ?_⟩
    simp only [allocateFrom, h]
    rw [Config.banks, next]

/-- A pool that is not full has a free block. -/
theorem exists_free {used : List Nat} {n : Nat} (h : used.length < n) : ∃ x, x < n ∧ x ∉ used := by
  by_contra hc
  have sub : Finset.range n ⊆ used.toFinset := fun x hx => by
    by_contra hu
    exact hc ⟨x, Finset.mem_range.1 hx, fun hm => hu (List.mem_toFinset.2 hm)⟩
  have card := (Finset.card_le_card sub).trans (List.toFinset_card_le used)
  rw [Finset.card_range] at card
  omega

theorem allocateFrom_spec {used : List Nat} {b : Nat} (n : Nat) (hb : b < 4) (hr : used.length + n ≤ 131072) :
    (allocateFrom used b n).length = n ∧ (allocateFrom used b n).Nodup ∧
      ∀ x ∈ allocateFrom used b n, x ∉ used ∧ x < 131072 := by
  induction n generalizing used b with
  | zero => exact ⟨rfl, List.nodup_nil, fun x hx => by cases hx⟩
  | succ n ih =>
    obtain ⟨d, x, hd, bank, free, -, -, h⟩ := allocateFrom_succ n hb (exists_free (used := used) (by omega))
    obtain ⟨long, distinct, outside⟩ := ih (used := x :: used) (b := (b + d + 1) % 4) (by omega)
      (by simp only [List.length_cons]; omega)
    rw [h]
    refine ⟨by simp [long], List.nodup_cons.2 ⟨fun hx => (outside x hx).1 List.mem_cons_self, distinct⟩, ?_⟩
    intro y hy
    obtain rfl | hy := List.mem_cons.1 hy
    · exact ⟨free, by omega⟩
    · obtain ⟨apart, low⟩ := outside y hy
      exact ⟨fun hu => apart (List.mem_cons_of_mem _ hu), low⟩

/-- Image block 0 goes to the bank with the most free blocks, the lowest number among equals. -/
theorem firstBank_spec (used : List Nat) :
    firstBank used < 4 ∧ (∀ k, k < 4 → bankFree used k ≤ bankFree used (firstBank used)) ∧
      ∀ k, k < firstBank used → bankFree used k < bankFree used (firstBank used) := by
  have fold (f : Nat → Nat) : ∀ b, b = [0, 1, 2, 3].foldl (fun best b => if f best < f b then b else best) 0 →
      b < 4 ∧ (∀ k, k < 4 → f k ≤ f b) ∧ ∀ k, k < b → f k < f b := by
    rintro b rfl
    simp only [List.foldl_cons, List.foldl_nil, lt_self_iff_false, if_false]
    split_ifs <;> refine ⟨by omega, fun k hk => ?_, fun k hk => ?_⟩ <;> interval_cases k <;> omega
  exact fold (bankFree used) _ rfl

theorem allocateBlocks_spec {used : List Nat} {n : Nat} (hr : used.length + n ≤ 131072) :
    (allocateBlocks used n).length = n ∧ (allocateBlocks used n).Nodup ∧
      ∀ x ∈ allocateBlocks used n, x ∉ used ∧ x < 131072 :=
  allocateFrom_spec n (firstBank_spec used).1 hr

end Sys2Proof.Machine

namespace Sys2Proof.Proofs

open Sys2Proof Sys2Proof.Machine

/-- Settles O42: read after write on the flash, and the cycle of banks an allocation walks. -/
theorem storeKeepsBytesAndBlocks : Obligations.StoreKeepsBytesAndBlocks := by
  refine ⟨flashByte_flashWrite, fun used n _ _ hr => allocateBlocks_spec hr, fun used n => ?_, fun used b => rfl,
    fun used b n hb hx => allocateFrom_succ n hb hx⟩
  obtain ⟨hb, most, lowest⟩ := firstBank_spec used
  exact ⟨firstBank used, hb, most, lowest, rfl⟩

end Sys2Proof.Proofs
end

section
/-!
PROOF. Admission and eviction (R50, R62, R64, R67).
-/

namespace Sys2Proof.Machine

/-! ## Tables with rising keys -/

theorem Table.look_cons {α : Type} (j k : Nat) (v : α) (t : Table α) :
    Table.look ((j, v) :: t) k = if j = k then some v else Table.look t k := rfl

theorem Table.rising_cons {α : Type} {j : Nat} {v : α} {t : Table α} :
    Table.rising ((j, v) :: t) = true ↔ (∀ e ∈ t, j < e.1) ∧ t.rising = true := by
  simp [Table.rising]

theorem Table.rising_filter {α : Type} {t : Table α} (p : Nat × α → Bool) (h : t.rising = true) :
    Table.rising (t.filter p) = true := by
  induction t with
  | nil => rfl
  | cons e t ih =>
    obtain ⟨j, v⟩ := e
    obtain ⟨first, rest⟩ := Table.rising_cons.1 h
    by_cases hp : p (j, v) = true
    · rw [List.filter_cons_of_pos hp]
      exact Table.rising_cons.2 ⟨fun e he => first e (List.mem_filter.1 he).1, ih rest⟩
    · rw [List.filter_cons_of_neg hp]
      exact ih rest

/-- In a rising table a key is met once, so taking the first leaves none. -/
theorem Table.del_eq_filter {α : Type} {t : Table α} (h : t.rising = true) (k : Nat) :
    t.del k = t.filter (fun e => decide (e.1 ≠ k)) := by
  induction t with
  | nil => rfl
  | cons e t ih =>
    obtain ⟨j, v⟩ := e
    obtain ⟨first, rest⟩ := Table.rising_cons.1 h
    by_cases hj : j = k
    · subst hj
      have later : t.filter (fun e => decide (e.1 ≠ j)) = t :=
        List.filter_eq_self.2 fun e he => decide_eq_true (Nat.ne_of_gt (first e he))
      rw [Table.del, if_pos rfl, List.filter_cons_of_neg (by simp), later]
    · rw [Table.del, if_neg hj, List.filter_cons_of_pos (by simpa using hj), ih rest]

/-- An entry of a rising table is the one its key looks up. -/
theorem Table.look_of_mem {α : Type} {t : Table α} (h : t.rising = true) {k : Nat} {v : α} (hm : (k, v) ∈ t) :
    t.look k = some v := by
  induction t with
  | nil => cases hm
  | cons e t ih =>
    obtain ⟨j, w⟩ := e
    obtain ⟨first, rest⟩ := Table.rising_cons.1 h
    obtain he | hm := List.mem_cons.1 hm
    · cases he
      simp [Table.look]
    · have : j ≠ k := Nat.ne_of_lt (first _ hm)
      rw [Table.look_cons, if_neg this, ih rest hm]

theorem Table.look_filter_key {α : Type} (t : Table α) (p : Nat → Bool) (k : Nat) :
    Table.look (t.filter (fun e => p e.1)) k = if p k then t.look k else none := by
  induction t with
  | nil => simp [Table.look]
  | cons e t ih =>
    obtain ⟨j, v⟩ := e
    by_cases hj : j = k
    · subst hj
      by_cases hp : p j = true
      · simp [hp, Table.look]
      · simp [hp, ih]
    · by_cases hp : p j = true
      · simp [hp, Table.look, hj, ih]
      · simp [hp, Table.look, hj, ih]

theorem notMem_keys {α : Type} {l : List (Nat × α)} {k : Nat} : k ∉ l.map (·.1) ↔ ∀ x ∈ l, x.1 ≠ k := by
  refine ⟨fun h x hx hk => h (List.mem_map.2 ⟨x, hx, hk⟩), fun h hm => ?_⟩
  obtain ⟨x, hx, hk⟩ := List.mem_map.1 hm
  exact h x hx hk

/-! ## Admission (R50) -/

theorem State.admissible_iff (s : State) (titles : List (Nat × Nat)) :
    let needed := titles.filter (fun e => decide (s.image e.1 = none))
    let out := s.store.images.filter (fun e =>
      e.2.resident && decide (e.2.pins = 0) && decide (∀ x ∈ titles, x.1 ≠ e.1))
    s.admissible titles = true ↔
      (needed.map (·.2)).sum ≤ (131072 - s.heldBlocks.length) + (out.map (fun e => e.2.blocks.length)).sum ∧
      needed.length ≤ (192 - s.store.images.length) + out.length ∧
      needed.length ≤ 16 - s.store.fetches.length := by
  intro needed out
  have missing : titles.filter (fun e => (s.image e.1).isNone) = needed := by
    refine List.filter_congr fun e _ => ?_
    rw [Bool.eq_iff_iff, Option.isNone_iff_eq_none, decide_eq_true_eq]
  have evicted : s.evictable (titles.map (·.1)) = out := by
    refine List.filter_congr fun e _ => ?_
    have unnamed : (!(titles.map (·.1)).contains e.1) = decide (∀ x ∈ titles, x.1 ≠ e.1) := by
      rw [Bool.eq_iff_iff, Bool.not_eq_true', decide_eq_true_eq, ← notMem_keys, ← List.contains_iff_mem]
      simp
    rw [unnamed]
    rfl
  simp only [State.admissible, missing, evicted, decide_eq_true_eq]
  rfl

/-! ## Eviction (R67) -/

/-- The images that stay once those of `gone` are evicted. -/
def State.keptImages (s : State) (gone : List Nat) : Table Image :=
  s.store.images.filter (fun e => decide (e.1 ∉ gone))

/-- Room for blocks and entries once the images of `gone` are evicted. -/
def State.roomWithout (s : State) (blocks places : Nat) (gone : List Nat) : Prop :=
  blocks ≤ 131072 - ((s.keptImages gone).flatMap (fun e => e.2.blocks)).length ∧
    places ≤ 192 - (s.keptImages gone).length

/-- The state with the images of `gone` evicted: an eviction clears the STORE_SPACE deferrals and is a trigger. -/
def State.without (s : State) (gone : List Nat) : State :=
  if gone = [] then s
  else ((s.setStore { s.store with
    images := s.keptImages gone,
    recency := s.store.recency.filter (fun x => decide (x ∉ gone)) }).setRecords
      { s.records with patrons := s.records.patrons.map (fun e => (e.1, e.2.clearStoreSpace)) }).setPlanner
      { s.planner with due := true }

/-- The walk evicts a title that no plan pins and that the admission does not name. -/
def State.walksOut (s : State) (titles : List Nat) (x : Nat) : Bool :=
  decide (x ∉ titles) &&
    match s.image x with
    | some e => decide (e.pins = 0)
    | none => true

@[simp] theorem State.without_nil (s : State) : s.without [] = s := rfl

theorem State.without_images (s : State) (gone : List Nat) : (s.without gone).store.images = s.keptImages gone := by
  unfold State.without
  split
  · next h => simp [h, State.keptImages]
  · rfl

theorem State.room_without {s : State} {blocks places : Nat} {gone : List Nat} :
    (blocks ≤ (s.without gone).freeBlocks ∧ places ≤ (s.without gone).freePlaces) ↔
      s.roomWithout blocks places gone := by
  simp only [State.freeBlocks, State.heldBlocks, State.freePlaces, State.without_images]
  rfl

@[simp] theorem Patron.clearStoreSpace_idem (r : Patron) : r.clearStoreSpace.clearStoreSpace = r.clearStoreSpace := by
  unfold Patron.clearStoreSpace
  split
  · rfl
  · rfl

theorem State.keptImages_append {s : State} (ho : s.store.images.rising = true) (gone : List Nat) (t : Nat) :
    (s.keptImages gone).del t = s.keptImages (gone ++ [t]) := by
  have rising : (s.keptImages gone).rising = true := Table.rising_filter _ ho
  rw [Table.del_eq_filter rising, State.keptImages, State.keptImages, List.filter_filter]
  refine List.filter_congr fun e _ => ?_
  rw [Bool.eq_iff_iff]
  simp [and_comm]

theorem State.without_append {s : State} (ho : s.store.images.rising = true) (gone : List Nat) (t : Nat) :
    ((s.without gone).removeImage t).spaceFreed = s.without (gone ++ [t]) := by
  have images := State.keptImages_append ho gone t
  have recency : (s.store.recency.filter (fun x => decide (x ∉ gone))).filter (· ≠ t) =
      s.store.recency.filter (fun x => decide (x ∉ gone ++ [t])) := by
    rw [List.filter_filter]
    refine List.filter_congr fun x _ => ?_
    rw [Bool.eq_iff_iff]
    simp [and_comm]
  have twice : (s.records.patrons.map (fun e => (e.1, e.2.clearStoreSpace))).map (fun e => (e.1, e.2.clearStoreSpace)) =
      s.records.patrons.map (fun e => (e.1, e.2.clearStoreSpace)) := by
    simp [List.map_map, Function.comp_def]
  by_cases hg : gone = []
  · subst hg
    have whole : s.keptImages [] = s.store.images := by simp [State.keptImages]
    rw [whole] at images
    simp [State.without, State.removeImage, images, State.spaceFreed, State.noteTrigger, State.setStore,
      State.setRecords, State.setPlanner]
  · simp only [State.without, if_neg hg, if_neg (List.append_ne_nil_of_left_ne_nil hg [t]), State.removeImage,
      State.spaceFreed, State.noteTrigger, State.setStore, State.setRecords, State.setPlanner, images, recency, twice]

/-- Whether the walk evicts a title is not changed by the evictions before it. -/
theorem State.without_pins {s : State} {titles gone : List Nat} (hg : ∀ x ∈ gone, s.walksOut titles x = true) (t : Nat) :
    ((s.without gone).pins t = 0 ∧ ¬titles.contains t = true) ↔ s.walksOut titles t = true := by
  have image : (s.without gone).image t = if t ∉ gone then s.image t else none := by
    have := Table.look_filter_key s.store.images (fun k => decide (k ∉ gone)) t
    simpa [State.image, State.without_images, State.keptImages] using this
  by_cases ht : t ∈ gone
  · have out := hg t ht
    simp only [State.walksOut, Bool.and_eq_true, decide_eq_true_eq] at out
    simp [State.pins, image, ht, hg t ht, out.1]
  · simp only [State.pins, image, ht, not_false_eq_true, if_true, State.walksOut, Bool.and_eq_true, decide_eq_true_eq,
      List.contains_iff_mem]
    cases s.image t <;> simp [and_comm]

/-- The eviction walk, from where it stands: it evicts what it passes over until there is room (R67). -/
theorem State.evict_without {s : State} (ho : s.store.images.rising = true) (titles : List Nat) (blocks places : Nat)
    (pre walk : List Nat) :
    ∃ walked rest, walk = walked ++ rest ∧
      (rest = [] ∨ s.roomWithout blocks places ((pre ++ walked).filter (s.walksOut titles))) ∧
      (∀ front x back, walked = front ++ x :: back →
        ¬s.roomWithout blocks places ((pre ++ front).filter (s.walksOut titles))) ∧
      (s.without (pre.filter (s.walksOut titles))).evict titles walk blocks places =
        s.without ((pre ++ walked).filter (s.walksOut titles)) := by
  induction walk generalizing pre with
  | nil => exact ⟨[], [], rfl, .inl rfl, fun front x back h => by simp at h, by simp [State.evict]⟩
  | cons t walk ih =>
    by_cases room : s.roomWithout blocks places (pre.filter (s.walksOut titles))
    · refine ⟨[], t :: walk, rfl, .inr (by simpa using room), fun front x back h => by simp at h, ?_⟩
      rw [State.evict, if_pos (State.room_without.2 room), List.append_nil]
    · obtain ⟨walked, rest, rfl, stop, before, same⟩ := ih (pre ++ [t])
      rw [List.append_assoc, List.singleton_append] at stop same
      refine ⟨t :: walked, rest, rfl, stop, fun front x back h => ?_, ?_⟩
      · cases front with
        | nil => simpa using room
        | cons y front =>
          simp only [List.cons_append, List.cons.injEq] at h
          obtain ⟨rfl, h⟩ := h
          have := before front x back h
          rwa [List.append_assoc, List.singleton_append] at this
      · rw [State.evict, if_neg (fun h => room (State.room_without.1 h))]
        have out := State.without_pins (s := s) (titles := titles) (gone := pre.filter (s.walksOut titles))
          (fun x hx => (List.mem_filter.1 hx).2) t
        by_cases ht : s.walksOut titles t = true
        · rw [if_pos (out.2 ht), State.without_append ho]
          rw [List.filter_append, List.filter_cons_of_pos ht] at same
          exact same
        · rw [if_neg (fun h => ht (out.1 h))]
          rw [List.filter_append, List.filter_cons_of_neg ht, List.filter_nil, List.append_nil] at same
          exact same

/-! ## After an admission there is room -/

/-- The blocks and entries the evictable images hold, and those the others hold, make up the store. -/
theorem Table.split_blocks (l : Table Image) (p : Nat × Image → Bool) :
    (l.flatMap (fun e => e.2.blocks)).length =
      ((l.filter (fun e => !p e)).flatMap (fun e => e.2.blocks)).length +
        ((l.filter p).map (fun e => e.2.blocks.length)).sum ∧
    l.length = (l.filter (fun e => !p e)).length + (l.filter p).length := by
  induction l with
  | nil => exact ⟨rfl, rfl⟩
  | cons e l ih =>
    obtain ⟨blocks, entries⟩ := ih
    cases hp : p e with
    | true =>
      simp only [List.flatMap_cons, List.length_append, List.length_cons, List.filter_cons, hp, Bool.not_true,
        Bool.false_eq_true, if_false, if_true, List.map_cons, List.sum_cons]
      omega
    | false =>
      simp only [List.flatMap_cons, List.length_append, List.length_cons, List.filter_cons, hp, Bool.not_false,
        Bool.false_eq_true, if_false, if_true]
      omega

/-- Once every evictable image is gone there is room for what has been admitted (R50). -/
theorem State.room_of_admissible {s : State} {plan : List (Nat × Nat)} (ho : s.store.images.rising = true)
    (hi : s.imagesRight) (ha : s.admissible plan = true) :
    s.roomWithout ((plan.filter (fun e => decide (s.image e.1 = none))).map (·.2)).sum
      (plan.filter (fun e => decide (s.image e.1 = none))).length
      (s.store.recency.filter (s.walksOut (plan.map (·.1)))) := by
  obtain ⟨-, -, pool, entries, -, recent, -⟩ := hi
  obtain ⟨blocks, places, -⟩ := (s.admissible_iff plan).1 ha
  have kept : s.keptImages (s.store.recency.filter (s.walksOut (plan.map (·.1)))) =
      s.store.images.filter (fun e =>
        !(e.2.resident && decide (e.2.pins = 0) && decide (∀ x ∈ plan, x.1 ≠ e.1))) := by
    refine List.filter_congr fun e he => ?_
    have image : s.image e.1 = some e.2 := Table.look_of_mem ho he
    have unnamed : e.1 ∉ plan.map (·.1) ↔ ∀ x ∈ plan, x.1 ≠ e.1 := notMem_keys
    rw [Bool.eq_iff_iff]
    simp only [List.mem_filter, recent, image, State.walksOut, unnamed]
    simp [and_comm]
    tauto
  obtain ⟨sumBlocks, sumEntries⟩ := Table.split_blocks s.store.images
    (fun e => e.2.resident && decide (e.2.pins = 0) && decide (∀ x ∈ plan, x.1 ≠ e.1))
  rw [State.roomWithout, kept]
  rw [Config.storeBlocks] at pool
  rw [Config.imageMax] at entries
  unfold State.heldBlocks at pool blocks
  constructor <;> omega

end Sys2Proof.Machine

namespace Sys2Proof.Proofs

open Sys2Proof Sys2Proof.Machine

/-- Settles O31: admission is its three sums, and the walk evicts what no plan needs until there is room. -/
theorem admissionAndEviction : Obligations.AdmissionAndEviction := by
  refine ⟨State.admissible_iff, fun s titles blocks places ho => ?_⟩
  intro t out kept room
  obtain ⟨-, -, -, -, images⟩ := ho
  have same : out = s.walksOut titles := by
    funext x
    rfl
  obtain ⟨walked, rest, whole, stop, before, evicted⟩ :=
    State.evict_without images titles blocks places [] s.store.recency
  simp only [List.nil_append] at stop before evicted
  refine ⟨fun hroom => ?_, walked, rest, whole, stop, before, fun hnone => ?_, fun hsome => ?_,
    fun plan hp hi ha hb hpl => ?_⟩
  · have none : walked = [] := by
      cases walked with
      | nil => rfl
      | cons x back => exact absurd hroom (before [] x back rfl)
    simpa [none] using evicted
  · rw [same] at hnone
    rw [hnone] at evicted
    exact evicted
  · rw [same] at hsome ⊢
    refine evicted.trans ?_
    rw [State.without, if_neg hsome]
    rfl
  · obtain rfl | stop := stop
    · rw [List.append_nil] at whole
      subst hp hb hpl
      rw [same, ← whole]
      exact State.room_of_admissible images hi ha
    · exact stop

end Sys2Proof.Proofs
end

section
/-!
PROOF. The arbiter of a bank (R78, R79) and the sort it uses.
-/

namespace Sys2Proof.Machine

/-! ## The stable sort by a key -/

section
variable {α : Type} {key : α → Nat}

theorem insertByKey_perm (x : α) (l : List α) : (insertByKey key x l).Perm (x :: l) := by
  induction l with
  | nil => exact List.Perm.refl _
  | cons y l ih =>
    unfold insertByKey
    split
    · exact List.Perm.refl _
    · exact (ih.cons y).trans (List.Perm.swap x y l)

theorem foldl_insertByKey_perm (l acc : List α) :
    (l.foldl (fun acc x => insertByKey key x acc) acc).Perm (acc ++ l) := by
  induction l generalizing acc with
  | nil => simp
  | cons x l ih =>
    refine (ih _).trans (((insertByKey_perm x acc).append_right l).trans ?_)
    exact List.perm_middle.symm

theorem sortByKey_perm (l : List α) : (sortByKey key l).Perm l := foldl_insertByKey_perm l []

@[simp] theorem mem_sortByKey {x : α} {l : List α} : x ∈ sortByKey key l ↔ x ∈ l := (sortByKey_perm l).mem_iff

/-- The sort puts the lower key first, and of equal keys the one that stood first. -/
def SortedBy (key : α → Nat) (S : α → α → Prop) (a b : α) : Prop := key a < key b ∨ key a = key b ∧ S a b

theorem insertByKey_pairwise {S : α → α → Prop} {x : α} {l : List α} (hl : l.Pairwise (SortedBy key S))
    (hx : ∀ y ∈ l, S y x) : (insertByKey key x l).Pairwise (SortedBy key S) := by
  induction l with
  | nil => exact List.pairwise_singleton _ _
  | cons y l ih =>
    obtain ⟨first, rest⟩ := List.pairwise_cons.1 hl
    unfold insertByKey
    split
    · next h =>
      refine List.pairwise_cons.2 ⟨fun z hz => ?_, hl⟩
      obtain rfl | hz := List.mem_cons.1 hz
      · exact .inl h
      · obtain hlt | ⟨heq, -⟩ := first z hz
        · exact .inl (h.trans hlt)
        · exact .inl (heq ▸ h)
    · next h =>
      refine List.pairwise_cons.2 ⟨fun z hz => ?_, ih rest fun z hz => hx z (List.mem_cons_of_mem _ hz)⟩
      obtain rfl | hz := List.mem_cons.1 ((insertByKey_perm x l).mem_iff.1 hz)
      · obtain heq | hlt := Nat.eq_or_lt_of_le (Nat.not_lt.1 h)
        · exact .inr ⟨heq, hx y List.mem_cons_self⟩
        · exact .inl hlt
      · exact first z hz

theorem foldl_insertByKey_pairwise {S : α → α → Prop} {l acc : List α} (ha : acc.Pairwise (SortedBy key S))
    (hs : ∀ y ∈ acc, ∀ x ∈ l, S y x) (hl : l.Pairwise S) :
    (l.foldl (fun acc x => insertByKey key x acc) acc).Pairwise (SortedBy key S) := by
  induction l generalizing acc with
  | nil => exact ha
  | cons x l ih =>
    obtain ⟨first, rest⟩ := List.pairwise_cons.1 hl
    refine ih (insertByKey_pairwise ha fun y hy => hs y hy x List.mem_cons_self) (fun y hy z hz => ?_) rest
    obtain rfl | hy := List.mem_cons.1 ((insertByKey_perm x acc).mem_iff.1 hy)
    · exact first z hz
    · exact hs y hy z (List.mem_cons_of_mem _ hz)

theorem sortByKey_pairwise {S : α → α → Prop} {l : List α} (hl : l.Pairwise S) :
    (sortByKey key l).Pairwise (SortedBy key S) :=
  foldl_insertByKey_pairwise List.Pairwise.nil (fun _ h => by cases h) hl

theorem insertByKey_of_lt {x : α} {l : List α} (h : ∀ y ∈ l, key x < key y) : insertByKey key x l = x :: l := by
  cases l with
  | nil => rfl
  | cons y l => rw [insertByKey, if_pos (h y List.mem_cons_self)]

theorem foldl_insertByKey_head? {r : α} {l acc : List α} (h : ∀ x ∈ l, key r ≤ key x) :
    (l.foldl (fun acc x => insertByKey key x acc) (r :: acc)).head? = some r := by
  induction l generalizing acc with
  | nil => rfl
  | cons x l ih =>
    rw [List.foldl_cons, insertByKey, if_neg (Nat.not_lt.2 (h x List.mem_cons_self))]
    exact ih fun y hy => h y (List.mem_cons_of_mem _ hy)

/-- The first of the lowest keys comes first. -/
theorem sortByKey_head? {pre post : List α} {r : α} (h1 : ∀ x ∈ pre, key r < key x) (h2 : ∀ x ∈ post, key r ≤ key x) :
    (sortByKey key (pre ++ r :: post)).head? = some r := by
  rw [sortByKey, List.foldl_append, List.foldl_cons]
  change (post.foldl _ (insertByKey key r (sortByKey key pre))).head? = _
  rw [insertByKey_of_lt fun y hy => h1 y (mem_sortByKey.1 hy)]
  exact foldl_insertByKey_head? h2

end

/-! ## The arbiter's choice (R78) -/

/-- The turn of a slot is how far it stands after the one last served. -/
theorem turnKey_eq {last slot d : Nat} (hl : last ∈ slotNumbers) (hd : d < 8) (h : slot = (last + d) % 8 + 1) :
    turnKey last slot = d := by
  rw [mem_slotNumbers] at hl
  unfold turnKey
  omega

theorem slot_of_turnKey {last slot : Nat} (hl : last ∈ slotNumbers) (hs : slot ∈ slotNumbers) :
    turnKey last slot < 8 ∧ slot = (last + turnKey last slot) % 8 + 1 := by
  rw [mem_slotNumbers] at hl hs
  unfold turnKey
  omega

/-- The read of the first waiting slot counting upward from the one after the last served. -/
theorem nextRead_eq {last d : Nat} {pre post : List ReadOp} {r : ReadOp} (hl : last ∈ slotNumbers)
    (hs : ∀ x ∈ pre ++ r :: post, x.slot ∈ slotNumbers) (hpre : ∀ x ∈ pre, x.slot ≠ r.slot) (hd : d < 8)
    (hr : r.slot = (last + d) % 8 + 1)
    (hfirst : ∀ e x, e < d → x ∈ pre ++ r :: post → x.slot ≠ (last + e) % 8 + 1) :
    nextRead last (pre ++ r :: post) = some r := by
  have mine : turnKey last r.slot = d := turnKey_eq hl hd hr
  have later : ∀ x ∈ pre ++ r :: post, d ≤ turnKey last x.slot := fun x hx => by
    by_contra hlt
    exact hfirst _ x (Nat.not_le.1 hlt) hx (slot_of_turnKey hl (hs x hx)).2
  refine sortByKey_head? (fun x hx => ?_) (fun x hx => ?_)
  · have hm : x ∈ pre ++ r :: post := List.mem_append_left _ hx
    refine mine ▸ lt_of_le_of_ne (later x hm) fun heq => hpre x hx ?_
    rw [(slot_of_turnKey hl (hs x hm)).2, ← heq, hr]
  · exact mine ▸ later x (List.mem_append_right _ (List.mem_cons_of_mem _ hx))

/-- Of the fill writes that wait, the older stream's; with none of it waiting, the first. -/
theorem State.nextFill_eq {s : State} {pre post : List FillOp} {f : FillOp} {older : FillOp → Prop}
    (ho : ∀ f, older f ↔ ∃ g, s.fetch f.fetch = some g ∧ g.state = .streaming true)
    (h : (older f ∧ ∀ x ∈ pre, ¬older x) ∨ (pre = [] ∧ ∀ x ∈ pre ++ f :: post, ¬older x)) :
    s.nextFill (pre ++ f :: post) = some f := by
  have test (x : FillOp) :
      decide ((s.fetch x.fetch).map (·.state) = some (.streaming true)) = true ↔ older x := by
    rw [decide_eq_true_eq, Option.map_eq_some_iff, ho]
  obtain ⟨hf, hp⟩ | ⟨rfl, hn⟩ := h
  · have found : (pre ++ f :: post).find?
        (fun x => decide ((s.fetch x.fetch).map (·.state) = some (.streaming true))) = some f := by
      rw [List.find?_append, List.find?_eq_none.2 (fun x hx => by rw [test]; exact hp x hx), Option.none_or]
      exact List.find?_cons_of_pos ((test f).2 hf)
    rw [State.nextFill, found]
  · have missed : (f :: post).find?
        (fun x => decide ((s.fetch x.fetch).map (·.state) = some (.streaming true))) = none :=
      List.find?_eq_none.2 fun x hx => by rw [test]; exact hn x hx
    rw [List.nil_append, State.nextFill, missed]
    rfl

/-! ## An operation handed to a bank (R79) -/

theorem State.handFill_idle {s : State} {f : FillOp} (h : (s.bank (bankOf f.block)).current = none) :
    s.handFill f = s.setBank (bankOf f.block) { s.bank (bankOf f.block) with current := some (.fill f) } := by
  simp only [State.handFill, h]

theorem State.handFill_busy {s : State} {f : FillOp} (h : (s.bank (bankOf f.block)).current ≠ none) :
    s.handFill f =
      s.setBank (bankOf f.block)
        { s.bank (bankOf f.block) with fills := (s.bank (bankOf f.block)).fills ++ [f] } := by
  obtain ⟨op, hop⟩ := Option.ne_none_iff_exists'.1 h
  simp only [State.handFill, hop]

theorem State.handRead_idle {s : State} {r : ReadOp} (h : (s.bank (bankOf r.block)).current = none) :
    s.handRead r = s.grantRead (bankOf r.block) r := by
  simp only [State.handRead, h]

theorem State.handRead_busy {s : State} {r : ReadOp} (h : (s.bank (bankOf r.block)).current ≠ none) :
    s.handRead r =
      s.setBank (bankOf r.block)
        { s.bank (bankOf r.block) with reads := (s.bank (bankOf r.block)).reads ++ [r] } := by
  obtain ⟨op, hop⟩ := Option.ne_none_iff_exists'.1 h
  simp only [State.handRead, hop]

/-! ## Banks over the whole store -/

theorem State.bank_map {s : State} {f : Bank → Bank} (h : f Bank.idle = Bank.idle) (b : Nat) :
    (s.setStore { s.store with banks := s.store.banks.map f }).bank b = f (s.bank b) := by
  simp only [State.bank, State.setStore]
  conv_lhs => rw [← h]
  rw [List.getD_map]

/-- What a bank keeps of a slot that loses its read. -/
def Bank.loseRead (k : Bank) (slot : Nat) (fate : ReadFate) : Bank :=
  { k with
    reads := k.reads.filter (fun r => decide (r.slot ≠ slot)),
    current := k.current.map (fun op => op.loseRead slot fate) }

/-- What a bank keeps of a stream that loses its fill write. -/
def Bank.loseFill (k : Bank) (id : Nat) : Bank :=
  { k with
    fills := k.fills.filter (fun f => decide (f.fetch ≠ id)),
    current := k.current.map (fun op => op.loseFill id) }

theorem State.loseRead_eq (s : State) (n : Nat) (fate : ReadFate) :
    s.loseRead n fate = s.setStore { s.store with banks := s.store.banks.map (fun k => k.loseRead n fate) } := rfl

theorem State.loseFill_eq (s : State) (id : Nat) :
    s.loseFill id = s.setStore { s.store with banks := s.store.banks.map (fun k => k.loseFill id) } := rfl

theorem State.loseRead_bank (s : State) (n b : Nat) (fate : ReadFate) :
    (s.loseRead n fate).bank b = (s.bank b).loseRead n fate :=
  State.bank_map (f := fun k => k.loseRead n fate) rfl b

theorem State.loseFill_bank (s : State) (id b : Nat) : (s.loseFill id).bank b = (s.bank b).loseFill id :=
  State.bank_map (f := fun k => k.loseFill id) rfl b

theorem BankOp.loseRead_of {r : ReadOp} {n : Nat} {fate : ReadFate} (hs : r.slot = n) (hf : r.fate ≠ .dropped) :
    (BankOp.read r).loseRead n fate = .read { r with fate := fate } := if_pos ⟨hs, hf⟩

theorem BankOp.loseRead_kept {op : BankOp} {n : Nat} {fate : ReadFate}
    (h : ∀ r, op = .read r → r.slot = n → r.fate = .dropped) : op.loseRead n fate = op := by
  cases op with
  | fill f => rfl
  | read r => exact if_neg fun hr => hr.2 (h r rfl hr.1)

theorem BankOp.loseFill_kept {op : BankOp} {id : Nat} (h : ∀ f, op = .fill f → f.fetch ≠ id) : op.loseFill id = op := by
  cases op with
  | fill f => exact if_neg (h f rfl)
  | read r => rfl

theorem State.readWaiting_iff {s : State} {n : Nat} :
    s.readWaiting n = true ↔ ∃ k ∈ s.store.banks, ∃ r ∈ k.reads, r.slot = n := by
  simp [State.readWaiting]

theorem State.readGranted_iff {s : State} {n : Nat} :
    s.readGranted n = true ↔
      ∃ k ∈ s.store.banks, ∃ r, k.current = some (.read r) ∧ r.slot = n ∧ r.fate ≠ .dropped := by
  simp only [State.readGranted, List.any_eq_true]
  refine exists_congr fun k => and_congr_right fun _ => ?_
  split
  · next r hr => simp [hr]
  · next hr =>
    refine iff_of_false (by simp) ?_
    rintro ⟨r, hk, -⟩
    exact hr r hk

theorem State.fillOutstanding_iff {s : State} {id : Nat} :
    s.fillOutstanding id = true ↔ ∃ k ∈ s.store.banks, (∃ f ∈ k.fills, f.fetch = id) ∨
      ∃ f, k.current = some (.fill f) ∧ f.fetch = id ∧ f.live = true := by
  simp only [State.fillOutstanding, List.any_eq_true, Bool.or_eq_true]
  refine exists_congr fun k => and_congr_right fun _ => or_congr (by simp) ?_
  split
  · next f hf => simp [hf]
  · next hf =>
    refine iff_of_false (by simp) ?_
    rintro ⟨f, hk, -⟩
    exact hf f hk

end Sys2Proof.Machine

namespace Sys2Proof.Proofs

open Sys2Proof Sys2Proof.Machine

/-- Settles O7: the turn key counts from the slot last served, and the losses map over the banks. -/
theorem banksGrantTheirOperations : Obligations.BanksGrantTheirOperations := by
  refine ⟨fun s b => ⟨fun pre f post hk ho => ?_, fun pre r post d hf hk hr hpre hd hs hfirst => ?_, fun hf hr => ?_⟩,
    fun s f => ⟨State.handFill_idle, State.handFill_busy⟩, fun s r => ⟨State.handRead_idle, State.handRead_busy⟩,
    fun s n fate => ⟨⟨⟨_, rfl⟩, List.length_map _, fun b => ⟨_, s.loseRead_bank n b fate, fun r hr hn hf => ?_,
      fun hk => ?_⟩⟩, State.readWaiting_iff, State.readGranted_iff⟩,
    fun s id => ⟨⟨⟨_, rfl⟩, List.length_map _, fun b => ⟨_, s.loseFill_bank id b, fun f hf hi => ?_, fun hk => ?_⟩⟩,
      State.fillOutstanding_iff⟩⟩
  · have next : s.nextFill (s.bank b).fills = some f := by
      rw [hk] at ho ⊢
      exact State.nextFill_eq (fun _ => Iff.rfl) ho
    simp only [State.grantNext, next]
  · obtain ⟨-, last, slots, -⟩ := hr
    have next : nextRead (s.bank b).lastServed (s.bank b).reads = some r := by
      rw [hk] at slots hfirst ⊢
      exact nextRead_eq last slots hpre hd hs hfirst
    have none : s.nextFill (s.bank b).fills = none := by
      rw [hf]
      rfl
    simp only [State.grantNext, none, next]
    rfl
  · simp only [State.grantNext, hf, hr]
    rfl
  · rw [hr, Option.map_some, BankOp.loseRead_of hn hf]
  · cases hc : (s.bank b).current with
    | none => rfl
    | some op => rw [Option.map_some, BankOp.loseRead_kept fun r hr => hk r (hc.trans (congrArg some hr))]
  · rw [hf, Option.map_some]
    exact congrArg some (if_pos hi)
  · cases hc : (s.bank b).current with
    | none => rfl
    | some op => rw [Option.map_some, BankOp.loseFill_kept fun f hf => hk f (hc.trans (congrArg some hf))]

end Sys2Proof.Proofs
end

section
/-!
PROOF. Reading behind a fill (R77, R96, R97).
-/

namespace Sys2Proof.Machine

/-! ## Slots written and read back -/

theorem State.slot_setSlot_same {s : State} {n : Nat} (x : Slot) (hs : s.rack.length = 8) (hn : n ∈ slotNumbers) :
    (s.setSlot n x).slot n = x := by
  obtain ⟨h1, h8⟩ := mem_slotNumbers.1 hn
  exact State.slot_setSlot s x hs h1 h8

theorem State.slot_setSlot_other {s : State} {m n : Nat} (x : Slot) (hn : n ∈ slotNumbers) (hm : m ∈ slotNumbers)
    (h : m ≠ n) : (s.setSlot n x).slot m = s.slot m :=
  State.slot_setSlot_of_ne s x (mem_slotNumbers.1 hn).1 (mem_slotNumbers.1 hm).1 h

/-- What a slot's new record keeps of the old one is there on reading it back, in or out of the rack. -/
theorem State.slot_setSlot_kept {β : Type} {s : State} {n : Nat} {x : Slot} (f : Slot → β)
    (h : f x = f (s.slot n)) : f ((s.setSlot n x).slot n) = f (s.slot n) := by
  by_cases hn : n - 1 < s.rack.length
  · have : (s.setSlot n x).slot n = x := by simp [State.slot, State.setSlot, State.setRack, List.getD, hn]
    rw [this, h]
  · have : (s.setSlot n x).slot n = s.slot n := by
      simp [State.slot, State.setSlot, State.setRack, List.getD, Nat.not_lt.1 hn]
    rw [this]

theorem State.bank_setBank_same {s : State} {b : Nat} (k : Bank) (hb : b < s.store.banks.length) :
    (s.setBank b k).bank b = k := by
  simp [State.bank, State.setBank, State.setStore, List.getD, hb]

theorem State.bank_setBank_other {s : State} {b c : Nat} (k : Bank) (h : c ≠ b) :
    (s.setBank b k).bank c = s.bank c := by
  simp [State.bank, State.setBank, State.setStore, List.getD, List.getElem?_set_ne h.symm]

@[simp] theorem State.bank_setSlot (s : State) (n b : Nat) (x : Slot) : (s.setSlot n x).bank b = s.bank b := rfl
@[simp] theorem State.slot_setBank (s : State) (n b : Nat) (k : Bank) : (s.setBank b k).slot n = s.slot n := rfl

/-! ## Which block a slot may read, and what it does there -/

theorem State.readable_iff {s : State} {t j : Nat} : s.readable t j = true ↔ ∃ e, s.image t = some e ∧
    ((e.resident = true ∧ j < e.blocks.length) ∨
      (e.resident = false ∧ j + 1 < e.blocks.length ∧ 64 * (j + 1) ≤ e.filled)) := by
  unfold State.readable
  split
  · next h => simp [h]
  · next e h =>
    simp only [h, Option.some.injEq, exists_eq_left']
    cases e.resident
    · simp only [Bool.false_eq_true, if_false, decide_eq_true_eq, false_and, false_or, true_and]
      rfl
    · simp

/-- The read a slot hands in where it comes to a block. -/
def Slot.readOf (sl : Slot) (n block : Nat) : ReadOp :=
  { slot := n, block := block, place := sl.cursor.frame, fate := .deliver }

theorem State.beginBlock_readable {s : State} {n : Nat} {p : Placement} {e : Image} {block : Nat}
    (hr : s.readable p.title (s.slot n).cursor.image = true) (he : s.image p.title = some e)
    (hb : e.blocks[(s.slot n).cursor.image]? = some block) :
    s.beginBlock n p =
      (s.setSlot n { s.slot n with state := .programming }).handRead ((s.slot n).readOf n block) := by
  have cursor := State.slot_setSlot_kept (s := s) (n := n) (x := { s.slot n with state := .programming }) Slot.cursor rfl
  have image : (s.setSlot n { s.slot n with state := .programming }).image p.title = some e := he
  simp only [State.beginBlock, hr, if_true, State.readFrame, image, cursor, List.getD_eq_getElem?_getD, hb,
    Option.getD_some, Slot.readOf]

theorem State.beginBlock_unreadable {s : State} {n : Nat} {p : Placement}
    (hr : s.readable p.title (s.slot n).cursor.image = false) :
    s.beginBlock n p = s.setSlot n { s.slot n with state := .waitImage } := by
  simp only [State.beginBlock, hr, Bool.false_eq_true, if_false]

theorem State.notify_waiting {s : State} {n t : Nat} {p : Placement} (hs : (s.slot n).state = .waitImage)
    (hp : s.placementOf (s.slot n) = some p) (ht : p.title = t) : s.notify t n = s.beginBlock n p := by
  simp only [State.notify, hs, if_true, hp, ht]

theorem State.notify_other {s : State} {n t : Nat}
    (h : (s.slot n).state ≠ .waitImage ∨ ∀ p, s.placementOf (s.slot n) = some p → p.title ≠ t) : s.notify t n = s := by
  unfold State.notify
  dsimp only
  split
  · next hs =>
    have apart := h.resolve_left (not_not.2 hs)
    split
    · next p hp => rw [if_neg (apart p hp)]
    · rfl
  · rfl

/-! ## A read in a bank -/

/-- A read waits in a bank or has been granted. -/
def State.readHeld (s : State) (r : ReadOp) : Prop :=
  ∃ k ∈ s.store.banks, r ∈ k.reads ∨ k.current = some (.read r)

/-- A change of one bank that keeps the reads of other slots keeps them held. -/
theorem State.readHeld_setBank {s : State} {b : Nat} {k : Bank} {r : ReadOp} (h : s.readHeld r)
    (hk : r ∈ (s.bank b).reads ∨ (s.bank b).current = some (.read r) → r ∈ k.reads ∨ k.current = some (.read r)) :
    (s.setBank b k).readHeld r := by
  obtain ⟨j, hj, hr⟩ := h
  obtain ⟨i, hi, rfl⟩ := List.mem_iff_getElem.1 hj
  by_cases hib : i = b
  · subst hib
    have here : s.bank i = s.store.banks[i] := by simp [State.bank, List.getD, hi]
    refine ⟨k, ?_, hk (here ▸ hr)⟩
    exact List.mem_iff_getElem.2 ⟨i, by simpa [State.setBank, State.setStore] using hi,
      by simp [State.setBank, State.setStore]⟩
  · refine ⟨s.store.banks[i], ?_, hr⟩
    exact List.mem_iff_getElem.2 ⟨i, by simpa [State.setBank, State.setStore] using hi,
      by simp [State.setBank, State.setStore, List.getElem_set_ne (Ne.symm hib)]⟩

theorem State.handRead_keeps {s : State} {q r : ReadOp} (h : s.readHeld r) (hs : r.slot ≠ q.slot) :
    (s.handRead q).readHeld r := by
  by_cases hc : (s.bank (bankOf q.block)).current = none
  · rw [State.handRead_idle hc]
    refine State.readHeld_setBank h fun hr => .inl (List.mem_filter.2 ⟨?_, decide_eq_true hs⟩)
    exact hr.resolve_right (by simp [hc])
  · rw [State.handRead_busy hc]
    exact State.readHeld_setBank h fun hr => hr.imp (List.mem_append_left _) id

/-- A read handed to a bank of the store is held there. -/
theorem State.handRead_holds {s : State} {q : ReadOp} (hb : bankOf q.block < s.store.banks.length) :
    (s.handRead q).readHeld q := by
  have there (k : Bank) : k ∈ (s.setBank (bankOf q.block) k).store.banks :=
    List.mem_iff_getElem.2 ⟨_, by simpa [State.setBank, State.setStore] using hb, by simp [State.setBank, State.setStore]⟩
  by_cases hc : (s.bank (bankOf q.block)).current = none
  · rw [State.handRead_idle hc]
    exact ⟨_, there _, .inr rfl⟩
  · rw [State.handRead_busy hc]
    exact ⟨_, there _, .inl (List.mem_append_right _ (List.mem_singleton.2 rfl))⟩

/-- A slot whose read is granted is marked as having read from the image, and keeps the rest. -/
theorem State.handRead_slot {s : State} {q : ReadOp} {n : Nat} (hs : s.rack.length = 8) (hn : n ∈ slotNumbers)
    (hq : q.slot = n) : ∃ mark, (s.handRead q).slot n = { s.slot n with readMark := mark } := by
  subst hq
  by_cases hc : (s.bank (bankOf q.block)).current = none
  · rw [State.handRead_idle hc]
    exact ⟨true, State.slot_setSlot_same _ hs hn⟩
  · rw [State.handRead_busy hc]
    exact ⟨(s.slot q.slot).readMark, rfl⟩

theorem State.handRead_slot_other {s : State} {q : ReadOp} {m : Nat} (hq : q.slot ∈ slotNumbers) (hm : m ∈ slotNumbers)
    (h : m ≠ q.slot) : (s.handRead q).slot m = s.slot m := by
  by_cases hc : (s.bank (bankOf q.block)).current = none
  · rw [State.handRead_idle hc]
    exact State.slot_setSlot_other _ hq hm h
  · rw [State.handRead_busy hc]
    rfl

/-! ## A notice -/

/-- Nothing but the banks and the rack differs. -/
def State.SameButBanksAndRack (s t : State) : Prop :=
  ∃ banks rack, t = (s.setStore { s.store with banks := banks }).setRack rack

theorem State.SameButBanksAndRack.refl (s : State) : s.SameButBanksAndRack s := ⟨s.store.banks, s.rack, rfl⟩

theorem State.SameButBanksAndRack.trans {s t u : State} (h : s.SameButBanksAndRack t)
    (g : t.SameButBanksAndRack u) : s.SameButBanksAndRack u := by
  obtain ⟨b, r, rfl⟩ := h
  obtain ⟨c, q, rfl⟩ := g
  exact ⟨c, q, rfl⟩

theorem State.sameButBanksAndRack_setSlot (s : State) (n : Nat) (x : Slot) : s.SameButBanksAndRack (s.setSlot n x) :=
  ⟨s.store.banks, _, rfl⟩

theorem State.sameButBanksAndRack_handRead (s : State) (r : ReadOp) : s.SameButBanksAndRack (s.handRead r) := by
  unfold State.handRead
  dsimp only
  split
  · exact ⟨s.store.banks.set _ _, _, rfl⟩
  · exact ⟨s.store.banks.set _ _, s.rack, rfl⟩

theorem State.sameButBanksAndRack_beginBlock (s : State) (n : Nat) (p : Placement) :
    s.SameButBanksAndRack (s.beginBlock n p) := by
  unfold State.beginBlock State.readFrame
  dsimp only
  split
  · split
    · exact State.sameButBanksAndRack_setSlot _ _ _
    · exact (State.sameButBanksAndRack_setSlot _ _ _).trans (State.sameButBanksAndRack_handRead _ _)
  · exact State.sameButBanksAndRack_setSlot _ _ _

theorem State.sameButBanksAndRack_notify (s : State) (t n : Nat) : s.SameButBanksAndRack (s.notify t n) := by
  unfold State.notify
  dsimp only
  repeat' split
  · exact State.sameButBanksAndRack_beginBlock _ _ _
  all_goals exact State.SameButBanksAndRack.refl s

/-- A slot that comes to a readable block programs it and reads its frame; its bank holds the read. -/
theorem State.beginBlock_reads {s : State} {n : Nat} {p : Placement} {e : Image} {block : Nat} (hs : s.rack.length = 8)
    (hn : n ∈ slotNumbers) (hr : s.readable p.title (s.slot n).cursor.image = true) (he : s.image p.title = some e)
    (hb : e.blocks[(s.slot n).cursor.image]? = some block) (hbank : bankOf block < s.store.banks.length) :
    (∃ mark, (s.beginBlock n p).slot n = { s.slot n with state := .programming, readMark := mark }) ∧
      (s.beginBlock n p).readHeld ((s.slot n).readOf n block) := by
  rw [State.beginBlock_readable hr he hb]
  refine ⟨?_, State.handRead_holds hbank⟩
  obtain ⟨mark, hm⟩ := State.handRead_slot (s := s.setSlot n { s.slot n with state := .programming })
    (q := (s.slot n).readOf n block) (by simpa using hs) hn rfl
  exact ⟨mark, by rw [hm, State.slot_setSlot_same _ hs hn]⟩

theorem State.readFrame_slot_other {s : State} {m n : Nat} {p : Placement} (hn : n ∈ slotNumbers) (hm : m ∈ slotNumbers)
    (h : m ≠ n) : (s.readFrame n p).slot m = s.slot m := by
  unfold State.readFrame
  split
  · rfl
  · exact State.handRead_slot_other hn hm h

theorem State.beginBlock_slot_other {s : State} {m n : Nat} {p : Placement} (hn : n ∈ slotNumbers)
    (hm : m ∈ slotNumbers) (h : m ≠ n) : (s.beginBlock n p).slot m = s.slot m := by
  unfold State.beginBlock
  dsimp only
  split
  · rw [State.readFrame_slot_other hn hm h, State.slot_setSlot_other _ hn hm h]
  · exact State.slot_setSlot_other _ hn hm h

theorem State.notify_slot_other {s : State} {t m n : Nat} (hn : n ∈ slotNumbers) (hm : m ∈ slotNumbers) (h : m ≠ n) :
    (s.notify t n).slot m = s.slot m := by
  unfold State.notify
  dsimp only
  repeat' split
  · exact State.beginBlock_slot_other hn hm h
  all_goals rfl

theorem State.beginBlock_keeps {s : State} {n : Nat} {p : Placement} {r : ReadOp} (h : s.readHeld r) (hr : r.slot ≠ n) :
    (s.beginBlock n p).readHeld r := by
  unfold State.beginBlock State.readFrame
  dsimp only
  split
  · split
    · exact h
    · exact State.handRead_keeps (s := s.setSlot n _) h hr
  · exact h

theorem State.notify_keeps {s : State} {t n : Nat} {r : ReadOp} (h : s.readHeld r) (hr : r.slot ≠ n) :
    (s.notify t n).readHeld r := by
  unfold State.notify
  dsimp only
  repeat' split
  · exact State.beginBlock_keeps h hr
  all_goals exact h

/-- A slot that waits on another block, or on one not readable yet, waits on. -/
theorem State.notify_waits {s : State} {t n : Nat} (hs : s.rack.length = 8) (hn : n ∈ slotNumbers)
    (h : (s.slot n).state ≠ .waitImage ∨ (∀ p, s.placementOf (s.slot n) = some p → p.title ≠ t) ∨
      s.readable t (s.slot n).cursor.image = false) : (s.notify t n).slot n = s.slot n := by
  by_cases hw : (s.slot n).state = .waitImage ∧ ∃ p, s.placementOf (s.slot n) = some p ∧ p.title = t
  · obtain ⟨hw, p, hp, rfl⟩ := hw
    have unread := (h.resolve_left (not_not.2 hw)).resolve_left fun h => h p hp rfl
    rw [State.notify_waiting hw hp rfl, State.beginBlock_unreadable unread, State.slot_setSlot_same _ hs hn]
    have same : { s.slot n with state := (s.slot n).state } = s.slot n := rfl
    rwa [hw] at same
  · rw [State.notify_other]
    by_cases hw' : (s.slot n).state = .waitImage
    · exact .inr fun p hp ht => hw ⟨hw', p, hp, ht⟩
    · exact .inl hw'

/-! ## A notice to every slot -/

/-- The walk of a notice over the slots of `l`: each that waits on a readable block reads it, the others wait on. -/
theorem State.foldl_notify {s : State} {t : Nat} (l : List Nat) (hl : ∀ n ∈ l, n ∈ slotNumbers)
    (hd : l.Nodup) (hs : s.rack.length = 8)
    (hb : ∀ e, s.image t = some e → ∀ b ∈ e.blocks, bankOf b < s.store.banks.length) :
    (∀ m ∈ slotNumbers, m ∉ l → (l.foldl (fun v n => v.notify t n) s).slot m = s.slot m) ∧
    (∀ r : ReadOp, r.slot ∉ l → s.readHeld r → (l.foldl (fun v n => v.notify t n) s).readHeld r) ∧
    ∀ n ∈ l,
      (∀ p e block, (s.slot n).state = .waitImage → s.placementOf (s.slot n) = some p → p.title = t →
        s.readable t (s.slot n).cursor.image = true → s.image t = some e →
        e.blocks[(s.slot n).cursor.image]? = some block →
        (∃ mark, (l.foldl (fun v n => v.notify t n) s).slot n =
          { s.slot n with state := .programming, readMark := mark }) ∧
        (l.foldl (fun v n => v.notify t n) s).readHeld ((s.slot n).readOf n block)) ∧
      ((s.slot n).state ≠ .waitImage ∨ (∀ p, s.placementOf (s.slot n) = some p → p.title ≠ t) ∨
          s.readable t (s.slot n).cursor.image = false →
        (l.foldl (fun v n => v.notify t n) s).slot n = s.slot n) := by
  induction l generalizing s with
  | nil => exact ⟨fun _ _ _ => rfl, fun _ _ h => h, fun n hn => by cases hn⟩
  | cons a l ih =>
    obtain ⟨fresh, hd⟩ := List.nodup_cons.1 hd
    have ha := hl a List.mem_cons_self
    have image : (s.notify t a).image = s.image := by
      funext k
      simp [State.image]
    have readable (j : Nat) : (s.notify t a).readable t j = s.readable t j := by
      simp only [State.readable, image]
    have placement (sl : Slot) : (s.notify t a).placementOf sl = s.placementOf sl := by
      simp [State.placementOf, State.plan]
    obtain ⟨others, held, each⟩ := ih (s := s.notify t a) (fun n hn => hl n (List.mem_cons_of_mem _ hn)) hd
      (by simpa using hs) (by simpa [image] using hb)
    refine ⟨fun m hm hml => ?_, fun r hr h => ?_, fun n hn => ?_⟩
    · obtain ⟨hma, hml⟩ := not_or.1 (mt List.mem_cons.2 hml)
      exact (others m hm hml).trans (State.notify_slot_other ha hm hma)
    · obtain ⟨hra, hrl⟩ := not_or.1 (mt List.mem_cons.2 hr)
      exact held r hrl (State.notify_keeps h hra)
    · obtain rfl | hnl := List.mem_cons.1 hn
      · refine ⟨fun p e block hw hp ht hr he hblock => ?_, fun h => ?_⟩
        · subst ht
          have bank := hb e he block (List.mem_of_getElem? hblock)
          obtain ⟨⟨mark, hslot⟩, hheld⟩ := State.beginBlock_reads hs ha hr he hblock bank
          rw [← State.notify_waiting hw hp rfl] at hslot hheld
          exact ⟨⟨mark, (others n ha fresh).trans hslot⟩, held _ fresh hheld⟩
        · exact (others n ha fresh).trans (State.notify_waits hs ha h)
      · have apart : n ≠ a := fun h => fresh (h ▸ hnl)
        have slot := State.notify_slot_other (s := s) (t := t) ha (hl n hn) apart
        have effect := each n hnl
        simp only [slot, placement, readable, image] at effect
        exact effect

theorem State.sameButBanksAndRack_foldl_notify (s : State) (t : Nat) (l : List Nat) :
    s.SameButBanksAndRack (l.foldl (fun v n => v.notify t n) s) := by
  induction l generalizing s with
  | nil => exact State.SameButBanksAndRack.refl s
  | cons a l ih => exact (State.sameButBanksAndRack_notify s t a).trans (ih _)

end Sys2Proof.Machine

namespace Sys2Proof.Proofs

open Sys2Proof Sys2Proof.Machine

/-- Settles O9: a notice walks the slots one by one, and a slot's own read is not touched by the notices after it. -/
theorem slotsReadBehindFill : Obligations.SlotsReadBehindFill := by
  refine ⟨fun s t j => State.readable_iff, fun s n p => ⟨fun e block hr he hb => State.beginBlock_readable hr he hb,
    State.beginBlock_unreadable, fun t hs hp ht => State.notify_waiting hs hp ht⟩,
    fun s t n h => State.notify_other h, fun s t hsh hi => ?_⟩
  intro v
  obtain ⟨rack, banks, alarms, days, copies⟩ := hsh
  obtain ⟨-, pool, -⟩ := hi
  have inBank (e : Image) (he : s.image t = some e) (b : Nat) (hb : b ∈ e.blocks) :
      bankOf b < s.store.banks.length := by
    have held := pool b (List.mem_flatMap.2 ⟨_, Table.mem_of_look he, hb⟩)
    rw [Config.storeBlocks] at held
    rw [banks, bankOf, Config.bankBlocks]
    omega
  obtain ⟨-, -, each⟩ := State.foldl_notify slotNumbers (fun _ h => h) (by decide) rack inBank
  have same : s.SameButBanksAndRack v := s.sameButBanksAndRack_foldl_notify t slotNumbers
  have shaped : v.shaped := by
    refine ⟨?_, ?_, ?_, ?_, ?_⟩
    · simpa [v] using rack
    · simpa [v] using banks
    · simpa [v] using alarms
    · simpa [v] using days
    · simpa [v] using copies
  change ∀ n ∈ slotNumbers, (∀ p e block, _ → _ → _ → _ → _ → _ → (∃ mark, v.slot n = _) ∧ v.readHeld _) ∧
    (_ → v.slot n = s.slot n) at each
  clear_value v
  refine ⟨same, shaped, fun n hn => ?_⟩
  · obtain ⟨reads, waits⟩ := each n hn
    refine ⟨fun p e block hw hp ht hr he hb => ?_, waits⟩
    obtain ⟨slot, k, hk, held⟩ := reads p e block hw hp ht hr he hb
    exact ⟨slot, k, hk, _, held, rfl⟩

end Sys2Proof.Proofs
end

section
/-!
PROOF. The moves every command is made of, and the invariants of requests, settings, clock and triggers
(R178, R188, R183, R155, R49).
-/

namespace Sys2Proof.Machine

/-! ## What a request's command does -/

/-- What becomes of the request at place `i` of `u` when its turn has come. -/
inductive State.Served (u : State) (i : Nat) (c : Instr) : State → Prop
  | left : Served u i c u
  | answered : Served u i c ((answerOf c u).2.formReply i (answerOf c u).1).takeTrigger
  | restarted (r : Reply) : Served u i c ((u.formReply i r).placeReplies (i + 1)).endWork.clearLink.rebuild
  | reading : Served u i c ((u.setQueue (setStage u.link.queue i .serving)).setEvents u.link.events.take)
  | judged (r : Reply) : Served u i c (u.formReply i r)
  | fed {id frame : Nat} {data : List Byte} {f : Fetch} (hl : data.length = Config.frameBytes)
      (ho : u.fillOutstanding id = false) (hf : u.judgeData id frame data = .inr f) :
    Served u i c ((u.setQueue (setStage u.link.queue i (.writing id))).handFill (u.fillOf f frame data))

theorem State.takeRequest_some {s u : State} {code tag i : Nat} {body : List Byte}
    (h : s.takeRequest code tag body = (u, some i)) :
    s.run = .running ∧ (u = s ∨ u = s.arrive code tag body) ∧ u.link.events.reading = false ∧
      oldestWaiting u.link.queue = some i := by
  unfold State.takeRequest at h
  split at h
  · cases h
  · next hr =>
    have hr := not_not.1 hr
    split at h
    · next j hj =>
      split at h
      · cases h
      · next he =>
        split at h
        · cases h; exact ⟨hr, .inl rfl, by simpa using he, hj⟩
        · cases h
    · dsimp only at h
      split at h
      · cases h
      · next he =>
        obtain ⟨rfl, hi⟩ := Prod.mk.inj h
        exact ⟨hr, .inr rfl, by simpa using he, hi⟩

/-- A request's command does nothing, takes the frame it stands for, or serves the request at the place it names. -/
theorem exec_request_effect {c : Instr} {code tag : Nat} {body : List Byte} {s t : State}
    (hc : c.request = some (code, tag, body)) (h : exec c s = .next t) :
    t = s ∨ t = s.arrive code tag body ∨
      ∃ u i, s.takeRequest code tag body = (u, some i) ∧ u.Served i c t := by
  have taken (g : State × Option Nat → State) (hn : ∀ u : State, g (u, none) = u)
      (hs : ∀ (u : State) i, u.Served i c (g (u, some i))) (hg : exec c s = .next (g (s.takeRequest code tag body))) :
      t = s ∨ t = s.arrive code tag body ∨
        ∃ u i, s.takeRequest code tag body = (u, some i) ∧ u.Served i c t := by
    have ht : g (s.takeRequest code tag body) = t := by rw [hg] at h; cases h; rfl
    subst ht
    obtain ⟨⟨u, o⟩, hu⟩ : ∃ a, s.takeRequest code tag body = a := ⟨_, rfl⟩
    cases o with
    | some i => exact .inr (.inr ⟨u, i, hu, by rw [hu]; exact hs u i⟩)
    | none =>
      rw [hu, hn]
      rcases State.takeRequest_cases s code tag body with he | ⟨_, he⟩ <;> rw [hu] at he
      · exact .inl he
      · exact .inr (.inl he)
  cases ha : answeredApart c with
  | false => exact taken (State.serveTaken (answerOf c)) (fun _ => rfl) (fun _ _ => .answered) (exec_request hc ha s)
  | true =>
    cases c
    case restart tag' =>
      cases hc
      refine taken State.restartTaken (fun _ => rfl) (fun u i => ?_) rfl
      unfold State.restartTaken
      dsimp only
      split
      · exact .restarted _
      · exact .left
    case eventsRead => cases hc; exact taken State.eventsTaken (fun _ => rfl) (fun _ _ => .reading) rfl
    case imageData tag' id frame data =>
      cases hc
      refine taken (State.dataTaken id frame data) (fun _ => rfl) (fun u i => ?_) rfl
      unfold State.dataTaken
      dsimp only
      split
      · exact .left
      · next hn =>
        split
        · exact .judged _
        · next f hf =>
          have hl : data.length = Config.frameBytes := by
            by_contra hl
            simp [State.judgeData, hl] at hf
          exact .fed hl (by simpa [hl] using hn) hf
    all_goals cases ha

/-! ## What happens on the link -/

/-- What a stage says of the turns: a request waits (`false`), is the EVENTS READ being served (`true`), or neither. -/
def Stage.turn (st : Stage) : Option Bool :=
  match st with
  | .waiting => some false
  | .serving => some true
  | _ => none

/-- The turns of the requests that are pending. -/
def State.turns (s : State) : List (Option Bool) := s.link.queue.map (·.stage.turn)

theorem map_turn_setStage (q : List Request) (i : Nat) (st : Stage) :
    (setStage q i st).map (·.stage.turn) = (q.map (·.stage.turn)).set i st.turn := by
  induction q generalizing i with
  | nil => rfl
  | cons r q ih =>
    cases i with
    | zero => rfl
    | succ i => exact congrArg _ (ih i)

theorem State.turns_of_queue {s t : State} (h : t.link.queue = s.link.queue) : t.turns = s.turns :=
  congrArg (List.map _) h

theorem State.length_turns (s : State) : s.turns.length = s.link.queue.length := List.length_map ..

theorem State.formReply_turns (s : State) (i : Nat) (r : Reply) : (s.formReply i r).turns = s.turns.set i none :=
  map_turn_setStage _ _ _

/-- The reply of a frame that was written or given up takes the place of a request that neither waits nor is
served. -/
theorem State.formWriting_turns (s : State) (id : Nat) (r : Reply) : (s.formWriting id r).turns = s.turns := by
  unfold State.formWriting
  split
  · next i hi =>
    obtain ⟨hl, hs, -⟩ := List.findIdx?_eq_some_iff_getElem.1 hi
    rw [State.formReply_turns]
    have here : s.turns[i]? = some none := by
      have hw : s.link.queue[i].stage = .writing id := by simpa using hs
      simp [State.turns, hl, hw, Stage.turn]
    obtain ⟨hi', hn⟩ := List.getElem?_eq_some_iff.1 here
    rw [← hn, List.set_getElem_self]
  · rfl

theorem oldestWaiting_turn {s : State} {i : Nat} (h : oldestWaiting s.link.queue = some i) :
    s.turns[i]? = some (some false) := by
  obtain ⟨hl, hs, -⟩ := List.findIdx?_eq_some_iff_getElem.1 h
  have hw : s.link.queue[i].stage = .waiting := by simpa using hs
  simp [State.turns, hl, hw, Stage.turn]

/-- What happens on the link. -/
inductive State.LinkMove (s : State) : State → Prop
  | arrive (code tag : Nat) (body : List Byte) : LinkMove s (s.arrive code tag body)
  | form {i : Nat} (hi : s.turns[i]? = some (some false)) (r : Reply) : LinkMove s (s.formReply i r)
  | write {i : Nat} (hi : s.turns[i]? = some (some false)) (id : Nat) :
    LinkMove s (s.setQueue (setStage s.link.queue i (.writing id)))
  | take {i : Nat} (hi : s.turns[i]? = some (some false)) (he : s.link.events.reading = false) :
    LinkMove s ((s.setQueue (setStage s.link.queue i .serving)).setEvents s.link.events.take)
  | place : LinkMove s s.placeReply
  | replyEvents : LinkMove s s.replyEvents
  | raise (f : Flag) : LinkMove s (s.raise f)
  | frame (frame incoming : List Byte) :
    LinkMove s (s.setLink { s.link with frame := frame, incoming := incoming })

/-- What changes of a state when it is only on the link. -/
def State.LinkOnly (s t : State) : Prop := ∃ l, t = s.setLink l

theorem State.LinkOnly.refl (s : State) : s.LinkOnly s := ⟨s.link, rfl⟩

theorem State.LinkOnly.trans {s t u : State} (h : s.LinkOnly t) (h' : t.LinkOnly u) : s.LinkOnly u := by
  obtain ⟨l, rfl⟩ := h
  obtain ⟨m, rfl⟩ := h'
  exact ⟨m, rfl⟩

theorem State.LinkOnly.run_eq {s t : State} (h : s.LinkOnly t) : t.run = s.run := by
  obtain ⟨l, rfl⟩ := h
  rfl

theorem State.linkOnly_arrive (s : State) (code tag : Nat) (body : List Byte) :
    s.LinkOnly (s.arrive code tag body) := by
  unfold State.arrive
  split
  · exact ⟨_, rfl⟩
  · exact ⟨_, rfl⟩

theorem State.linkOnly_placeReply (s : State) : s.LinkOnly s.placeReply := by
  unfold State.placeReply
  split
  · split
    · exact ⟨_, rfl⟩
    · exact .refl s
  · exact .refl s

theorem State.linkOnly_placeReplies (s : State) (n : Nat) : s.LinkOnly (s.placeReplies n) := by
  induction n generalizing s with
  | zero => exact .refl s
  | succ n ih => exact (State.linkOnly_placeReply s).trans (ih _)

theorem State.LinkMove.linkOnly {s t : State} (h : s.LinkMove t) : s.LinkOnly t := by
  cases h with
  | arrive => exact State.linkOnly_arrive ..
  | form | write | take | raise | frame => exact ⟨_, rfl⟩
  | place => exact State.linkOnly_placeReply s
  | replyEvents =>
    unfold State.replyEvents
    split
    · exact ⟨_, rfl⟩
    · exact .refl s

theorem State.linkOnly_takeRequest {s u : State} {code tag i : Nat} {body : List Byte}
    (h : s.takeRequest code tag body = (u, some i)) : s.LinkOnly u := by
  obtain ⟨_, rfl | rfl, _⟩ := State.takeRequest_some h
  · exact .refl _
  · exact State.linkOnly_arrive _ _ _ _

/-! ## What a socket reports -/

/-- The operation in hand of slot `n`, where its report is looked at. -/
def State.inHand (s : State) (n : Nat) (o : OpInHand) : Prop :=
  (s.slot n).state ≠ .empty ∧ (s.slot n).state ≠ .fault ∧ (s.slot n).op = some o

/-- What a report of socket `n`, or its time-out, does: the work of the operation in hand that it answers, or a
PROTOCOL fault. -/
inductive State.SocketEffect (s : State) (n : Nat) : State → Prop
  | idle : SocketEffect s n s
  | stray (he : (s.slot n).state ≠ .empty) (hf : (s.slot n).state ≠ .fault) :
    SocketEffect s n (s.slotFault n .protocol)
  | identity {o : OpInHand} (ho : s.inHand n o) (h : o.op = .readIdentity) (i : Option Identity) :
    SocketEffect s n (s.identityRead n i)
  | page {o : OpInHand} (ho : s.inHand n o) (h : o.op.isPageRead = true) (ok : Bool) (page : List Byte) :
    SocketEffect s n (s.pageRead n ok page)
  | permit {o : OpInHand} {w : WriteOp} (ho : s.inHand n o) (h : o.op = .grantPermit w) (granted : Bool) :
    SocketEffect s n (s.permitReply n granted w)
  | program {o : OpInHand} (ho : s.inHand n o) (h : o.op.isProgram = true) (ok : Bool) :
    SocketEffect s n (s.programDone n ok)
  | erase {o : OpInHand} (ho : s.inHand n o) (h : (s.slot n).awaitsErase o.op = true) (ok : Bool) :
    SocketEffect s n (s.eraseDone n ok o.op)
  | mark {o : OpInHand} (ho : s.inHand n o) (h : o.op = .markCycle) : SocketEffect s n (s.markDone n)
  | suspend {o : OpInHand} (ho : s.inHand n o) (h : o.op = .suspend) : SocketEffect s n (s.suspendDone n)
  | resume {o : OpInHand} (ho : s.inHand n o) (h : o.op = .resume) : SocketEffect s n (s.resumeDone n)
  | ran {o : OpInHand} (ho : (s.slot n).op = some o) (ran : Nat) : SocketEffect s n (s.runFor n ran)

theorem State.report_effect {s : State} {n : Nat} {answers : CartOp → Bool} {f : CartOp → State → State}
    (h : ∀ o, s.inHand n o → answers o.op = true → s.SocketEffect n (f o.op s)) :
    s.SocketEffect n (s.report n answers f) := by
  unfold State.report
  split
  · exact .idle
  · exact .idle
  · next o ho he hf =>
    split
    · next ha => exact h o ⟨he, hf, ho⟩ ha
    · exact .stray he hf
  · next _ he hf => exact .stray he hf

theorem socketWork_effect {c : Instr} {n : Nat} {f : State → State} (h : socketWork c = some (n, f)) (s : State) :
    s.SocketEffect n (f s) := by
  cases c
  case identityReadDone =>
    cases h; exact State.report_effect fun o ho ha => .identity ho (of_decide_eq_true ha) _
  case pageReadDone => cases h; exact State.report_effect fun o ho ha => .page ho ha _ _
  case permitReply n granted =>
    cases h
    refine State.report_effect fun o ho ha => ?_
    split
    · next w hw => exact .permit ho hw granted
    · exact .idle
  case pageProgramDone => cases h; exact State.report_effect fun o ho ha => .program ho ha _
  case eraseDone => cases h; exact State.report_effect fun o ho ha => .erase ho ha _
  case markCycleDone => cases h; exact State.report_effect fun o ho ha => .mark ho (of_decide_eq_true ha)
  case suspendDone => cases h; exact State.report_effect fun o ho ha => .suspend ho (of_decide_eq_true ha)
  case resumeDone => cases h; exact State.report_effect fun o ho ha => .resume ho (of_decide_eq_true ha)
  case cartOpTimeout n ran =>
    cases h
    cases ho : (s.slot n).op with
    | none =>
      change s.SocketEffect n (s.runFor n ran)
      unfold State.runFor
      rw [ho]
      exact .idle
    | some o => exact .ran ho ran
  case reportAnsweringNoOperation => cases h; exact State.report_effect fun o ho ha => nomatch ha
  all_goals cases h

/-! ## The moves of the part -/

/-- The moves a command is made of: what happens on the link, the trigger taken, a request's answer, the work of the
part's own, a report, a start or an end. The step of a pass is none of them: it is a command of its own. -/
inductive State.Move (s : State) : State → Prop
  | link {t : State} (h : s.LinkMove t) : Move s t
  | trigger : Move s s.takeTrigger
  | answer (c : Instr) (hr : s.run = .running) : Move s (answerOf c s).2
  | restart (hr : s.run = .running) {l : Link} (hl : l.settings = s.link.settings) :
    Move s (s.setLink l).endWork.clearLink.rebuild
  | feed {id frame : Nat} {data : List Byte} {f : Fetch} (hl : data.length = Config.frameBytes)
      (ho : s.fillOutstanding id = false) (hf : s.judgeData id frame data = .inr f) :
    Move s (s.handFill (s.fillOf f frame data))
  | socket {n : Nat} {t : State} (hn : n ∈ slotNumbers) (hr : s.run = .running) (h : s.SocketEffect n t) :
    Move s t
  | tick : Move s s.tick
  | dispatchCartridge (hr : s.run = .running) : Move s s.stepCartridge
  | dispatchSet (hr : s.run = .running) : Move s s.stepSet
  | readerRead (hr : s.run = .running) (i : Option Identity) : Move s (s.readerRead i)
  | loanStep (hr : s.run = .running) : Move s s.loanStep
  | patronStep (hr : s.run = .running) : Move s s.patronStep
  | deferralStep (hr : s.run = .running) : Move s s.deferralStep
  | finishStep (hr : s.run = .running) : Move s s.finishStep
  | noteTrigger : Move s s.noteTrigger
  | follow (f : Follow) : Move s (s.setFollow f)
  | releaseClose (hr : s.run = .running) : Move s s.releaseClose
  | completePending (hr : s.run = .running) : Move s s.completePending
  | powerOn (held good : Bool) : Move s (s.powerOn held good)
  | losePower : Move s s.losePower
  | assertReset (hr : s.run = .running) : Move s s.assertReset
  | releaseReset (hr : s.run = .resetHeld) : Move s s.rebuild
  | present {n : Nat} (hn : n ∈ slotNumbers) (hr : s.run ≠ .running) (present : Bool) :
    Move s (s.setPresent n present)
  | insert {n : Nat} (hn : n ∈ slotNumbers) (hr : s.run = .running) : Move s (s.insertCartridge n)
  | remove {n : Nat} (hn : n ∈ slotNumbers) (hr : s.run = .running) (he : (s.slot n).state ≠ .empty) :
    Move s (s.removeCartridge n)
  | fill {b : Nat} {f : FillOp} (hb : b < 4) (hr : s.run = .running) (hf : (s.bank b).current = some (.fill f)) :
    Move s (s.fillComplete b f)
  | read {b : Nat} {r : ReadOp} (hb : b < 4) (hr : s.run = .running) (hf : (s.bank b).current = some (.read r)) :
    Move s (s.readComplete b r)
  | readerPresent (present : Bool) : Move s (s.setReturns { s.returns with present := present })
  | readerInsert (hr : s.run = .running) : Move s s.readerInsert
  | readerRemove (hr : s.run = .running) : Move s s.readerRemove

/-- Moves made one after the other. -/
def State.Moves (s t : State) : Prop := Relation.ReflTransGen State.Move s t

theorem State.Moves.one {s t : State} (h : s.Move t) : s.Moves t := .single h

theorem State.Moves.then {s t u : State} (h : s.Moves t) (h' : t.Move u) : s.Moves u := .tail h h'

/-- What every move keeps, moves keep. -/
theorem State.Moves.keep {P : State → Prop} (hP : ∀ s t : State, s.Move t → P s → P t) {s t : State}
    (h : s.Moves t) (hs : P s) : P t := by
  induction h with
  | refl => exact hs
  | tail _ hm ih => exact hP _ _ hm ih

theorem answerOf_turns (c : Instr) (s : State) : (answerOf c s).2.turns = s.turns := by
  cases c
  case copiesAdjustAdd | copiesAdjustRemove | copiesAdjustFound =>
    exact State.turns_of_queue (answerCopies_queue _ _ _ s)
  case slotHold => exact State.turns_of_queue (answerSlotHold_queue _ s)
  case fetchAbandon id =>
    simp only [answerOf, answerFetchAbandon]
    split
    · rfl
    · split
      · rfl
      · split
        · exact (State.turns_of_queue (by simp)).trans
            (State.formWriting_turns s id { status := .noRecord, fields := [] })
        · exact State.turns_of_queue (by simp)
  all_goals exact State.turns_of_queue (by simp [answerOf])

theorem State.moves_receiveByte (s : State) (b : Byte) : s.Moves (s.receiveByte b) := by
  unfold State.receiveByte
  split
  · split
    · exact .one (.link (.frame _ _))
    · exact .refl
  · dsimp only
    split
    · exact (State.Moves.one (.link (.frame [] _))).then (.link (.arrive _ _ _))
    · exact .one (.link (.frame _ _))
    · exact .one (.link (.frame _ _))

theorem State.moves_receive (s : State) (bytes : List Byte) : s.Moves (s.receive bytes) := by
  induction bytes generalizing s with
  | nil => exact .one (.link (.frame _ _))
  | cons b rest ih =>
    unfold State.receive
    split
    · exact .one (.link (.frame _ _))
    · exact (State.moves_receiveByte s b).trans (ih _)

theorem State.moves_discardFrame (s : State) : s.Moves s.discardFrame :=
  ((State.Moves.one (.link (.raise .linkFault))).then (.link (.frame [] _))).trans (State.moves_receive _ _)

theorem State.Served.moves {u t : State} {i : Nat} {c : Instr} (hr : u.run = .running)
    (he : u.link.events.reading = false) (hi : u.turns[i]? = some (some false)) (h : u.Served i c t) :
    u.Moves t := by
  cases h with
  | left => exact .refl
  | answered =>
    have hi' : (answerOf c u).2.turns[i]? = some (some false) := by rw [answerOf_turns, hi]
    exact ((State.Moves.one (.answer c hr)).then (.link (.form hi' _))).then .trigger
  | restarted r =>
    obtain ⟨l, hl⟩ : u.LinkOnly ((u.formReply i r).placeReplies (i + 1)) :=
      State.LinkOnly.trans ⟨_, rfl⟩ (State.linkOnly_placeReplies _ (i + 1))
    have settings : l.settings = u.link.settings := by
      have := congrArg (·.link.settings) hl
      simpa using this.symm
    rw [hl]
    exact .one (.restart hr settings)
  | reading => exact .one (.link (.take hi he))
  | judged r => exact .one (.link (.form hi r))
  | fed hl ho hf => exact (State.Moves.one (.link (.write hi _))).then (.feed hl ho hf)

/-- The work of the part's own is moves, or the step of a pass. -/
theorem ownWork_moves {c : Instr} {p : State → Bool} {f : State → State} (h : ownWork c = some (p, f)) {s : State}
    (hp : p s = true) : s.Moves (f s) ∨ (s.run = .running ∧ f s = s.passStep) := by
  cases c
  case passPatronStep => cases h; exact .inr ⟨of_decide_eq_true hp, rfl⟩
  all_goals left
  case frameReceive => cases h; exact State.moves_receive _ _
  case frameDiscard => cases h; exact State.moves_discardFrame _
  case replyPlace => cases h; exact .one (.link .place)
  case eventsReadReply => cases h; exact .one (.link .replyEvents)
  case clockTick => cases h; exact .one .tick
  case dispatchCartridgeItem =>
    cases h; exact (State.Moves.one (.dispatchCartridge (of_decide_eq_true hp))).then .trigger
  case dispatchSetItem => cases h; exact (State.Moves.one (.dispatchSet (of_decide_eq_true hp))).then .trigger
  case readerIdentityDone =>
    cases h; exact (State.Moves.one (.readerRead (of_decide_eq_true hp) _)).then .trigger
  case readerReadTimeout =>
    cases h; exact (State.Moves.one (.readerRead (of_decide_eq_true hp).1 _)).then .trigger
  case rollLoanStep => cases h; exact (State.Moves.one (.loanStep (of_decide_eq_true hp))).then .trigger
  case rollPatronStep => cases h; exact (State.Moves.one (.patronStep (of_decide_eq_true hp))).then .trigger
  case rollDeferralClear => cases h; exact .one (.deferralStep (of_decide_eq_true hp))
  case rollFinish => cases h; exact .one (.finishStep (of_decide_eq_true hp))
  case rollEndPlanningTrigger =>
    cases h; exact ((State.Moves.one .noteTrigger).then (.follow _)).then .trigger
  case heldCloseRelease =>
    cases h; exact (State.Moves.one (.releaseClose (of_decide_eq_true hp).1)).then (.follow _)
  case pendingResultComplete =>
    cases h
    exact ((State.Moves.one (.completePending (of_decide_eq_true hp).1)).then (.follow _)).then .trigger
  case powerOnStart => cases h; exact .one (.powerOn _ _)
  case powerLoss => cases h; exact .one .losePower
  case resetAssert => cases h; exact .one (.assertReset (of_decide_eq_true hp))
  case resetRelease => cases h; exact .one (.releaseReset (of_decide_eq_true hp))
  all_goals cases h

theorem State.HandEffect.moves {s t : State} (h : s.HandEffect t) : s.Moves t := by
  cases h with
  | idle => exact .refl
  | present hn hr p => exact .one (.present hn hr p)
  | insert hn hr => exact .one (.insert hn hr)
  | remove hn hr he => exact (State.Moves.one (.remove hn hr he)).then .trigger
  | fill hb hr hf => exact (State.Moves.one (.fill hb hr hf)).then .trigger
  | read hb hr hf => exact (State.Moves.one (.read hb hr hf)).then .trigger
  | readerPresent hr p => exact .one (.readerPresent p)
  | readerInsert hr => exact .one (.readerInsert hr)
  | readerRemove hr => exact .one (.readerRemove hr)

/-- Every command is moves, or the step of a pass. -/
theorem exec_moves {c : Instr} {s t : State} (h : exec c s = .next t) :
    s.Moves t ∨ (s.run = .running ∧ t = s.passStep) := by
  rcases exec_kinds h with ⟨code, tag, body, hc⟩ | ⟨n, f, hw, hn, rfl⟩ | ⟨p, f, ho, rfl⟩ | hh
  · left
    rcases exec_request_effect hc h with rfl | rfl | ⟨u, i, hu, ht⟩
    · exact .refl
    · exact .one (.link (.arrive _ _ _))
    · obtain ⟨hr, hu', he, hi⟩ := State.takeRequest_some hu
      have taken : s.Moves u := by
        rcases hu' with rfl | rfl
        · exact .refl
        · exact .one (.link (.arrive _ _ _))
      have hr : u.run = .running := by rw [(State.linkOnly_takeRequest hu).run_eq, hr]
      exact taken.trans (ht.moves hr he (oldestWaiting_turn hi))
  · left
    split
    · next hr => exact (State.Moves.one (.socket hn hr (socketWork_effect hw s))).then .trigger
    · exact .refl
  · split
    · next hp => exact ownWork_moves ho hp
    · exact .inl .refl
  · exact .inl hh.moves

/-- What every move keeps a step keeps, where the step of a pass, which is a command of its own, does. -/
theorem step_keeps_from {P : State → Prop} (hP : ∀ s t : State, s.Move t → P s → P t) {s t : State} (h : step s = .next t)
    (hs : ∀ x, P (s.setPending x)) (hpass : ∀ x, s.run = .running → P (s.setPending x).passStep) : P t := by
  unfold step at h
  split at h
  · cases h
    exact hs s.pending
  · next c rest _ =>
    rcases exec_moves h with moves | ⟨hr, rfl⟩
    · exact moves.keep hP (hs rest)
    · exact hpass rest hr

/-- What every move and the step of a pass keep, and does not hang on the commands that wait, a step keeps. -/
theorem step_keeps {P : State → Prop} (hP : ∀ s t : State, s.Move t → P s → P t) (hpass : ∀ s : State, P s → P s.passStep)
    (hpending : ∀ (s : State) (x : List Instr), P s → P (s.setPending x)) {s t : State} (h : step s = .next t)
    (hs : P s) : P t :=
  step_keeps_from hP h (fun x => hpending s x hs) fun x _ => hpass _ (hpending s x hs)

end Sys2Proof.Machine

end

section
/-!
PROOF. The requests pending, the EVENTS READ being served, the settings, the clock and the triggers (R178, R188, R183,
R155, R49).
-/

namespace Sys2Proof.Machine

/-! ## The turns and the reading, move by move -/

theorem Events.RaisedTo.reading_eq {e e' : Events} (h : e.RaisedTo e') : e'.reading = e.reading := by
  induction h with
  | refl => rfl
  | raise _ f ih => rw [Events.raise_reading, ih]

theorem answerOf_reading (c : Instr) (s : State) :
    (answerOf c s).2.link.events.reading = s.link.events.reading := by
  have raises {u : State} (h : s.OnlyRaises u) : u.link.events.reading = s.link.events.reading := h.raised.reading_eq
  cases c
  case eventsEnable => rfl
  case patronPutUpdate => exact raises (answerPatronUpdate_onlyRaises _ _ _ _ _ _ _ s)
  case patronPause => exact raises (answerPatronPause_onlyRaises _ _ _ _ s)
  case patronClose => exact raises (answerPatronClose_onlyRaises _ s)
  case copiesAdjustAdd | copiesAdjustRemove | copiesAdjustFound => exact raises (answerCopies_onlyRaises _ _ _ s)
  case titleWithdraw => exact raises (answerTitleWithdraw_onlyRaises _ _ s)
  case slotHold => exact raises (answerSlotHold_onlyRaises _ s)
  case orderAdd => exact raises (answerOrderAdd_onlyRaises _ _ _ _ _ s)
  case orderDrop => exact raises (answerOrderDrop_onlyRaises _ _ s)
  case fetchAbandon => exact raises (answerFetchAbandon_onlyRaises _ s)
  case preload => exact raises (answerPreload_onlyRaises _ s)
  case returnVolumeLoan => exact raises (answerReturnLoan_onlyRaises _ _ s)
  case returnVolumeLate => exact raises (answerReturnLate_onlyRaises _ _ _ s)
  case clockStop => exact raises (answerClockStop_onlyRaises s)
  case unknownRequest => exact raises (answerUnknown_onlyRaises _ _ s)
  all_goals simp [answerOf]

theorem State.SocketEffect.queue_eq {s t : State} {n : Nat} (h : s.SocketEffect n t) :
    t.link.queue = s.link.queue := by
  cases h <;> simp

theorem State.SocketEffect.raised {s t : State} {n : Nat} (h : s.SocketEffect n t) :
    s.link.events.RaisedTo t.link.events := by
  cases h <;> simp

theorem State.afterFrame_turns (s : State) (f : FillOp) (g : Fetch) : (s.afterFrame f g).turns = s.turns := by
  unfold State.afterFrame
  split
  · split
    · exact (State.formWriting_turns ..).trans (State.turns_of_queue (by simp))
    · refine (State.formWriting_turns ..).trans ?_
      split
      · exact State.turns_of_queue (by simp)
      · exact State.turns_of_queue (by simp)
  · exact (State.formWriting_turns ..).trans (State.turns_of_queue (by simp))

theorem State.fillComplete_turns (s : State) (b : Nat) (f : FillOp) : (s.fillComplete b f).turns = s.turns := by
  have stored : (s.storeFrame f).turns = s.turns := State.turns_of_queue (by simp)
  have counted (u : State) : (u.countFrame f).turns = u.turns := State.turns_of_queue (by simp)
  have granted (u : State) : (u.grantNext b).turns = u.turns := State.turns_of_queue (by simp)
  unfold State.fillComplete
  dsimp only
  rw [granted]
  split
  · rw [State.afterFrame_turns, counted, stored]
  · rw [State.formWriting_turns, stored]

/-- No requests and none served, as a start leaves the link. -/
def State.noTurns (t : State) : Prop := t.turns = [] ∧ t.link.events.reading = false

theorem State.rebuild_turns (s : State) : s.rebuild.turns = s.turns ∧
    s.rebuild.link.events.reading = s.link.events.reading :=
  ⟨State.turns_of_queue (by simp), (State.rebuild_raised (s := s) .refl).reading_eq⟩

theorem State.clearLink_noTurns (s : State) : s.clearLink.noTurns := ⟨rfl, rfl⟩

theorem State.noTurns.rebuild {s : State} (h : s.noTurns) : s.rebuild.noTurns := by
  obtain ⟨ht, hr⟩ := s.rebuild_turns
  exact ⟨ht.trans h.1, hr.trans h.2⟩

theorem State.powerOn_noTurns (s : State) (held good : Bool) : (s.powerOn held good).noTurns := by
  refine ⟨?_, (State.powerOn_raised s held good).reading_eq⟩
  unfold State.powerOn
  dsimp only
  refine (State.rebuild_turns _).1.trans ?_
  split
  · exact State.turns_of_queue (t := s.losePower.takeBackup held good) (s := s.clearLink) (by simp; rfl)
  · exact State.turns_of_queue (s := s.clearLink) (by simp; rfl)

/-- A move is one on the link, keeps the turns, or leaves no request pending. -/
theorem State.Move.turned {s t : State} (h : s.Move t) :
    s.LinkMove t ∨ (t.turns = s.turns ∧ t.link.events.reading = s.link.events.reading) ∨ t.noTurns := by
  have untouched (hq : t.link.queue = s.link.queue) (he : s.link.events.RaisedTo t.link.events) :
      s.LinkMove t ∨ (t.turns = s.turns ∧ t.link.events.reading = s.link.events.reading) ∨ t.noTurns :=
    .inr (.inl ⟨State.turns_of_queue hq, he.reading_eq⟩)
  cases h with
  | link h => exact .inl h
  | answer c _ => exact .inr (.inl ⟨answerOf_turns c s, answerOf_reading c s⟩)
  | restart => exact .inr (.inr (State.clearLink_noTurns _).rebuild)
  | socket _ _ h => exact untouched h.queue_eq h.raised
  | powerOn held good => exact .inr (.inr (State.powerOn_noTurns s held good))
  | losePower => exact .inr (.inr ⟨rfl, rfl⟩)
  | assertReset => exact .inr (.inr ⟨rfl, rfl⟩)
  | releaseReset => exact .inr (.inl s.rebuild_turns)
  | fill _ _ _ => exact .inr (.inl ⟨State.fillComplete_turns _ _ _, (State.fillComplete_raised .refl _ _).reading_eq⟩)
  | _ => exact untouched (by simp) (by simp)

/-! ## At most 4 requests, and one served -/

theorem State.arrive_turns (s : State) (code tag : Nat) (body : List Byte) :
    (s.arrive code tag body).turns = if s.turns.length < Config.requestMax then s.turns ++ [some false] else s.turns := by
  unfold State.arrive
  rw [State.length_turns]
  split
  · exact List.map_append
  · exact State.turns_of_queue (by simp)

/-- The oldest reply, once formed, is taken off the head of the queue. -/
theorem State.placeReply_turns (s : State) : s.placeReply.turns = s.turns ∨ s.turns = none :: s.placeReply.turns := by
  unfold State.placeReply
  split
  · next r rest hq =>
    split
    · next reply hs => exact .inr (by simp [State.turns, hq, hs, Stage.turn])
    · exact .inl rfl
  · exact .inl rfl

theorem State.replyEvents_turns (s : State) :
    (s.replyEvents = s ∧ some true ∉ s.turns) ∨
      ∃ i, s.turns[i]? = some (some true) ∧ s.replyEvents.turns = s.turns.set i none ∧
        s.replyEvents.link.events.reading = false := by
  unfold State.replyEvents
  split
  · next i hi =>
    obtain ⟨hl, hs, -⟩ := List.findIdx?_eq_some_iff_getElem.1 hi
    have hw : s.link.queue[i].stage = .serving := by simpa using hs
    refine .inr ⟨i, by simp [State.turns, hl, hw, Stage.turn], ?_, rfl⟩
    exact (State.turns_of_queue rfl).trans (State.formReply_turns s i _)
  · next hn =>
    refine .inl ⟨rfl, fun ht => ?_⟩
    obtain ⟨r, hr, hs⟩ := List.mem_map.1 ht
    have := List.findIdx?_eq_none_iff.1 hn r hr
    cases hst : r.stage <;> simp [hst, Stage.turn] at this hs

theorem State.LinkMove.length_le {s t : State} (h : s.LinkMove t) (hs : s.turns.length ≤ 4) :
    t.turns.length ≤ 4 := by
  cases h with
  | arrive code tag body =>
    rw [State.arrive_turns]
    split
    · next h => rw [List.length_append]; exact Nat.succ_le_of_lt h
    · exact hs
  | form hi r => rw [State.formReply_turns, List.length_set]; exact hs
  | write hi id => exact (congrArg List.length (map_turn_setStage ..)).trans_le (by rw [List.length_set]; exact hs)
  | take hi he => exact (congrArg List.length (map_turn_setStage ..)).trans_le (by rw [List.length_set]; exact hs)
  | place =>
    rcases s.placeReply_turns with h | h
    · rw [h]; exact hs
    · rw [h, List.length_cons] at hs; omega
  | replyEvents =>
    rcases s.replyEvents_turns with ⟨h, -⟩ | ⟨i, -, h, -⟩
    · rw [h]; exact hs
    · rw [h, List.length_set]; exact hs
  | raise f => exact hs
  | frame => exact hs

/-- One request at most is the EVENTS READ being served, and one is exactly while the events are read. -/
theorem State.oneServed_iff (s : State) :
    s.oneServed ↔ s.turns.count (some true) = if s.link.events.reading then 1 else 0 := by
  have : s.turns.count (some true) = s.link.queue.countP (fun r => decide (r.stage = .serving)) := by
    unfold State.turns List.count
    rw [List.countP_map]
    refine List.countP_congr fun r _ => ?_
    cases hst : r.stage <;> simp [hst, Stage.turn]
  unfold State.oneServed
  rw [this]

theorem count_true_set {l : List (Option Bool)} {i : Nat} {x y : Option Bool} (h : l[i]? = some x) :
    (l.set i y).count (some true) + (if x = some true then 1 else 0) =
      l.count (some true) + if y = some true then 1 else 0 := by
  obtain ⟨hi, hx⟩ := List.getElem?_eq_some_iff.1 h
  have hp : x = some true → 0 < l.count (some true) := fun hxt => by
    rw [List.count_pos_iff, ← hxt, ← hx]
    exact List.getElem_mem hi
  rw [List.count_set hi, hx]
  simp only [beq_iff_eq]
  split <;> split <;> simp_all

theorem State.LinkMove.oneServed {s t : State} (h : s.LinkMove t) (hs : s.oneServed) : t.oneServed := by
  rw [State.oneServed_iff] at hs ⊢
  cases h with
  | arrive code tag body =>
    rw [State.arrive_turns, (State.arrive_raised .refl code tag body).reading_eq, ← hs]
    split
    · simp
    · rfl
  | @form i hi r =>
    have := count_true_set (y := none) hi
    change _ = if s.link.events.reading then 1 else 0
    rw [State.formReply_turns, ← hs]
    simpa using this
  | @write i hi id =>
    have := count_true_set (y := none) hi
    change ((setStage s.link.queue i (.writing id)).map (·.stage.turn)).count _ = if s.link.events.reading then 1 else 0
    rw [map_turn_setStage, ← hs]
    exact (by simpa using this : (s.turns.set i none).count (some true) = _)
  | @take i hi he =>
    have := count_true_set (y := some true) hi
    change ((setStage s.link.queue i .serving).map (·.stage.turn)).count _ = 1
    rw [map_turn_setStage]
    rw [hs, he] at this
    exact (by simpa using this : (s.turns.set i (some true)).count (some true) = 1)
  | place =>
    have same : s.placeReply.link.events = s.link.events := by simp
    rw [same, ← hs]
    rcases s.placeReply_turns with h | h
    · rw [h]
    · rw [h]; simp
  | replyEvents =>
    rcases s.replyEvents_turns with ⟨h, -⟩ | ⟨i, hi, h, hr⟩
    · rw [h]; exact hs
    · have := count_true_set (y := none) hi
      have : s.link.events.reading = true := by
        by_contra hc
        simp [hs, hc] at this
      simp_all
  | raise f =>
    rw [State.turns_of_queue (s := s) (t := s.raise f) (by simp), hs]
    have : (s.raise f).link.events.reading = s.link.events.reading := Events.raise_reading _ f
    rw [this]
  | frame => exact hs

/-! ## What COPIES ADJUST and SLOT HOLD reach -/

theorem copiesAction_recordsOnly {action count k n : Nat} {t : Title} {s u : State} {sweeps : Bool}
    (h : copiesAction action count k t s = .ok (n, u, sweeps)) : ∃ r, u = s.setRecords r := by
  obtain ⟨-, -, -, -, rfl⟩ | ⟨-, -, -, -, rfl⟩ | ⟨-, -, -, -, -, -, rfl⟩ := copiesAction_cases h
  · exact ⟨_, rfl⟩
  · exact ⟨_, rfl⟩
  · unfold State.moveCopy State.onTitle
    split
    · exact ⟨_, rfl⟩
    · exact ⟨_, rfl⟩

theorem answerCopies_keeps {α : Type} (f : State → α) (hrec : ∀ (s : State) r, f (s.setRecords r) = f s)
    (hsweep : ∀ (s : State) l, f (s.sweep l) = f s) (huse : ∀ (s : State) i, f (s.useTitle i) = f s)
    (title action count : Nat) (s : State) : f (answerCopies title action count s).2 = f s := by
  obtain h | ⟨k, t, n, u, sweeps, -, -, hc, h⟩ := answerCopies_cases title action count s
  · rw [h]
  · obtain ⟨r, rfl⟩ := copiesAction_recordsOnly hc
    rw [h, huse]
    cases sweeps
    · exact hrec s r
    · exact (hsweep _ _).trans (hrec s r)

theorem State.holdSlot_reach {s t : State} {n : Nat} (h : s.holdSlot n = some t) : s.SameButBanksAndRack t := by
  have set (x : Slot) : s.SameButBanksAndRack (s.setSlot n x) := State.sameButBanksAndRack_setSlot s n x
  unfold State.holdSlot at h
  dsimp only at h
  split at h
  · cases h
  · split at h
    · split at h
      · cases h
      · cases h; exact set _
    · split at h
      · cases h
      · cases h; exact set _
    · cases h
      unfold State.holdProgram
      dsimp only
      split
      · exact ⟨_, _, rfl⟩
      · exact ⟨_, _, rfl⟩
    · cases h; exact set _
    · cases h; exact set _
    · cases h

theorem answerSlotHold_reach (slot : Nat) (s : State) : s.SameButBanksAndRack (answerSlotHold slot s).2 := by
  unfold answerSlotHold
  split
  · exact .refl s
  · split
    · exact .refl s
    · next t ht => exact State.holdSlot_reach ht

/-! ## The settings (R183) -/

theorem clampSettings_inRange (cartDays setDays floor window hour minute key : Nat) :
    (clampSettings cartDays setDays floor window hour minute key).inRange := by
  have clamped (lo hi x : Nat) (h : lo ≤ hi) : lo ≤ clamp lo hi x ∧ clamp lo hi x ≤ hi := by
    rw [clamp_eq h]
    omega
  exact ⟨(clamped 7 120 cartDays (by decide)).1, (clamped 7 120 cartDays (by decide)).2,
    (clamped 7 120 setDays (by decide)).1, (clamped 7 120 setDays (by decide)).2, (clamped 0 1000 floor (by decide)).2,
    (clamped 4 24 window (by decide)).1, (clamped 4 24 window (by decide)).2, (clamped 0 23 hour (by decide)).2,
    (clamped 0 59 minute (by decide)).2⟩

theorem answerOf_settings (c : Instr) (s : State) :
    (answerOf c s).2.link.settings = s.link.settings ∨ (answerOf c s).2.link.settings.inRange := by
  cases c
  case settingsPut => exact .inr (clampSettings_inRange ..)
  case copiesAdjustAdd | copiesAdjustRemove | copiesAdjustFound =>
    exact .inl (answerCopies_keeps (·.link.settings) (fun _ _ => rfl) (by simp) (by simp) _ _ _ s)
  case slotHold =>
    obtain ⟨k, r, h⟩ := answerSlotHold_reach _ s
    exact .inl (congrArg (·.link.settings) h)
  all_goals exact .inl (by simp [answerOf])

theorem State.LinkMove.settings_eq {s t : State} (h : s.LinkMove t) : t.link.settings = s.link.settings := by
  cases h with
  | form | write | take => rfl
  | _ => simp

theorem State.SocketEffect.settings_eq {s t : State} {n : Nat} (h : s.SocketEffect n t) :
    t.link.settings = s.link.settings := by
  cases h <;> simp

theorem State.powerOn_settings (s : State) (held good : Bool) :
    (s.powerOn held good).link.settings = s.link.settings ∨ (s.powerOn held good).link.settings.inRange := by
  unfold State.powerOn
  dsimp only
  split
  · exact .inl (by simp)
  · have lost (u : State) : u.emptyRecords.rebuild.link.settings = Settings.default := by simp [State.emptyRecords]
    have initial : Settings.default.inRange := by simp [Settings.inRange, Settings.default]
    exact .inr (by rw [lost]; exact initial)

theorem State.Move.settings {s t : State} (h : s.Move t) :
    t.link.settings = s.link.settings ∨ t.link.settings.inRange := by
  cases h with
  | link h => exact .inl h.settings_eq
  | answer c _ => exact answerOf_settings c s
  | restart _ hl => exact .inl (by simp [hl])
  | socket _ _ h => exact .inl h.settings_eq
  | powerOn held good => exact s.powerOn_settings held good
  | _ => exact .inl (by simp)

/-! ## The clock (R155) -/

theorem Clock.right_of_stopped {c d : Clock} (h : c.right) (hd : d.day = c.day) (ht : d.time = c.time)
    (hr : d.running = false) : d.right :=
  ⟨hd ▸ h.1, ht ▸ h.2.1, fun h => absurd h (by simp [hr])⟩

theorem answerClockStop_clock {s : State} (h : s.calendar.clock.right) :
    (answerClockStop s).2.calendar.clock.right := by
  unfold answerClockStop
  dsimp only
  split
  · exact h
  · split
    · exact Clock.right_of_stopped h rfl rfl rfl
    · exact h

theorem answerClockSet_clock (year month day hour minute second : Nat) {s : State} (h : s.calendar.clock.right) :
    (answerClockSet year month day hour minute second s).2.calendar.clock.right := by
  unfold answerClockSet
  dsimp only
  split
  · exact h
  · split
    · exact h
    · next hv =>
      split
      · exact h
      · simp only [Bool.or_eq_true, Bool.not_eq_true', not_or, Bool.not_eq_false] at hv
        exact ⟨(dateOf_dayNumber hv.1).2, hv.2, fun hr => absurd hr Bool.false_ne_true⟩

theorem answerClockStart_clock {s : State} (h : s.calendar.clock.right) :
    (answerClockStart s).2.calendar.clock.right := by
  unfold answerClockStart
  dsimp only
  split
  · exact h
  · split
    · exact h
    · next he =>
      split
      · exact h
      · have started : ({ s.calendar.clock with running := true, prescaler := 1 } : Clock).right :=
          ⟨h.1, h.2.1, fun _ => Bool.not_eq_true _ ▸ he⟩
        rw [accept_snd]
        split
        · rw [show ∀ t : State, t.beginRoll.calendar.clock = t.calendar.clock from fun _ => rfl]
          exact started
        · exact started

theorem answerOf_clock (c : Instr) {s : State} (h : s.calendar.clock.right) :
    (answerOf c s).2.calendar.clock.right := by
  have same {u : State} (hu : u.calendar.clock = s.calendar.clock) : u.calendar.clock.right := hu ▸ h
  cases c
  case clockStop => exact answerClockStop_clock h
  case clockSet => exact answerClockSet_clock _ _ _ _ _ _ h
  case clockStart => exact answerClockStart_clock h
  case copiesAdjustAdd | copiesAdjustRemove | copiesAdjustFound =>
    exact same (answerCopies_keeps (·.calendar.clock) (fun _ _ => rfl) (by simp) (by simp) _ _ _ s)
  case slotHold =>
    obtain ⟨k, r, hu⟩ := answerSlotHold_reach _ s
    exact same (congrArg (·.calendar.clock) hu)
  all_goals exact same (by simp [answerOf])

theorem State.SocketEffect.clock_eq {s t : State} {n : Nat} (h : s.SocketEffect n t) :
    t.calendar.clock = s.calendar.clock := by
  cases h <;> simp

/-- A second on from a valid time, and the day with it at midnight. -/
theorem Clock.advance_right {c : Clock} (h : c.right) (hr : c.running = true) :
    c.advance.day ≤ Config.lastDay ∧ c.advance.time.valid = true := by
  obtain ⟨hd, ht, he⟩ := h
  have notEnd := he hr
  obtain ⟨day, ⟨hh, mm, ss⟩, running, pre⟩ := c
  simp only [TimeOfDay.valid, decide_eq_true_eq] at ht
  simp only [Clock.atEnd, decide_eq_false_iff_not, TimeOfDay.mk.injEq] at notEnd
  simp only [Clock.advance, TimeOfDay.next]
  dsimp only at hd
  split
  · simp [TimeOfDay.valid]; omega
  · split
    · simp [TimeOfDay.valid]; omega
    · split
      · simp [TimeOfDay.valid]; omega
      · simp [TimeOfDay.valid, midnight]; omega

theorem State.tick_clock {s : State} (h : s.calendar.clock.right) : s.tick.calendar.clock.right := by
  have stopAt {u : State} (hd : u.calendar.clock.day ≤ Config.lastDay) (ht : u.calendar.clock.time.valid = true) :
      u.endStop.calendar.clock.right := by
    unfold State.endStop
    split
    · dsimp only
      split
      · exact ⟨hd, ht, fun hr => absurd hr Bool.false_ne_true⟩
      · exact ⟨hd, ht, fun hr => absurd hr Bool.false_ne_true⟩
    · next he => exact ⟨hd, ht, fun _ => Bool.not_eq_true _ ▸ he⟩
  unfold State.tick
  split
  · next hr =>
    obtain ⟨hd, ht⟩ := Clock.advance_right h hr
    dsimp only
    split
    · have same : (s.setClock s.calendar.clock.advance).minuteBoundary.calendar.clock = s.calendar.clock.advance := by
        simp [State.setClock]
      exact stopAt (by rw [same]; exact hd) (by rw [same]; exact ht)
    · exact stopAt hd ht
  · exact h

theorem State.powerOn_clock {s : State} (held good : Bool) (h : s.calendar.clock.right) :
    (s.powerOn held good).calendar.clock.right := by
  unfold State.powerOn
  dsimp only
  split
  · have same : (s.losePower.takeBackup held good).rebuild.calendar.clock = s.calendar.clock := by simp
    rw [same]
    exact h
  · have lost (u : State) : u.emptyRecords.rebuild.calendar.clock = Calendar.empty.clock := by
      simp [State.emptyRecords]
    have initial : Calendar.empty.clock.right :=
      ⟨Nat.zero_le _, rfl, fun hr => absurd hr Bool.false_ne_true⟩
    rw [lost]
    exact initial

theorem State.Move.clock_right {s t : State} (h : s.Move t) (hs : s.calendar.clock.right) :
    t.calendar.clock.right := by
  have same {u : State} (hu : u.calendar.clock = s.calendar.clock) : u.calendar.clock.right := hu ▸ hs
  cases h with
  | link h =>
    obtain ⟨l, rfl⟩ := h.linkOnly
    exact hs
  | answer c _ => exact answerOf_clock c hs
  | restart _ _ => exact same (by simp)
  | socket _ _ h => exact same h.clock_eq
  | tick => exact State.tick_clock hs
  | powerOn held good => exact State.powerOn_clock held good hs
  | _ => exact same (by simp)

/-! ## No trigger is left (R49) -/

theorem State.LinkOnly.quiet {s t : State} (h : s.LinkOnly t) (hs : s.quiet) : t.quiet := by
  obtain ⟨l, rfl⟩ := h
  exact hs

theorem State.rebuild_quiet (s : State) : s.rebuild.quiet := by
  unfold State.rebuild State.beginService
  exact State.takeTrigger_quiet _

theorem State.endPass_quiet {s : State} (h : s.quiet) : s.endPass.quiet := by
  unfold State.endPass State.beginPass
  split
  · split <;> exact h
  · exact h

theorem State.passStep_quiet {s : State} (h : s.quiet) : s.passStep.quiet := by
  unfold State.passStep
  split
  · exact h
  · exact State.endPass_quiet h
  · split
    · exact State.endPass_quiet h
    · dsimp only
      split
      · exact State.endPass_quiet (State.takeTrigger_quiet _)
      · exact State.takeTrigger_quiet _

theorem State.quiet_of_planner {s t : State} (h : t.planner = s.planner) (hs : s.quiet) : t.quiet := by
  unfold State.quiet
  rw [h]
  exact hs

theorem ownWork_quiet {c : Instr} {p : State → Bool} {f : State → State} (h : ownWork c = some (p, f)) {s : State}
    (hs : s.quiet) : (f s).quiet := by
  cases c
  case passPatronStep => cases h; exact State.passStep_quiet hs
  case powerOnStart => cases h; exact State.rebuild_quiet _
  case powerLoss | resetAssert => cases h; rfl
  case resetRelease => cases h; exact State.rebuild_quiet _
  case dispatchCartridgeItem | dispatchSetItem | readerIdentityDone | readerReadTimeout | rollLoanStep |
      rollPatronStep | rollEndPlanningTrigger | pendingResultComplete =>
    cases h; exact State.takeTrigger_quiet _
  case frameReceive | frameDiscard | replyPlace | eventsReadReply | clockTick | rollDeferralClear | rollFinish |
      heldCloseRelease =>
    cases h; exact State.quiet_of_planner (by simp) hs
  all_goals cases h

theorem State.HandEffect.quiet {s t : State} (h : s.HandEffect t) (hs : s.quiet) : t.quiet := by
  cases h with
  | idle => exact hs
  | remove | fill | read => exact State.takeTrigger_quiet _
  | _ => exact State.quiet_of_planner (by simp) hs

theorem State.Served.quiet {u t : State} {i : Nat} {c : Instr} (h : u.Served i c t) (hs : u.quiet) : t.quiet := by
  cases h with
  | left => exact hs
  | answered => exact State.takeTrigger_quiet _
  | restarted => exact State.rebuild_quiet _
  | reading | judged => exact hs
  | fed => exact State.quiet_of_planner (by simp) hs

theorem exec_quiet {c : Instr} {s t : State} (h : exec c s = .next t) (hs : s.quiet) : t.quiet := by
  rcases exec_kinds h with ⟨code, tag, body, hc⟩ | ⟨n, f, hw, hn, rfl⟩ | ⟨p, f, ho, rfl⟩ | hh
  · rcases exec_request_effect hc h with rfl | rfl | ⟨u, i, hu, ht⟩
    · exact hs
    · exact (State.linkOnly_arrive ..).quiet hs
    · exact ht.quiet ((State.linkOnly_takeRequest hu).quiet hs)
  · split
    · exact State.takeTrigger_quiet _
    · exact hs
  · split
    · exact ownWork_quiet ho hs
    · exact hs
  · exact hh.quiet hs

theorem State.Move.queue_length {s t : State} (h : s.Move t) (hs : s.link.queue.length ≤ 4) :
    t.link.queue.length ≤ 4 := by
  rw [← State.length_turns] at hs ⊢
  rcases h.turned with h | ⟨h, -⟩ | ⟨h, -⟩
  · exact h.length_le hs
  · rw [h]; exact hs
  · rw [h]; exact Nat.zero_le _

theorem State.Move.oneServed {s t : State} (h : s.Move t) (hs : s.oneServed) : t.oneServed := by
  rcases h.turned with h | ⟨h, hr⟩ | ⟨h, hr⟩
  · exact h.oneServed hs
  · rw [State.oneServed_iff] at hs ⊢
    rw [h, hr]
    exact hs
  · rw [State.oneServed_iff, h, hr]
    rfl

theorem State.oneServed.passStep {s : State} (hs : s.oneServed) : s.passStep.oneServed := by
  have raised : s.link.events.RaisedTo s.passStep.link.events := by simp
  unfold State.oneServed
  rw [raised.reading_eq, (by simp : s.passStep.link.queue = s.link.queue)]
  exact hs

end Sys2Proof.Machine

namespace Sys2Proof.Proofs

open Sys2Proof Sys2Proof.Machine

/-- Settles O5: every move keeps the first four, and every command that notes a trigger takes it. -/
theorem stepKeepsRequestsSettingsClockTriggers : Obligations.StepKeepsRequestsSettingsClockTriggers := by
  refine ⟨⟨fun s t h => ?_, fun s t h => ?_⟩, ⟨fun s t h => ?_, fun s t h => ?_⟩, fun s t h hq => ?_⟩
  · exact step_keeps (P := fun s => s.link.queue.length ≤ 4) (fun _ _ hm => hm.queue_length) (fun _ hs => by simpa using hs)
      (fun _ _ hs => hs) h
  · exact step_keeps (fun _ _ hm => hm.oneServed) (fun _ hs => hs.passStep) (fun _ _ hs => hs) h
  · refine step_keeps (P := fun s => s.link.settings.inRange) (fun _ _ hm hs => ?_) (fun _ hs => by simpa using hs)
      (fun _ _ hs => hs) h
    rcases hm.settings with hm | hm
    · exact hm ▸ hs
    · exact hm
  · exact step_keeps (P := fun s => s.calendar.clock.right) (fun _ _ hm => hm.clock_right)
      (fun _ hs => by simpa using hs) (fun _ _ hs => hs) h
  · unfold step at h
    split at h
    · cases h; exact hq
    · exact exec_quiet h (State.quiet_of_planner rfl hq)

end Sys2Proof.Proofs

end

section
/-!
PROOF. What the records, plans, images, queues and slots keep of their forms and sizes, operation by operation
(R5, R6, R7, R14, R15, R22, R24, R34, R69, R84, R85, R98, R114, R129, R144, R174).
-/

namespace Sys2Proof.Machine

/-! ## Tables of named records -/

/-- No two records of the table have one name. -/
def Table.distinct {α : Type} (name : α → Nat) (a : Table α) : Prop :=
  ∀ e ∈ a, ∀ e' ∈ a, name e.2 = name e'.2 → e.1 = e'.1

/-- Every record of the table stands at an index from 1 to `max`. -/
def Table.indexed {α : Type} (max : Nat) (a : Table α) : Prop := ∀ e ∈ a, 1 ≤ e.1 ∧ e.1 ≤ max

theorem Table.mem_put_rising {α : Type} {a : Table α} (ha : a.rising = true) {k : Nat} {v : α} {e : Nat × α}
    (h : e ∈ a.put k v) : e = (k, v) ∨ (e ∈ a ∧ e.1 ≠ k) := by
  by_cases hk : e.1 = k
  · have here := Table.look_of_mem (Table.rising_put a k v ha) (k := e.1) (v := e.2) h
    rw [hk, Table.look_put] at here
    exact .inl (Prod.ext hk (Option.some.inj here).symm)
  · rcases Table.mem_put a k v h with he | he
    · exact absurd (by rw [he]) hk
    · exact .inr ⟨he, hk⟩

theorem Table.rising_keys {α : Type} {a : Table α} (ha : a.rising = true) : (a.map (·.1)).Nodup := by
  induction a with
  | nil => exact List.nodup_nil
  | cons e a ih =>
    obtain ⟨first, rest⟩ := Table.rising_cons.1 ha
    rw [List.map_cons, List.nodup_cons]
    refine ⟨fun h => ?_, ih rest⟩
    obtain ⟨x, hx, he⟩ := List.mem_map.1 h
    exact Nat.lt_irrefl _ (he ▸ first x hx)

theorem Table.distinct_iff_nodup {α : Type} {name : α → Nat} {a : Table α} (ha : a.rising = true) :
    a.distinct name ↔ (a.map (fun e => name e.2)).Nodup := by
  have keys := Table.rising_keys ha
  constructor
  · intro h
    refine List.Nodup.map_on (fun x hx y hy hxy => ?_) (List.Nodup.of_map _ keys)
    exact List.inj_on_of_nodup_map keys hx hy (h x hx y hy hxy)
  · intro h x hx y hy hxy
    rw [List.inj_on_of_nodup_map h hx hy hxy]

theorem Table.rising_map {α β : Type} (a : Table α) (f : Nat × α → Nat × β) (hf : ∀ e, (f e).1 = e.1) :
    Table.rising (a.map f) = a.rising := by
  induction a with
  | nil => rfl
  | cons e a ih => simp only [List.map_cons, Table.rising, ih, List.all_map, Function.comp_def, hf]

/-! ## What each part keeps -/

/-- A table that rises goes on rising. -/
def RisingKept {α : Type} (a b : Table α) : Prop := a.rising = true → b.rising = true

/-- A list within its bound stays within it. -/
def LengthKept {α : Type} (n : Nat) (a b : List α) : Prop := a.length ≤ n → b.length ≤ n

/-- The sizes of what a patron record lists (R5, R24). -/
def Patron.fits (p : Patron) : Prop :=
  p.history.length ≤ Config.historyMax ∧ p.history.Nodup ∧ p.orders.length ≤ Config.orderMax

/-- The copy places a paper title has (R18). -/
def Title.shapely (t : Title) : Prop := t.format = .pbraille → t.copies.length = Config.copyMax

/-- What is kept of a table of records of which each has a number, an index and a size. -/
structure RecordsKept {α : Type} (max : Nat) (name : α → Nat) (fits shapely : α → Prop) (a b : Table α) : Prop where
  rising : a.rising = true → b.rising = true
  indexed : a.rising = true → a.indexed max → b.indexed max
  distinct : a.rising = true → a.indexed max → a.distinct name → b.distinct name
  fits : (∀ e ∈ a, fits e.2) → ∀ e ∈ b, fits e.2
  shapely : (∀ e ∈ a, shapely e.2) → ∀ e ∈ b, shapely e.2

/-- What is kept of the patrons' table. -/
def PatronsKept : Table Patron → Table Patron → Prop :=
  RecordsKept Config.patronMax (·.number) Patron.fits (fun _ => True)

/-- What is kept of the titles' table. -/
def TitlesKept : Table Title → Table Title → Prop :=
  RecordsKept Config.titleMax (·.catalogue) (fun t => t.holds.length ≤ Config.holdMax) Title.shapely

/-- What is kept of the loans' table. -/
def LoansKept (a b : Table Loan) : Prop :=
  RisingKept a b ∧ (a.indexed Config.loanMax → b.indexed Config.loanMax)

/-- What is kept of the slots. -/
def RackKept (a b : List Slot) : Prop :=
  b.length = a.length ∧ ((∀ sl ∈ a, sl.sparesRight) → ∀ sl ∈ b, sl.sparesRight)

section Records

variable {α : Type} {max : Nat} {name : α → Nat} {fits shapely : α → Prop} {a b c : Table α}

theorem RecordsKept.refl : RecordsKept max name fits shapely a a := ⟨id, fun _ => id, fun _ _ => id, id, id⟩

theorem RecordsKept.trans (h : RecordsKept max name fits shapely a b) (h' : RecordsKept max name fits shapely b c) :
    RecordsKept max name fits shapely a c :=
  ⟨fun ha => h'.rising (h.rising ha), fun ha hi => h'.indexed (h.rising ha) (h.indexed ha hi),
    fun ha hi hd => h'.distinct (h.rising ha) (h.indexed ha hi) (h.distinct ha hi hd), fun hf => h'.fits (h.fits hf),
    fun hs => h'.shapely (h.shapely hs)⟩

/-- A record written where its name is free for it. -/
theorem RecordsKept.put {k : Nat} {v : α} (hk : a.rising = true → a.indexed max → 1 ≤ k ∧ k ≤ max)
    (hn : a.indexed max → a.distinct name → ∀ e ∈ a, name e.2 = name v → e.1 = k)
    (hf : (∀ e ∈ a, fits e.2) → fits v) (hs : (∀ e ∈ a, shapely e.2) → shapely v) :
    RecordsKept max name fits shapely a (a.put k v) where
  rising := Table.rising_put a k v
  indexed ha hi e he := by
    rcases Table.mem_put a k v he with rfl | he
    · exact hk ha hi
    · exact hi e he
  distinct ha hi hd e he e' he' hee := by
    rcases Table.mem_put_rising ha he with rfl | ⟨he, -⟩ <;> rcases Table.mem_put_rising ha he' with rfl | ⟨he', -⟩
    · rfl
    · exact (hn hi hd e' he' hee.symm).symm
    · exact hn hi hd e he hee
    · exact hd e he e' he' hee
  fits hfa e he := by
    rcases Table.mem_put a k v he with rfl | he
    · exact hf hfa
    · exact hfa e he
  shapely hsa e he := by
    rcases Table.mem_put a k v he with rfl | he
    · exact hs hsa
    · exact hsa e he

/-- A record written over, with its name. -/
theorem RecordsKept.put_over {k : Nat} {v w : α} (hw : a.look k = some w) (hn : name v = name w)
    (hf : fits w → fits v) (hs : shapely w → shapely v) : RecordsKept max name fits shapely a (a.put k v) := by
  have hm := Table.mem_of_look hw
  refine .put (fun _ hi => hi _ hm) (fun _ hd e he hee => ?_) (fun h => hf (h _ hm)) (fun h => hs (h _ hm))
  exact hd e he (k, w) hm (hee.trans hn)

theorem RecordsKept.del (k : Nat) : RecordsKept max name fits shapely a (a.del k) where
  rising := Table.rising_del a k
  indexed _ hi e he := hi e (Table.mem_del a k he)
  distinct _ _ hd e he e' he' := hd e (Table.mem_del a k he) e' (Table.mem_del a k he')
  fits hf e he := hf e (Table.mem_del a k he)
  shapely hs e he := hs e (Table.mem_del a k he)

/-- Every record written over, with its name. -/
theorem RecordsKept.map {f : Nat × α → Nat × α} (hk : ∀ e, (f e).1 = e.1) (hn : ∀ e, name (f e).2 = name e.2)
    (hf : ∀ e, fits e.2 → fits (f e).2) (hs : ∀ e, shapely e.2 → shapely (f e).2) :
    RecordsKept max name fits shapely a (a.map f) where
  rising := by rw [Table.rising_map a f hk]; exact id
  indexed _ hi e he := by
    obtain ⟨x, hx, rfl⟩ := List.mem_map.1 he
    rw [hk]
    exact hi x hx
  distinct _ _ hd e he e' he' hee := by
    obtain ⟨x, hx, rfl⟩ := List.mem_map.1 he
    obtain ⟨y, hy, rfl⟩ := List.mem_map.1 he'
    rw [hn, hn] at hee
    rw [hk, hk]
    exact hd x hx y hy hee
  fits hfa e he := by
    obtain ⟨x, hx, rfl⟩ := List.mem_map.1 he
    exact hf x (hfa x hx)
  shapely hsa e he := by
    obtain ⟨x, hx, rfl⟩ := List.mem_map.1 he
    exact hs x (hsa x hx)

end Records

/-! ## What a state keeps of the forms -/

/-- What one state keeps of the forms and sizes of another. -/
structure State.Formed (s t : State) : Prop where
  patrons : PatronsKept s.records.patrons t.records.patrons
  titles : TitlesKept s.records.titles t.records.titles
  loans : LoansKept s.records.loans t.records.loans
  lost : LengthKept Config.writtenOffMax s.records.lost t.records.lost
  plans : RisingKept s.planner.plans t.planner.plans
  images : RisingKept s.store.images t.store.images
  fetches : LengthKept Config.fetchMax s.store.fetches t.store.fetches
  flash : flashWf s.store.flash = true → flashWf t.store.flash = true
  banks : s.store.banks.length = Config.banks → t.store.banks.length = Config.banks
  rack : RackKept s.rack t.rack
  tray : s.setItems ≤ Config.trayRoom → t.setItems ≤ Config.trayRoom
  manifests : LengthKept Config.manifestMax s.mail.manifests t.mail.manifests
  alarms : s.mail.alarms.length = Config.alarms → t.mail.alarms.length = Config.alarms
  reuse : LengthKept Config.binMax s.returns.reuse t.returns.reuse
  inspect : LengthKept Config.binMax s.returns.inspect t.returns.inspect
  closedDays : s.calendar.closedDays.length = Config.closedDays → t.calendar.closedDays.length = Config.closedDays
  reminders : LengthKept Config.reminderMax s.calendar.reminders t.calendar.reminders

theorem RackKept.refl {a : List Slot} : RackKept a a := ⟨rfl, id⟩

theorem State.Formed.refl (s : State) : s.Formed s :=
  ⟨.refl, .refl, ⟨id, id⟩, id, id, id, id, id, id, .refl, id, id, id, id, id, id, id⟩

theorem State.Formed.trans {s t u : State} (h : s.Formed t) (h' : t.Formed u) : s.Formed u where
  patrons := RecordsKept.trans h.patrons h'.patrons
  titles := RecordsKept.trans h.titles h'.titles
  loans := ⟨fun hs => h'.loans.1 (h.loans.1 hs), fun hs => h'.loans.2 (h.loans.2 hs)⟩
  lost hs := h'.lost (h.lost hs)
  plans hs := h'.plans (h.plans hs)
  images hs := h'.images (h.images hs)
  fetches hs := h'.fetches (h.fetches hs)
  flash hs := h'.flash (h.flash hs)
  banks hs := h'.banks (h.banks hs)
  rack := ⟨h'.rack.1.trans h.rack.1, fun hs => h'.rack.2 (h.rack.2 hs)⟩
  tray hs := h'.tray (h.tray hs)
  manifests hs := h'.manifests (h.manifests hs)
  alarms hs := h'.alarms (h.alarms hs)
  reuse hs := h'.reuse (h.reuse hs)
  inspect hs := h'.inspect (h.inspect hs)
  closedDays hs := h'.closedDays (h.closedDays hs)
  reminders hs := h'.reminders (h.reminders hs)

/-- What the forms are about. -/
def State.forms (s : State) :=
  (s.records, (s.planner.plans, s.store.images, s.store.fetches, s.store.flash, s.store.banks.length, s.rack),
    (s.mail.tray, s.mail.manifests, s.mail.alarms.length), s.returns.reuse, s.returns.inspect,
    s.calendar.closedDays.length, s.calendar.reminders)

/-- A change that leaves what the forms are about as it is. -/
theorem State.Formed.same {s t u : State} (h : s.Formed t) (hu : u.forms = t.forms) : s.Formed u := by
  simp only [State.forms, Prod.mk.injEq] at hu
  obtain ⟨records, ⟨plans, images, fetches, flash, banks, rack⟩, ⟨tray, manifests, alarms⟩, reuse, inspect, closedDays,
    reminders⟩ := hu
  refine h.trans ⟨?_, ?_, ?_, ?_, ?_, ?_, ?_, ?_, banks.trans, ?_, ?_, ?_, alarms.trans, ?_, ?_, closedDays.trans, ?_⟩
  · rw [records]; exact .refl
  · rw [records]; exact .refl
  · rw [records]; exact ⟨id, id⟩
  · rw [records]; exact id
  · rw [plans]; exact id
  · rw [images]; exact id
  · rw [fetches]; exact id
  · rw [flash]; exact id
  · rw [rack]; exact .refl
  · unfold State.setItems; rw [tray]; exact id
  · rw [manifests]; exact id
  · rw [reuse]; exact id
  · rw [inspect]; exact id
  · rw [reminders]; exact id

theorem State.Formed.foldl {β : Type} {f : State → β → State} {s t : State} (h : s.Formed t) {l : List β}
    (hf : ∀ u x, s.Formed u → s.Formed (f u x)) : s.Formed (l.foldl f t) := by
  induction l generalizing t with
  | nil => exact h
  | cons x l ih => exact ih (hf t x h)

/-- Entries of a list written over, as many as before. -/
theorem Patron.fits_of_orders {p : Patron} {l : List OrderEntry} (hl : l.length ≤ p.orders.length) (hp : p.fits) :
    Patron.fits { p with orders := l } := ⟨hp.1, hp.2.1, hl.trans hp.2.2⟩

theorem State.room_of_canTake {t : State} {p : Nat} (hp : t.canTake p = true) : t.setItems < Config.trayRoom := by
  unfold State.canTake at hp
  split at hp
  · exact (of_decide_eq_true hp).2.2
  · cases hp

theorem Table.le_gap {α : Type} (a : Table α) (k : Nat) : k ≤ a.gap k := by
  induction a generalizing k with
  | nil => exact Nat.le_refl k
  | cons e a ih =>
    obtain ⟨j, v⟩ := e
    unfold Table.gap
    split
    · exact (Nat.le_succ k).trans (ih (k + 1))
    · exact Nat.le_refl k

/-- The lowest FREE record is one of the table's. -/
theorem Table.free_indexed {α : Type} {a : Table α} {max k : Nat} (h : a.free max = some k) : 1 ≤ k ∧ k ≤ max := by
  unfold Table.free at h
  split at h
  · next hm =>
    cases h
    exact ⟨Table.le_gap a 1, hm⟩
  · cases h

section Formed

variable {s t : State} (h : s.Formed t)
include h

/-! ### The tables -/

theorem State.Formed.setPatrons {x : Table Patron} (hx : PatronsKept t.records.patrons x) :
    s.Formed (t.setRecords { t.records with patrons := x }) :=
  h.trans { State.Formed.refl t with patrons := hx }

theorem State.Formed.setTitles {x : Table Title} (hx : TitlesKept t.records.titles x) :
    s.Formed (t.setRecords { t.records with titles := x }) :=
  h.trans { State.Formed.refl t with titles := hx }

theorem State.Formed.setLoans {x : Table Loan} (hx : LoansKept t.records.loans x) :
    s.Formed (t.setRecords { t.records with loans := x }) :=
  h.trans { State.Formed.refl t with loans := hx }

theorem State.Formed.setLost {x : List Lost} (hx : LengthKept Config.writtenOffMax t.records.lost x) :
    s.Formed (t.setLost x) :=
  h.trans { State.Formed.refl t with lost := hx }

theorem State.Formed.setPlans {x : Table Plan} (hx : RisingKept t.planner.plans x) :
    s.Formed (t.setPlanner { t.planner with plans := x }) :=
  h.trans { State.Formed.refl t with plans := hx }

theorem State.Formed.setImages {x : Table Image} (hx : RisingKept t.store.images x) :
    s.Formed (t.setStore { t.store with images := x }) :=
  h.trans { State.Formed.refl t with images := hx }

theorem State.Formed.setFetches {x : List Fetch} (hx : LengthKept Config.fetchMax t.store.fetches x) :
    s.Formed (t.setFetches x) :=
  h.trans { State.Formed.refl t with fetches := hx }

theorem State.Formed.setRack {x : List Slot} (hx : RackKept t.rack x) : s.Formed (t.setRack x) :=
  h.trans { State.Formed.refl t with rack := hx }

/-- A patron record written over with its number. -/
theorem State.Formed.setPatron {k : Nat} {p q : Patron} (hp : t.patron k = some p) (hn : q.number = p.number)
    (hf : p.fits → q.fits) : s.Formed (t.setPatron k q) :=
  h.setPatrons (RecordsKept.put_over hp hn hf fun _ => trivial)

theorem State.Formed.onPatron {k : Nat} {f : Patron → Patron} (hn : ∀ p, (f p).number = p.number)
    (hf : ∀ p, p.fits → (f p).fits) : s.Formed (t.onPatron k f) := by
  unfold State.onPatron
  split
  · next p hp => exact h.setPatron hp (hn p) (hf p)
  · exact h

theorem State.Formed.mapPatrons {f : Nat × Patron → Nat × Patron} (hk : ∀ e, (f e).1 = e.1)
    (hn : ∀ e, (f e).2.number = e.2.number) (hf : ∀ e, e.2.fits → (f e).2.fits) :
    s.Formed (t.setRecords { t.records with patrons := t.records.patrons.map f }) :=
  h.setPatrons (RecordsKept.map hk hn hf fun _ _ => trivial)

/-- A title record written over with its catalogue number. -/
theorem State.Formed.setTitle {k : Nat} {r x : Title} (hr : t.title k = some r) (hn : x.catalogue = r.catalogue)
    (hf : r.holds.length ≤ Config.holdMax → x.holds.length ≤ Config.holdMax) (hs : r.shapely → x.shapely) :
    s.Formed (t.setTitle k x) :=
  h.setTitles (RecordsKept.put_over hr hn hf hs)

theorem State.Formed.onTitle {k : Nat} {f : Title → Title} (hn : ∀ r, (f r).catalogue = r.catalogue)
    (hf : ∀ r, r.holds.length ≤ Config.holdMax → (f r).holds.length ≤ Config.holdMax)
    (hs : ∀ r, r.shapely → (f r).shapely) : s.Formed (t.onTitle k f) := by
  unfold State.onTitle
  split
  · next r hr => exact h.setTitle hr (hn r) (hf r) (hs r)
  · exact h

theorem State.Formed.freePatron {k : Nat} : s.Formed (t.freePatron k) := h.setPatrons (.del k)

theorem State.Formed.freeLoan {id : Nat} : s.Formed (t.freeLoan id) :=
  h.setLoans ⟨Table.rising_del _ _, fun hi e he => hi e (Table.mem_del _ _ he)⟩

theorem State.Formed.setLoan {id : Nat} {l : Loan}
    (hi : t.records.loans.indexed Config.loanMax → 1 ≤ id ∧ id ≤ Config.loanMax) : s.Formed (t.setLoan id l) := by
  refine h.setLoans ⟨Table.rising_put _ _ _, fun hx e he => ?_⟩
  rcases Table.mem_put _ _ _ he with rfl | he
  · exact hi hx
  · exact hx e he

/-- A loan's record written over. -/
theorem State.Formed.setLoan_over {id : Nat} {l m : Loan} (hl : t.loan id = some l) : s.Formed (t.setLoan id m) :=
  h.setLoan fun hi => hi _ (Table.mem_of_look hl)

/-- A loan in a FREE record. -/
theorem State.Formed.setLoan_free {id : Nat} {l : Loan} (hi : t.records.loans.free Config.loanMax = some id) :
    s.Formed (t.setLoan id l) := h.setLoan fun _ => Table.free_indexed hi

theorem State.Formed.setPlan {n : Nat} {p : Plan} : s.Formed (t.setPlan n p) :=
  h.setPlans (Table.rising_put _ _ _)

theorem State.Formed.erasePlan {n : Nat} : s.Formed (t.erasePlan n) := h.setPlans (Table.rising_del _ _)

theorem State.Formed.onPlan {n : Nat} {f : Plan → Plan} : s.Formed (t.onPlan n f) := by
  unfold State.onPlan
  split
  · exact h.setPlan
  · exact h

theorem State.Formed.setImage {k : Nat} {e : Image} : s.Formed (t.setImage k e) :=
  h.setImages (Table.rising_put _ _ _)

theorem State.Formed.onImage {k : Nat} {f : Image → Image} : s.Formed (t.onImage k f) := by
  unfold State.onImage
  split
  · exact h.setImage
  · exact h

/-! ### What the forms are not about -/

theorem State.Formed.setLink {x : Link} : s.Formed (t.setLink x) := h.same (by simp [State.forms])
theorem State.Formed.setRun {x : RunState} : s.Formed (t.setRun x) := h.same (by simp [State.forms])
theorem State.Formed.raise {f : Flag} : s.Formed (t.raise f) := h.same (by simp [State.forms])
theorem State.Formed.usePatron {i : Nat} : s.Formed (t.usePatron i) := h.same (by simp [State.forms])
theorem State.Formed.useTitle {i : Nat} : s.Formed (t.useTitle i) := h.same (by simp [State.forms])
theorem State.Formed.noteTrigger : s.Formed t.noteTrigger := h.same (by simp [State.forms])
theorem State.Formed.beginPass : s.Formed t.beginPass := h.same (by simp [State.forms])
theorem State.Formed.takeTrigger : s.Formed t.takeTrigger := h.same (by simp [State.forms])
theorem State.Formed.setJobs {q : List Nat} : s.Formed (t.setJobs q) := h.same (by simp [State.forms])
theorem State.Formed.joinTail {n : Nat} {r : Bool} : s.Formed (t.joinTail n r) := h.same (by simp [State.forms])
theorem State.Formed.joinHead {n : Nat} {r : Bool} : s.Formed (t.joinHead n r) := h.same (by simp [State.forms])
theorem State.Formed.leaveJobs {n : Nat} : s.Formed (t.leaveJobs n) := h.same (by simp [State.forms])
theorem State.Formed.setFollow {f : Follow} : s.Formed (t.setFollow f) := h.same (by simp [State.forms])
theorem State.Formed.setClock {c : Clock} : s.Formed (t.setClock c) := h.same (by simp [State.forms])
theorem State.Formed.formWriting {id : Nat} {r : Reply} : s.Formed (t.formWriting id r) := h.same (by simp [State.forms])
theorem State.Formed.clearLink : s.Formed t.clearLink := h.same (by simp [State.forms])
theorem State.Formed.toRecent {k : Nat} : s.Formed (t.toRecent k) := h.same (by simp [State.forms])
theorem State.Formed.handFill {f : FillOp} : s.Formed (t.handFill f) := h.same (by simp [State.forms])
theorem State.Formed.loseRead {n : Nat} {fate : ReadFate} : s.Formed (t.loseRead n fate) := h.same (by simp [State.forms, State.loseRead])
theorem State.Formed.loseFill {id : Nat} : s.Formed (t.loseFill id) := h.same (by simp [State.forms])
theorem State.Formed.setBank {b : Nat} {k : Bank} : s.Formed (t.setBank b k) := h.same (by simp [State.forms])

/-! ### Patrons -/

theorem State.Formed.clearFillLow {p : Nat} : s.Formed (t.clearFillLow p) := by
  unfold State.clearFillLow
  split
  · next r hr =>
    split
    · exact .noteTrigger (h.setPatron hr rfl id)
    · exact h
  · exact h

theorem State.Formed.spaceFreed : s.Formed t.spaceFreed := by
  have cleared (r : Patron) : r.clearStoreSpace.number = r.number ∧ (r.fits → r.clearStoreSpace.fits) := by
    unfold Patron.clearStoreSpace
    split <;> exact ⟨rfl, id⟩
  exact .noteTrigger (h.mapPatrons (fun _ => rfl) (fun e => (cleared e.2).1) fun e => (cleared e.2).2)

theorem State.Formed.raiseCarts {p : Nat} : s.Formed (t.raiseCarts p) :=
  (h.onPatron (by exact fun _ => rfl) (by exact fun _ => id)).clearFillLow

theorem State.Formed.dropCarts {p : Nat} : s.Formed (t.dropCarts p) :=
  (h.onPatron (by exact fun _ => rfl) (by exact fun _ => id)).clearFillLow

theorem State.Formed.raiseSets {p : Nat} : s.Formed (t.raiseSets p) :=
  (h.onPatron (by exact fun _ => rfl) (by exact fun _ => id)).clearFillLow

theorem State.Formed.dropSets {p : Nat} : s.Formed (t.dropSets p) :=
  (h.onPatron (by exact fun _ => rfl) (by exact fun _ => id)).clearFillLow

theorem State.Formed.defer {k : Nat} {d : Deferral} : s.Formed (t.defer k d) :=
  h.onPatron (fun _ => rfl) fun _ => id

theorem State.Formed.clearDeferrals : s.Formed t.clearDeferrals :=
  h.mapPatrons (fun _ => rfl) (fun _ => rfl) fun _ => id

theorem State.Formed.setEntry {p k : Nat} {st : EntryState} : s.Formed (t.setEntry p k st) :=
  (h.onPatron (by exact fun _ => rfl) fun _ => Patron.fits_of_orders (by simp)).clearFillLow

theorem State.Formed.returnEntries {p n : Nat} : s.Formed (t.returnEntries p n) :=
  (h.onPatron (by exact fun _ => rfl) fun _ => Patron.fits_of_orders (by simp)).clearFillLow

theorem State.Formed.removeEntries {p : Nat} {leaves : OrderEntry → Bool} :
    s.Formed (t.removeEntries p leaves) :=
  (h.onPatron (by exact fun _ => rfl) fun _ => Patron.fits_of_orders (List.length_filter_le _ _)).clearFillLow

theorem State.Formed.clearOversizeOf {k : Nat} : s.Formed (t.clearOversizeOf k) :=
  h.mapPatrons (fun _ => rfl) (fun _ => rfl) fun _ => Patron.fits_of_orders (List.length_map _).le

/-! ### Titles, the tray and the sweep -/

theorem State.Formed.leaveHold {p k : Nat} : s.Formed (t.leaveHold p k) :=
  h.onTitle (fun _ => rfl) (fun _ => (List.length_filter_le _ _).trans) fun _ => id

theorem State.Formed.moveCopy {k c : Nat} {place : CopyPlace} : s.Formed (t.moveCopy k c place) :=
  h.onTitle (fun _ => rfl) (fun _ => id) fun _ hr hf => (List.length_set ..).trans (hr hf)

/-- The tray with no more set items than before. -/
theorem State.Formed.setMail {m : Mail} (ht : m.tray.countP (fun i => i.kind.isSet) ≤ t.setItems)
    (hm : LengthKept Config.manifestMax t.mail.manifests m.manifests) (ha : m.alarms.length = t.mail.alarms.length) :
    s.Formed (t.setMail m) :=
  h.trans { State.Formed.refl t with tray := ht.trans, manifests := hm, alarms := ha.trans }

theorem State.Formed.addCartridge {p plan serial : Nat} {st : ItemState} :
    s.Formed (t.addItem p (.cartridge plan serial) st) :=
  h.setMail (by simp [State.setItems, ItemKind.isSet]) id rfl

theorem State.Formed.addSet {p k c : Nat} {st : ItemState} (hr : t.setItems < Config.trayRoom) :
    s.Formed (t.addItem p (.set k c) st) := by
  refine h.trans { State.Formed.refl t with tray := fun _ => ?_ }
  have : (t.addItem p (.set k c) st).setItems = t.setItems + 1 := by
    simp [State.setItems, State.addItem, State.setMail, ItemKind.isSet]
  omega

theorem State.Formed.removeItem {n : Nat} : s.Formed (t.removeItem n) :=
  h.setMail (List.Sublist.countP_le List.filter_sublist) id rfl

theorem State.Formed.setItemState {n : Nat} {st : ItemState} : s.Formed (t.setItemState n st) := by
  refine h.setMail (le_of_eq ?_) id rfl
  unfold State.setItems
  rw [List.countP_map]
  refine List.countP_congr fun i _ => ?_
  dsimp only [Function.comp_apply]
  split <;> rfl

theorem State.Formed.withdrawSet {i : Item} : s.Formed (t.withdrawSet i) := by
  unfold State.withdrawSet
  split
  · exact h.removeItem.moveCopy.dropSets
  · exact h

theorem State.Formed.allocate {p k c : Nat} (hr : t.setItems < Config.trayRoom) : s.Formed (t.allocate p k c) := by
  have same : (t.moveCopy k c .item).setItems = t.setItems := by simp [State.setItems]
  exact (h.moveCopy.addSet (by rw [same]; exact hr)).raiseSets

theorem State.Formed.sweepOnce {k : Nat} {u : State} (hu : t.sweepOnce k = some u) : s.Formed u := by
  unfold State.sweepOnce at hu
  split at hu
  · cases hu
  · next r hr =>
    split at hu
    · cases hu
    · split at hu
      · next c p hc hp =>
        cases hu
        have room := State.room_of_canTake (List.find?_some hp)
        have same : (t.leaveHold p k).setItems = t.setItems := by simp [State.setItems]
        exact ((h.leaveHold.allocate (by rw [same]; exact room)).setEntry).raise
      · cases hu

theorem State.Formed.sweepTitle {k fuel : Nat} : s.Formed (t.sweepTitle k fuel) := by
  induction fuel generalizing t with
  | zero => exact h
  | succ fuel ih =>
    unfold State.sweepTitle
    split
    · next u hu => exact ih (h.sweepOnce hu)
    · exact h

theorem State.Formed.sweep {titles : List Nat} : s.Formed (t.sweep titles) :=
  h.foldl fun _ _ hu => hu.sweepTitle

theorem State.Formed.sweepPatron {p : Nat} : s.Formed (t.sweepPatron p) := h.sweep

end Formed

/-! ## The slots' spares (R84, R98) and what they suspend (R85) -/

theorem State.slot_cases (s : State) (n : Nat) : s.slot n ∈ s.rack ∨ s.slot n = Slot.bare := by
  unfold State.slot List.getD
  cases hx : s.rack[n - 1]? with
  | none => exact .inr rfl
  | some x => exact .inl (List.mem_of_getElem? hx)

/-- A slot's record whose spares, suspended erase and class are those of another, and which issues no identity read. -/
theorem Slot.sparesRight.of {x y : Slot} (h : x.sparesRight)
    (hs : (y.spares, y.sparesTaken, y.suspended) = (x.spares, x.sparesTaken, x.suspended))
    (hc : y.cart.map (·.cls) = x.cart.map (·.cls))
    (ho : y.op.map (·.op) ≠ some .readIdentity ∨ y.op.map (·.op) = x.op.map (·.op)) : y.sparesRight := by
  simp only [Prod.mk.injEq] at hs
  obtain ⟨hs, ht, hsus⟩ := hs
  obtain ⟨h1, h2, h3, h4⟩ := h
  refine ⟨hs ▸ ht ▸ h1, fun c hyc => ?_, fun o hyo hro => ?_, hsus ▸ h4⟩
  · rw [hyc, Option.map_some] at hc
    obtain ⟨d, hd, hcls⟩ := Option.map_eq_some_iff.1 hc.symm
    rw [ht, ← hcls]
    exact h2 d hd
  · rw [hyo, Option.map_some, hro] at ho
    rcases ho with ho | ho
    · exact absurd rfl ho
    · obtain ⟨o', ho', hr'⟩ := Option.map_eq_some_iff.1 ho.symm
      rw [ht]
      exact h3 o' ho' hr'

/-- A slot's record without spares. -/
theorem Slot.sparesRight.of_none {y : Slot} (hs : y.spares = []) (ht : y.sparesTaken = 0)
    (hsus : ∀ o, y.suspended = some o → o.op.isExtentErase = true) : y.sparesRight :=
  ⟨by rw [hs, ht]; exact Nat.le_refl _, fun _ _ => ht ▸ Nat.zero_le _, fun _ _ _ => ht, hsus⟩

theorem Slot.sparesRight_bare : Slot.bare.sparesRight :=
  .of_none rfl rfl fun _ ho => nomatch ho

theorem promote_length (l : List Fetch) : (promote l).length = l.length := by
  have := congrArg List.length (promote_ids l)
  rwa [List.length_map, List.length_map] at this

/-- A slot there is, written and read back. -/
theorem State.slot_setSlot_in {s : State} {n : Nat} (hn : n - 1 < s.rack.length) (x : Slot) :
    (s.setSlot n x).slot n = x := by
  simp [State.slot, State.setSlot, State.setRack, List.getD, hn]

/-- What is read back of a slot written: its new record, or nothing where there is no such slot. -/
theorem State.slot_setSlot_cases (s : State) (n : Nat) (x : Slot) :
    (s.setSlot n x).slot n = x ∨ (s.setSlot n x).slot n = Slot.bare := by
  by_cases hn : n - 1 < s.rack.length
  · exact .inl (by simp [State.slot, State.setSlot, State.setRack, List.getD, hn])
  · exact .inr (by simp [State.slot, State.setSlot, State.setRack, List.getD, Nat.not_lt.1 hn])

section Spares

variable {sl : Slot} (h : sl.sparesRight)
include h

theorem Slot.sparesRight.issue {op : CartOp} (ho : op ≠ .readIdentity) : (sl.issue op).sparesRight :=
  h.of rfl rfl (.inl fun he => ho (Option.some.inj he))

theorem Slot.sparesRight.permit {w : WriteOp} : (sl.permit w).sparesRight := h.issue (by simp)

theorem Slot.sparesRight.goErase {today : Nat} : (sl.goErase today).sparesRight := by
  unfold Slot.goErase
  split
  · exact h.permit
  · exact h.issue (by simp)
  · split
    · exact Slot.sparesRight.permit (by exact h.of rfl rfl (.inr rfl))
    · exact h
  · exact h.issue (by simp)
  · exact h

theorem Slot.sparesRight.beginProgram : sl.beginProgram.sparesRight := Slot.sparesRight.permit (by exact h.of rfl rfl (.inr rfl))

theorem Slot.sparesRight.beginErase {st : SlotState} {today : Nat} : (sl.beginErase st today).sparesRight :=
  Slot.sparesRight.goErase (by exact h.of rfl rfl (.inr rfl))

theorem Slot.sparesRight.beginVerify {p : Placement} : (sl.beginVerify p).sparesRight :=
  Slot.sparesRight.issue (by exact h.of rfl rfl (.inr rfl)) (by simp)

theorem Slot.sparesRight.goDirectory : sl.goDirectory.sparesRight := by
  unfold Slot.goDirectory
  split
  · exact h.issue (by simp)
  · exact h.permit

theorem Slot.sparesRight.take {job today : Nat} : (sl.take job today).sparesRight := by
  have taken : Slot.sparesRight { sl with
      job := some job, readMark := false, spares := [], sparesTaken := 0, spare := none, cursor := Cursor.zero,
      buffer := [] } := .of_none rfl rfl h.2.2.2
  unfold Slot.take
  dsimp only
  split
  · exact Slot.sparesRight.beginProgram (by exact taken.of rfl rfl (.inr rfl))
  · exact taken.of rfl rfl (.inr rfl)
  · exact taken.beginErase

theorem Slot.sparesRight.release {st : SlotState} : (sl.release st).sparesRight := .of_none rfl rfl h.2.2.2

theorem Slot.sparesRight.hold : sl.hold.sparesRight := h.of rfl rfl (.inl (by simp [Slot.hold]))

theorem Slot.sparesRight.eraseUnderWay {o : OpInHand} (ho : sl.eraseUnderWay = some o) :
    o.op.isExtentErase = true := by
  unfold Slot.eraseUnderWay at ho
  split at ho
  · exact h.2.2.2 o ho
  · exact h.2.2.2 o ho
  · cases ho

end Spares

theorem Slot.sparesRight_fail (sl : Slot) (r : FaultRecord) : (sl.fail r).sparesRight :=
  .of_none rfl rfl fun _ ho => nomatch ho

theorem Slot.sparesRight_beginIdent (sl : Slot) : sl.beginIdent.sparesRight :=
  .of_none rfl rfl fun _ ho => nomatch ho

theorem Slot.sparesRight_lose (sl : Slot) : sl.lose.sparesRight := .of_none rfl rfl fun _ ho => nomatch ho

theorem RackKept.map {a : List Slot} {f : Slot → Slot} (hf : ∀ sl, sl.sparesRight → (f sl).sparesRight) :
    RackKept a (a.map f) := by
  refine ⟨List.length_map _, fun ha sl hsl => ?_⟩
  obtain ⟨x, hx, rfl⟩ := List.mem_map.1 hsl
  exact hf x (ha x hx)

section Formed

variable {s t : State} (h : s.Formed t)
include h

/-! ### The store -/

/-- A slot there is, written: its new record has to be right where its old one is. -/
theorem State.Formed.setSlotIn {n : Nat} {x : Slot}
    (hx : n - 1 < t.rack.length → (t.slot n).sparesRight → x.sparesRight) : s.Formed (t.setSlot n x) := by
  refine h.setRack ⟨List.length_set .., fun hs sl hsl => ?_⟩
  by_cases hn : n - 1 < t.rack.length
  · rcases List.mem_or_eq_of_mem_set hsl with hm | rfl
    · exact hs sl hm
    · refine hx hn ?_
      rcases t.slot_cases n with hm | he
      · exact hs _ hm
      · rw [he]; exact Slot.sparesRight_bare
  · rw [List.set_eq_of_length_le (Nat.not_lt.1 hn)] at hsl
    exact hs sl hsl

theorem State.Formed.setSlot {n : Nat} {x : Slot} (hx : (t.slot n).sparesRight → x.sparesRight) :
    s.Formed (t.setSlot n x) := h.setSlotIn fun _ => hx

theorem State.Formed.removeImage {k : Nat} : s.Formed (t.removeImage k) :=
  h.trans { State.Formed.refl t with images := Table.rising_del _ _ }

theorem State.Formed.pin {k : Nat} : s.Formed (t.pin k) := h.onImage

theorem State.Formed.unpin {k : Nat} : s.Formed (t.unpin k) := h.onImage.spaceFreed

theorem State.Formed.createImage {k n pins : Nat} : s.Formed (t.createImage k n pins) := h.setImage

theorem State.Formed.dropImage {k : Nat} : s.Formed (t.dropImage k) := by
  unfold State.dropImage
  split
  · exact h.removeImage.spaceFreed
  · exact h

theorem State.Formed.evict {titles walk : List Nat} {blocks places : Nat} :
    s.Formed (t.evict titles walk blocks places) := by
  induction walk generalizing t with
  | nil => exact h
  | cons k walk ih =>
    unfold State.evict
    split
    · exact h
    · split
      · exact ih h.removeImage.spaceFreed
      · exact ih h

theorem State.Formed.addFetch {k frames : Nat} (hr : t.store.fetches.length < Config.fetchMax) :
    s.Formed (t.addFetch k frames) :=
  h.trans { State.Formed.refl t with fetches := fun _ => by simpa [State.addFetch] using hr }

theorem State.Formed.admitTitle {k pages : Nat} (hr : t.store.fetches.length < Config.fetchMax) :
    s.Formed (t.admitTitle k pages) := h.createImage.addFetch hr

theorem State.Formed.removeFetch {id : Nat} : s.Formed (t.removeFetch id) :=
  h.setFetches ((promote_length _).trans_le (List.length_filter_le _ _)).trans

theorem State.Formed.onFetch {id : Nat} {f : Fetch → Fetch} : s.Formed (t.onFetch id f) :=
  h.setFetches (List.length_map _).le.trans

theorem State.Formed.grantRead {b : Nat} {r : ReadOp} : s.Formed (t.grantRead b r) :=
  h.setBank.setSlot fun hs => hs.of rfl rfl (.inr rfl)

theorem State.Formed.grantNext {b : Nat} : s.Formed (t.grantNext b) := by
  unfold State.grantNext
  dsimp only
  split
  · exact h.setBank
  · split
    · exact h.grantRead
    · exact h.setBank

theorem State.Formed.handRead {r : ReadOp} : s.Formed (t.handRead r) := by
  unfold State.handRead
  dsimp only
  split
  · exact h.grantRead
  · exact h.setBank

theorem State.Formed.storeFrame {f : FillOp} : s.Formed (t.storeFrame f) :=
  h.trans { State.Formed.refl t with flash := flashWrite_wf _ _ _ }

theorem State.Formed.countFrame {f : FillOp} : s.Formed (t.countFrame f) := h.onImage.onFetch

/-! ### The rack -/

theorem State.Formed.readFrame {n : Nat} {p : Placement} : s.Formed (t.readFrame n p) := by
  unfold State.readFrame
  split
  · exact h
  · exact h.handRead

theorem State.Formed.beginBlock {n : Nat} {p : Placement} : s.Formed (t.beginBlock n p) := by
  unfold State.beginBlock
  dsimp only
  split
  · exact State.Formed.readFrame (by exact h.setSlot fun hs => hs.of rfl rfl (.inr rfl))
  · exact h.setSlot fun hs => hs.of rfl rfl (.inr rfl)

theorem State.Formed.goProgram {n : Nat} : s.Formed (t.goProgram n) := by
  unfold State.goProgram
  dsimp only
  split
  · exact h.setSlot fun hs => hs.permit
  · split
    · exact h
    · split
      · exact h.setSlot fun hs => hs.beginVerify
      · split
        · exact h.setSlot fun hs => hs.permit
        · exact h.beginBlock

theorem State.Formed.goOn {n : Nat} : s.Formed (t.goOn n) := by
  unfold State.goOn
  dsimp only
  split
  · split
    · exact h.setSlot fun hs => hs.of rfl rfl (.inr rfl)
    · exact h.setSlot fun hs => hs.goErase
  · split
    · exact h.setSlot fun hs => hs.beginProgram
    · exact h.setSlot fun hs => hs.goErase
  · exact h.goProgram
  · split
    · exact h.setSlot fun hs => hs.issue (by simp)
    · exact h
  · exact h.setSlot fun hs => hs.goDirectory
  · exact h

theorem State.Formed.bind {n job : Nat} : s.Formed (t.bind n job) :=
  h.leaveJobs.onPlan.setSlot fun hs => hs.take

theorem State.Formed.offerJob {job : Nat} : s.Formed (t.offerJob job) := by
  unfold State.offerJob
  split
  · exact h
  · split
    · exact h.bind
    · exact h

theorem State.Formed.preErase {n : Nat} : s.Formed (t.preErase n) := by
  unfold State.preErase
  dsimp only
  split
  · exact h.setSlot fun hs => hs.beginErase
  · exact h

theorem State.Formed.matchJobs : s.Formed t.matchJobs :=
  (h.foldl fun _ _ hu => hu.offerJob).foldl fun _ _ hu => hu.preErase

theorem State.Formed.matchIdled {old : State} : s.Formed (t.matchIdled old) := by
  unfold State.matchIdled
  split
  · exact h.matchJobs
  · exact h

theorem State.Formed.returnPlan {n : Nat} : s.Formed (t.returnPlan n) := by
  unfold State.returnPlan
  split
  · exact h.setPlan.joinHead
  · exact h

theorem State.Formed.unbind {n : Nat} : s.Formed (t.unbind n) := by
  refine h.loseRead.setSlot fun hs => .of_none rfl rfl fun o ho => ?_
  exact hs.eraseUnderWay ho

theorem State.Formed.undone {n k : Nat} : s.Formed (t.undone n k) := by
  unfold State.undone
  dsimp only
  split
  · exact h.setSlot fun hs => hs.release
  · exact h

theorem State.Formed.leavePlace {n : Nat} {p : Plan} : s.Formed (t.leavePlace n p) := by
  unfold State.leavePlace
  split
  · exact h.leaveJobs
  · split
    · exact h.unbind
    · exact h
  · exact h.removeItem.foldl fun _ _ hu => hu.undone

theorem State.Formed.unpinAll {p : Plan} : s.Formed (t.unpinAll p) := h.foldl fun _ _ hu => hu.unpin

theorem State.Formed.endPlan {n : Nat} : s.Formed (t.endPlan n) := by
  unfold State.endPlan
  split
  · exact h
  · dsimp only
    split
    · exact h.leavePlace.returnEntries.dropCarts.erasePlan.noteTrigger
    · exact h.leavePlace.returnEntries.dropCarts.unpinAll.erasePlan.noteTrigger

theorem State.Formed.failPlan {n : Nat} : s.Formed (t.failPlan n) := h.endPlan.raise

theorem State.Formed.planFault {job : Nat} : s.Formed (t.planFault job) := by
  unfold State.planFault
  split
  · exact h
  · dsimp only
    split
    · exact h.setPlan.returnPlan.matchJobs
    · exact h.setPlan.failPlan

omit h in
/-- A fault keeps the forms where the slot's failing does. -/
theorem State.Formed.slotFault_of {n : Nat} {cause : FaultCause}
    (failed : ∀ r, s.Formed (((t.loseRead n .dropped).setSlot n ((t.slot n).fail r)).raise .slotFault)) :
    s.Formed (t.slotFault n cause) := by
  unfold State.slotFault
  dsimp only
  split
  · exact (failed _).planFault
  · exact failed _

theorem State.Formed.slotFault {n : Nat} {cause : FaultCause} : s.Formed (t.slotFault n cause) :=
  .slotFault_of fun _ => (h.loseRead.setSlot fun _ => Slot.sparesRight_fail _ _).raise

theorem State.Formed.finished {n : Nat} : s.Formed (t.finished n) := by
  refine State.Formed.matchJobs (h.setSlot fun hs => ?_)
  exact ⟨hs.1, hs.2.1, (by intro _ ho; cases ho), (by intro _ ho; cases ho)⟩

theorem State.Formed.finishRead {n : Nat} {ok : Bool} {page : List Byte} : s.Formed (t.finishRead n ok page) := by
  unfold State.finishRead
  split
  · exact h.finished
  · split
    · exact h.finished
    · exact h.slotFault

theorem State.Formed.afterOp {n : Nat} : s.Formed (t.afterOp n) := by
  unfold State.afterOp
  split
  · exact h.setSlot fun hs => hs.hold
  · dsimp only
    split
    · exact h.goOn.matchJobs
    · exact h.goOn

theorem State.Formed.beginDirectory {n : Nat} : s.Formed (t.beginDirectory n) := by
  unfold State.beginDirectory
  dsimp only
  split
  · split
    · exact h.setSlot fun hs => Slot.sparesRight.goDirectory (by exact hs.of rfl rfl (.inr rfl))
    · exact h
  · exact h

theorem State.Formed.reachDone {n : Nat} : s.Formed (t.reachDone n) := by
  unfold State.reachDone
  dsimp only
  split
  · next c hc =>
    split
    · have same (u : State) (p : Plan) : (u.unpinAll p).slot n = u.slot n := by simp [State.slot]
      refine .raise (h.setPlan.addCartridge.unpinAll.setSlot fun hs => .of_none rfl rfl ?_)
      rw [same] at hs
      exact hs.2.2.2
    · exact h
  · exact h

theorem State.Formed.takeSpare {n : Nat} {p : Placement} (hop : (t.slot n).op = none) : s.Formed (t.takeSpare n p) := by
  unfold State.takeSpare
  dsimp only
  split
  · exact h
  · next c hc =>
    split
    · next hroom =>
      refine State.Formed.goProgram (h.setSlot fun hs => ?_)
      obtain ⟨h1, h2, h3, h4⟩ := hs
      refine ⟨?_, fun d hd => ?_, fun o ho hr => ?_, h4⟩
      · have : (spareMapSet (t.slot n).spares (p.start + (t.slot n).cursor.image)
            (c.cls.reserveStart + (t.slot n).sparesTaken)).length ≤ (t.slot n).spares.length + 1 := by
          simp [spareMapSet, List.length_filter_le]
        exact this.trans (Nat.succ_le_succ h1)
      · rw [hc] at hd
        cases hd
        exact hroom
      · rw [hop] at ho
        cases ho
    · exact h.slotFault

end Formed

end Sys2Proof.Machine

end

section
/-!
PROOF. The forms and sizes, command by command: obligations O6 and O8.
-/

namespace Sys2Proof.Machine

section Formed

variable {s t : State} (h : s.Formed t)
include h

/-! ### Identification, read-back and the operations of a slot -/

theorem State.Formed.blockVerified {n : Nat} {p : Placement} : s.Formed (t.blockVerified n p) := by
  unfold State.blockVerified
  dsimp only
  split
  · exact State.Formed.beginBlock (by exact h.setSlot fun hs => hs.of rfl rfl (.inr rfl))
  · have same : (t.toRecent p.title).slot n = t.slot n := by simp [State.slot]
    split
    · exact State.Formed.beginBlock (by exact h.toRecent.setSlot fun hs => (same ▸ hs).of rfl rfl (.inr rfl))
    · exact State.Formed.beginDirectory (by exact h.toRecent.setSlot fun hs => (same ▸ hs).of rfl rfl (.inr rfl))

theorem State.Formed.notify {k n : Nat} : s.Formed (t.notify k n) := by
  unfold State.notify
  dsimp only
  split
  · split
    · split
      · exact h.beginBlock
      · exact h
    · exact h
  · exact h

theorem State.Formed.setReturns {r : Returns} (hr : LengthKept Config.binMax t.returns.reuse r.reuse)
    (hi : LengthKept Config.binMax t.returns.inspect r.inspect) : s.Formed (t.setReturns r) :=
  h.trans { State.Formed.refl t with reuse := hr, inspect := hi }

theorem State.Formed.unbin {serial : Nat} : s.Formed (t.unbin serial) :=
  h.setReturns (List.length_filter_le _ _).trans (List.length_filter_le _ _).trans

theorem State.Formed.unlose {serial : Nat} : s.Formed (t.unlose serial) :=
  h.setLost (List.length_filter_le _ _).trans

theorem State.Formed.unloseCopy {k c : Nat} : s.Formed (t.unloseCopy k c) :=
  h.setLost (List.length_filter_le _ _).trans

/-- A cartridge identified: one of the class read, with no operation in hand and no spares to its slot. -/
theorem State.Formed.identified {n : Nat} {c d : Cartridge} (hc : (t.slot n).cart = some d) (hd : c.cls = d.cls) :
    s.Formed (t.identified n c) := by
  have shown : s.Formed (t.setSlot n { t.slot n with cart := some c, op := none, identPages := [] }) :=
    h.setSlot fun hs => hs.of rfl (by rw [hc]; exact congrArg some hd) (.inl (by simp))
  have settled {u : State} {st : SlotState} {done : Option (Nat × Nat)} {dispatched : Bool} (hu : s.Formed u)
      (hr : u.rack = (t.setSlot n { t.slot n with cart := some c, op := none, identPages := [] }).rack) :
      s.Formed (u.setSlot n
        { t.slot n with
          cart := some c, op := none, identPages := [], state := st, doneItem := done, dispatched := dispatched }) := by
    refine hu.setSlotIn fun hn hs => ?_
    rw [hr, (by simp : (t.setSlot n _).rack.length = t.rack.length)] at hn
    have here : u.slot n = _ := (congrArg (fun r => r.getD (n - 1) Slot.bare) hr).trans (State.slot_setSlot_in hn _)
    exact (here ▸ hs).of rfl rfl (.inr rfl)
  unfold State.identified
  dsimp only
  split
  · exact shown.slotFault
  · split
    · exact settled shown rfl
    · split
      · exact shown.slotFault
      · split
        · exact shown.unbin.unlose.slotFault
        · exact (settled shown.unbin.unlose rfl).matchJobs

/-- A removal: the slot's record is that of an empty one. -/
theorem State.Formed.removeCartridge {n : Nat} : s.Formed (t.removeCartridge n) := by
  have lost : s.Formed ((t.loseRead n .dropped).setSlot n (t.slot n).lose) :=
    h.loseRead.setSlot fun _ => Slot.sparesRight_lose _
  unfold State.removeCartridge
  dsimp only
  split
  · exact lost.returnPlan.noteTrigger.matchJobs
  · exact lost

theorem State.Formed.insertCartridge {n : Nat} : s.Formed (t.insertCartridge n) := by
  unfold State.insertCartridge
  split
  · exact h.setSlot fun _ => Slot.sparesRight.of (Slot.sparesRight_beginIdent (t.slot n)) rfl rfl (.inr rfl)
  · exact h

theorem State.Formed.setPresent {n : Nat} {present : Bool} : s.Formed (t.setPresent n present) :=
  h.setSlot fun hs => hs.of rfl rfl (.inr rfl)

theorem State.Formed.identityRead {n : Nat} {i : Option Identity} {o : OpInHand} (ho : (t.slot n).op = some o)
    (hr : o.op = .readIdentity) : s.Formed (t.identityRead n i) := by
  unfold State.identityRead
  split
  · exact h.slotFault
  · refine h.setSlot fun hs => ?_
    have none := hs.2.2.1 o ho hr
    exact Slot.sparesRight.issue (sl := { t.slot n with cart := some _, identPages := [] })
      ⟨hs.1, fun _ _ => none ▸ Nat.zero_le _, fun _ _ _ => none, hs.2.2.2⟩ (by simp)

theorem State.Formed.identifyAs {n : Nat} {m : Marker} {plan last : Nat} :
    s.Formed (t.identifyAs n m plan last) := by
  unfold State.identifyAs
  split
  · next c hc => exact h.identified hc rfl
  · exact h.slotFault

theorem State.Formed.identPage {n : Nat} {ok : Bool} {page : List Byte} : s.Formed (t.identPage n ok page) := by
  unfold State.identPage
  split
  · exact h.slotFault
  · dsimp only
    split
    · exact h.identifyAs
    · split
      · exact h.identifyAs
      · split
        · exact h.identifyAs
        · split
          · exact h.setSlot fun hs => Slot.sparesRight.issue (by exact hs.of rfl rfl (.inr rfl)) (by simp)
          · split
            · exact h.identifyAs
            · exact h.identifyAs

omit h in
/-- The cartridge's record with another marker is of the same class. -/
theorem cls_mark (c : Option Cartridge) (m : Marker) :
    (c.map (fun c => c.mark m)).map (·.cls) = c.map (·.cls) := by
  cases c <;> rfl

theorem State.Formed.stampRead {n : Nat} {ok : Bool} {page : List Byte} : s.Formed (t.stampRead n ok page) := by
  unfold State.stampRead
  dsimp only
  split
  · exact State.Formed.afterOp (by exact h.setSlot fun hs => hs.of rfl (cls_mark _ _) (.inl (by simp)))
  · exact h.slotFault

theorem State.Formed.verifyRead {n : Nat} {ok : Bool} {page : List Byte} : s.Formed (t.verifyRead n ok page) := by
  unfold State.verifyRead
  dsimp only
  split
  · exact h
  · next p hp =>
    have read (b : Bool) : s.Formed (t.setSlot n { t.slot n with op := none, back := (t.slot n).back + 1, backOk := b }) :=
      h.setSlot fun hs => hs.of rfl rfl (.inl (by simp))
    split
    · refine (read _).setSlotIn fun hn hs => ?_
      rw [State.slot_setSlot_in (by simpa using hn)] at hs
      exact hs.hold
    · split
      · exact (read _).goOn
      · split
        · exact (read _).blockVerified
        · refine (read _).takeSpare ?_
          rcases State.slot_setSlot_cases t n { t.slot n with
            op := none, back := (t.slot n).back + 1, backOk := _ } with hx | hx
          · rw [hx]
          · rw [hx]; rfl

theorem State.Formed.directoryRead {n : Nat} {ok : Bool} {page : List Byte} :
    s.Formed (t.directoryRead n ok page) := by
  have read (b : Bool) : s.Formed (t.setSlot n { t.slot n with op := none, back := (t.slot n).back + 1, backOk := b }) :=
    h.setSlot fun hs => hs.of rfl rfl (.inl (by simp))
  unfold State.directoryRead
  dsimp only
  split
  · exact (read _).goOn
  · split
    · exact (read _).reachDone
    · exact (read _).slotFault

theorem State.Formed.pageRead {n : Nat} {ok : Bool} {page : List Byte} : s.Formed (t.pageRead n ok page) := by
  unfold State.pageRead
  dsimp only
  split
  · exact h.finishRead
  · split
    · exact h.identPage
    · exact h.stampRead
    · exact h.stampRead
    · exact h.verifyRead
    · exact h.directoryRead
    · exact h

theorem State.Formed.permitReply {n : Nat} {granted : Bool} {w : WriteOp} :
    s.Formed (t.permitReply n granted w) := by
  unfold State.permitReply
  dsimp only
  split
  · exact h.slotFault
  · split
    · exact h.finished
    · split
      · exact h.setSlot fun hs => hs.hold
      · have cls : (if (t.slot n).state = .programming then (t.slot n).cart.map (fun c => c.mark .dirty)
            else (t.slot n).cart).map (·.cls) = (t.slot n).cart.map (·.cls) := by
          split
          · exact cls_mark _ _
          · rfl
        exact h.setSlot fun hs => Slot.sparesRight.issue (by exact hs.of rfl cls (.inr rfl)) (by simp)

omit h in
/-- A slot's record written over another that has just been written. -/
theorem State.setSlot_setSlot (t : State) (n : Nat) (x y : Slot) : (t.setSlot n x).setSlot n y = t.setSlot n y := by
  unfold State.setSlot
  rw [State.setRack_rack, List.set_set]
  rfl

theorem State.Formed.writeRefused {n : Nat} : s.Formed (t.writeRefused n) := by
  refine .slotFault_of fun r => ?_
  have rewritten (x y : Slot) : ((t.setSlot n x).loseRead n .dropped).setSlot n y = (t.loseRead n .dropped).setSlot n y :=
    State.setSlot_setSlot (t.loseRead n .dropped) n x y
  rw [rewritten]
  exact (h.loseRead.setSlot fun _ => Slot.sparesRight_fail _ _).raise

theorem State.Formed.programDone {n : Nat} {ok : Bool} : s.Formed (t.programDone n ok) := by
  unfold State.programDone
  dsimp only
  split
  · exact h.writeRefused
  · split
    · exact h.finished
    · split
      · exact State.Formed.afterOp (by exact h.setSlot fun hs => hs.of rfl rfl (.inl (by simp)))
      · exact State.Formed.afterOp (by exact h.setSlot fun hs => hs.of rfl rfl (.inl (by simp)))
      · split
        · refine State.Formed.afterOp (h.setSlot fun hs => ?_)
          unfold Slot.pageDone
          dsimp only
          split
          · exact hs.of rfl rfl (.inl (by simp))
          · exact hs.of rfl rfl (.inl (by simp))
        · exact h
      · refine State.Formed.goOn (h.setSlot fun hs => ?_)
        unfold Slot.directoryDone
        split
        · exact hs.of rfl rfl (.inl (by simp))
        · exact hs.of rfl rfl (.inl (by simp))
      · exact h

theorem State.Formed.eraseDone {n : Nat} {ok : Bool} {op : CartOp} : s.Formed (t.eraseDone n ok op) := by
  unfold State.eraseDone
  dsimp only
  split
  · exact h.writeRefused
  · split
    · exact h.setSlot fun hs => ⟨hs.1, hs.2.1, hs.2.2.1, by intro _ ho; cases ho⟩
    · split
      · exact h.finished
      · split
        · exact State.Formed.afterOp (by exact h.setSlot fun hs => hs.of rfl rfl (.inl (by simp)))
        · exact State.Formed.afterOp (by exact h.setSlot fun hs => hs.of rfl rfl (.inl (by simp)))
        · exact State.Formed.afterOp (by exact h.setSlot fun hs => hs.of rfl rfl (.inl (by simp)))
        · exact h

theorem State.Formed.markDone {n : Nat} : s.Formed (t.markDone n) := by
  have cls (c : Option Cartridge) :
      (c.map (fun c => { c with cycles := c.cycles + 1 })).map (·.cls) = c.map (·.cls) := by
    cases c <;> rfl
  have marked (st : EraseStep) : s.Formed (t.setSlot n { t.slot n with
      op := none, cart := (t.slot n).cart.map (fun c => { c with cycles := c.cycles + 1 }), eraseStep := st }) :=
    h.setSlot fun hs => hs.of rfl (cls _) (.inl (by simp))
  unfold State.markDone
  dsimp only
  split
  · exact (marked _).slotFault
  · split
    · exact (marked _).finished
    · rw [State.setSlot_setSlot]
      exact (marked _).afterOp

theorem State.Formed.suspendDone {n : Nat} : s.Formed (t.suspendDone n) := by
  unfold State.suspendDone
  split
  · exact h.finished
  · exact h.setSlot fun hs => hs.hold

theorem State.Formed.resumeDone {n : Nat} : s.Formed (t.resumeDone n) := by
  have resumed : s.Formed (t.setSlot n { t.slot n with op := (t.slot n).suspended, suspended := none }) := by
    refine h.setSlot fun hs => ⟨hs.1, hs.2.1, fun o ho hr => ?_, by intro _ ho; cases ho⟩
    have := hs.2.2.2 o ho
    rw [hr] at this
    cases this
  unfold State.resumeDone
  dsimp only
  split
  · exact h.setSlot fun hs => hs.issue (by simp)
  · split
    · exact resumed.matchJobs
    · exact resumed

theorem State.Formed.timeOut {n : Nat} {op : CartOp} : s.Formed (t.timeOut n op) := by
  unfold State.timeOut
  split
  · exact h.slotFault
  · exact h.identifyAs
  · exact h.slotFault

theorem State.Formed.runFor {n ran : Nat} : s.Formed (t.runFor n ran) := by
  unfold State.runFor
  split
  · exact h
  · next o ho =>
    split
    · exact h.setSlot fun hs => hs.of rfl rfl (.inr (by rw [ho]; rfl))
    · exact h.timeOut

theorem State.Formed.socket {n : Nat} {u : State} (hu : t.SocketEffect n u) : s.Formed u := by
  cases hu with
  | idle => exact h
  | stray => exact h.slotFault
  | identity ho hr i => exact h.identityRead ho.2.2 hr
  | page => exact h.pageRead
  | permit => exact h.permitReply
  | program => exact h.programDone
  | erase => exact h.eraseDone
  | mark => exact h.markDone
  | suspend => exact h.suspendDone
  | resume => exact h.resumeDone
  | ran => exact h.runFor

/-! ### Planning -/

/-- As many fetches more as there is room for. -/
theorem State.Formed.admitTitles {ps : List Placement}
    (hr : ps.length ≤ Config.fetchMax - t.store.fetches.length) :
    s.Formed (ps.foldl (fun s q => s.admitTitle q.title q.pages) t) := by
  induction ps generalizing t with
  | nil => exact h
  | cons q ps ih =>
    rw [List.length_cons] at hr
    refine ih (h.admitTitle (by omega)) ?_
    have : (t.admitTitle q.title q.pages).store.fetches.length = t.store.fetches.length + 1 := by
      simp [State.admitTitle, State.addFetch, State.createImage]
    dsimp only
    omega

omit h in
/-- What is admitted has fetches left for the titles without an image (R50). -/
theorem State.fetches_of_admissible {p : Plan} (ha : t.admissible p.titles = true) :
    (t.needed p.placements).length ≤ Config.fetchMax - t.store.fetches.length := by
  have room := (of_decide_eq_true ha).2.2
  rwa [Plan.titles, List.filter_map, List.length_map] at room

theorem State.Formed.admitPlan {p : Plan} (ha : t.admissible p.titles = true) : s.Formed (t.admitPlan p) := by
  have room := State.fetches_of_admissible ha
  have admitted := State.Formed.admitTitles
    (h.evict (titles := p.placements.map (·.title)) (walk := t.store.recency)
      (blocks := ((t.needed p.placements).map (·.blocks)).sum) (places := (t.needed p.placements).length))
    (ps := t.needed p.placements) (by simpa using room)
  unfold State.admitPlan
  dsimp only
  refine State.Formed.foldl (State.Formed.foldl ?_ fun _ _ hu => hu.pin) fun _ _ hu => hu.toRecent
  split
  · exact admitted
  · exact admitted.raise

theorem State.Formed.commit {p : Plan} (ha : t.admissible p.titles = true) : s.Formed (t.commit p) := by
  have placed : s.Formed ((t.admitPlan p).setPlan t.nextPlan p) := (h.admitPlan ha).setPlan
  have numbered : s.Formed (((t.admitPlan p).setPlan t.nextPlan p).setPlanner
      { ((t.admitPlan p).setPlan t.nextPlan p).planner with lastPlan := t.nextPlan }) := placed.same rfl
  exact State.Formed.matchJobs (State.Formed.joinTail (State.Formed.raiseCarts
    (numbered.foldl fun _ _ hu => hu.setEntry)))

theorem State.Formed.planFor {k : Nat} {p : Patron} (hp : t.patron k = some p) : s.Formed (t.planFor k p) := by
  have marked : s.Formed (t.setPatron k { p with orders := markOversize (t.pack p).oversize p.orders }) :=
    h.setPatron hp rfl (Patron.fits_of_orders (by simp [markOversize]))
  unfold State.planFor
  dsimp only
  split
  · exact marked
  · split
    · exact marked.defer
    · split
      · next ha => exact marked.commit ha
      · exact marked.defer

theorem State.Formed.endPass : s.Formed t.endPass := by
  unfold State.endPass
  split
  · exact h.beginPass
  · exact h.same rfl

theorem State.Formed.passStep : s.Formed t.passStep := by
  unfold State.passStep
  split
  · exact h
  · exact h.endPass
  · next k rest hp =>
    split
    · exact h.endPass
    · have begun : s.Formed (t.setPlanner { t.planner with pass := some rest }) := h.same rfl
      have planned : s.Formed (match (t.setPlanner { t.planner with pass := some rest }).patron k with
          | some p => if p.passable then (t.setPlanner { t.planner with pass := some rest }).planFor k p
            else t.setPlanner { t.planner with pass := some rest }
          | none => t.setPlanner { t.planner with pass := some rest }) := by
        split
        · next p hp =>
          split
          · exact begun.planFor hp
          · exact begun
        · exact begun
      dsimp only
      split
      · exact planned.takeTrigger.endPass
      · exact planned.takeTrigger

/-! ### Fills and reads -/

theorem State.Formed.imageComplete {k x : Nat} : s.Formed (t.imageComplete k x) :=
  State.Formed.foldl (State.Formed.onTitle (h.onImage.toRecent.removeFetch) (by exact fun _ => rfl)
    (by exact fun _ => id) (by exact fun _ => id)) fun _ _ hu => hu.notify

theorem State.Formed.abortSlot {n : Nat} : s.Formed (t.abortSlot n) := by
  unfold State.abortSlot
  split
  · exact h.unbind.returnPlan
  · exact h

theorem State.Formed.recreateImage {k : Nat} : s.Formed (t.recreateImage k) := by
  unfold State.recreateImage
  split
  · exact State.Formed.setImage h.setImage
  · exact h

theorem State.Formed.requeueFetch {id : Nat} : s.Formed (t.requeueFetch id) := by
  unfold State.requeueFetch
  split
  · next f hf =>
    refine .raise (h.setFetches fun hl => ?_)
    have less : (t.store.fetches.filter (fun g => decide (g.id ≠ id))).length < t.store.fetches.length :=
      List.length_filter_lt_length_iff_exists.2
        ⟨f, List.mem_of_find?_eq_some hf, by simpa using List.find?_some hf⟩
    rw [List.length_cons, promote_length]
    omega
  · exact h

theorem State.Formed.stopReading {k n : Nat} : s.Formed (t.stopReading k n) := by
  unfold State.stopReading
  split
  · split
    · split
      · exact h.loseRead.beginBlock
      · exact h
    · exact h
  · exact h

theorem State.Formed.imageMismatch {k x : Nat} : s.Formed (t.imageMismatch k x) := by
  have counted : s.Formed (t.onTitle k (fun r => { r with failures := r.failures + 1 })) :=
    h.onTitle (fun _ => rfl) (fun _ => id) fun _ => id
  have aborted : s.Formed ((t.readers k).foldl (fun s n => s.abortSlot n)
      (t.onTitle k (fun r => { r with failures := r.failures + 1 }))) := counted.foldl fun _ _ hu => hu.abortSlot
  have stopped := aborted.recreateImage (k := k) |>.requeueFetch (id := x) |>.spaceFreed
    |>.foldl (f := fun s n => s.stopReading k n) (l := slotNumbers) fun _ _ hu => hu.stopReading
  unfold State.imageMismatch
  dsimp only
  split
  · exact stopped
  · exact stopped.matchJobs

theorem State.Formed.failPlans {plans : List Nat} : s.Formed (t.failPlans plans) := by
  unfold State.failPlans
  split
  · exact h
  · exact (h.foldl fun _ _ hu => hu.endPlan).raise.matchIdled

theorem State.Formed.imageBad {k x failures : Nat} : s.Formed (t.imageBad k x failures) := by
  have marked : s.Formed (t.onTitle k (fun r => { r with bad := true, failures := failures })) :=
    h.onTitle (fun _ => rfl) (fun _ => id) fun _ => id
  unfold State.imageBad
  exact (marked.removeImage.spaceFreed.removeFetch (id := x)).failPlans

theorem State.Formed.afterFrame {f : FillOp} {g : Fetch} : s.Formed (t.afterFrame f g) := by
  unfold State.afterFrame
  split
  · split
    · exact h.imageComplete.formWriting
    · split
      · exact h.imageMismatch.formWriting
      · exact h.imageBad.formWriting
  · exact State.Formed.formWriting (h.foldl fun _ _ hu => hu.notify)

theorem State.Formed.fillComplete {b : Nat} {f : FillOp} : s.Formed (t.fillComplete b f) := by
  unfold State.fillComplete
  dsimp only
  split
  · exact h.storeFrame.countFrame.afterFrame.grantNext
  · exact h.storeFrame.formWriting.grantNext

theorem State.Formed.deliver {r : ReadOp} : s.Formed (t.deliver r) :=
  State.Formed.goProgram (by exact h.setSlot fun hs => hs.of rfl rfl (.inr rfl))

theorem State.Formed.discardRead {n : Nat} : s.Formed (t.discardRead n) := by
  have discarded : s.Formed (t.setSlot n { t.slot n with awaiting := false }) := h.setSlot fun hs => hs.of rfl rfl (.inr rfl)
  unfold State.discardRead
  dsimp only
  split
  · exact discarded.finished
  · split
    · exact discarded.setSlot fun hs => hs.hold
    · exact discarded

theorem State.Formed.readComplete {b : Nat} {r : ReadOp} : s.Formed (t.readComplete b r) := by
  unfold State.readComplete
  dsimp only
  split
  · exact h.deliver.grantNext
  · exact h.discardRead.grantNext
  · exact h.grantNext

end Formed

end Sys2Proof.Machine

end

section
/-!
PROOF. The forms and sizes, request by request and step by step; obligations O6 and O8.
-/

namespace Sys2Proof.Machine

/-! ### Records that keep their sizes -/

theorem addCopies_length (n : Nat) (l : List CopyPlace) : (addCopies n l).length = l.length := by
  induction l generalizing n with
  | nil => cases n <;> rfl
  | cons c l ih =>
    cases n with
    | zero => rfl
    | succ n =>
      unfold addCopies
      split
      · rw [List.length_cons, ih, List.length_cons]
      · rw [List.length_cons, ih, List.length_cons]

theorem removeCopies_length (n : Nat) (l : List CopyPlace) : (removeCopies n l).length = l.length := by
  rw [removeCopies, List.length_reverse, dropCopies_length, List.length_reverse]

theorem moveEntry_length (l : List OrderEntry) (i j : Nat) : (moveEntry l i j).length = l.length := by
  unfold moveEntry
  split
  · next e he =>
    have hi := (List.getElem?_eq_some_iff.1 he).1
    rw [insertAt, List.length_append, List.length_cons, List.length_take, List.length_drop, List.length_eraseIdx, if_pos hi]
    omega
  · rfl

theorem storeManifest_length (l : List Manifest) (m : Manifest) : (storeManifest l m).length ≤ Config.manifestMax := by
  rw [storeManifest, List.length_append, List.length_drop, List.length_singleton, show Config.manifestMax = 4 from rfl]
  omega

theorem appendLost_length (l : List Lost) (x : Lost) : (appendLost l x).length ≤ Config.writtenOffMax := by
  rw [appendLost, List.length_append, List.length_drop, List.length_singleton, show Config.writtenOffMax = 256 from rfl]
  omega

theorem raiseStages_length (id patron date d stage room fuel : Nat) :
    (raiseStages id patron date d stage room fuel).2.length ≤ room := by
  induction fuel generalizing stage room with
  | zero => exact Nat.zero_le _
  | succ fuel ih =>
    unfold raiseStages
    split
    · next hs =>
      have := ih (stage + 1) (room - 1)
      dsimp only
      rw [List.length_cons]
      omega
    · exact Nat.zero_le _

/-- The history keeps its 48 places and names a catalogue number once (R5). -/
theorem historyAdd_fits {l : List Nat} (hl : l.length ≤ Config.historyMax) (hn : l.Nodup) (c : Nat) :
    (historyAdd l c).length ≤ Config.historyMax ∧ (historyAdd l c).Nodup := by
  have added {m : List Nat} (hm : m.Nodup) (hc : c ∉ m) : (m ++ [c]).Nodup := by
    rw [List.nodup_append]
    exact ⟨hm, List.nodup_singleton c, fun a ha b hb => by rw [List.mem_singleton] at hb; rw [hb]; exact fun he => hc (he ▸ ha)⟩
  unfold historyAdd
  split
  · next hc =>
    have less : (l.filter (· ≠ c)).length < l.length :=
      List.length_filter_lt_length_iff_exists.2 ⟨c, by simpa using hc, by simp⟩
    refine ⟨?_, added (hn.filter _) (by simp)⟩
    rw [List.length_append, List.length_singleton]
    omega
  · next hc =>
    have out : c ∉ l := by simpa using hc
    split
    · refine ⟨?_, added (hn.sublist (List.drop_sublist _ _)) fun h => out ((List.drop_sublist _ _).subset h)⟩
      rw [List.length_append, List.length_drop, List.length_singleton, show Config.historyMax = 48 from rfl]
      omega
    · refine ⟨?_, added hn out⟩
      rw [List.length_append, List.length_singleton]
      omega

theorem historyAdd_all_fits {l : List Nat} (hl : l.length ≤ Config.historyMax) (hn : l.Nodup) (cs : List Nat) :
    (cs.foldl historyAdd l).length ≤ Config.historyMax ∧ (cs.foldl historyAdd l).Nodup := by
  induction cs generalizing l with
  | nil => exact ⟨hl, hn⟩
  | cons c cs ih => exact ih (historyAdd_fits hl hn c).1 (historyAdd_fits hl hn c).2

theorem State.findPatron_ok {s : State} {n k : Nat} {p : Patron} (h : s.findPatron n = .ok (k, p)) :
    s.patron k = some p := by
  unfold State.findPatron at h
  split at h
  · cases h
  · split at h
    · next hp => cases h; exact hp
    · cases h

theorem State.findTitle_ok {s : State} {n k : Nat} {r : Title} (h : s.findTitle n = .ok (k, r)) :
    s.title k = some r := by
  unfold State.findTitle at h
  split at h
  · cases h
  · split at h
    · next hp => cases h; exact hp
    · cases h

theorem State.findLoan_ok {s : State} {n : Nat} {l : Loan} (h : s.findLoan n = .ok l) : s.loan n = some l := by
  unfold State.findLoan at h
  split at h
  · cases h
  · split at h
    · next hp => cases h; exact hp
    · cases h

theorem State.numberHeld_iff {s : State} {number k : Nat} :
    s.numberHeld number k = false ↔ ∀ e ∈ s.records.patrons, e.2.number = number → e.1 = k := by
  simp [State.numberHeld]

theorem State.catalogueHeld_iff {s : State} {cat k : Nat} :
    s.catalogueHeld cat k = false ↔ ∀ e ∈ s.records.titles, e.2.catalogue = cat → e.1 = k := by
  simp [State.catalogueHeld]

/-! ### What ORDER ADD has tested (R26) -/

/-- What an ORDER ADD that nothing bars has found of the patron and the title. -/
structure State.MayAdd (s : State) (k t : Nat) (p : Patron) (r : Title) : Prop where
  open_ : p.state ≠ .closed
  new : ∀ e ∈ p.orders, e.title ≠ t
  room : p.orders.length < Config.orderMax
  queue : r.format = .pbraille → s.immediateCopy k r = none → r.holds.length < Config.holdMax

theorem State.mayAdd_of_bar {s : State} {k t : Nat} {reread : Bool} {p : Patron} {r : Title}
    (h : s.orderAddBar k t reread = none) (hp : s.patron k = some p) (hr : s.title t = some r) : s.MayAdd k t p r := by
  simp only [State.orderAddBar, hp, hr] at h
  split at h
  · cases h
  · next hc =>
    split at h
    · cases h
    · split at h
      · cases h
      · next hn =>
        split at h
        · cases h
        · split at h
          · cases h
          · split at h
            · cases h
            · next room =>
              split at h
              · cases h
              · next queue =>
                refine ⟨hc, by simpa using hn, by omega, fun hf hi => ?_⟩
                by_contra hx
                exact queue ⟨hf, by omega, hi⟩

/-- The state ORDER ADD gives its entry: of a paper title allocated or queued, of another waiting. -/
theorem State.addedState_cases (s : State) (k : Nat) (r : Title) :
    (∃ c, r.format = .pbraille ∧ s.immediateCopy k r = some c ∧ s.addedState k r = .allocated s.nextItem c) ∨
      (r.format = .pbraille ∧ s.immediateCopy k r = none ∧ s.addedState k r = .hold) ∨
      (r.format ≠ .pbraille ∧ s.addedState k r = .waiting) := by
  unfold State.addedState
  split
  · next hf =>
    split
    · next c hc => exact .inl ⟨c, hf, hc, rfl⟩
    · next hc => exact .inr (.inl ⟨hf, hc, rfl⟩)
  · next hf => exact .inr (.inr ⟨hf, rfl⟩)

theorem State.canTake_of_immediateCopy {s : State} {k c : Nat} {r : Title} (h : s.immediateCopy k r = some c) :
    s.canTake k = true := by
  unfold State.immediateCopy at h
  split at h
  · next hk => exact hk
  · cases h

section Formed

variable {s t : State} (h : s.Formed t)
include h

/-! ### The request commands -/

/-- A patron record written where its number is free for it. -/
theorem State.Formed.setPatron_named {k but : Nat} {q : Patron}
    (hk : t.records.patrons.indexed Config.patronMax → 1 ≤ k ∧ k ≤ Config.patronMax)
    (hb : but = 0 ∨ but = k) (hn : t.numberHeld q.number but = false)
    (hf : (∀ e ∈ t.records.patrons, e.2.fits) → q.fits) : s.Formed (t.setPatron k q) := by
  refine h.setPatrons (.put (fun _ hi => hk hi) (fun hi _ e he hee => ?_) hf fun _ => trivial)
  have named := State.numberHeld_iff.1 hn e he hee
  rcases hb with rfl | rfl
  · exact absurd (hi e he).1 (by omega)
  · exact named

theorem State.Formed.setTitle_named {k but : Nat} {x : Title}
    (hk : t.records.titles.indexed Config.titleMax → 1 ≤ k ∧ k ≤ Config.titleMax)
    (hb : but = 0 ∨ but = k) (hn : t.catalogueHeld x.catalogue but = false)
    (hf : (∀ e ∈ t.records.titles, e.2.holds.length ≤ Config.holdMax) → x.holds.length ≤ Config.holdMax)
    (hs : (∀ e ∈ t.records.titles, e.2.shapely) → x.shapely) : s.Formed (t.setTitle k x) := by
  refine h.setTitles (.put (fun _ hi => hk hi) (fun hi _ e he hee => ?_) hf hs)
  have named := State.catalogueHeld_iff.1 hn e he hee
  rcases hb with rfl | rfl
  · exact absurd (hi e he).1 (by omega)
  · exact named

theorem State.Formed.patronCreate {a b c d e f : Nat} : s.Formed (answerPatronCreate a b c d e f t).2 := by
  unfold answerPatronCreate
  split
  · exact h
  · split
    · exact h
    · split
      · exact h
      · next held =>
        split
        · exact h
        · next i hi =>
          split
          · exact h
          · exact ((h.setPatron_named (fun _ => Table.free_indexed hi) (.inl rfl) (Bool.eq_false_iff.2 held)
              fun _ => ⟨Nat.zero_le _, List.nodup_nil, Nat.zero_le _⟩).usePatron).noteTrigger

theorem State.Formed.afterPatronUpdate {k : Nat} {p q : Patron} : s.Formed (t.afterPatronUpdate k p q) := by
  have cleared : s.Formed (if q.cls = p.cls then t else t.clearFillLow k) := by
    split
    · exact h
    · exact h.clearFillLow
  unfold State.afterPatronUpdate
  dsimp only
  split
  · exact cleared.sweepPatron
  · exact cleared

theorem State.Formed.patronUpdate {a b c d e f g : Nat} : s.Formed (answerPatronUpdate a b c d e f g t).2 := by
  unfold answerPatronUpdate
  split
  · exact h
  · next k r hk =>
    have found := State.findPatron_ok hk
    split
    · exact h
    · next cls _ =>
      have written (held : ¬t.numberHeld b k = true) : s.Formed (t.setPatron k (r.update b c cls e f g)) := by
        refine h.setPatron_named (fun hi => hi _ (Table.mem_of_look found)) (.inr rfl) (Bool.eq_false_iff.2 held)
          fun hf => ?_
        obtain ⟨history, once, orders⟩ := hf _ (Table.mem_of_look found)
        refine ⟨history, once, ?_⟩
        unfold Patron.update
        dsimp only
        split
        · exact orders
        · rw [List.length_map]; exact orders
      split
      · exact h
      · split
        · exact h
        · split
          · exact h
          · next held =>
            split
            · exact h
            · exact (written held).afterPatronUpdate.usePatron.noteTrigger

theorem State.Formed.patronPause {a b c d : Nat} : s.Formed (answerPatronPause a b c d t).2 := by
  unfold answerPatronPause
  split
  · exact h
  · next k r hk =>
    have found := State.findPatron_ok hk
    split
    · exact h
    · split
      · exact h
      · split
        · exact h
        · refine State.Formed.noteTrigger (State.Formed.usePatron ?_)
          unfold State.pausePatron
          split
          · exact h.setPatron found rfl id
          · exact (h.setPatron (q := { r with state := .active, pauseUntil := none }) found rfl id).sweepPatron
          · exact h

theorem State.Formed.closePatron {k : Nat} : s.Formed (t.closePatron k) := by
  unfold State.closePatron
  exact (((((h.foldl fun _ _ hu => hu.endPlan).foldl fun _ _ hu => hu.withdrawSet).removeEntries).foldl
    fun _ _ hu => hu.leaveHold).onPatron (fun _ => rfl) fun _ => id)

theorem State.Formed.patronClose {a : Nat} : s.Formed (answerPatronClose a t).2 := by
  unfold answerPatronClose
  split
  · exact h
  · split
    · exact h
    · split
      · exact h
      · refine State.Formed.usePatron (State.Formed.matchIdled ?_)
        unfold State.sweepAfterClose
        split
        · exact h.closePatron
        · exact h.closePatron.sweep

theorem State.Formed.titleCreate {a b c d e : Nat} : s.Formed (answerTitleCreate a b c d e t).2 := by
  unfold answerTitleCreate
  split
  · exact h
  · next f _ =>
    split
    · exact h
    · split
      · exact h
      · next held =>
        split
        · exact h
        · next i hi =>
          refine State.Formed.useTitle (h.setTitle_named (fun _ => Table.free_indexed hi) (.inl rfl)
            (Bool.eq_false_iff.2 held) (fun _ => Nat.zero_le _) fun _ => ?_)
          intro hf
          have : f = .pbraille := hf
          subst this
          exact List.length_replicate

theorem State.Formed.titleUpdate {a b c d e f : Nat} : s.Formed (answerTitleUpdate a b c d e f t).2 := by
  unfold answerTitleUpdate
  split
  · exact h
  · next k r hk =>
    have found := State.findTitle_ok hk
    split
    · exact h
    · split
      · exact h
      · split
        · exact h
        · split
          · exact h
          · next held =>
            dsimp only
            split
            · exact h
            · refine State.Formed.useTitle ?_
              have written {u : State} (hu : s.Formed u) (same : u.records.titles = t.records.titles) :
                  s.Formed (u.setTitle k (r.update b d e f)) := by
                have look : u.title k = some r := by rw [State.title, same]; exact found
                refine hu.setTitle_named (fun hi => hi _ (Table.mem_of_look look)) (.inr rfl) ?_ (fun hf => ?_) fun hs => ?_
                · have name : (r.update b d e f).catalogue = b := by unfold Title.update; split <;> rfl
                  rw [name, State.catalogueHeld, same]
                  exact Bool.eq_false_iff.2 held
                · have := hf _ (Table.mem_of_look look)
                  unfold Title.update
                  split
                  · exact this
                  · exact this
                · have := hs _ (Table.mem_of_look look)
                  unfold Title.update
                  split
                  · exact this
                  · exact this
              unfold State.updateTitle
              dsimp only
              split
              · split
                · exact written h.dropImage (by simp)
                · exact written h rfl
              · split
                · exact (written h.dropImage (by simp)).clearOversizeOf
                · exact (written h rfl).clearOversizeOf

theorem State.Formed.titleWithdraw {a b : Nat} : s.Formed (answerTitleWithdraw a b t).2 := by
  unfold answerTitleWithdraw
  split
  · exact h
  · next k r hk =>
    have written (b : Bool) : s.Formed (t.setTitle k { r with withdrawn := b }) :=
      h.setTitle (State.findTitle_ok hk) rfl id id
    refine State.Formed.useTitle ?_
    unfold State.withdrawTitle
    dsimp only
    split
    · exact (written _).sweep
    · exact written _

theorem State.Formed.copies {a b c : Nat} : s.Formed (answerCopies a b c t).2 := by
  obtain same | ⟨k, r, n, u, sweeps, hk, -, hc, same⟩ := answerCopies_cases a b c t
  · rw [same]; exact h
  · have found := State.findTitle_ok hk
    have moved : s.Formed u := by
      obtain ⟨-, -, -, -, rfl⟩ | ⟨-, -, -, -, rfl⟩ | ⟨-, -, -, -, -, -, rfl⟩ := copiesAction_cases hc
      · exact h.setTitle found rfl id fun hs hf => (addCopies_length _ _).trans (hs hf)
      · exact h.setTitle found rfl id fun hs hf => (removeCopies_length _ _).trans (hs hf)
      · exact h.moveCopy.unloseCopy
    rw [same]
    refine State.Formed.useTitle ?_
    split
    · exact moved.sweep
    · exact moved

theorem State.Formed.onTitleOf {k : Nat} {f : Title → Title} {r : Title} (hr : t.title k = some r)
    (hn : (f r).catalogue = r.catalogue)
    (hf : r.holds.length ≤ Config.holdMax → (f r).holds.length ≤ Config.holdMax) (hs : r.shapely → (f r).shapely) :
    s.Formed (t.onTitle k f) := by
  rw [State.onTitle, hr]
  exact h.setTitle hr hn hf hs

theorem State.Formed.orderAdd {a b c d e : Nat} : s.Formed (answerOrderAdd a b c d e t).2 := by
  unfold answerOrderAdd
  split
  · exact h
  · next k _ =>
    split
    · exact h
    · next x _ =>
      split
      · exact h
      · next p r hb hp hr =>
        have may := State.mayAdd_of_bar hb hp hr
        have added (o : OrderEntry) (i : Nat) : s.Formed (t.insertEntry k i o) := by
          refine State.Formed.clearFillLow ?_
          rw [State.onPatron, hp]
          refine h.setPatron hp rfl fun hf => ⟨hf.1, hf.2.1, ?_⟩
          have := may.room
          dsimp only [insertAt]
          rw [List.length_append, List.length_cons, List.length_take, List.length_drop]
          omega
        refine State.Formed.noteTrigger (State.Formed.useTitle (State.Formed.usePatron ?_))
        obtain ⟨c, -, hc, hs⟩ | ⟨hf, hc, hs⟩ | ⟨-, hs⟩ := t.addedState_cases k r
        · rw [hs]
          refine (added _ _).allocate ?_
          have room := State.room_of_canTake (State.canTake_of_immediateCopy hc)
          simpa [State.setItems, State.insertEntry] using room
        · rw [hs]
          refine (added _ _).onTitleOf (r := r) (by simpa [State.title, State.insertEntry] using hr) rfl (fun _ => ?_) id
          have := may.queue hf hc
          rw [List.length_append, List.length_singleton]
          omega
        · rw [hs]
          exact added _ _
      · exact h

theorem State.Formed.dropEntry {k x : Nat} {st : EntryState} : s.Formed (t.dropEntry k x st) := by
  unfold State.dropEntry
  dsimp only
  split
  · exact h.removeEntries.leaveHold
  · split
    · exact h.removeEntries.withdrawSet.sweep
    · exact h.removeEntries
  · exact h.removeEntries

theorem State.Formed.orderDrop {a b : Nat} : s.Formed (answerOrderDrop a b t).2 := by
  unfold answerOrderDrop
  split
  · exact h
  · split
    · exact h
    · split
      · exact h
      · split
        · exact h
        · split
          · exact h
          · exact h.dropEntry.usePatron.useTitle.noteTrigger

theorem State.Formed.orderMove {a b c : Nat} : s.Formed (answerOrderMove a b c t).2 := by
  unfold answerOrderMove
  split
  · exact h
  · next k p hk =>
    split
    · exact h
    · split
      · exact h
      · refine State.Formed.noteTrigger (State.Formed.usePatron ?_)
        split
        · exact h
        · have moved : s.Formed (t.setPatron k { p with orders := moveEntry p.orders b (clamp 1 p.orders.length c) }) :=
            h.setPatron (State.findPatron_ok hk) rfl (Patron.fits_of_orders (moveEntry_length _ _ _).le)
          exact moved.clearFillLow

theorem State.Formed.planCancel {a : Nat} : s.Formed (answerPlanCancel a t).2 := by
  unfold answerPlanCancel
  split
  · exact h
  · split
    · exact h
    · exact h.endPlan.matchIdled

theorem State.Formed.fetchNext : s.Formed (answerFetchNext t).2 := by
  unfold answerFetchNext
  split
  · exact h
  · split
    · exact h
    · exact h.onFetch

theorem State.Formed.fetchAbandon {a : Nat} : s.Formed (answerFetchAbandon a t).2 := by
  unfold answerFetchAbandon
  split
  · exact h
  · split
    · exact h
    · dsimp only
      split
      · exact h.formWriting.loseFill.imageBad
      · exact h.loseFill.imageBad

theorem State.Formed.preload {a : Nat} : s.Formed (answerPreload a t).2 := by
  unfold answerPreload
  split
  · exact h
  · next k r _ =>
    split
    · exact h
    · split
      · exact h
      · split
        · exact h
        · split
          · exact h
          · next hi =>
            split
            · exact h
            · next ha =>
              have room : t.store.fetches.length < Config.fetchMax := by
                have none : t.image k = Option.none := by simpa using hi
                have := ((t.admissible_iff _).1 (by simpa using ha)).2.2
                simp only [none, decide_true, List.filter_cons_of_pos, List.filter_nil, List.length_singleton] at this
                rw [show Config.fetchMax = 16 from rfl]
                omega
              exact ((h.evict.admitTitle (by simpa using room)).raise).useTitle

theorem State.Formed.imageDrop {a : Nat} : s.Formed (answerImageDrop a t).2 := by
  unfold answerImageDrop
  split
  · exact h
  · split
    · exact h
    · split
      · exact h
      · split
        · exact h
        · exact h.removeImage.spaceFreed.useTitle

theorem State.Formed.holdSlot {n : Nat} {u : State} (hu : t.holdSlot n = some u) : s.Formed u := by
  have erase : s.Formed (t.setSlot n (t.slot n).holdErase) := by
    refine h.setSlot fun hs => ?_
    unfold Slot.holdErase
    split
    · next o ho =>
      split
      · next he =>
        refine Slot.sparesRight.issue (sl := { t.slot n with suspended := some o, holdPending := true })
          ⟨hs.1, hs.2.1, hs.2.2.1, fun o' ho' => ?_⟩ (by simp)
        cases ho'
        exact he
      · exact hs.of rfl rfl (.inr rfl)
    · exact hs.hold
  unfold State.holdSlot at hu
  dsimp only at hu
  split at hu
  · cases hu
  · split at hu
    · split at hu
      · cases hu
      · cases hu; exact erase
    · split at hu
      · cases hu
      · cases hu; exact erase
    · cases hu
      unfold State.holdProgram
      dsimp only
      split
      · exact h.loseRead.setSlot fun hs => hs.of rfl rfl (.inr rfl)
      · exact h.loseRead.setSlot fun hs => hs.hold
    · cases hu
      refine h.setSlot fun hs => ?_
      split
      · exact hs.of rfl rfl (.inr rfl)
      · exact hs.hold
    · cases hu
      exact h.setSlot fun hs => hs.hold
    · cases hu

theorem State.Formed.slotHold {a : Nat} : s.Formed (answerSlotHold a t).2 := by
  unfold answerSlotHold
  split
  · exact h
  · split
    · exact h
    · next u hu => exact h.holdSlot hu

theorem State.Formed.releaseErase {n : Nat} : s.Formed (t.releaseErase n) := by
  have gone : s.Formed (if (t.slot n).suspended.isSome then t.setSlot n ((t.slot n).issue .resume) else t.goOn n) := by
    split
    · exact h.setSlot fun hs => hs.issue (by simp)
    · exact h.goOn
  unfold State.releaseErase
  dsimp only
  split
  · exact gone.matchJobs
  · exact gone

theorem State.Formed.releaseSlot {n : Nat} {p : Phase} : s.Formed (t.releaseSlot n p) := by
  have released : s.Formed (t.setSlot n { t.slot n with
      state := p.slotState, remembered := none, cursor := { (t.slot n).cursor with inBuffer := false } }) :=
    h.setSlot fun hs => hs.of rfl rfl (.inr rfl)
  unfold State.releaseSlot
  cases p
  case preErase => exact released.releaseErase
  case erasing => exact released.releaseErase
  case programming => exact released.goProgram
  case verifying =>
    dsimp only
    split
    · rw [State.setSlot_setSlot]
      exact h.setSlot fun hs => Slot.sparesRight.beginVerify (by exact hs.of rfl rfl (.inr rfl))
    · exact released
  case waitImage =>
    dsimp only
    split
    · exact released.beginBlock
    · exact released

theorem State.Formed.slotRelease {a : Nat} : s.Formed (answerSlotRelease a t).2 := by
  unfold answerSlotRelease
  split
  · exact h
  · split
    · exact h.releaseSlot
    · exact h

theorem State.Formed.slotClear {a : Nat} : s.Formed (answerSlotClear a t).2 := by
  unfold answerSlotClear
  split
  · exact h
  · split
    · exact h.setSlot fun _ => Slot.sparesRight_beginIdent _
    · exact h

theorem State.Formed.shelfPulled {a : Nat} : s.Formed (answerShelfPulled a t).2 := by
  unfold answerShelfPulled
  split
  · exact h
  · split
    · exact h
    · split
      · exact h.setItemState
      · exact h

theorem State.Formed.mailLabel {a : Nat} : s.Formed (answerMailLabel a t).2 := by
  unfold answerMailLabel
  split
  · exact h
  · split
    · exact h
    · exact h.setItemState
    · exact h

theorem State.Formed.alarmPut {a b c d : Nat} : s.Formed (answerAlarmPut a b c d t).2 := by
  unfold answerAlarmPut
  split
  · exact h
  · exact h.setMail le_rfl id (List.length_set ..)

theorem State.Formed.binTake {a b : Nat} : s.Formed (answerBinTake a b t).2 := by
  have shorter (n : Nat) (l : List BinEntry) : LengthKept Config.binMax l (l.drop n) :=
    (List.drop_sublist n l).length_le.trans
  unfold answerBinTake
  split
  · exact h
  · next bin _ =>
    cases bin
    case reuse => exact h.setReturns (shorter _ _) id
    case inspect => exact h.setReturns id (shorter _ _)

theorem State.Formed.completeSet {a b c d : Nat} : s.Formed (t.completeSet a b c d) :=
  h.freeLoan.dropSets.moveCopy.noteTrigger.sweep

theorem State.Formed.returnLoan {a b : Nat} : s.Formed (answerReturnLoan a b t).2 := by
  unfold answerReturnLoan
  split
  · exact h
  · next l hl =>
    split
    · exact h
    · split
      · exact h
      · split
        · exact h
        · split
          · exact h
          · split
            · exact h.setLoan_over (State.findLoan_ok hl)
            · exact h.completeSet

theorem State.Formed.returnLate {a b c : Nat} : s.Formed (answerReturnLate a b c t).2 := by
  unfold answerReturnLate
  split
  · exact h
  · split
    · exact h
    · split
      · exact h
      · split
        · exact h
        · dsimp only
          split
          · exact h
          · split
            · exact h
            · split
              · exact h.useTitle
              · split
                · exact (h.setLost fun hl => by rw [List.length_map]; exact hl).useTitle
                · exact h.unloseCopy.moveCopy.sweep.useTitle

theorem State.Formed.setCalendar {c : Calendar} (hd : c.closedDays.length = t.calendar.closedDays.length)
    (hr : LengthKept Config.reminderMax t.calendar.reminders c.reminders) : s.Formed (t.setCalendar c) :=
  h.trans { State.Formed.refl t with closedDays := hd.trans, reminders := hr }

theorem State.Formed.setRoll {date : Nat} {p : RollPlace} : s.Formed (t.setRoll date p) := h.setCalendar rfl id

theorem State.Formed.beginRoll : s.Formed t.beginRoll := by
  have : s.Formed (t.setCalendar { t.calendar with within60 := false }) := h.setCalendar rfl id
  exact this.setRoll

theorem State.Formed.clockStop : s.Formed (answerClockStop t).2 := by
  unfold answerClockStop
  dsimp only
  split
  · exact h
  · split
    · exact State.Formed.raise (by exact h.setCalendar rfl id)
    · exact h

theorem State.Formed.clockSet {a b c d e f : Nat} : s.Formed (answerClockSet a b c d e f t).2 := by
  unfold answerClockSet
  dsimp only
  split
  · exact h
  · split
    · exact h
    · split
      · exact h
      · exact h.setClock

theorem State.Formed.clockStart : s.Formed (answerClockStart t).2 := by
  unfold answerClockStart
  dsimp only
  split
  · exact h
  · split
    · exact h
    · split
      · exact h
      · dsimp only [accept]
        split
        · exact h.setClock.beginRoll
        · exact h.setClock

theorem State.Formed.putClosedDay {a : Nat} {e : Option ClosedDay} : s.Formed (putClosedDay a e t).2 :=
  h.setCalendar (List.length_set ..) id

theorem State.Formed.answer (c : Instr) : s.Formed (answerOf c t).2 := by
  cases c
  case unknownRequest =>
    simp only [answerOf, answerUnknown]
    split
    · exact h
    · exact h
    · exact h
  case status => exact h.setLink
  case eventsEnable => exact h.setLink
  case contextSet =>
    simp only [answerOf, answerContextSet]
    split
    · exact h
    · split
      · exact h
      · exact h.setLink
  case settingsPut => exact h.setLink
  case patronPutCreate => exact h.patronCreate
  case patronPutUpdate => exact h.patronUpdate
  case patronGet =>
    simp only [answerOf, answerPatronGet]
    split
    · exact h
    · exact h.usePatron
  case patronPause => exact h.patronPause
  case patronClose => exact h.patronClose
  case titlePutCreate => exact h.titleCreate
  case titlePutUpdate => exact h.titleUpdate
  case titleGet =>
    simp only [answerOf, answerTitleGet]
    split
    · exact h
    · exact h.useTitle
  case titleWithdraw => exact h.titleWithdraw
  case copiesAdjustAdd | copiesAdjustRemove | copiesAdjustFound => exact h.copies
  case loanList =>
    simp only [answerOf, answerLoanList]
    split
    · exact h
    · exact h.usePatron
  case orderAdd => exact h.orderAdd
  case orderDrop => exact h.orderDrop
  case orderMove => exact h.orderMove
  case orderList =>
    simp only [answerOf, answerOrderList]
    split
    · exact h
    · exact h.usePatron
  case holdList =>
    simp only [answerOf, answerHoldList]
    split
    · exact h
    · split
      · exact h
      · exact h.useTitle
  case planNow => exact h.noteTrigger
  case planCancel => exact h.planCancel
  case fetchNext => exact h.fetchNext
  case fetchAbandon => exact h.fetchAbandon
  case preload => exact h.preload
  case imageDrop => exact h.imageDrop
  case slotHold => exact h.slotHold
  case slotRelease => exact h.slotRelease
  case slotClear => exact h.slotClear
  case shelfPulled => exact h.shelfPulled
  case mailLabel => exact h.mailLabel
  case alarmPut => exact h.alarmPut
  case returnVolumeLoan => exact h.returnLoan
  case returnVolumeLate => exact h.returnLate
  case binTake => exact h.binTake
  case clockStop => exact h.clockStop
  case clockSet => exact h.clockSet
  case clockStart => exact h.clockStart
  case closedDayPutUsed =>
    simp only [answerOf, answerClosedUsed]
    split
    · exact h
    · split
      · exact h
      · exact h.putClosedDay
  case closedDayPutClear =>
    simp only [answerOf, answerClosedClear]
    split
    · exact h
    · exact h.putClosedDay
  case remindersRead => exact h.setCalendar rfl (List.drop_sublist _ _).length_le.trans
  case loanGet | planGet | manifestGet | binList | slotStatus =>
    simp only [answerOf, answerLoanGet, answerPlanGet, answerManifestGet, answerBinList, answerSlotStatus]
    split
    · exact h
    · exact h
  case slotFaultGet =>
    simp only [answerOf, answerSlotFaultGet]
    split
    · exact h
    · split
      · exact h
      · exact h
  all_goals exact h

/-! ### The mail desk -/

theorem State.Formed.closeBegin : s.Formed t.closeBegin := by
  unfold State.closeBegin
  split
  · exact h.raise
  · exact h.setMail le_rfl id rfl

theorem State.Formed.closeCall : s.Formed t.closeCall := by
  unfold State.closeCall
  split
  · exact h.setMail le_rfl id rfl
  · split
    · exact h.setMail le_rfl id rfl
    · exact h.closeBegin

theorem State.Formed.storeBatch {m : Manifest} : s.Formed (t.storeBatch m) :=
  State.Formed.raise (by exact h.setMail le_rfl (fun _ => storeManifest_length _ _) rfl)

theorem State.Formed.takeWaiting : s.Formed t.takeWaiting := by
  have taken : s.Formed (t.setMail { t.mail with waitingClose := false }) := h.setMail le_rfl id rfl
  unfold State.takeWaiting
  split
  · dsimp only
    split
    · exact taken.setMail le_rfl id rfl
    · split
      · exact taken
      · exact taken.closeBegin
  · exact h

theorem State.Formed.closeEnd {c : Close} : s.Formed (t.closeEnd c) := by
  have ended : s.Formed (t.setMail { t.mail with close := none }) := h.setMail le_rfl id rfl
  refine State.Formed.takeWaiting ?_
  split
  · dsimp only
    split
    · exact ended.storeBatch.sweep
    · exact ended.storeBatch
  · exact ended.raise

theorem State.Formed.appendEntry {c : Close} {e : ManifestEntry} : s.Formed (t.appendEntry c e) := by
  unfold State.appendEntry
  split
  · exact h.setMail le_rfl id rfl
  · exact h.setMail le_rfl id rfl

theorem State.Formed.recordService {k date : Nat} {cats : List Nat} : s.Formed (t.recordService k cats date) :=
  h.onPatron (fun _ => rfl) fun _ hf =>
    ⟨(historyAdd_all_fits hf.1 hf.2.1 _).1, (historyAdd_all_fits hf.1 hf.2.1 _).2, hf.2.2⟩

theorem State.Formed.recordDispatch {item n : Nat} : s.Formed (t.recordDispatch item n) := by
  unfold State.recordDispatch
  dsimp only
  split
  · exact h.setSlot fun hs => hs.of rfl rfl (.inr rfl)
  · exact h

theorem State.Formed.dispatchCartridge {c : Close} {i : Item} {plan serial id : Nat}
    (hi : t.records.loans.free Config.loanMax = some id) : s.Formed (t.dispatchCartridge c i plan serial id) := by
  unfold State.dispatchCartridge
  exact ((((h.setLoan_free hi).removeEntries.recordService.erasePlan.noteTrigger.removeItem).foldl
    fun _ _ hu => hu.recordDispatch).appendEntry)

theorem State.Formed.dispatchSet {c : Close} {i : Item} {k copy id : Nat}
    (hi : t.records.loans.free Config.loanMax = some id) : s.Formed (t.dispatchSet c i k copy id) :=
  State.Formed.appendEntry (by
    exact (h.setLoan_free hi).moveCopy.removeEntries.recordService.removeItem.setMail le_rfl (fun hm => hm) rfl)

theorem State.Formed.afterDispatch : s.Formed t.afterDispatch := by
  unfold State.afterDispatch
  split
  · split
    · exact h.closeEnd
    · exact h
  · exact h

theorem State.Formed.stepCartridge : s.Formed t.stepCartridge := by
  unfold State.stepCartridge
  split
  · exact h
  · exact h.closeEnd
  · split
    · next hi => exact (h.dispatchCartridge hi).afterDispatch
    · exact h

theorem State.Formed.stepSet : s.Formed t.stepSet := by
  unfold State.stepSet
  split
  · exact h
  · exact h.closeEnd
  · split
    · next hi => exact (h.dispatchSet hi).afterDispatch
    · exact h

/-! ### The returns desk -/

theorem State.Formed.setReader {st : ReaderState} {b : Bool} : s.Formed (t.setReader st b) := h.setReturns id id

theorem State.Formed.keepRead {i : Option Identity} : s.Formed (t.keepRead i) := h.setReturns id id

theorem State.Formed.setResult {x : Result} : s.Formed (t.setResult x) := State.Formed.raise (by exact h.setReturns id id)

theorem State.Formed.push {b : BinName} {serial : Option Nat} {reason : BinReason}
    (room : (t.returns.bin b).length < Config.binMax) : s.Formed (t.push b serial reason) := by
  have pushed : s.Formed (t.setReturns (t.returns.setBin b
      ({ serial := serial, reason := reason, date := t.today } :: t.returns.bin b))) := by
    cases b
    · exact h.setReturns (fun _ => room) id
    · exact h.setReturns id fun _ => room
  unfold State.push
  dsimp only
  split
  · exact pushed.raise
  · exact pushed

omit h in
/-- A bin is chosen only where it has room (R142). -/
theorem room_of_chooseBin {c : Classification} {reuse inspect : Nat} {b : BinName} {reason : BinReason} {spill : Bool}
    (hb : chooseBin c reuse inspect = (some (b, reason), spill)) :
    (match b with
      | .reuse => reuse
      | .inspect => inspect) < Config.binMax := by
  unfold chooseBin at hb
  split at hb
  · split at hb
    · cases hb; assumption
    · split at hb
      · cases hb; assumption
      · cases hb
  · split at hb
    · cases hb; assumption
    · cases hb

theorem State.Formed.binCartridge {c : Classification} {x : Result} : s.Formed (t.binCartridge c x) := by
  unfold State.binCartridge
  split
  · next b reason spill hb =>
    refine State.Formed.setResult (h.push ?_)
    have := room_of_chooseBin hb
    cases b
    · exact this
    · exact this
  · exact h.setResult

theorem State.Formed.relate {serial : Nat} : s.Formed (t.relate serial).2 := by
  unfold State.relate
  split
  · exact h.freeLoan.dropCarts.noteTrigger
  · split
    · exact h.unlose
    · exact h

theorem State.Formed.classify {serial : Nat} {cls : Cls} {cycles : Nat} : s.Formed (t.classify serial cls cycles) :=
  h.relate.binCartridge

theorem State.Formed.classifyHeld {p : Pending} {slot : Nat} : s.Formed (t.classifyHeld p slot) :=
  h.relate.setResult

theorem State.Formed.readerRead {i : Option Identity} : s.Formed (t.readerRead i) := by
  have ends {u : State} (hu : s.Formed u) : s.Formed (u.readEnds i) := by
    unfold State.readEnds
    split
    · exact hu.setReader.binCartridge
    · dsimp only
      split
      · exact hu.setReader.setResult
      · split
        · exact hu.setReader.setResult
        · split
          · exact hu.setReturns id id
          · exact hu.setReader.classify
  unfold State.readerRead
  split
  · exact h
  · split
    · exact ends h.keepRead
    · exact h.keepRead.setReturns id id

theorem State.Formed.completePending : s.Formed t.completePending := by
  unfold State.completePending
  split
  · exact h
  · next p _ =>
    have taken : s.Formed (t.setReturns { t.returns with pending := none }) := h.setReturns id id
    have after {u : State} (hu : s.Formed u) : s.Formed u.afterPending := by
      unfold State.afterPending
      split
      · exact hu.setReader
      · split
        · split
          · exact hu.setReader
          · exact hu.setReader
        · exact hu.setReader
    dsimp only
    refine State.Formed.setReturns (after ?_) id id
    split
    · exact taken.classifyHeld
    · exact taken.classify

/-! ### The calendar -/

theorem State.Formed.minuteBoundary : s.Formed t.minuteBoundary := by
  have warned : s.Formed t.warnRoll := by
    unfold State.warnRoll
    split
    · exact State.Formed.raise (by exact h.setCalendar rfl id)
    · exact h.setCalendar rfl id
  have drawn (n : Nat) : s.Formed (t.warnRoll.setDrawn n) := warned.same rfl
  unfold State.minuteBoundary
  dsimp only
  split
  · split
    · exact (drawn _).beginRoll.closeCall
    · exact (drawn _).closeCall.beginRoll
  · split
    · exact warned.beginRoll
    · split
      · exact warned.closeCall
      · exact warned

theorem State.Formed.endStop : s.Formed t.endStop := by
  unfold State.endStop
  split
  · dsimp only
    split
    · exact h.setCalendar rfl id
    · exact State.Formed.raise (by exact h.setCalendar rfl id)
  · exact h

theorem State.Formed.tick : s.Formed t.tick := by
  unfold State.tick
  split
  · dsimp only
    split
    · exact h.setClock.minuteBoundary.endStop
    · exact h.setClock.endStop
  · exact h

theorem State.Formed.writeOff {id date : Nat} {l : Loan} : s.Formed (t.writeOff id l date) := by
  have lost : s.Formed (((t.setLost (appendLost t.records.lost (l.lost date))).freeLoan id).noteTrigger) :=
    (h.setLost fun _ => appendLost_length _ _).freeLoan.noteTrigger
  unfold State.writeOff
  dsimp only
  split
  · exact lost.dropCarts
  · exact lost.dropSets.moveCopy.sweepPatron

theorem State.Formed.rollLoan {id date : Nat} {l : Loan} (hl : t.loan id = some l) : s.Formed (t.rollLoan id l date) := by
  unfold State.rollLoan
  split
  · exact h
  · have reminded (x : Nat × List Reminder)
        (hx : x.2.length ≤ Config.reminderMax - t.calendar.reminders.length) :
        s.Formed (t.setCalendar { t.calendar with reminders := t.calendar.reminders ++ x.2 }) := by
      refine h.setCalendar rfl fun hm => ?_
      rw [List.length_append]
      omega
    have raised := (reminded _ (raiseStages_length id l.patron date (date - l.due) l.stage
      (Config.reminderMax - t.calendar.reminders.length) 3)).setLoan_over (id := id) (l := l)
      (m := { l with
        overdue := true
        stage := (raiseStages id l.patron date (date - l.due) l.stage
          (Config.reminderMax - t.calendar.reminders.length) 3).1 }) hl
    dsimp only
    split
    · exact raised.writeOff
    · exact raised

theorem State.Formed.loanStep : s.Formed t.loanStep := by
  unfold State.loanStep
  split
  · split
    · split
      · next hl => exact (h.rollLoan hl).setRoll
      · exact h
    · exact h.setRoll
  · exact h

theorem State.Formed.rollPatron {k : Nat} {p : Patron} (hp : t.patron k = some p) : s.Formed (t.rollPatron k p) := by
  unfold State.rollPatron
  split
  · have active : s.Formed (t.setPatron k { p with state := .active, pauseUntil := none }) := h.setPatron hp rfl id
    exact active.sweepPatron
  · unfold State.releasePatron
    dsimp only
    split
    · exact h.freePatron.setLink
    · exact h.freePatron
  · exact h

theorem State.Formed.patronStep : s.Formed t.patronStep := by
  unfold State.patronStep
  split
  · split
    · split
      · next hp => exact (h.rollPatron hp).setRoll
      · exact h
    · exact h.setRoll
  · exact h

theorem State.Formed.deferralStep : s.Formed t.deferralStep := by
  unfold State.deferralStep
  split
  · exact h.clearDeferrals.setRoll
  · exact h

theorem State.Formed.dropHeld : s.Formed t.dropHeld := by
  unfold State.dropHeld
  split
  · exact h.setMail le_rfl id rfl
  · exact h

theorem State.Formed.finishStep : s.Formed t.finishStep := by
  unfold State.finishStep
  split
  · refine State.Formed.dropHeld ?_
    split
    · exact State.Formed.raise (State.Formed.raise (by exact h.setCalendar rfl id))
    · exact State.Formed.raise (by exact h.setCalendar rfl id)
  · exact h

theorem State.Formed.releaseClose : s.Formed t.releaseClose := by
  have dropped : s.Formed (t.setMail { t.mail with heldClose := false }) := h.setMail le_rfl id rfl
  unfold State.releaseClose
  dsimp only
  split
  · exact dropped
  · exact dropped.closeCall

end Formed

end Sys2Proof.Machine

end

section
/-!
PROOF. The forms and sizes over a start, and over every move of the part: obligations O6 and O8.
-/

namespace Sys2Proof.Machine

section Formed

variable {s t : State} (h : s.Formed t)
include h

/-! ### The start and the end of work -/

theorem State.Formed.setBanks {f : Store} (hb : f.banks.length = Config.banks)
    (hi : f.images = t.store.images) (hf : f.fetches = t.store.fetches) (hl : f.flash = t.store.flash) : s.Formed (t.setStore f) := by
  refine h.trans { State.Formed.refl t with banks := fun _ => hb, images := ?_, fetches := ?_, flash := ?_ }
  · rw [State.setStore_store, hi]; exact id
  · rw [State.setStore_store, hf]; exact id
  · rw [State.setStore_store, hl]; exact id

theorem State.Formed.mapRack {f : Slot → Slot} (hf : ∀ sl, sl.sparesRight → (f sl).sparesRight) :
    s.Formed (t.setRack (t.rack.map f)) := h.setRack (RackKept.map hf)

theorem State.Formed.endWork : s.Formed t.endWork := by
  have planned (x : Planner) (hx : x.plans = t.planner.plans) : s.Formed (t.setPlanner x) := h.same (by simp [State.forms, hx])
  unfold State.endWork
  refine State.Formed.setCalendar ?_ rfl fun hr => hr
  refine State.Formed.setReturns ?_ (fun hr => hr) fun hi => hi
  refine State.Formed.setMail ?_ le_rfl (fun hm => hm) rfl
  refine State.Formed.mapRack ?_ fun sl _ => Slot.sparesRight.of_none rfl rfl fun _ ho => nomatch ho
  exact State.Formed.setBanks (by exact planned _ rfl) List.length_replicate rfl rfl rfl

theorem State.Formed.emptyPipe : s.Formed t.emptyPipe := h.setLink

theorem State.Formed.losePower : s.Formed t.losePower := h.endWork.clearLink.emptyPipe.setRun

theorem State.Formed.assertReset : s.Formed t.assertReset := h.endWork.clearLink.emptyPipe.setRun

theorem State.Formed.emptyRecords : s.Formed t.emptyRecords := by
  have none {α : Type} {P : α → Prop} : ∀ e ∈ ([] : List α), P e := fun _ he => nomatch he
  refine State.Formed.raise (State.Formed.setLink (h.trans ?_))
  exact ⟨⟨fun _ => rfl, fun _ _ => none, fun _ _ _ => none, fun _ => none, fun _ => none⟩,
    ⟨fun _ => rfl, fun _ _ => none, fun _ _ _ => none, fun _ => none, fun _ => none⟩, ⟨fun _ => rfl, fun _ => none⟩,
    fun _ => Nat.zero_le _, fun _ => rfl, fun _ => rfl, fun _ => Nat.zero_le _, fun hf => hf, fun _ => rfl,
    ⟨rfl, fun hs => hs⟩, fun _ => Nat.zero_le _, fun _ => Nat.zero_le _, fun _ => rfl, fun _ => Nat.zero_le _,
    fun _ => Nat.zero_le _, fun _ => rfl, fun _ => Nat.zero_le _⟩

theorem State.Formed.mapImages {f : Nat × Image → Nat × Image} (hf : ∀ e, (f e).1 = e.1) :
    s.Formed (t.setStore { t.store with images := t.store.images.map f }) :=
  h.setImages fun hs => by rw [Table.rising_map _ f hf]; exact hs

theorem State.Formed.recountPins : s.Formed t.recountPins := h.mapImages fun _ => rfl

theorem State.Formed.rebuildImages : s.Formed t.rebuildImages := by
  have recreated : s.Formed t.recreateFilling :=
    (h.mapImages (f := fun e => (e.1, e.2.discard)) fun _ => rfl).foldl fun _ _ hu => hu.onImage
  have reset : s.Formed (t.recreateFilling.setStore { t.recreateFilling.store with
      fetches := t.recreateFilling.store.fetches.map (fun f => { f with state := .waiting, next := 0 })
      banks := List.replicate Config.banks Bank.idle }) :=
    recreated.trans { State.Formed.refl t.recreateFilling with
      fetches := fun hl => by rw [State.setStore_store, List.length_map]; exact hl
      banks := fun _ => List.length_replicate }
  unfold State.rebuildImages
  dsimp only
  split
  · exact reset.recountPins
  · exact reset.recountPins.raise

theorem State.Formed.rebuildMail : s.Formed t.rebuildMail := by
  unfold State.rebuildMail
  split
  · split
    · exact h.setMail le_rfl id rfl
    · exact h.storeBatch
  · exact h

theorem State.Formed.beginService : s.Formed t.beginService := by
  have begun : s.Formed (if (t.setRun .running).rollDue then (t.setRun .running).beginRoll else t.setRun .running) := by
    split
    · exact h.setRun.beginRoll
    · exact h.setRun
  refine State.Formed.setReturns (State.Formed.mapRack begun.noteTrigger.takeTrigger fun sl _ => ?_) (fun hr => hr)
    fun hi => hi
  unfold Slot.startUp
  split
  · exact (Slot.sparesRight_beginIdent Slot.bare).of rfl rfl (.inr rfl)
  · exact Slot.sparesRight_bare

theorem State.Formed.rebuild : s.Formed t.rebuild := by
  have mailed : s.Formed t.rebuildPlans.rebuildImages.rebuildMail :=
    State.Formed.rebuildMail (State.Formed.rebuildImages (h.foldl fun _ _ hu => hu.returnPlan))
  refine State.Formed.beginService ?_
  unfold State.rebuildReturns
  split
  · exact mailed
  · exact mailed.completePending

theorem State.Formed.powerOn {held good : Bool} : s.Formed (t.powerOn held good) := by
  have taken : s.Formed (t.losePower.takeBackup held good) := by
    unfold State.takeBackup
    dsimp only
    split
    · exact h.losePower.setLink
    · exact h.losePower.setLink.raise
  refine State.Formed.rebuild ?_
  split
  · exact taken
  · exact taken.emptyRecords

theorem State.Formed.link {u : State} (hu : t.LinkMove u) : s.Formed u := by
  cases hu with
  | arrive =>
    unfold State.arrive
    split
    · exact h.setLink
    · exact h.raise
  | form => exact h.setLink
  | write => exact h.setLink
  | take => exact h.setLink
  | place =>
    unfold State.placeReply
    split
    · split
      · exact h.setLink
      · exact h
    · exact h
  | replyEvents =>
    unfold State.replyEvents
    split
    · exact h.setLink
    · exact h
  | raise => exact h.raise
  | frame => exact h.setLink

theorem State.Formed.readerInsert : s.Formed t.readerInsert := by
  have put : s.Formed (t.setReturns { t.returns with present := true }) := h.setReturns id id
  unfold State.readerInsert
  dsimp only
  split
  · exact put.setReader
  · exact put

theorem State.Formed.readerRemove : s.Formed t.readerRemove := by
  have taken : s.Formed (t.setReturns { t.returns with present := false, identifying := false, kept := none }) :=
    h.setReturns id id
  unfold State.readerRemove
  dsimp only
  split
  · exact taken.setReturns id id
  · exact taken.setReader

/-- Every move of the part keeps the forms and sizes. -/
theorem State.Formed.move {u : State} (hu : t.Move u) : s.Formed u := by
  cases hu with
  | link hl => exact h.link hl
  | trigger => exact h.takeTrigger
  | answer c => exact h.answer c
  | restart => exact h.setLink.endWork.clearLink.rebuild
  | feed => exact h.handFill
  | socket hn hr he => exact h.socket he
  | tick => exact h.tick
  | dispatchCartridge => exact h.stepCartridge
  | dispatchSet => exact h.stepSet
  | readerRead => exact h.readerRead
  | loanStep => exact h.loanStep
  | patronStep => exact h.patronStep
  | deferralStep => exact h.deferralStep
  | finishStep => exact h.finishStep
  | noteTrigger => exact h.noteTrigger
  | follow => exact h.setFollow
  | releaseClose => exact h.releaseClose
  | completePending => exact h.completePending
  | powerOn => exact h.powerOn
  | losePower => exact h.losePower
  | assertReset => exact h.assertReset
  | releaseReset => exact h.rebuild
  | present => exact h.setPresent
  | insert => exact h.insertCartridge
  | remove => exact h.removeCartridge
  | fill => exact h.fillComplete
  | read => exact h.readComplete
  | readerPresent => exact h.setReturns id id
  | readerInsert => exact h.readerInsert
  | readerRemove => exact h.readerRemove

end Formed

/-- A step keeps the forms and sizes. -/
theorem step_formed {s t : State} (h : step s = .next t) : s.Formed t :=
  step_keeps (P := s.Formed) (fun _ _ hm hu => hu.move hm) (fun _ hu => hu.passStep)
    (fun _ _ hu => hu.trans { State.Formed.refl _ with }) h (.refl s)

theorem State.Formed.shaped {s t : State} (h : s.Formed t) (hs : s.shaped) : t.shaped := by
  obtain ⟨rack, banks, alarms, closedDays, copies⟩ := hs
  exact ⟨h.rack.1.trans rack, h.banks banks, h.alarms alarms, h.closedDays closedDays, h.titles.shapely copies⟩

theorem State.Formed.ordered {s t : State} (h : s.Formed t) (hs : s.ordered) : t.ordered := by
  obtain ⟨patrons, titles, loans, plans, images⟩ := hs
  exact ⟨h.patrons.rising patrons, h.titles.rising titles, h.loans.1 loans, h.plans plans, h.images images⟩

theorem State.Formed.numbered {s t : State} (h : s.Formed t) (ho : s.ordered) (hs : s.numbered) : t.numbered := by
  obtain ⟨patrons, titles, -, -, -⟩ := ho
  obtain ⟨patronIndex, titleIndex, loanIndex, number, catalogue⟩ := hs
  exact ⟨h.patrons.indexed patrons patronIndex, h.titles.indexed titles titleIndex, h.loans.2 loanIndex,
    (Table.distinct_iff_nodup (h.patrons.rising patrons)).1
      (h.patrons.distinct patrons patronIndex ((Table.distinct_iff_nodup patrons).2 number)),
    (Table.distinct_iff_nodup (h.titles.rising titles)).1
      (h.titles.distinct titles titleIndex ((Table.distinct_iff_nodup titles).2 catalogue))⟩

theorem State.Formed.bounded {s t : State} (h : s.Formed t) (hs : s.bounded) : t.bounded := by
  obtain ⟨patrons, titles, lost, reminders, manifests, reuse, inspect, fetches, tray, spares⟩ := hs
  exact ⟨h.patrons.fits patrons, h.titles.fits titles, h.lost lost, h.reminders reminders, h.manifests manifests,
    h.reuse reuse, h.inspect inspect, h.fetches fetches, h.tray tray, h.rack.2 spares⟩

end Sys2Proof.Machine

namespace Sys2Proof.Proofs

open Sys2Proof Sys2Proof.Machine

/-- Settles O6: each table is written through its own operations, a number only where it is free. -/
theorem stepKeepsFormsAndNumbers : Obligations.StepKeepsFormsAndNumbers := by
  unfold Obligations.StepKeepsFormsAndNumbers
  exact ⟨⟨fun _ _ h => (step_formed h).shaped, fun _ _ h => (step_formed h).ordered⟩,
    fun _ _ h => (step_formed h).flash, fun _ _ h => (step_formed h).numbered⟩

/-- Settles O8: each list grows only where the operation that adds to it has found room, or drops its oldest. -/
theorem stepKeepsListsBounded : Obligations.StepKeepsListsBounded := by
  unfold Obligations.StepKeepsListsBounded
  exact fun _ _ h => (step_formed h).bounded

end Sys2Proof.Proofs

end

section
/-!
PROOF. The Fetch Queue and its frames (R70 to R72): obligation O43.
-/

namespace Sys2Proof.Machine

/-- A request whose answer leaves no trigger behind forms that answer, whatever its status. -/
theorem exec_answered_quiet {c : Instr} {s : State} {i : Nat} {a : Reply × State} (h : s.serves i c)
    (ha : answeredApart c = false) (hf : answerOf c s = a) (hq : a.2.quiet) : exec c s = .next (a.2.formReply i a.1) := by
  obtain ⟨-, -, -, code, tag, body, hc, -⟩ := id h
  rw [exec_request hc ha, State.serve_of_serves h hc, hf]
  exact congrArg _ (State.takeTrigger_of_quiet (by simpa [State.quiet, State.formReply] using hq))

/-- An IMAGE DATA whose turn it is. -/
theorem exec_imageData_of_serves {s : State} {i tag id frame : Nat} {data : List Byte} (h : s.serves i (.imageData tag id frame data)) :
    exec (.imageData tag id frame data) s = .next (
      if data.length = 4096 ∧ s.fillOutstanding id then s
      else
        match s.judgeData id frame data with
        | .inl r => s.formReply i r
        | .inr f => (s.setQueue (setStage s.link.queue i (.writing id))).handFill (s.fillOf f frame data)) := by
  change Host.Outcome.next (s.takeFrame tag id frame data) = _
  rw [State.takeFrame, State.takeRequest_of_serves h rfl]
  rfl

theorem framesOf_eq (pages : Nat) : framesOf pages = (pages + 7) / 8 := by
  simp [framesOf, ceilDiv, Config.framePages]

end Sys2Proof.Machine

namespace Sys2Proof.Proofs

open Sys2Proof Sys2Proof.Machine

/-- Settles O43: FETCH NEXT takes the first WAITING fetch, and IMAGE DATA is judged in the order of R72. -/
theorem streamsStartedAndFed : Obligations.StreamsStartedAndFed := by
  refine ⟨fun s i tag h hq => ⟨fun f r hf hs hr => ?_, fun hs => ?_⟩, fun s i tag id fr data h hq => ?_⟩
  · have room : ¬Config.streamMax ≤ s.streams := Nat.not_le.2 hs
    refine exec_answered_quiet (a := accept (s.startStream f.id) (u8 f.id ++ u32 r.catalogue ++ u16 f.title ++
      u32 r.pages ++ u32 f.expected ++ u8 f.retries ++ u8 (if 0 < s.pins f.title then 0 else 1))) h rfl ?_ ?_
    · simp [answerOf, answerFetchNext, hf, room, State.catalogue, State.pagesOf, hr, State.fetchKind]
    · exact hq
  · refine exec_answered_quiet (a := refuseWith s .state (u8 s.streams ++ u8 s.waitingFetches)) h rfl ?_ hq
    simp only [answerOf, answerFetchNext]
    split
    · rfl
    · next f hf =>
      have full : 2 ≤ s.streams := hs.resolve_right fun hn =>
        hn f (List.mem_of_find?_eq_some hf) (by simpa using List.find?_some hf)
      exact if_pos full
  · have judged {r : Reply} (hj : s.judgeData id fr data = .inl r) (hw : ¬(data.length = 4096 ∧ s.fillOutstanding id = true)) :
        exec (.imageData tag id fr data) s = .next (s.formReply i r) := by
      rw [exec_imageData_of_serves h, if_neg hw, hj]
    refine ⟨fun hl => ?_, fun hl ho => ?_, fun hl ho => ?_⟩
    · exact judged (by simp [State.judgeData, Config.frameBytes, hl]) fun hw => hl hw.1
    · rw [exec_imageData_of_serves h, if_pos ⟨hl, ho⟩]
    · have free : ¬(data.length = 4096 ∧ s.fillOutstanding id = true) := by simp [ho]
      have size : ¬data.length ≠ Config.frameBytes := not_not.2 hl
      refine ⟨fun hf => judged (by simp [State.judgeData, size, hf]) free, fun f hf => ⟨fun hx => ?_, fun hx hw => ?_,
        fun hx hw hn => ?_, fun hx hw hn => ?_, fun e r hx hw hn he hr => ?_⟩⟩
      · exact judged (by simp [State.judgeData, size, hf, hx]) free
      · exact judged (by simp [State.judgeData, size, hf, Nat.not_le.2 hx, hw]) free
      · exact judged (by simp [State.judgeData, size, hf, Nat.not_le.2 hx, hw, hn, frameFields, u8]) free
      · exact judged (by simp [State.judgeData, size, hf, Nat.not_le.2 hx, hw, Nat.not_lt.2 hn.le, hn]) free
      · have next : s.judgeData id fr data = .inr f := by
          subst hn
          simp [State.judgeData, size, hf, Nat.not_le.2 hx, hw]
        have named : f.id = id := by simpa using List.find?_some hf
        rw [exec_imageData_of_serves h, if_neg free, next]
        simp only [State.fillOf, frameData, State.pagesOf, named, he, hr, framesOf_eq]
        rfl

end Sys2Proof.Proofs

end

section
/-!
PROOF. Candidates, the greedy walk, the plan it makes, and the Service List (R42 to R46): obligation O40.
-/

namespace Sys2Proof.Machine

/-! ## The walk (R43) -/

/-- One step of the walk: what a candidate makes of what has been taken. -/
def State.walkStep (s : State) (capacity : Nat) (w : Walk) (e : OrderEntry) : Walk :=
  if 8 ≤ w.taken.length then w
  else if capacity < blockSize (s.pagesOf e.title) then { w with oversize := w.oversize ++ [e.title] }
  else if blockSize (s.pagesOf e.title) ≤ w.room then
    { w with
      taken := w.taken ++ [{ title := e.title, pages := s.pagesOf e.title, rush := e.rush }]
      room := w.room - blockSize (s.pagesOf e.title) }
  else w

theorem State.walk_full {s : State} {capacity : Nat} {w : Walk} (h : 8 ≤ w.taken.length) (l : List OrderEntry) :
    l.foldl (s.walkStep capacity) w = w := by
  induction l with
  | nil => rfl
  | cons e l ih => rw [List.foldl_cons, State.walkStep, if_pos h, ih]

theorem State.greedy_eq_foldl (s : State) (capacity : Nat) (l : List OrderEntry) (w : Walk) :
    s.greedy capacity l w = l.foldl (s.walkStep capacity) w := by
  induction l generalizing w with
  | nil => rfl
  | cons e l ih =>
    rw [List.foldl_cons]
    unfold State.greedy
    split
    · next full =>
      have kept : s.walkStep capacity w e = w := if_pos full
      rw [kept, State.walk_full full]
    · next room =>
      have notFull : ¬8 ≤ w.taken.length := room
      simp only [ih, State.walkStep, if_neg notFull]
      split
      · rfl
      · split
        · rfl
        · rfl

/-- What the walk has made of the first of the candidates. -/
def State.walkTo (s : State) (p : Patron) (j : Nat) : Walk :=
  ((s.candidates p).take j).foldl (s.walkStep p.cls.usable) { taken := [], oversize := [], room := p.cls.usable }

theorem State.pack_eq (s : State) (p : Patron) : s.pack p = s.walkTo p (s.candidates p).length := by
  rw [State.pack, State.greedy_eq_foldl, State.walkTo, List.take_length]

theorem State.walkTo_succ {s : State} {p : Patron} {j : Nat} {e : OrderEntry} (h : (s.candidates p)[j]? = some e) :
    s.walkTo p (j + 1) = s.walkStep p.cls.usable (s.walkTo p j) e := by
  rw [State.walkTo, List.take_add_one, h, List.foldl_append]
  rfl

/-- What the walk keeps: at most 8 taken, from the candidates and in their order, within the room. -/
structure State.Walked (s : State) (p : Patron) (l : List OrderEntry) (w : Walk) : Prop where
  few : w.taken.length ≤ 8
  order : (w.taken.map (·.title)).Sublist (l.map (·.title))
  pages : ∀ x ∈ w.taken, x.pages = s.pagesOf x.title
  room : usedBlocks w.taken + w.room = p.cls.usable

theorem State.Walked.step {s : State} {p : Patron} {l : List OrderEntry} {w : Walk} (h : s.Walked p l w) (e : OrderEntry) :
    s.Walked p (l ++ [e]) (s.walkStep p.cls.usable w e) := by
  have longer : (w.taken.map (·.title)).Sublist ((l ++ [e]).map (·.title)) :=
    h.order.trans ((List.sublist_append_left l [e]).map _)
  unfold State.walkStep
  split
  · exact ⟨h.few, longer, h.pages, h.room⟩
  · next few =>
    split
    · exact ⟨h.few, longer, h.pages, h.room⟩
    · split
      · next fits =>
        refine ⟨?_, ?_, fun x hx => ?_, ?_⟩
        · rw [List.length_append, List.length_singleton]
          omega
        · rw [List.map_append, List.map_append]
          exact h.order.append (List.Sublist.refl _)
        · rcases List.mem_append.1 hx with hx | hx
          · exact h.pages x hx
          · rw [List.mem_singleton.1 hx]
        · have := h.room
          simp only [usedBlocks, List.map_append, List.sum_append, List.map_cons, List.map_nil, List.sum_cons,
            List.sum_nil] at this ⊢
          omega
      · exact ⟨h.few, longer, h.pages, h.room⟩

theorem State.pack_walked (s : State) (p : Patron) : s.Walked p (s.candidates p) (s.pack p) := by
  rw [State.pack, State.greedy_eq_foldl]
  refine List.reverseRecOn (s.candidates p) ?_ fun l e ih => ?_
  · exact ⟨Nat.zero_le _, List.Sublist.refl _, fun _ hx => (nomatch hx), Nat.zero_add _⟩
  · rw [List.foldl_append]
    exact ih.step e

/-! ## Candidates (R42) -/

theorem State.candidate_iff (s : State) (p : Patron) (e : OrderEntry) :
    s.candidate p e = true ↔ e.state = .waiting ∧ ∃ t, s.title e.title = some t ∧ t.format.hasImage = true ∧
      p.media.holds t.format = true ∧ t.withdrawn = false ∧ t.bad = false := by
  unfold State.candidate
  cases s.title e.title with
  | none => simp
  | some t => simp [and_assoc]

theorem State.mem_candidates {s : State} {p : Patron} {e : OrderEntry} (h : e ∈ s.candidates p) :
    s.candidate p e = true := by
  simp only [State.candidates, List.mem_append, List.mem_filter] at h
  rcases h with h | h
  · exact h.1.2
  · exact h.1.2

/-! ## The plan (R44, R45) -/

theorem placeFrom_getElem? (start : Nat) (l : List Taken) (j : Nat) :
    (placeFrom start l)[j]? = l[j]?.map (fun x =>
      { title := x.title, start := start + (((placeFrom start l).take j).map (·.blocks)).sum
        blocks := blockSize x.pages, pages := x.pages }) := by
  induction l generalizing start j with
  | nil => simp [placeFrom]
  | cons x l ih =>
    cases j with
    | zero => simp [placeFrom]
    | succ j =>
      simp only [placeFrom, List.getElem?_cons_succ, List.take_succ_cons, List.map_cons, List.sum_cons, ih]
      congr 2
      funext x
      simp [Nat.add_assoc]

theorem placeFrom_map (start : Nat) (l : List Taken) :
    (placeFrom start l).map (fun q => (q.title, q.blocks, q.pages)) =
      l.map (fun x => (x.title, blockSize x.pages, x.pages)) := by
  induction l generalizing start with
  | nil => rfl
  | cons x l ih => simp only [placeFrom, List.map_cons, ih]

/-- What the placements are of what was taken. -/
theorem placeFrom_map_of {β : Type} (start : Nat) (l : List Taken) (f : Nat → Nat → Nat → β) :
    (placeFrom start l).map (fun q => f q.title q.blocks q.pages) =
      l.map (fun x => f x.title (blockSize x.pages) x.pages) := by
  have := congrArg (List.map (fun e : Nat × Nat × Nat => f e.1 e.2.1 e.2.2)) (placeFrom_map start l)
  rwa [List.map_map, List.map_map] at this

theorem planClass_usable {used : Nat} (h : used ≤ Cls.c8.usable) : used ≤ (planClass used).usable := by
  unfold planClass
  split
  · assumption
  · split
    · assumption
    · exact h

theorem planClass_least {used : Nat} {c : Cls} (h : used ≤ c.usable) : (planClass used).rank ≤ c.rank := by
  unfold planClass
  split
  · exact Nat.zero_le _
  · split
    · cases c
      · contradiction
      · exact Nat.le_refl _
      · decide
    · cases c
      · contradiction
      · contradiction
      · exact Nat.le_refl _

theorem Cls.usable_le (c : Cls) : c.usable ≤ Cls.c8.usable := by
  cases c <;> decide

theorem blockSize_eq (pages : Nat) : blockSize pages = (pages + 511) / 512 := by
  simp [blockSize, ceilDiv, Config.blockPages]

/-! ## The Service List (R46) -/

theorem State.mem_serviceList {s : State} (ho : s.records.patrons.rising = true) {k : Nat} :
    k ∈ s.serviceList ↔ ∃ p, s.patron k = some p ∧ s.serviceable p = true := by
  simp only [State.serviceList, List.mem_map, mem_sortByKey, List.mem_filter]
  constructor
  · rintro ⟨⟨j, p⟩, ⟨hm, hs⟩, rfl⟩
    exact ⟨p, Table.look_of_mem ho hm, hs⟩
  · rintro ⟨p, hp, hs⟩
    exact ⟨(k, p), ⟨Table.mem_of_look hp, hs⟩, rfl⟩

theorem State.serviceable_iff (s : State) (p : Patron) :
    s.serviceable p = true ↔ p.state = .active ∧ p.cartCount < p.cartLimit ∧ p.deferral = .none ∧
      ∃ e ∈ s.window p, s.candidate p e = true ∧ e.oversize = false := by
  simp [State.serviceable, and_assoc]

theorem Table.pairwise_of_rising {α : Type} {a : Table α} (h : a.rising = true) : a.Pairwise (fun x y => x.1 < y.1) := by
  induction a with
  | nil => exact List.Pairwise.nil
  | cons e a ih =>
    obtain ⟨first, rest⟩ := Table.rising_cons.1 h
    exact List.pairwise_cons.2 ⟨first, ih rest⟩

end Sys2Proof.Machine

namespace Sys2Proof.Proofs

open Sys2Proof Sys2Proof.Machine

/-- Settles O40: the walk by its step, the plan by what was taken, the Service List by its sort. -/
theorem planFitsItsCartridge : Obligations.PlanFitsItsCartridge := by
  intro s fits within
  refine ⟨s.candidate_iff, fun p => ?_, fun p => ?_, fun l orders j => ?_, fun k p htaken => ?_, fun ho => ?_⟩
  · simp only [State.candidates, List.filter_filter, State.window, within, Bool.and_comm]
  · refine ⟨s.walkTo p, rfl, s.pack_eq p, fun j e t he ht => ?_⟩
    have pages : blockSize (s.pagesOf e.title) = (t.pages + 511) / 512 := by
      rw [State.pagesOf, ht, blockSize_eq]
    have taken : s.pagesOf e.title = t.pages := by rw [State.pagesOf, ht]
    rw [State.walkTo_succ he]
    unfold State.walkStep
    rw [pages, taken]
    refine ⟨fun hfull => if_pos hfull, fun room => ?_⟩
    rw [if_neg (Nat.not_le.2 room)]
    refine ⟨fun large => if_pos large, fun fitting held => ?_, fun fitting tight => ?_⟩
    · rw [if_neg (Nat.not_lt.2 fitting), if_pos held]
    · rw [if_neg (Nat.not_lt.2 fitting), if_neg (Nat.not_le.2 tight)]
  · simp [markOversize]
  · obtain ⟨few, order, pages, room⟩ := s.pack_walked p
    have titles : ((planOf k (s.pack p).taken).placements.map (·.title)) = (s.pack p).taken.map (·.title) :=
      placeFrom_map_of 1 _ fun t _ _ => t
    have blocks : (planOf k (s.pack p).taken).placements.map (·.blocks) =
        (s.pack p).taken.map (fun x => blockSize x.pages) := placeFrom_map_of 1 _ fun _ b _ => b
    have size : (planOf k (s.pack p).taken).placements.length = (s.pack p).taken.length := by
      have := congrArg List.length titles
      rwa [List.length_map, List.length_map] at this
    have used : usedBlocks (s.pack p).taken ≤ p.cls.usable := by omega
    refine ⟨rfl, rfl, rfl, fun h => htaken ?_, by omega, titles ▸ order, placeFrom_map_of 1 _ fun t _ q => (t, q), ?_,
      fun j q hq => ?_, ?_, planClass_usable (used.trans p.cls.usable_le), planClass_least used, fun c hc => planClass_least hc, rfl⟩
    · rw [h] at size
      exact List.length_eq_zero_iff.1 size.symm
    · exact List.any_eq_true
    · have placed := (placeFrom_getElem? 1 (s.pack p).taken j).symm.trans hq
      obtain ⟨x, hx, rfl⟩ := Option.map_eq_some_iff.1 placed
      have hm := List.mem_of_getElem? hx
      refine ⟨rfl, blockSize_eq _, ?_⟩
      obtain ⟨e, he, hex⟩ := List.mem_map.1 (order.subset (List.mem_map_of_mem hm))
      obtain ⟨-, t, ht, himage, hmedia, hwithdrawn, hbad⟩ := (s.candidate_iff p e).1 (State.mem_candidates he)
      rw [hex] at ht
      exact ⟨t, ht, by rw [pages x hm, State.pagesOf, ht], hwithdrawn, hbad, himage, hmedia⟩
    · exact congrArg List.sum blocks.symm
  · obtain ⟨patrons, -⟩ := ho
    refine ⟨fun k => ?_, ?_⟩
    · rw [State.mem_serviceList patrons]
      refine exists_congr fun p => and_congr_right fun hp => ?_
      rw [State.serviceable_iff]
      simp only [State.candidate_iff]
      rfl
    · have sorted := sortByKey_pairwise (key := serviceKey) ((Table.pairwise_of_rising patrons).filter (fun e => s.serviceable e.2))
      rw [State.serviceList, List.pairwise_map]
      refine sorted.imp_of_mem fun {x y} hx hy hxy p q hp hq => ?_
      have here {e : Nat × Patron} (he : e ∈ sortByKey serviceKey (s.records.patrons.filter (fun e => s.serviceable e.2)))
          {r : Patron} (hr : s.patron e.1 = some r) : e.2 = r := by
        have := Table.look_of_mem (k := e.1) (v := e.2) patrons (List.mem_of_mem_filter (mem_sortByKey.1 he))
        exact Option.some.inj (this.symm.trans hr)
      obtain rfl := here hx hp
      obtain rfl := here hy hq
      simp only [SortedBy, serviceKey] at hxy
      cases hl : x.2.lastService <;> cases hm : y.2.lastService <;> simp only [hl, hm] at hxy ⊢
      · exact .inr (.inr ⟨trivial, by omega⟩)
      · exact .inl ⟨trivial, by simp⟩
      · omega
      · next d e =>
        rcases hxy with hd | ⟨hd, hk⟩
        · exact .inr (.inl ⟨d, e, rfl, rfl, by omega⟩)
        · exact .inr (.inr ⟨by rw [show d = e by omega], hk⟩)

end Sys2Proof.Proofs

end

section
/-!
PROOF. Job matching (R91 to R93, R95): what it does to the queue, the plans and the slots; obligation O19.
-/

namespace Sys2Proof.Machine

/-! ## Slots of the rack -/

theorem State.setSlot_slot (s : State) (n : Nat) : s.setSlot n (s.slot n) = s := by
  have same : s.rack.set (n - 1) (s.slot n) = s.rack := by
    refine List.ext_getElem? fun i => ?_
    rw [List.getElem?_set]
    split
    · next hi =>
      subst hi
      split
      · next hn => simp [State.slot, List.getD_eq_getElem?_getD, List.getElem?_eq_getElem hn]
      · next hn => rw [List.getElem?_eq_none (Nat.not_lt.1 hn)]
    · rfl
  rw [State.setSlot, same]
  rfl

/-- A slot with a cartridge is one of the rack. -/
theorem State.slot_in_rack {s : State} {n : Nat} (h : s.slot n ≠ Slot.bare) : n - 1 < s.rack.length := by
  by_contra hn
  exact h (by simp [State.slot, List.getD, List.getElem?_eq_none (Nat.not_lt.1 hn)])

/-! ## The choice of a slot (R92) -/

/-- A slot that job matching may give a job, with its cartridge (R91). -/
def State.free (s : State) (n : Nat) (r : Cartridge) : Prop :=
  n ∈ slotNumbers ∧ (s.slot n).cart = some r ∧
    ((s.slot n).state = .idleBlank ∨ (s.slot n).state = .preErase ∨
      ((s.slot n).state = .idleDirty ∧ (s.slot n).finishing = false))

theorem Slot.available_iff (sl : Slot) : sl.available = true ↔
    sl.state = .idleBlank ∨ sl.state = .preErase ∨ (sl.state = .idleDirty ∧ sl.finishing = false) := by
  unfold Slot.available
  split <;> simp_all

theorem State.offer_eq_some {s : State} {c : Cls} {n x : Nat} :
    s.offer c n = some x ↔ ∃ r, (s.slot n).cart = some r ∧ (s.slot n).available = true ∧ r.cls = c ∧ r.cycles = x := by
  simp only [State.offer]
  cases hc : (s.slot n).cart with
  | none => simp
  | some r => simp [and_assoc]

theorem State.offered_iff {s : State} {c : Cls} {n : Nat} :
    n ∈ slotNumbers.filter (fun n => (s.offer c n).isSome) ↔ ∃ r, s.free n r ∧ r.cls = c := by
  rw [List.mem_filter, Option.isSome_iff_exists]
  simp only [State.offer_eq_some, State.free, Slot.available_iff]
  constructor
  · rintro ⟨hn, x, r, hr, ha, hc, -⟩
    exact ⟨r, ⟨hn, hr, ha⟩, hc⟩
  · rintro ⟨r, ⟨hn, hr, ha⟩, hc⟩
    exact ⟨hn, r.cycles, r, hr, ha, hc, rfl⟩

theorem State.free_cartridge {s : State} {n : Nat} {r q : Cartridge} (h : s.free n r) (h' : s.free n q) : r = q :=
  Option.some.inj (h.2.1.symm.trans h'.2.1)

theorem State.offer_free {s : State} {n : Nat} {r : Cartridge} (h : s.free n r) : s.offer r.cls n = some r.cycles :=
  State.offer_eq_some.2 ⟨r, h.2.1, (Slot.available_iff _).2 h.2.2, rfl, rfl⟩

theorem State.bestSlot_eq_none {s : State} {c : Cls} : s.bestSlot c = none ↔ ∀ m q, s.free m q → q.cls ≠ c := by
  rw [State.bestSlot, List.head?_eq_none_iff]
  constructor
  · intro h m q hm hq
    have : m ∈ sortByKey (fun n => (s.offer c n).getD 0) (slotNumbers.filter (fun n => (s.offer c n).isSome)) :=
      mem_sortByKey.2 (State.offered_iff.2 ⟨q, hm, hq⟩)
    rw [h] at this
    exact nomatch this
  · intro h
    refine List.eq_nil_iff_forall_not_mem.2 fun m hm => ?_
    obtain ⟨q, hq, hc⟩ := State.offered_iff.1 (mem_sortByKey.1 hm)
    exact h m q hq hc

/-- The slot of a class that has the fewest cycles, the lowest-numbered of equals. -/
theorem State.bestSlot_best {s : State} {c : Cls} {n : Nat} (h : s.bestSlot c = some n) :
    ∃ r, s.free n r ∧ r.cls = c ∧ ∀ m q, s.free m q → q.cls = c →
      r.cycles < q.cycles ∨ (r.cycles = q.cycles ∧ n ≤ m) := by
  have sorted := sortByKey_pairwise (key := fun n => (s.offer c n).getD 0) (S := (· < ·))
    (l := slotNumbers.filter (fun n => (s.offer c n).isSome)) (List.Pairwise.filter _ (by decide))
  obtain ⟨rest, hl⟩ := List.head?_eq_some_iff.1 h
  rw [hl] at sorted
  have found : n ∈ slotNumbers.filter (fun n => (s.offer c n).isSome) :=
    mem_sortByKey.1 (hl ▸ List.mem_cons_self)
  obtain ⟨r, hr, rfl⟩ := State.offered_iff.1 found
  refine ⟨r, hr, rfl, fun m q hq hc => ?_⟩
  have there : m ∈ n :: rest := hl ▸ mem_sortByKey.2 (State.offered_iff.2 ⟨q, hq, hc⟩)
  rcases List.mem_cons.1 there with rfl | there
  · rw [State.free_cartridge hr hq]
    exact .inr ⟨rfl, le_rfl⟩
  · have first := (List.pairwise_cons.1 sorted).1 m there
    simp only [SortedBy, State.offer_free hr, hc ▸ State.offer_free hq, Option.getD_some] at first
    omega

/-- What fits a plan: its own class, or a larger one that its patron's player takes. -/
def State.fitsPlan (s : State) (p : Plan) (r : Cartridge) : Prop :=
  r.cls = p.cls ∨ (p.cls.rank < r.cls.rank ∧ ∃ q, s.patron p.patron = some q ∧ r.cls.rank ≤ q.cls.rank)

/-- The order in which matching prefers slots: class, then cycles, then number. -/
def Slot.preferred (n : Nat) (r : Cartridge) (m : Nat) (q : Cartridge) : Prop :=
  r.cls.rank < q.cls.rank ∨ (r.cls = q.cls ∧ (r.cycles < q.cycles ∨ (r.cycles = q.cycles ∧ n ≤ m)))

/-- The larger classes that fit a plan, the smallest first. -/
def State.largerClasses (s : State) (p : Plan) : List Cls :=
  [Cls.c2, Cls.c4, Cls.c8].filter (fun c => decide (p.cls.rank < c.rank ∧ c.rank ≤
    match s.patron p.patron with
    | some r => r.cls.rank
    | none => 0))

theorem State.mem_largerClasses {s : State} {p : Plan} {c : Cls} :
    c ∈ s.largerClasses p ↔ p.cls.rank < c.rank ∧ ∃ q, s.patron p.patron = some q ∧ c.rank ≤ q.cls.rank := by
  have every : c ∈ [Cls.c2, Cls.c4, Cls.c8] := by cases c <;> simp
  rw [State.largerClasses, List.mem_filter, and_iff_right every, decide_eq_true_eq]
  refine and_congr_right fun larger => ?_
  cases s.patron p.patron with
  | none => simp only [reduceCtorEq, false_and, exists_false, iff_false]; omega
  | some q => simp

theorem State.largerClasses_sorted (s : State) (p : Plan) : (s.largerClasses p).Pairwise (fun c d => c.rank < d.rank) :=
  List.Pairwise.filter _ (by decide)

theorem State.slotFor_eq (s : State) (p : Plan) :
    s.slotFor p = ((p.cls :: s.largerClasses p).filterMap (fun c => s.bestSlot c)).head? := by
  rw [List.filterMap_cons]
  unfold State.slotFor
  cases s.bestSlot p.cls with
  | none => rfl
  | some n => rfl

theorem State.fitsPlan_iff {s : State} {p : Plan} {r : Cartridge} :
    s.fitsPlan p r ↔ r.cls ∈ p.cls :: s.largerClasses p := by
  rw [List.mem_cons, State.mem_largerClasses]
  rfl

theorem State.slotFor_eq_none {s : State} {p : Plan} :
    s.slotFor p = none ↔ ∀ m q, s.free m q → ¬s.fitsPlan p q := by
  rw [State.slotFor_eq, List.head?_eq_none_iff, List.filterMap_eq_nil_iff]
  simp only [State.bestSlot_eq_none, State.fitsPlan_iff]
  exact ⟨fun h m q hq hc => h _ hc m q hq rfl, fun h c hc m q hq he => h m q hq (he ▸ hc)⟩

/-- The head of what a list gives comes of the first entry that gives something. -/
theorem head?_filterMap {α β : Type} {f : α → Option β} {l : List α} {b : β} (h : (l.filterMap f).head? = some b) :
    ∃ pre a post, l = pre ++ a :: post ∧ f a = some b ∧ ∀ x ∈ pre, f x = none := by
  induction l with
  | nil => cases h
  | cons a l ih =>
    rw [List.filterMap_cons] at h
    cases hf : f a with
    | none =>
      rw [hf] at h
      obtain ⟨pre, x, post, rfl, hx, hpre⟩ := ih h
      refine ⟨a :: pre, x, post, rfl, hx, fun y hy => ?_⟩
      rcases List.mem_cons.1 hy with rfl | hy
      · exact hf
      · exact hpre y hy
    | some c =>
      rw [hf] at h
      exact ⟨[], a, l, rfl, by rw [hf]; exact h, fun _ hx => nomatch hx⟩

theorem State.slotFor_best {s : State} {p : Plan} {n : Nat} (h : s.slotFor p = some n) :
    ∃ r, s.free n r ∧ s.fitsPlan p r ∧ ∀ m q, s.free m q → s.fitsPlan p q → Slot.preferred n r m q := by
  rw [State.slotFor_eq] at h
  obtain ⟨pre, c, post, hl, hb, hpre⟩ := head?_filterMap h
  obtain ⟨r, hr, rfl, best⟩ := State.bestSlot_best hb
  have sorted : (p.cls :: s.largerClasses p).Pairwise (fun c d => c.rank < d.rank) :=
    List.pairwise_cons.2 ⟨fun c hc => (State.mem_largerClasses.1 hc).1, s.largerClasses_sorted p⟩
  refine ⟨r, hr, State.fitsPlan_iff.2 (hl ▸ List.mem_append_right _ List.mem_cons_self), fun m q hq hf => ?_⟩
  rw [State.fitsPlan_iff, hl, List.mem_append, List.mem_cons] at hf
  rcases hf with hf | hf | hf
  · exact absurd rfl (State.bestSlot_eq_none.1 (hpre _ hf) m q hq)
  · exact .inr ⟨hf.symm, best m q hq hf⟩
  · rw [hl] at sorted
    exact .inl ((List.pairwise_cons.1 (List.pairwise_append.1 sorted).2.1).1 _ hf)

theorem Cls.rank_inj {c d : Cls} (h : c.rank = d.rank) : c = d := by
  revert h
  cases c <;> cases d <;> simp [Cls.rank]

theorem Slot.preferred_antisymm {m n : Nat} {r q : Cartridge} (h : Slot.preferred n r m q) (h' : Slot.preferred m q n r) :
    n = m := by
  rcases h with h | ⟨hc, h⟩
  · rcases h' with h' | ⟨hc', -⟩
    · omega
    · rw [hc'] at h; omega
  · rcases h' with h' | ⟨-, h'⟩
    · rw [hc] at h'; omega
    · omega

theorem State.slotFor_iff {s : State} {p : Plan} {n : Nat} :
    s.slotFor p = some n ↔
      ∃ r, s.free n r ∧ s.fitsPlan p r ∧ ∀ m q, s.free m q → s.fitsPlan p q → Slot.preferred n r m q := by
  refine ⟨State.slotFor_best, fun ⟨r, hr, hf, best⟩ => ?_⟩
  cases hs : s.slotFor p with
  | none => exact absurd hf (State.slotFor_eq_none.1 hs n r hr)
  | some m =>
    obtain ⟨q, hq, hfq, best'⟩ := State.slotFor_best hs
    rw [Slot.preferred_antisymm (best m q hq hfq) (best' n r hr hf)]

/-- The slot that matching finds is a socket of the rack, available and with a cartridge. -/
theorem State.slotFor_free {s : State} {p : Plan} {n : Nat} (h : s.slotFor p = some n) :
    n ∈ slotNumbers ∧ (s.slot n).available = true ∧ n - 1 < s.rack.length := by
  obtain ⟨r, ⟨hn, hr, ha⟩, -, -⟩ := State.slotFor_best h
  exact ⟨hn, (Slot.available_iff _).2 ha, State.slot_in_rack fun hb => by rw [hb] at hr; cases hr⟩

/-! ## The binding (R93) and the walk (R95) -/

theorem State.bind_eq {s : State} {n job : Nat} {p : Plan} (hp : s.plan job = some p) (hj : job ∈ s.planner.queue) :
    s.bind n job = (s.setPlanner
      { s.planner with
        plans := s.planner.plans.put job { p with state := .inSlot n }
        queue := s.planner.queue.filter (fun m => decide (m ≠ job))
        due := s.planner.due || decide (s.planner.queue.length = 16) }).setSlot n ((s.slot n).take job s.today) := by
  have left : s.leaveJobs job = s.setPlanner
      { s.planner with
        queue := s.planner.queue.filter (fun m => decide (m ≠ job))
        due := s.planner.due || decide (s.planner.queue.length = 16) } := by
    unfold State.leaveJobs
    rw [if_pos (List.contains_iff_mem.2 hj)]
    by_cases h16 : s.planner.queue.length = Config.commitBelow
    · have : s.planner.queue.length = 16 := h16
      simp [this, State.setJobs, State.noteTrigger, State.setPlanner, show Config.commitBelow = 16 from rfl]
    · have : s.planner.queue.length ≠ 16 := h16
      simp [h16, this, State.setJobs, State.setPlanner]
  have found : (s.leaveJobs job).plan job = some p := by simpa [State.plan] using hp
  unfold State.bind
  rw [State.onPlan, found, left]
  rfl

/-- What begins a slot's erase (R93). -/
theorem Slot.beginErase_written {sl : Slot} {st : SlotState} {c : Cartridge} {today : Nat} (hc : sl.cart = some c)
    (hm : c.marker = .written) : sl.beginErase st today =
      { sl with
        state := st, eraseStep := .erase 0, eraseKind := .extent c.lastUsed
        op := some
          { op := .grantPermit (if 31 ≤ c.lastUsed then .eraseGroup 0 else .eraseBlock 0), elapsed := 0 } } := by
  have first : extentErase c.cls c.lastUsed 0 = if 31 ≤ c.lastUsed then .eraseGroup 0 else .eraseBlock 0 := by
    unfold extentErase
    by_cases h31 : 31 ≤ c.lastUsed
    · have : 0 < (c.lastUsed + 1) / 32 := by omega
      simp [h31, this]
    · have none : (c.lastUsed + 1) / 32 = 0 := by omega
      have some : 0 < (c.lastUsed + 1) % 32 := by omega
      simp [h31, none, some]
  simp only [Slot.beginErase, Slot.goErase, Slot.permit, Slot.issue, Slot.eraseAt, hc, Cartridge.eraseKind, hm, first]

theorem Slot.beginErase_dirty {sl : Slot} {st : SlotState} {c : Cartridge} {today : Nat} (hc : sl.cart = some c)
    (hm : c.marker = .dirty) : sl.beginErase st today =
      { sl with
        state := st, eraseStep := .erase 0, eraseKind := .full
        op := some { op := .grantPermit .fullErase, elapsed := 0 } } := by
  simp only [Slot.beginErase, Slot.goErase, Slot.permit, Slot.issue, Slot.eraseAt, hc, Cartridge.eraseKind, hm]

theorem Slot.goErase_job (sl : Slot) (today : Nat) : (sl.goErase today).job = sl.job := by
  unfold Slot.goErase
  split
  · rfl
  · rfl
  · split
    · rfl
    · rfl
  · rfl
  · rfl

/-- What the end of matching makes of a slot: one left IDLE_DIRTY begins its erase in PRE_ERASE (R95). -/
def Slot.preErased (sl : Slot) (today : Nat) : Slot :=
  if sl.state = .idleDirty ∧ sl.finishing = false then sl.beginErase .preErase today else sl

theorem Slot.preErased_job (sl : Slot) (today : Nat) : (sl.preErased today).job = sl.job := by
  unfold Slot.preErased
  split
  · exact Slot.goErase_job _ _
  · rfl

theorem State.preErase_eq (s : State) (n : Nat) : s.preErase n = s.setSlot n ((s.slot n).preErased s.today) := by
  unfold State.preErase Slot.preErased
  dsimp only
  split
  · rfl
  · exact (s.setSlot_slot n).symm

theorem State.preErase_fold {s : State} (hs : s.rack.length = 8) {l : List Nat} (hl : l.Nodup) (h8 : ∀ n ∈ l, n ∈ slotNumbers) :
    ∃ rack, l.foldl State.preErase s = s.setRack rack ∧ rack.length = 8 ∧ ∀ n ∈ slotNumbers,
      (s.setRack rack).slot n = if n ∈ l then (s.slot n).preErased s.today else s.slot n := by
  induction l generalizing s with
  | nil => exact ⟨s.rack, rfl, hs, fun n _ => rfl⟩
  | cons m l ih =>
    obtain ⟨hm, hl⟩ := List.nodup_cons.1 hl
    have hm8 := h8 m List.mem_cons_self
    have size : (s.setSlot m ((s.slot m).preErased s.today)).rack.length = 8 := by simpa using hs
    obtain ⟨rack, hr, hlen, hslot⟩ := ih size hl fun n hn => h8 n (List.mem_cons_of_mem _ hn)
    refine ⟨rack, ?_, hlen, fun n hn => ?_⟩
    · rw [List.foldl_cons, State.preErase_eq, hr]
      rfl
    · refine (hslot n hn).trans ?_
      by_cases he : n = m
      · subst he
        rw [if_neg hm, State.slot_setSlot_same _ hs hn, if_pos List.mem_cons_self]
      · rw [State.slot_setSlot_other _ hm8 hn he]
        have : n ∈ m :: l ↔ n ∈ l := by simp [he]
        simp only [this]
        rfl

/-! ## What matching leaves of the queue, the plans and the slots -/

/-- What job matching may have done: queued plans gone into available slots. -/
structure State.Matched (s t : State) : Prop where
  queue : t.planner.queue.Sublist s.planner.queue
  plan (m : Nat) : (t.plan m = s.plan m ∧ (m ∈ s.planner.queue → m ∈ t.planner.queue)) ∨ ∃ q j, s.plan m = some q ∧ m ∈ s.planner.queue ∧ j ∈ slotNumbers ∧
    t.plan m = some { q with state := .inSlot j } ∧ (t.slot j).job = some m ∧ (t.slot j).available = false ∧
    m ∉ t.planner.queue
  slot (j : Nat) : (s.slot j).available = false → t.slot j = s.slot j
  job (j : Nat) : (t.slot j).job = (s.slot j).job ∨ ∃ m ∈ s.planner.queue, (t.slot j).job = some m ∧ s.plan m ≠ none

theorem State.Matched.refl (s : State) : s.Matched s :=
  ⟨List.Sublist.refl _, fun _ => .inl ⟨rfl, id⟩, fun _ _ => rfl, fun _ => .inl rfl⟩

theorem Slot.take_job (sl : Slot) (job today : Nat) : (sl.take job today).job = some job := by
  unfold Slot.take
  dsimp only
  split
  · rfl
  · rfl
  · unfold Slot.beginErase Slot.goErase
    dsimp only
    rfl

theorem Slot.goErase_state (sl : Slot) (today : Nat) : (sl.goErase today).state = sl.state := by
  unfold Slot.goErase
  split
  · rfl
  · rfl
  · split
    · rfl
    · rfl
  · rfl
  · rfl

theorem Slot.take_state (sl : Slot) (job today : Nat) :
    (sl.take job today).state = .programming ∨ (sl.take job today).state = .erasing := by
  unfold Slot.take
  dsimp only
  split
  · exact .inl rfl
  · exact .inr rfl
  · exact .inr (Slot.goErase_state _ _)

theorem Slot.take_available (sl : Slot) (job today : Nat) : (sl.take job today).available = false := by
  unfold Slot.available
  rcases Slot.take_state sl job today with h | h <;> rw [h]

theorem State.Matched.offerJob {s t : State} (h : s.Matched t) {job : Nat} (hj : job ∈ s.planner.queue) :
    s.Matched (t.offerJob job) := by
  unfold State.offerJob
  split
  · exact h
  · next p hp =>
    split
    · next n hn =>
      obtain ⟨h8, hfree, hin⟩ := State.slotFor_free hn
      have taken : (t.bind n job).slot n = (t.slot n).take job t.today := by
        rw [State.bind, State.slot_setSlot_in (by simpa using hin)]
        simp [State.slot, State.today]
      have others {j : Nat} (hj8 : j ∈ slotNumbers) (hne : j ≠ n) : (t.bind n job).slot j = t.slot j := by
        rw [State.bind, State.slot_setSlot_other _ h8 hj8 hne]
        simp [State.slot]
      have shorter : (t.bind n job).planner.queue.Sublist t.planner.queue ∧ job ∉ (t.bind n job).planner.queue ∧
          ∀ m, m ≠ job → m ∈ t.planner.queue → m ∈ (t.bind n job).planner.queue := by
        have left : (t.bind n job).planner.queue = (t.leaveJobs job).planner.queue := by simp [State.bind]
        rw [left]
        unfold State.leaveJobs
        split
        · split
          · exact ⟨List.filter_sublist, by simp [State.setJobs], fun m hm hx => by simp [State.setJobs, hm, hx]⟩
          · exact ⟨List.filter_sublist, by simp [State.setJobs], fun m hm hx => by simp [State.setJobs, hm, hx]⟩
        · next hc => exact ⟨List.Sublist.refl _, by simpa using hc, fun _ _ hx => hx⟩
      have was : ∃ q, s.plan job = some q ∧ { p with state := .inSlot n } = ({ q with state := .inSlot n } : Plan) := by
        rcases h.plan job with ⟨he, -⟩ | ⟨q, j, hq, -, -, ht, -⟩
        · exact ⟨p, he ▸ hp, rfl⟩
        · rw [ht] at hp
          cases hp
          exact ⟨q, hq, rfl⟩
      obtain ⟨q, hq, he⟩ := was
      refine ⟨shorter.1.trans h.queue, fun m => ?_, fun j hja => ?_, fun j => ?_⟩
      · by_cases hm : m = job
        · subst hm
          have now : (t.bind n m).plan m = some { p with state := .inSlot n } := by
            have : (t.leaveJobs m).plan m = some p := by simpa [State.plan] using hp
            rw [State.bind, State.onPlan, this]
            exact Table.look_put _ _ _
          refine .inr ⟨q, n, hq, hj, h8, he ▸ now, ?_, ?_, shorter.2.1⟩
          · rw [taken, Slot.take_job]
          · rw [taken, Slot.take_available]
        · have same : (t.bind n job).plan m = t.plan m := by
            unfold State.bind State.onPlan
            split
            · exact (Table.look_put_of_ne _ _ hm).trans (by simp [State.plan])
            · simp [State.plan]
          rcases h.plan m with ⟨he, hx⟩ | ⟨q, j, hq, hmq, hj8, ht, hjob, hav, hout⟩
          · exact .inl ⟨same.trans he, fun hq => shorter.2.2 m hm (hx hq)⟩
          · have hne : j ≠ n := fun he => by rw [he, hfree] at hav; cases hav
            exact .inr ⟨q, j, hq, hmq, hj8, same.trans ht, by rw [others hj8 hne]; exact hjob,
              by rw [others hj8 hne]; exact hav, fun hx => hout (shorter.1.subset hx)⟩
      · have hne : j - 1 ≠ n - 1 := fun he => by
          have : t.slot j = t.slot n := by rw [State.slot, State.slot, he]
          rw [← h.slot j hja, this, hfree] at hja
          cases hja
        have : (t.bind n job).slot j = t.slot j := by
          simp [State.bind, State.slot, State.setSlot, List.getD_eq_getElem?_getD, hne.symm]
        rw [this, h.slot j hja]
      · by_cases hne : j - 1 = n - 1
        · have same : (t.bind n job).slot j = (t.bind n job).slot n := by rw [State.slot, State.slot, hne]
          exact .inr ⟨job, hj, by rw [same, taken, Slot.take_job], by rw [hq]; exact nofun⟩
        · have : (t.bind n job).slot j = t.slot j := by
            simp [State.bind, State.slot, State.setSlot, List.getD_eq_getElem?_getD, Ne.symm hne]
          rw [this]
          exact h.job j
    · exact h

/-- An offer of a job: to the slot that the plan's record finds it (R92). -/
theorem State.Matched.offerJob_eq {s t : State} (h : s.Matched t) (job : Nat) :
    (s.plan job = none → t.offerJob job = t) ∧
      ∀ p, s.plan job = some p → (t.slotFor p = none → t.offerJob job = t) ∧
        ∀ n, t.slotFor p = some n → t.offerJob job = t.bind n job := by
  have plan : (s.plan job = none → t.plan job = none) ∧ ∀ p, s.plan job = some p → ∃ st, t.plan job = some { p with state := st } := by
    rcases h.plan job with ⟨he, -⟩ | ⟨q, j, hq, -, -, ht, -⟩
    · rw [he]
      exact ⟨id, fun p hp => ⟨p.state, hp⟩⟩
    · refine ⟨fun hn => ?_, fun p hp => ⟨.inSlot j, ?_⟩⟩
      · rw [hq] at hn; cases hn
      · rw [ht, Option.some.inj (hq.symm.trans hp)]
  refine ⟨fun hn => ?_, fun p hp => ?_⟩
  · rw [State.offerJob, plan.1 hn]
  · obtain ⟨st, ht⟩ := plan.2 p hp
    have same : t.slotFor { p with state := st } = t.slotFor p := rfl
    refine ⟨fun hf => ?_, fun n hf => ?_⟩
    · rw [State.offerJob, ht]
      dsimp only
      rw [same, hf]
    · rw [State.offerJob, ht]
      dsimp only
      rw [same, hf]

theorem State.Matched.preErase {s t : State} (h : s.Matched t) (n : Nat) : s.Matched (t.preErase n) := by
  have kept {j : Nat} (hj : (t.slot j).available = false) : (t.preErase n).slot j = t.slot j := by
    rw [State.preErase_eq]
    by_cases he : j - 1 = n - 1
    · have same : t.slot j = t.slot n := by rw [State.slot, State.slot, he]
      have idle : (t.slot n).preErased t.today = t.slot n := by
        unfold Slot.preErased
        rw [if_neg fun hx => ?_]
        rw [same, (Slot.available_iff _).2 (.inr (.inr hx))] at hj
        cases hj
      rw [idle, State.setSlot_slot]
    · simp [State.slot, State.setSlot, List.getD_eq_getElem?_getD, Ne.symm he]
  have planner : (t.preErase n).planner = t.planner := by rw [State.preErase_eq]; rfl
  refine ⟨by rw [planner]; exact h.queue, fun m => ?_, fun j hj => ?_, fun j => ?_⟩
  · have same : (t.preErase n).plan m = t.plan m := by rw [State.plan, planner]; rfl
    rw [same, planner]
    rcases h.plan m with he | ⟨q, j, hq, hmq, hj8, ht, hjob, hav, hout⟩
    · exact .inl he
    · exact .inr ⟨q, j, hq, hmq, hj8, ht, by rw [kept hav]; exact hjob, by rw [kept hav]; exact hav, hout⟩
  · have was := h.slot j hj
    rw [kept (was ▸ hj), was]
  · have same : ((t.preErase n).slot j).job = (t.slot j).job := by
      rw [State.preErase_eq]
      by_cases he : j - 1 = n - 1
      · have here (u : State) : u.slot j = u.slot n := by rw [State.slot, State.slot, he]
        rw [here, here]
        rcases Nat.lt_or_ge (n - 1) t.rack.length with hin | hout
        · rw [State.slot_setSlot_in hin, Slot.preErased_job]
        · simp [State.slot, State.setSlot, List.set_eq_of_length_le hout]
      · simp [State.slot, State.setSlot, List.getD_eq_getElem?_getD, Ne.symm he]
    rw [same]
    exact h.job j

theorem State.matched_offerJobs (s : State) {l : List Nat} (hl : ∀ n ∈ l, n ∈ s.planner.queue) :
    s.Matched (l.foldl State.offerJob s) := by
  refine List.reverseRecOn (motive := fun l => (∀ n ∈ l, n ∈ s.planner.queue) → s.Matched (l.foldl State.offerJob s)) l
    (fun _ => .refl s) (fun l n ih hx => ?_) hl
  rw [List.foldl_append]
  exact (ih fun m hm => hx m (List.mem_append_left _ hm)).offerJob (hx n (by simp))

/-- Matching takes queued plans into available slots, and does nothing else to the plans and the queue. -/
theorem State.matched_matchJobs (s : State) : s.Matched s.matchJobs := by
  have offered := s.matched_offerJobs fun _ hn => hn
  unfold State.matchJobs
  generalize s.planner.queue.foldl State.offerJob s = t at offered ⊢
  generalize slotNumbers = l
  induction l generalizing t with
  | nil => exact offered
  | cons n l ih => exact ih _ (offered.preErase n)

end Sys2Proof.Machine

namespace Sys2Proof.Proofs

open Sys2Proof Sys2Proof.Machine

/-- Settles O19: the best slot by its sort, the binding by its record, the walk by its steps. -/
theorem jobsMatchedToSlots : Obligations.JobsMatchedToSlots := by
  unfold Obligations.JobsMatchedToSlots
  intro free fits begun
  have begins {sl : Slot} {st : SlotState} (today : Nat) : begun sl st (sl.beginErase st today) :=
    ⟨fun c hc hm => Slot.beginErase_written hc hm, fun c hc hm => Slot.beginErase_dirty hc hm⟩
  refine ⟨fun s p => ⟨fun n => State.slotFor_iff, State.slotFor_eq_none⟩, fun s n job p hp hj => ?_, fun s hs => ?_⟩
  · refine ⟨(s.slot n).take job s.today, State.bind_eq hp hj, fun hst => ?_, fun hst => ?_, fun hst => ?_⟩
    · simp only [Slot.take, hst, Slot.beginProgram, Slot.permit, Slot.issue]
    · simp only [Slot.take, hst]
    · simp only [Slot.take, hst]
      exact begins s.today
  · have offered (j : Nat) : s.Matched ((s.planner.queue.take j).foldl State.offerJob s) :=
      s.matched_offerJobs fun n hn => List.mem_of_mem_take hn
    refine ⟨fun j => (s.planner.queue.take j).foldl State.offerJob s, rfl, fun j job hj => ?_, ?_⟩
    · have next : (s.planner.queue.take (j + 1)).foldl State.offerJob s =
          ((s.planner.queue.take j).foldl State.offerJob s).offerJob job := by
        rw [List.take_add_one, hj, List.foldl_append]
        rfl
      dsimp only
      rw [next]
      exact (offered j).offerJob_eq job
    · dsimp only
      rw [List.take_length]
      obtain ⟨rack, hr, hlen, hslot⟩ := State.preErase_fold (s := s.planner.queue.foldl State.offerJob s)
        (by simpa using hs.1) (l := slotNumbers) (by decide) fun _ hn => hn
      have matched : s.matchJobs = (s.planner.queue.foldl State.offerJob s).setRack rack := hr
      refine ⟨rack, matched, hlen, fun n hn => ?_⟩
      rw [matched, hslot n hn, if_pos hn]
      unfold Slot.preErased
      refine ⟨fun hd hf => ?_, fun hx => if_neg ?_⟩
      · rw [if_pos ⟨hd, hf⟩]
        exact begins _
      · rintro ⟨hd, hf⟩
        rcases hx with hx | hx
        · exact hx hd
        · rw [hf] at hx
          cases hx

end Sys2Proof.Proofs

end

section
/-!
PROOF. A commit (R50, R51): the patron, the pins, the Job Queue; obligation O41.
-/

namespace Sys2Proof.Machine

/-! ## Patrons but for a deferral cleared -/

/-- Every patron is as before, or has its deferral cleared and nothing else. -/
def State.Cleared (s t : State) : Prop :=
  ∀ k, t.patron k = s.patron k ∨ ∃ p, s.patron k = some p ∧ t.patron k = some { p with deferral := .none }

theorem State.Cleared.of_eq {s t : State} (h : t.records.patrons = s.records.patrons) : s.Cleared t := fun k =>
  .inl (by rw [State.patron, State.patron, h])

theorem State.Cleared.refl (s : State) : s.Cleared s := .of_eq rfl

theorem State.Cleared.trans {s t u : State} (h : s.Cleared t) (h' : t.Cleared u) : s.Cleared u := by
  intro k
  rcases h' k with he' | ⟨p, hp, he'⟩
  · rw [he']
    exact h k
  · rcases h k with he | ⟨q, hq, he⟩
    · exact .inr ⟨p, he ▸ hp, he'⟩
    · rw [he] at hp
      cases hp
      exact .inr ⟨q, hq, he'⟩

/-- A patron without a deferral is as it was. -/
theorem State.Cleared.patron_none {s t : State} (h : s.Cleared t) {k : Nat} {p : Patron} (hp : s.patron k = some p)
    (hd : p.deferral = .none) : t.patron k = some p := by
  rcases h k with he | ⟨q, hq, he⟩
  · rw [he, hp]
  · rw [hp] at hq
    cases hq
    rw [he, ← hd]

/-- A patron is as it was but for the deferral. -/
theorem State.Cleared.patron {s t : State} (h : s.Cleared t) {k : Nat} {p : Patron} (hp : s.patron k = some p) :
    ∃ d, t.patron k = some { p with deferral := d } := by
  rcases h k with he | ⟨q, hq, he⟩
  · exact ⟨p.deferral, by rw [he, hp]⟩
  · rw [hp] at hq
    cases hq
    exact ⟨.none, he⟩

theorem State.Cleared.foldl {β : Type} {f : State → β → State} {s t : State} (h : s.Cleared t)
    (hf : ∀ (u : State) x, u.Cleared (f u x)) (l : List β) : s.Cleared (l.foldl f t) := by
  induction l generalizing t with
  | nil => exact h
  | cons x l ih => exact ih (h.trans (hf t x))

theorem State.cleared_clearFillLow (s : State) (k : Nat) : s.Cleared (s.clearFillLow k) := by
  intro j
  unfold State.clearFillLow
  split
  · next r hr =>
    split
    · by_cases hj : j = k
      · subst hj
        exact .inr ⟨r, hr, Table.look_put _ _ _⟩
      · exact .inl (Table.look_put_of_ne _ _ hj)
    · exact .inl rfl
  · exact .inl rfl

theorem Table.look_map {α : Type} (a : Table α) (f : Nat × α → α) (k : Nat) :
    Table.look (a.map (fun e => (e.1, f e))) k = (a.look k).map (fun v => f (k, v)) := by
  induction a with
  | nil => rfl
  | cons e a ih =>
    obtain ⟨j, v⟩ := e
    simp only [List.map_cons, Table.look]
    split
    · next h => subst h; rfl
    · exact ih

theorem State.cleared_spaceFreed (s : State) : s.Cleared s.spaceFreed := by
  intro k
  have look : s.spaceFreed.patron k = (s.patron k).map (fun p => p.clearStoreSpace) :=
    Table.look_map s.records.patrons (fun e => e.2.clearStoreSpace) k
  rw [look]
  cases s.patron k with
  | none => exact .inl rfl
  | some p =>
    simp only [Option.map_some, Patron.clearStoreSpace]
    split
    · exact .inr ⟨p, rfl, rfl⟩
    · exact .inl rfl

theorem State.cleared_unpin (s : State) (k : Nat) : s.Cleared (s.unpin k) :=
  State.Cleared.trans (.of_eq (by simp)) (State.cleared_spaceFreed _)

theorem State.cleared_evict (s : State) (titles walk : List Nat) (blocks places : Nat) :
    s.Cleared (s.evict titles walk blocks places) := by
  induction walk generalizing s with
  | nil => exact .refl s
  | cons t walk ih =>
    unfold State.evict
    split
    · exact .refl s
    · split
      · exact (State.Cleared.trans (.of_eq rfl) (State.cleared_spaceFreed _)).trans (ih _)
      · exact ih s

theorem State.clearFillLow_eq_self {s : State} {k : Nat} {p : Patron} (hp : s.patron k = some p) (hd : p.deferral ≠ .fillLow) :
    s.clearFillLow k = s := by
  simp only [State.clearFillLow, hp, hd, if_false]

theorem State.patron_onPatron {s : State} {k : Nat} {p : Patron} (hp : s.patron k = some p) (f : Patron → Patron) :
    (s.onPatron k f).patron k = some (f p) := by
  rw [State.onPatron, hp]
  exact Table.look_put _ _ _

/-- A change of a patron's record that also ends a FILL_LOW deferral, of which there is none. -/
theorem State.patron_onPatron_cleared {s : State} {k : Nat} {p : Patron} (hp : s.patron k = some p)
    (f : Patron → Patron) (hd : (f p).deferral = .none) : ((s.onPatron k f).clearFillLow k).patron k = some (f p) :=
  (State.cleared_clearFillLow _ k).patron_none (State.patron_onPatron hp f) hd

/-! ## Images and pins -/

theorem State.image_onImage (s : State) (t k : Nat) (f : Image → Image) :
    (s.onImage t f).image k = if k = t then (s.image k).map f else s.image k := by
  unfold State.onImage
  split
  · next e he =>
    split
    · next hk => subst hk; rw [he]; exact Table.look_put _ _ _
    · next hk => exact Table.look_put_of_ne _ _ hk
  · next he =>
    split
    · next hk => subst hk; rw [he]; rfl
    · rfl

theorem State.image_pins (s : State) (titles : List Nat) (hn : titles.Nodup) (k : Nat) :
    (titles.foldl (fun s t => s.pin t) s).image k =
      if k ∈ titles then (s.image k).map (fun e => { e with pins := e.pins + 1 }) else s.image k := by
  induction titles generalizing s with
  | nil => rfl
  | cons t titles ih =>
    obtain ⟨ht, hn⟩ := List.nodup_cons.1 hn
    rw [List.foldl_cons, ih _ hn, State.pin, State.image_onImage]
    by_cases hk : k = t
    · subst hk
      simp [ht]
    · simp [hk]

theorem State.image_evict {s : State} {titles walk : List Nat} {blocks places k : Nat} (hk : k ∈ titles) :
    (s.evict titles walk blocks places).image k = s.image k := by
  induction walk generalizing s with
  | nil => rfl
  | cons t walk ih =>
    unfold State.evict
    split
    · rfl
    · split
      · next ht =>
        have hne : k ≠ t := fun h => ht.2 (by simpa [h] using hk)
        rw [ih]
        exact Table.look_del_of_ne _ hne
      · exact ih

/-- The titles without an image admitted: each has one then, with no pin. -/
theorem State.pins_admitTitles (s : State) {l : List Placement} (hl : ∀ q ∈ l, s.image q.title = none) (k : Nat) :
    (l.foldl (fun s q => s.admitTitle q.title q.pages) s).pins k = s.pins k ∧
      (s.image k ≠ none ∨ k ∈ l.map (·.title) → (l.foldl (fun s q => s.admitTitle q.title q.pages) s).image k ≠ none) := by
  refine List.reverseRecOn (motive := fun l => (∀ q ∈ l, s.image q.title = none) →
    (l.foldl (fun s q => s.admitTitle q.title q.pages) s).pins k = s.pins k ∧
      (s.image k ≠ none ∨ k ∈ l.map (·.title) →
        (l.foldl (fun s q => s.admitTitle q.title q.pages) s).image k ≠ none)) l (fun _ => ⟨rfl, fun h => ?_⟩) (fun l q ih hx => ?_) hl
  · exact h.resolve_right fun h => nomatch h
  · obtain ⟨pins, image⟩ := ih fun x hm => hx x (List.mem_append_left _ hm)
    rw [List.foldl_append, List.foldl_cons, List.foldl_nil]
    generalize l.foldl (fun s q => s.admitTitle q.title q.pages) s = u at pins image ⊢
    by_cases hk : k = q.title
    · have now : (u.admitTitle q.title q.pages).image k = some
          { resident := false, blocks := allocateBlocks u.heldBlocks (blockSize q.pages), filled := 0, sum := 0#32, pins := 0 } := by
        rw [hk]
        exact Table.look_put _ _ _
      have was : s.image k = none := hk ▸ hx q (by simp)
      refine ⟨by simp [State.pins, now, was], fun _ => by simp [now]⟩
    · have same : (u.admitTitle q.title q.pages).image k = u.image k := Table.look_put_of_ne _ _ hk
      refine ⟨by rw [State.pins, same]; exact pins, fun h => ?_⟩
      rw [same]
      exact image (h.imp_right fun h => by simpa [hk] using h)

theorem State.image_toRecents (s : State) (l : List Placement) (k : Nat) :
    (l.foldl (fun s q => s.toRecent q.title) s).image k = s.image k := by
  rw [State.image, State.image, State.foldl_store_images _ _ _ fun u q => by simp]

/-- What a commit's admission makes of the pins of the titles it places (R52, R66). -/
theorem State.pins_admitPlan (s : State) {p : Plan} (hn : (p.placements.map (·.title)).Nodup) {k : Nat}
    (hk : k ∈ p.placements.map (·.title)) : (s.admitPlan p).pins k = s.pins k + 1 := by
  have kept := State.image_evict (s := s) (walk := s.store.recency)
    (blocks := ((s.needed p.placements).map (·.blocks)).sum) (places := (s.needed p.placements).length) hk
  have unheld : ∀ q ∈ s.needed p.placements, (s.evict (p.placements.map (·.title)) s.store.recency
      ((s.needed p.placements).map (·.blocks)).sum (s.needed p.placements).length).image q.title = none := by
    intro q hq
    obtain ⟨hm, hi⟩ := List.mem_filter.1 hq
    rw [State.image_evict (List.mem_map_of_mem hm)]
    simpa using hi
  obtain ⟨pins, image⟩ := State.pins_admitTitles _ unheld k
  have held : s.image k ≠ none ∨ k ∈ (s.needed p.placements).map (·.title) := by
    by_cases hi : s.image k = none
    · obtain ⟨q, hq, rfl⟩ := List.mem_map.1 hk
      exact .inr (List.mem_map_of_mem (List.mem_filter.2 ⟨hq, by simp [hi]⟩))
    · exact .inl hi
  have there := image (by rw [kept]; exact held)
  have was : (s.evict (p.placements.map (·.title)) s.store.recency ((s.needed p.placements).map (·.blocks)).sum
      (s.needed p.placements).length).pins k = s.pins k := by rw [State.pins, kept]; rfl
  rw [was] at pins
  have folded (u : State) : (p.placements.foldl (fun s q => s.pin q.title) u) =
      (p.placements.map (·.title)).foldl (fun s t => s.pin t) u := by rw [List.foldl_map]
  unfold State.admitPlan
  dsimp only
  rw [State.pins, State.image_toRecents, folded, State.image_pins _ _ hn, if_pos hk]
  generalize (s.needed p.placements).foldl (fun (s : State) q => s.admitTitle q.title q.pages) _ = u at pins there ⊢
  have same : (if (s.needed p.placements).isEmpty then u else u.raise .fetchWanted).image k = u.image k := by
    split
    · rfl
    · rfl
  rw [same]
  cases hi : u.image k with
  | none => exact absurd hi there
  | some e =>
    simp only [State.pins, hi] at pins ⊢
    exact congrArg (· + 1) pins

theorem State.cleared_admitPlan (s : State) (p : Plan) : s.Cleared (s.admitPlan p) := by
  have recent (u : State) (l : List Placement) : u.Cleared (l.foldl (fun s q => s.toRecent q.title) u) :=
    .of_eq (by rw [State.foldl_records _ _ _ fun u q => by simp])
  have pinned (u : State) (l : List Placement) : u.Cleared (l.foldl (fun s q => s.pin q.title) u) :=
    .of_eq (by rw [State.foldl_records _ _ _ fun u q => by simp])
  have admitted (u : State) (l : List Placement) : u.Cleared (l.foldl (fun s q => s.admitTitle q.title q.pages) u) :=
    .of_eq (by rw [State.foldl_records _ _ _ fun u q => by simp])
  unfold State.admitPlan
  dsimp only
  refine State.Cleared.trans (State.Cleared.trans ?_ (pinned _ _)) (recent _ _)
  split
  · exact State.Cleared.trans (State.cleared_evict _ _ _ _ _) (admitted _ _)
  · exact State.Cleared.trans (State.Cleared.trans (State.cleared_evict _ _ _ _ _) (admitted _ _)) (.of_eq rfl)

/-! ## The entries of the placed titles -/

theorem foldl_markEntries (titles : List Nat) (st : EntryState) (l : List OrderEntry) :
    titles.foldl (fun l t => l.map (fun e => if e.title = t then { e with state := st } else e)) l =
      l.map (fun e => if e.title ∈ titles then { e with state := st } else e) := by
  induction titles generalizing l with
  | nil => simp
  | cons t titles ih =>
    rw [List.foldl_cons, ih, List.map_map]
    refine List.map_congr_left fun e _ => ?_
    by_cases he : e.title = t
    · simp [he]
    · simp [he]

/-- The entries of a patron without a deferral, bound to a plan one after the other. -/
theorem State.patron_setEntries {s : State} {k : Nat} {p : Patron} (hp : s.patron k = some p) (hd : p.deferral = .none)
    (l : List Placement) (st : EntryState) :
    (l.foldl (fun s q => s.setEntry k q.title st) s).patron k = some
      { p with orders := p.orders.map (fun e => if e.title ∈ l.map (·.title) then { e with state := st } else e) } := by
  have each (l : List Placement) : (l.foldl (fun s q => s.setEntry k q.title st) s).patron k = some
      { p with
        orders := (l.map (·.title)).foldl
          (fun l t => l.map (fun e => if e.title = t then { e with state := st } else e)) p.orders } := by
    induction l generalizing s p with
    | nil => exact hp
    | cons q l ih =>
      have one : (s.setEntry k q.title st).patron k = some
          { p with orders := p.orders.map (fun e => if e.title = q.title then { e with state := st } else e) } :=
        State.patron_onPatron_cleared hp _ hd
      exact ih one hd
  rw [each, foldl_markEntries]

/-! ## The commit -/

theorem State.matchJobs_unavailable {s : State} (h : ∀ m ∈ slotNumbers, (s.slot m).available = false) : s.matchJobs = s := by
  have none (p : Plan) : s.slotFor p = none := by
    refine State.slotFor_eq_none.2 fun m q hm _ => ?_
    have := h m hm.1
    rw [(Slot.available_iff _).2 hm.2.2] at this
    cases this
  have offered (l : List Nat) : l.foldl State.offerJob s = s := by
    induction l with
    | nil => rfl
    | cons n l ih =>
      have same : s.offerJob n = s := by
        unfold State.offerJob
        split
        · rfl
        · rw [none]
      rw [List.foldl_cons, same, ih]
  have kept (l : List Nat) (hl : ∀ n ∈ l, n ∈ slotNumbers) : l.foldl State.preErase s = s := by
    induction l with
    | nil => rfl
    | cons n l ih =>
      have same : s.preErase n = s := by
        unfold State.preErase
        dsimp only
        rw [if_neg fun hx => ?_]
        have := h n (hl n List.mem_cons_self)
        rw [(Slot.available_iff _).2 (.inr (.inr hx))] at this
        cases this
      rw [List.foldl_cons, same, ih fun m hm => hl m (List.mem_cons_of_mem _ hm)]
  rw [State.matchJobs, offered, kept _ fun _ h => h]

/-- Everything a commit does before matching is tried. -/
def State.enrolled (s : State) (p : Plan) : State :=
  ((p.placements.foldl (fun t q => t.setEntry p.patron q.title (.planned s.nextPlan))
    (((s.admitPlan p).setPlan s.nextPlan p).setPlanner
      { ((s.admitPlan p).setPlan s.nextPlan p).planner with lastPlan := s.nextPlan })).raiseCarts p.patron).joinTail
    s.nextPlan p.rush

theorem State.commit_eq (s : State) (p : Plan) : s.commit p = (s.enrolled p).matchJobs := rfl

theorem State.plan_enrolled (s : State) (p : Plan) : (s.enrolled p).plan s.nextPlan = some p := by
  have : (s.enrolled p).planner.plans = s.planner.plans.put s.nextPlan p := by
    simp [State.enrolled, State.setPlan]
  rw [State.plan, this]
  exact Table.look_put _ _ _

theorem State.queue_joinTail (s : State) (n : Nat) (rush : Bool) :
    (s.joinTail n rush).planner.queue = if rush then
      s.planner.queue.take (s.rushJobs s.planner.queue) ++ n :: s.planner.queue.drop (s.rushJobs s.planner.queue)
    else s.planner.queue ++ [n] := by
  unfold State.joinTail
  split
  · rfl
  · rfl

theorem State.rushJobs_congr {s t : State} {q : List Nat} (h : ∀ n ∈ q, t.plan n = s.plan n) : t.rushJobs q = s.rushJobs q :=
  List.countP_congr fun n hn => by rw [h n hn]

theorem State.queue_enrolled {s : State} (p : Plan) (hn : s.nextPlan ∉ s.planner.queue) :
    (s.enrolled p).planner.queue = if p.rush then
      s.planner.queue.take (s.rushJobs s.planner.queue) ++ s.nextPlan ::
        s.planner.queue.drop (s.rushJobs s.planner.queue)
    else s.planner.queue ++ [s.nextPlan] := by
  rw [State.enrolled, State.queue_joinTail]
  generalize hu : (p.placements.foldl (fun t q => t.setEntry p.patron q.title (.planned s.nextPlan))
    (((s.admitPlan p).setPlan s.nextPlan p).setPlanner
      { ((s.admitPlan p).setPlan s.nextPlan p).planner with lastPlan := s.nextPlan })).raiseCarts p.patron = u
  have queue : u.planner.queue = s.planner.queue := by rw [← hu]; simp
  have plans : u.planner.plans = s.planner.plans.put s.nextPlan p := by rw [← hu]; simp [State.setPlan]
  have rush : u.rushJobs s.planner.queue = s.rushJobs s.planner.queue :=
    State.rushJobs_congr fun n hm => by
      rw [State.plan, plans]
      exact Table.look_put_of_ne _ _ fun h => hn (h ▸ hm)
  rw [queue, rush]

end Sys2Proof.Machine

namespace Sys2Proof.Proofs

open Sys2Proof Sys2Proof.Machine

/-- Settles O41: the commit's own writes one by one, and then what matching may do to the plan it has queued. -/
theorem commitRecordsPlan : Obligations.CommitRecordsPlan := by
  intro s k p plan hp hk hd hn n t
  have matched : (s.enrolled plan).Matched t := State.matched_matchJobs _
  have planned : (s.enrolled plan).plan n = some plan := s.plan_enrolled plan
  refine ⟨?_, ?_, ?_, fun q hq => ?_, fun ⟨q, hq, hi⟩ => ?_, by simp [t], by simp [t], by simp [t], by simp [t],
    by simp [t], by simp [t], by simp [t], by simp [t], by simp [t], fun hs hout => ?_⟩
  · simp [t, n, State.commit]
  · rcases matched.plan n with ⟨he, -⟩ | ⟨q, j, hq, -, -, ht, -⟩
    · exact ⟨plan, he.trans planned, rfl⟩
    · rw [planned] at hq
      cases hq
      exact ⟨_, ht, rfl⟩
  · have records : t.records = (s.enrolled plan).records := by simp [t, State.commit_eq]
    have admitted := (s.cleared_admitPlan plan).patron_none hp hd
    have entered := State.patron_setEntries (s := ((s.admitPlan plan).setPlan n plan).setPlanner
      { ((s.admitPlan plan).setPlan n plan).planner with lastPlan := n }) admitted hd plan.placements (.planned n)
    rw [State.patron, records, State.enrolled, hk]
    have raised := State.patron_onPatron_cleared entered (fun r => { r with cartCount := r.cartCount + 1 }) hd
    have joined (u : State) (m : Nat) (r : Bool) : (u.joinTail m r).records = u.records := by simp
    rw [joined]
    exact raised
  · have store : t.store.images = (s.admitPlan plan).store.images := by simp [t, State.commit]
    rw [State.pins, State.image, store]
    exact s.pins_admitPlan hn (List.mem_map_of_mem hq)
  · have link : t.link = (s.admitPlan plan).link := by simp [t, State.commit]
    have wanted : (s.needed plan.placements).isEmpty = false := by
      rw [Bool.eq_false_iff]
      intro he
      have : q ∈ s.needed plan.placements := List.mem_filter.2 ⟨hq, by simp [hi]⟩
      rw [List.isEmpty_iff.1 he] at this
      exact nomatch this
    have raised : ∃ u : State, (s.admitPlan plan).link = (u.raise .fetchWanted).link := by
      refine ⟨(s.needed plan.placements).foldl (fun s q => s.admitTitle q.title q.pages)
        (s.evict (plan.placements.map (·.title)) s.store.recency ((s.needed plan.placements).map (·.blocks)).sum
          (s.needed plan.placements).length), ?_⟩
      simp [State.admitPlan, wanted]
    obtain ⟨u, hu⟩ := raised
    rw [link, hu]
    exact Events.raise_holds _ _
  · intro group joined
    have queue : (s.enrolled plan).planner.queue = joined := State.queue_enrolled plan hout
    have member : n ∈ joined := by
      rw [← queue, State.queue_enrolled plan hout]
      split
      · simp [n]
      · simp [n]
    refine ⟨queue ▸ matched.queue, ?_, fun hx => ?_⟩
    · rcases matched.plan n with ⟨he, hx⟩ | ⟨q, j, hq, -, hj8, ht, hjob, -, hleft⟩
      · exact .inl ⟨hx (queue ▸ member), he.trans planned⟩
      · rw [planned] at hq
        cases hq
        exact .inr ⟨hleft, j, hj8, ht, hjob⟩
    · have rack : (s.enrolled plan).rack = s.rack := by simp [State.enrolled]
      have same : t = s.enrolled plan := State.matchJobs_unavailable fun m hm => by
        change ((s.enrolled plan).rack.getD (m - 1) Slot.bare).available = false
        rw [rack]
        exact hx m hm
      rw [same]
      exact ⟨queue, planned, rack⟩

end Sys2Proof.Proofs

end

section
/-!
PROOF. Plans that end (R55), what that does to the queue, the slots, the tray and the patron; obligations O38 and O32.
-/

namespace Sys2Proof.Machine

/-! ## Patrons but for a deferral cleared -/

/-- A change of a patron's record that leaves the deferral alone keeps the other patrons' agreement. -/
theorem State.Cleared.onPatron {s t : State} (h : s.Cleared t) (k : Nat) (f : Patron → Patron)
    (hf : ∀ p, f { p with deferral := .none } = { f p with deferral := .none }) :
    (s.onPatron k f).Cleared (t.onPatron k f) := by
  have look (u : State) (j : Nat) : (u.onPatron k f).patron j = if j = k then (u.patron j).map f else u.patron j := by
    unfold State.onPatron
    split
    · next p hp =>
      split
      · next hj => subst hj; rw [hp]; exact Table.look_put _ _ _
      · next hj => exact Table.look_put_of_ne _ _ hj
    · next hp =>
      split
      · next hj => subst hj; rw [hp]; rfl
      · rfl
  intro j
  rw [look, look]
  split
  · rcases h j with he | ⟨p, hp, he⟩
    · exact .inl (by rw [he])
    · exact .inr ⟨f p, by rw [hp]; rfl, by rw [he]; exact congrArg some (hf p)⟩
  · exact h j

theorem State.onPatron_onPatron (s : State) (k : Nat) (f g : Patron → Patron) :
    (s.onPatron k f).onPatron k g = s.onPatron k (fun p => g (f p)) := by
  cases hp : s.patron k with
  | none =>
    have same (h : Patron → Patron) : s.onPatron k h = s := by rw [State.onPatron, hp]
    rw [same, same, same]
  | some p =>
    have now := State.patron_onPatron hp f
    rw [State.onPatron, now]
    simp only [State.onPatron, hp]
    simp only [State.setPatron, State.setRecords, Table.put_put]

/-! ## What the end of a plan writes -/

/-- What a plan's end does to its patron's record: the entries return and the count drops. -/
def Patron.freed (p : Patron) (n : Nat) : Patron :=
  { p with
    orders := p.orders.map (fun e => if e.state = .planned n then { e with state := .waiting } else e)
    cartCount := p.cartCount - 1 }

theorem State.cleared_unpinAll (s : State) (p : Plan) : s.Cleared (s.unpinAll p) :=
  (State.Cleared.refl s).foldl (f := fun s (q : Placement) => s.unpin q.title) (fun u q => u.cleared_unpin q.title) p.placements

theorem State.cleared_freed (s : State) (k n : Nat) :
    (s.onPatron k (fun p => p.freed n)).Cleared ((s.returnEntries k n).dropCarts k) := by
  have dropped := ((State.cleared_clearFillLow (s.onPatron k fun r =>
    { r with orders := r.orders.map (fun e => if e.state = .planned n then { e with state := .waiting } else e) }) k).onPatron k
      (fun r => { r with cartCount := r.cartCount - 1 }) fun _ => rfl).trans (State.cleared_clearFillLow _ k)
  rw [State.onPatron_onPatron] at dropped
  exact dropped

theorem State.endPlan_of_none {s : State} {n : Nat} (h : s.plan n = none) : s.endPlan n = s := by
  rw [State.endPlan, h]

section
variable {s : State} {n : Nat} {p : Plan} (hp : s.plan n = some p)
include hp

theorem State.plans_endPlan : (s.endPlan n).planner.plans = s.planner.plans.del n := by
  rw [State.endPlan, hp]
  dsimp only
  split <;> simp [State.erasePlan]

theorem State.queue_endPlan : (s.endPlan n).planner.queue = (s.leavePlace n p).planner.queue := by
  rw [State.endPlan, hp]
  dsimp only
  split <;> simp [State.erasePlan]

theorem State.rack_endPlan : (s.endPlan n).rack = (s.leavePlace n p).rack := by
  rw [State.endPlan, hp]
  dsimp only
  split <;> simp

theorem State.mail_endPlan : (s.endPlan n).mail = (s.leavePlace n p).mail := by
  rw [State.endPlan, hp]
  dsimp only
  split <;> simp

theorem State.cleared_endPlan : (s.onPatron p.patron (fun r => r.freed n)).Cleared (s.endPlan n) := by
  have left : (s.onPatron p.patron (fun r => r.freed n)).Cleared ((s.leavePlace n p).onPatron p.patron (fun r => r.freed n)) :=
    (State.Cleared.of_eq (by simp)).onPatron _ _ fun _ => rfl
  have freed := left.trans (State.cleared_freed (s.leavePlace n p) p.patron n)
  rw [State.endPlan, hp]
  dsimp only
  split
  · exact freed.trans (.of_eq (by simp))
  · exact (freed.trans (State.cleared_unpinAll _ p)).trans (.of_eq (by simp))

end

theorem State.plan_endPlan {s : State} (h : s.planner.plans.rising = true) (n m : Nat) :
    (s.endPlan n).plan m = if m = n then none else s.plan m := by
  cases hp : s.plan n with
  | none =>
    rw [State.endPlan_of_none hp]
    split
    · next hm => rw [hm, hp]
    · rfl
  | some p =>
    rw [State.plan, State.plans_endPlan hp]
    split
    · next hm => rw [hm]; exact Table.look_del _ n h
    · next hm => exact Table.look_del_of_ne _ hm

/-! ## The place that an ending plan leaves -/

theorem State.slot_setSlot_or (s : State) (n j : Nat) (x : Slot) :
    (s.setSlot n x).slot j = s.slot j ∨ ((s.setSlot n x).slot j = x ∧ s.slot j = s.slot n) := by
  by_cases he : j - 1 = n - 1
  · have here (u : State) : u.slot j = u.slot n := by rw [State.slot, State.slot, he]
    rw [here, here]
    rcases Nat.lt_or_ge (n - 1) s.rack.length with hin | hout
    · exact .inr ⟨State.slot_setSlot_in hin x, rfl⟩
    · exact .inl (by simp [State.slot, State.setSlot, List.set_eq_of_length_le hout])
  · exact .inl (by simp [State.slot, State.setSlot, List.getD_eq_getElem?_getD, Ne.symm he])

theorem State.queue_leaveJobs (s : State) (n : Nat) :
    (s.leaveJobs n).planner.queue = s.planner.queue.filter (fun m => decide (m ≠ n)) := by
  unfold State.leaveJobs
  split
  · split
    · rfl
    · rfl
  · next h =>
    refine (List.filter_eq_self.2 fun m hm => ?_).symm
    have : m ≠ n := fun he => h (List.contains_iff_mem.2 (he ▸ hm))
    simpa using this

theorem State.queue_leavePlace (s : State) (n : Nat) (p : Plan) : (s.leavePlace n p).planner.queue =
    if p.state = .queued then s.planner.queue.filter (fun m => decide (m ≠ n)) else s.planner.queue := by
  cases h : p.state with
  | queued => simp only [State.leavePlace, h, State.queue_leaveJobs, if_true]
  | inSlot k =>
    simp only [State.leavePlace, h, reduceCtorEq, if_false]
    split <;> simp
  | mailing item => simp [State.leavePlace, h]

theorem State.tray_leavePlace (s : State) (n : Nat) (p : Plan) :
    (s.leavePlace n p).mail.tray = s.mail.tray.filter (fun x => decide (p.state ≠ .mailing x.number)) := by
  have all (h : ∀ x : Item, p.state ≠ .mailing x.number) :
      s.mail.tray = s.mail.tray.filter (fun x => decide (p.state ≠ .mailing x.number)) :=
    (List.filter_eq_self.2 fun x _ => by simpa using h x).symm
  unfold State.leavePlace
  split
  · next h => simpa using all fun x => by rw [h]; exact nofun
  · next h => split <;> simpa using all fun x => by rw [h]; exact nofun
  · next item h =>
    have fold (l : List Nat) (u : State) : (l.foldl (fun s k => s.undone n k) u).mail = u.mail := by
      rw [State.foldl_mail _ _ _ fun u k => by simp]
    rw [fold, h]
    simp [State.removeItem, eq_comm]

theorem State.job_undone (s : State) (n k j : Nat) :
    ((s.undone n k).slot j) = s.slot j ∨ ((s.undone n k).slot j).job = none ∧ (s.slot j).state = .done := by
  unfold State.undone
  dsimp only
  split
  · next h =>
    rcases s.slot_setSlot_or k j ((s.slot k).release .idleDirty) with he | ⟨he, hs⟩
    · exact .inl he
    · exact .inr ⟨by rw [he]; rfl, by rw [hs]; exact h.1⟩
  · exact .inl rfl

theorem State.slot_unbind_or (s : State) (n j : Nat) :
    (s.unbind n).slot j = s.slot j ∨ ((s.unbind n).slot j).job = none ∧ s.slot j = s.slot n := by
  rcases (s.loseRead n .awaited).slot_setSlot_or n j
    { (s.slot n).release .idleDirty with
      cart := (s.slot n).cart.map (fun c => c.mark .dirty), suspended := (s.slot n).eraseUnderWay
      awaiting := s.readGranted n
      finishing := (s.slot n).op.isSome || s.readGranted n
      readBack := if (s.slot n).op.any (·.op.isPageRead) then s.readBackOf (s.slot n) else none } with he | ⟨he, hs⟩
  · exact .inl he
  · exact .inr ⟨by rw [State.unbind, he]; rfl, hs⟩

/-- A slot keeps its job, or has none, when a plan leaves its place. -/
theorem State.job_leavePlace (s : State) (n : Nat) (p : Plan) (j : Nat) :
    ((s.leavePlace n p).slot j).job = (s.slot j).job ∨ ((s.leavePlace n p).slot j).job = none := by
  unfold State.leavePlace
  split
  · exact .inl (by simp [State.slot])
  · split
    · rcases s.slot_unbind_or _ j with he | ⟨he, -⟩
      · exact .inl (by rw [he])
      · exact .inr he
    · exact .inl rfl
  · next item h =>
    have fold (l : List Nat) (u : State) :
        ((l.foldl (fun s k => s.undone n k) u).slot j).job = (u.slot j).job ∨
          ((l.foldl (fun s k => s.undone n k) u).slot j).job = none := by
      induction l generalizing u with
      | nil => exact .inl rfl
      | cons k l ih =>
        rcases ih (u.undone n k) with he | he
        · rcases u.job_undone n k j with hu | ⟨hu, -⟩
          · exact .inl (by rw [List.foldl_cons, he, hu])
          · exact .inr (by rw [List.foldl_cons, he, hu])
        · exact .inr he
    exact fold slotNumbers (s.removeItem item)

/-- The slot that holds an ending plan no longer does. -/
theorem State.job_leavePlace_inSlot {s : State} {n k j : Nat} {p : Plan} (hp : p.state = .inSlot k)
    (hj : j - 1 = k - 1) : ((s.leavePlace n p).slot j).job ≠ some n := by
  have here (u : State) : u.slot j = u.slot k := by rw [State.slot, State.slot, hj]
  rw [here]
  simp only [State.leavePlace, hp]
  split
  · next hk =>
    have hin : k - 1 < s.rack.length := State.slot_in_rack fun hb => by rw [hb] at hk; cases hk
    rw [State.unbind, State.slot_setSlot_in (by simpa using hin)]
    exact nofun
  · next hk => exact hk

theorem State.matched_matchIdled (s old : State) : s.Matched (s.matchIdled old) := by
  unfold State.matchIdled
  split
  · exact s.matched_matchJobs
  · exact .refl s

/-- Matching gives no plan away that it does not find in the queue. -/
theorem State.Matched.job_ne {s t : State} (h : s.Matched t) {n j : Nat} (hn : n ∉ s.planner.queue)
    (hj : (s.slot j).job ≠ some n) : (t.slot j).job ≠ some n := by
  rcases h.job j with he | ⟨m, hm, he, -⟩
  · rwa [he]
  · rw [he]
    exact fun h => hn (Option.some.inj h ▸ hm)

theorem State.Matched.plan_none {s t : State} (h : s.Matched t) {n : Nat} (hn : s.plan n = none) : t.plan n = none := by
  rcases h.plan n with ⟨he, -⟩ | ⟨q, j, hq, -⟩
  · rw [he, hn]
  · rw [hn] at hq; cases hq

theorem State.answered_replied {s t : State} {i : Nat} {c : Instr} (h : s.serves i c) (hq : t.link.queue = s.link.queue)
    (fields : List Byte) : ((t.replied i fields).takeTrigger).answered i fields := by
  obtain ⟨-, -, -, code, tag, body, -, hi⟩ := h
  have stage := setStage_getElem? s.link.queue i (.formed (u8 0 ++ fields))
  simp only [State.answered, State.takeTrigger_frame, State.replied, State.formReply, hq]
  change ((setStage s.link.queue i (.formed (u8 0 ++ fields)))[i]?).map (·.stage) = _
  rw [stage, hi]
  rfl

end Sys2Proof.Machine

namespace Sys2Proof.Proofs

open Sys2Proof Sys2Proof.Machine

/-- Settles O38: PLAN NOW is a trigger and nothing else; PLAN CANCEL is the plan's end, and then what matching does. -/
theorem planNowAndPlanCancel : Obligations.PlanNowAndPlanCancel := by
  refine ⟨fun s i tag h hq => ?_, fun s i tag n p r h hq hs hn hp hr hroll hslot hqueue => ?_⟩
  · refine exec_accepted_trigger h rfl ?_
    simp [answerOf, answerPlanNow]
  · have answer : answerOf (.planCancel tag n) s = accept ((s.endPlan n).matchIdled s)
        (u8 p.state.code ++ u16 p.patron ++ u16 p.state.item ++ u32 (s.itemSerial p.state.item)) := by
      simp [answerOf, answerPlanCancel, State.findPlan, hn, hp, hroll]
    have matched := (s.endPlan n).matched_matchIdled s
    have plan : (s.endPlan n).plan n = none := by rw [State.plan_endPlan hs.2.2.2.1, if_pos rfl]
    have queue : n ∉ (s.endPlan n).planner.queue := by
      rw [State.queue_endPlan hp, State.queue_leavePlace]
      split
      · simp
      · next hq => exact fun hx => hq (hqueue hx)
    have job (m : Nat) (hm : m ∈ slotNumbers) : ((s.endPlan n).slot m).job ≠ some n := by
      rw [State.slot, State.rack_endPlan hp]
      rcases s.job_leavePlace n p m with he | he
      · intro hx
        have held := hslot m hm (he.symm.trans hx)
        exact State.job_leavePlace_inSlot held rfl hx
      · exact fun hx => nomatch he.symm.trans hx
    have tray : (s.endPlan n).mail.tray = s.mail.tray.filter (fun x => decide (p.state ≠ .mailing x.number)) := by
      rw [State.mail_endPlan hp, State.tray_leavePlace]
    obtain ⟨d, hd⟩ := (State.cleared_endPlan hp).patron (State.patron_onPatron hr _)
    have now : ((s.endPlan n).matchIdled s).patron p.patron = some { r.freed n with deferral := d } := by
      simpa [State.patron] using hd
    refine ⟨_, { r.freed n with deferral := d }, exec_accepted h rfl answer,
      State.answered_replied h (by simp) _, ?_, fun hx => ?_, fun m hm => ?_, fun x hx => ?_, ?_, rfl, rfl, rfl, rfl,
      ?_, ?_, ?_, ?_, ?_, ?_, ?_⟩
    · simpa [State.plan, State.replied] using matched.plan_none plan
    · exact queue (matched.queue.subset (by simpa [State.replied] using hx))
    · simpa [State.slot, State.replied] using matched.job_ne queue (job m hm)
    · have : x ∈ (s.endPlan n).mail.tray := by simpa [State.replied] using hx
      rw [tray] at this
      simpa using (List.mem_filter.1 this).2
    · simpa [State.patron, State.replied] using now
    all_goals simp [State.replied]

end Sys2Proof.Proofs

end

section
/-!
PROOF. PATRON CLOSE (R10): the plans, the set items and the Hold Queues, and the sweep after it; obligation O32.
-/

namespace Sys2Proof.Machine

/-! ## The plans of the patron -/

/-- What the ends of several plans of one patron leave. -/
theorem State.endPlans {s : State} (hs : s.ordered) {k : Nat} {r : Patron} (hr : s.patron k = some r) {l : List Nat}
    (hn : l.Nodup) (hl : ∀ n ∈ l, ∃ p, s.plan n = some p ∧ p.patron = k) :
    (∀ m, (l.foldl State.endPlan s).plan m = if m ∈ l then none else s.plan m) ∧
      ∃ o d, (l.foldl State.endPlan s).patron k =
        some { r with cartCount := r.cartCount - l.length, orders := o, deferral := d } := by
  induction l generalizing s r with
  | nil => exact ⟨fun m => by simp, r.orders, r.deferral, hr⟩
  | cons n l ih =>
    obtain ⟨hnl, hn⟩ := List.nodup_cons.1 hn
    obtain ⟨p, hp, rfl⟩ := hl n List.mem_cons_self
    obtain ⟨d, hd⟩ := (State.cleared_endPlan hp).patron (State.patron_onPatron hr _)
    have still : ∀ m ∈ l, ∃ q, (s.endPlan n).plan m = some q ∧ q.patron = p.patron := by
      intro m hm
      rw [State.plan_endPlan hs.2.2.2.1, if_neg (fun h : m = n => hnl (h ▸ hm))]
      exact hl m (List.mem_cons_of_mem _ hm)
    obtain ⟨plans, o, e, he⟩ := ih ((State.Formed.refl s).endPlan.ordered hs) hd hn still
    refine ⟨fun m => ?_, o, e, ?_⟩
    · rw [List.foldl_cons, plans, State.plan_endPlan hs.2.2.2.1]
      by_cases hm : m = n
      · simp [hm]
      · simp [hm]
    · rw [List.foldl_cons, he]
      simp [Patron.freed, Nat.sub_sub, Nat.add_comm]

/-- The set items of the tray stay when plans end whose items, where they have one, are none of them. -/
theorem State.setsOf_endPlans (s : State) (k : Nat) {l : List Nat} :
    (l.foldl State.endPlan s).mail.tray.Sublist s.mail.tray ∧
      ((∀ n ∈ l, ∀ p, s.plan n = some p → ∀ x ∈ s.mail.tray, x.kind.isSet = true → p.state ≠ .mailing x.number) →
        s.ordered → (l.foldl State.endPlan s).setsOf k = s.setsOf k) := by
  induction l generalizing s with
  | nil => exact ⟨List.Sublist.refl _, fun _ _ => rfl⟩
  | cons n l ih =>
    have one : (s.endPlan n).mail.tray.Sublist s.mail.tray ∧
        ((∀ p, s.plan n = some p → ∀ x ∈ s.mail.tray, x.kind.isSet = true → p.state ≠ .mailing x.number) →
          (s.endPlan n).setsOf k = s.setsOf k) := by
      cases hp : s.plan n with
      | none => rw [State.endPlan_of_none hp]; exact ⟨List.Sublist.refl _, fun _ => rfl⟩
      | some p =>
        have tray : (s.endPlan n).mail.tray = s.mail.tray.filter (fun x => decide (p.state ≠ .mailing x.number)) := by
          rw [State.mail_endPlan hp, State.tray_leavePlace]
        refine ⟨tray ▸ List.filter_sublist, fun h => ?_⟩
        rw [State.setsOf, State.setsOf, tray, List.filter_filter]
        refine List.filter_congr fun x hx => ?_
        by_cases hset : x.kind.isSet = true
        · simp [h p rfl x hx hset]
        · simp [hset]
    refine ⟨(ih (s.endPlan n)).1.trans one.1, fun h hs => ?_⟩
    rw [List.foldl_cons, (ih (s.endPlan n)).2 (fun m hm q hq x hx => ?_) ((State.Formed.refl s).endPlan.ordered hs),
      one.2 (h n List.mem_cons_self)]
    rw [State.plan_endPlan hs.2.2.2.1] at hq
    split at hq
    · cases hq
    · exact h m (List.mem_cons_of_mem _ hm) q hq x (one.1.subset hx)

/-! ## The set items of the patron -/

theorem State.title_onTitle (s : State) (t j : Nat) (f : Title → Title) :
    (s.onTitle t f).title j = if j = t then (s.title j).map f else s.title j := by
  unfold State.onTitle
  split
  · next r hr =>
    split
    · next hj => subst hj; rw [hr]; exact Table.look_put _ _ _
    · next hj => exact Table.look_put_of_ne _ _ hj
  · next hr =>
    split
    · next hj => subst hj; rw [hr]; rfl
    · rfl

/-- The copy is on the shelf or at the desk for mailing. -/
def State.atHand (s : State) (t c : Nat) : Prop :=
  ∃ w, s.title t = some w ∧ (w.copies[c - 1]? = some .shelf ∨ w.copies[c - 1]? = some .item)

/-- Copies that go to the shelf or to an item leave those at hand at hand. -/
theorem State.atHand.moveCopy {s : State} {t c : Nat} (h : s.atHand t c) (u x : Nat) {place : CopyPlace}
    (hp : place = .shelf ∨ place = .item) : (s.moveCopy u x place).atHand t c := by
  obtain ⟨w, hw, hc⟩ := h
  rw [State.atHand, State.moveCopy, State.title_onTitle, hw]
  split
  · refine ⟨_, rfl, ?_⟩
    dsimp only
    rw [List.getElem?_set]
    split
    · next he =>
      have hlt : c - 1 < w.copies.length := by
        rcases hc with hc | hc <;> exact (List.getElem?_eq_some_iff.1 hc).1
      rw [if_pos (he ▸ hlt)]
      exact hp.imp (congrArg some) (congrArg some)
    · exact hc
  · exact ⟨w, rfl, hc⟩

theorem State.atHand.leaveHold {s : State} {t c : Nat} (h : s.atHand t c) (k u : Nat) : (s.leaveHold k u).atHand t c := by
  obtain ⟨w, hw, hc⟩ := h
  rw [State.atHand, State.leaveHold, State.title_onTitle, hw]
  split
  · exact ⟨_, rfl, hc⟩
  · exact ⟨w, rfl, hc⟩

theorem State.atHand.of_eq {s t : State} {j c : Nat} (h : s.atHand j c) (he : t.records.titles = s.records.titles) :
    t.atHand j c := by
  rw [State.atHand, State.title, he]
  exact h

theorem State.withdrawSet_eq (s : State) {x : Item} {t c : Nat} (hx : x.kind = .set t c) :
    s.withdrawSet x = ((s.removeItem x.number).moveCopy t c .shelf).dropSets x.patron := by
  rw [State.withdrawSet, hx]

theorem State.atHand.withdrawSet {s : State} {t c : Nat} (h : s.atHand t c) (x : Item) : (s.withdrawSet x).atHand t c := by
  cases hx : x.kind with
  | cartridge n serial => rw [State.withdrawSet, hx]; exact h
  | set u d =>
    rw [State.withdrawSet_eq s hx]
    exact ((h.of_eq (t := s.removeItem x.number) rfl).moveCopy u d (.inl rfl)).of_eq (by simp)

/-- A title's record is there, with as many places for copies. -/
def State.placesFor (s : State) (t n : Nat) : Prop := ∃ w, s.title t = some w ∧ w.copies.length = n

theorem State.placesFor.moveCopy {s : State} {t n : Nat} (h : s.placesFor t n) (u x : Nat) (place : CopyPlace) :
    (s.moveCopy u x place).placesFor t n := by
  obtain ⟨w, hw, hc⟩ := h
  rw [State.placesFor, State.moveCopy, State.title_onTitle, hw]
  split
  · exact ⟨_, rfl, by simpa using hc⟩
  · exact ⟨w, rfl, hc⟩

/-- What the withdrawal of several set items of one patron leaves. -/
theorem State.withdrawSets {s : State} {k : Nat} {r : Patron} (hr : s.patron k = some r) {l : List Item}
    (hl : ∀ x ∈ l, x.patron = k ∧ x.kind.isSet = true) :
    (l.foldl State.withdrawSet s).mail.tray = s.mail.tray.filter (fun y => decide (y.number ∉ l.map (·.number))) ∧
      (∃ d, (l.foldl State.withdrawSet s).patron k = some { r with setCount := r.setCount - l.length, deferral := d }) ∧
      (∀ t c, s.atHand t c → (l.foldl State.withdrawSet s).atHand t c) ∧
      ∀ x ∈ l, ∀ t c n, x.kind = .set t c → s.placesFor t n → c - 1 < n → (l.foldl State.withdrawSet s).atHand t c := by
  induction l generalizing s r with
  | nil => exact ⟨by simp, ⟨r.deferral, hr⟩, fun _ _ h => h, fun _ h => nomatch h⟩
  | cons x l ih =>
    obtain ⟨hk, hset⟩ := hl x List.mem_cons_self
    obtain ⟨t, c, hx⟩ : ∃ t c, x.kind = .set t c := by
      cases hx : x.kind with
      | set t c => exact ⟨t, c, rfl⟩
      | cartridge n serial => rw [hx] at hset; cases hset
    have one := State.withdrawSet_eq s hx
    have there : ((s.removeItem x.number).moveCopy t c .shelf).patron k = some r := by simpa [State.patron] using hr
    obtain ⟨d, hd⟩ := (State.cleared_clearFillLow
      (((s.removeItem x.number).moveCopy t c .shelf).onPatron k fun r => { r with setCount := r.setCount - 1 }) k).patron
        (State.patron_onPatron there _)
    have now : (s.withdrawSet x).patron k = some { r with setCount := r.setCount - 1, deferral := d } := by
      rw [one, hk]
      exact hd
    obtain ⟨tray, ⟨e, he⟩, kept, gone⟩ := ih now fun y hy => hl y (List.mem_cons_of_mem _ hy)
    refine ⟨?_, ⟨e, ?_⟩, fun u d hu => kept u d (hu.withdrawSet x), fun y hy u d n hu hn hd => ?_⟩
    · rw [List.foldl_cons, tray, one]
      simp only [State.dropSets_frame, State.moveCopy_frame, State.removeItem, State.setMail, List.filter_filter]
      refine List.filter_congr fun y _ => ?_
      by_cases hy : y.number = x.number
      · simp [hy]
      · simp [hy]
    · rw [List.foldl_cons, he]
      simp [Nat.sub_sub, Nat.add_comm]
    · rcases List.mem_cons.1 hy with rfl | hy
      · rw [hx] at hu
        cases hu
        refine kept _ _ ?_
        obtain ⟨w, hw, hlen⟩ := hn
        refine State.atHand.of_eq (s := (s.removeItem y.number).moveCopy t c .shelf) ?_ (by rw [one]; simp)
        rw [State.atHand, State.moveCopy, State.title_onTitle, if_pos rfl]
        have : (s.removeItem y.number).title t = some w := hw
        rw [this]
        exact ⟨_, rfl, .inl (by simp [hlen, hd])⟩
      · refine gone y hy u d n hu ?_ hd
        obtain ⟨w, hw, hlen⟩ := ((show (s.removeItem x.number).placesFor u n from hn).moveCopy t c .shelf)
        exact ⟨w, by rw [one]; simpa [State.title] using hw, hlen⟩

/-! ## The Hold Queues -/

theorem State.title_leaveHolds (s : State) (k : Nat) (l : List Nat) (j : Nat) :
    (l.foldl (fun s t => s.leaveHold k t) s).title j =
      if j ∈ l then (s.title j).map (fun w => { w with holds := w.holds.filter (· ≠ k) }) else s.title j := by
  induction l generalizing s with
  | nil => simp
  | cons t l ih =>
    rw [List.foldl_cons, ih, State.leaveHold, State.title_onTitle]
    by_cases hj : j = t
    · subst hj
      cases s.title j with
      | none => simp
      | some w => by_cases hl : j ∈ l <;> simp [hl, List.filter_filter]
    · simp [hj]

/-- A patron is out of every Hold Queue, and no set item of the tray is the patron's. -/
def State.outOf (s : State) (k : Nat) : Prop :=
  (∀ j w, s.title j = some w → k ∉ w.holds) ∧ ∀ x ∈ s.mail.tray, x.patron = k → x.kind.isSet = false

/-! ## The sweep -/

theorem State.sweepOnce_cases {s u : State} {t : Nat} (h : s.sweepOnce t = some u) : ∃ r c p, s.title t = some r ∧
    r.withdrawn = false ∧ r.shelfCopy = some c ∧ r.holds.find? s.canTake = some p ∧
    u = (((s.leaveHold p t).allocate p t c).setEntry p t (.allocated s.nextItem c)).raise .holdFilled := by
  unfold State.sweepOnce at h
  split at h
  · cases h
  · next r hr =>
    split at h
    · cases h
    · next hw =>
      split at h
      · next c p hc hp =>
        cases h
        exact ⟨r, c, p, hr, by simpa using hw, hc, hp, rfl⟩
      · cases h

/-- What each allocation keeps, a sweep keeps. -/
theorem State.sweep_keeps {P : State → Prop} (hP : ∀ (t u : State) j, P t → t.sweepOnce j = some u → P u) {s : State}
    (hs : P s) (titles : List Nat) : P (s.sweep titles) := by
  have one (t : State) (j fuel : Nat) (ht : P t) : P (t.sweepTitle j fuel) := by
    induction fuel generalizing t with
    | zero => exact ht
    | succ fuel ih =>
      unfold State.sweepTitle
      split
      · next u hu => exact ih u (hP t u j ht hu)
      · exact ht
  unfold State.sweep
  induction titles generalizing s with
  | nil => exact hs
  | cons j titles ih => exact ih (one s j _ hs)

theorem State.patron_onPatron_ne (s : State) {k j : Nat} (h : j ≠ k) (f : Patron → Patron) :
    (s.onPatron k f).patron j = s.patron j := by
  unfold State.onPatron
  split
  · exact Table.look_put_of_ne _ _ h
  · rfl

theorem State.patron_clearFillLow_ne (s : State) {k j : Nat} (h : j ≠ k) : (s.clearFillLow k).patron j = s.patron j := by
  unfold State.clearFillLow
  split
  · split
    · exact Table.look_put_of_ne _ _ h
    · rfl
  · rfl

/-- An allocation goes to another patron than a closed one, and leaves it and what is at hand as they were. -/
theorem State.closed_sweepOnce {s u : State} {t k : Nat} {p : Patron} (h : s.sweepOnce t = some u)
    (hp : s.patron k = some p) (hc : p.state = .closed) (ho : s.outOf k) :
    u.patron k = some p ∧ u.outOf k ∧ ∀ j c, s.atHand j c → u.atHand j c := by
  obtain ⟨r, c, q, hr, -, -, hq, rfl⟩ := State.sweepOnce_cases h
  have takes := List.find?_some hq
  have other : k ≠ q := by
    rintro rfl
    simp [State.canTake, hp, hc] at takes
  have titles : ((((s.leaveHold q t).allocate q t c).setEntry q t (.allocated s.nextItem c)).raise .holdFilled).records.titles =
      ((s.leaveHold q t).moveCopy t c .item).records.titles := by
    simp [State.allocate]
  refine ⟨?_, ⟨fun j w hw => ?_, fun x hx hk => ?_⟩, fun j d hj => ((hj.leaveHold q t).moveCopy t c (.inr rfl)).of_eq titles⟩
  · have raised : (((s.leaveHold q t).allocate q t c)).patron k = some p := by
      rw [State.allocate, State.raiseSets, State.patron_clearFillLow_ne _ other, State.patron_onPatron_ne _ other]
      simpa [State.patron] using hp
    have told (v : State) : (v.raise .holdFilled).patron k = v.patron k := rfl
    rw [told, State.setEntry, State.patron_clearFillLow_ne _ other, State.patron_onPatron_ne _ other]
    exact raised
  · rw [State.title, titles, ← State.title, State.moveCopy, State.title_onTitle, State.leaveHold, State.title_onTitle] at hw
    cases hj : s.title j with
    | none => rw [hj] at hw; split at hw <;> cases hw
    | some v =>
      rw [hj] at hw
      have out := ho.1 j v hj
      split at hw
      · cases hw
        exact fun hx => out (List.mem_filter.1 hx).1
      · cases hw
        exact out
  · have : x ∈ s.mail.tray ++ [{ number := (s.leaveHold q t).nextItem, patron := q, kind := .set t c, state := .awaitingPull }] := by
      simpa [State.allocate, State.addItem, State.nextItem] using hx
    rcases List.mem_append.1 this with hx | hx
    · exact ho.2 x hx hk
    · rw [List.mem_singleton.1 hx] at hk
      exact absurd hk.symm other

/-! ## The close -/

theorem State.mem_plansOf {s : State} (hs : s.ordered) {k n : Nat} :
    n ∈ s.plansOf k ↔ ∃ p, s.plan n = some p ∧ p.patron = k := by
  simp only [State.plansOf, List.mem_map, List.mem_filter, decide_eq_true_eq]
  constructor
  · rintro ⟨⟨m, p⟩, ⟨hm, hk⟩, rfl⟩
    exact ⟨p, Table.look_of_mem hs.2.2.2.1 hm, hk⟩
  · rintro ⟨p, hp, hk⟩
    exact ⟨(n, p), ⟨Table.mem_of_look hp, hk⟩, rfl⟩

theorem State.plansOf_nodup {s : State} (hs : s.ordered) (k : Nat) : (s.plansOf k).Nodup :=
  (Table.rising_keys hs.2.2.2.1).sublist (List.filter_sublist.map _)

theorem State.mem_holdsOf {s : State} {k j : Nat} {w : Title} (hw : s.title j = some w) (hk : k ∈ w.holds) :
    j ∈ s.holdsOf k :=
  List.mem_map.2 ⟨(j, w), List.mem_filter.2 ⟨Table.mem_of_look hw, by simpa [queueHolds] using hk⟩, rfl⟩

/-- No set item shares its number with a cartridge item that a plan names. -/
theorem State.set_not_mailing {s : State} (h : s.trayRight) {n : Nat} {p : Plan} (hp : s.plan n = some p) {x : Item}
    (hx : x ∈ s.mail.tray) (hset : x.kind.isSet = true) : p.state ≠ .mailing x.number := by
  intro hm
  obtain ⟨y, hy, hnum, serial, hkind⟩ := h.2.2 n p x.number hp hm
  have same : y = x := List.inj_on_of_nodup_map h.1 hy hx hnum
  rw [← same, hkind] at hset
  cases hset

/-- The state of a patron closed: what PATRON CLOSE has made of it before the sweep. -/
theorem State.closePatron_closed {s : State} (hs : s.ordered) {k : Nat} {r : Patron} (hr : s.patron k = some r) :
    ∃ carts sets, (s.closePatron k).patron k = some
        { r with
          state := .closed, pauseUntil := none, deferral := .none, orders := [], cartCount := r.cartCount - carts
          setCount := r.setCount - sets } ∧
      (s.closePatron k).outOf k ∧ (∀ n p, (s.closePatron k).plan n = some p → p.patron ≠ k) ∧
      (s.shaped → s.plansBound → carts = (s.plansOf k).length ∧ sets = (s.setsOf k).length ∧
        ∀ x ∈ s.setsOf k, ∀ t c u, x.kind = .set t c → s.title t = some u → u.format = .pbraille → 1 ≤ c → c ≤ 15 →
          (s.closePatron k).atHand t c) := by
  obtain ⟨plans, o, d, hd⟩ := State.endPlans hs hr (s.plansOf_nodup hs k) fun n hn => (State.mem_plansOf hs).1 hn
  have sets := State.setsOf_endPlans s k (l := s.plansOf k)
  unfold State.closePatron
  dsimp only
  generalize hu : (s.plansOf k).foldl State.endPlan s = u at plans hd sets
  have hou : u.ordered := hu ▸ ((State.Formed.refl s).foldl fun _ _ hx => hx.endPlan).ordered hs
  have titles : u.records.titles = s.records.titles := by
    rw [← hu]
    exact State.foldl_records_titles _ _ _ fun _ _ => by simp
  have mine : ∀ x ∈ u.setsOf k, x.patron = k ∧ x.kind.isSet = true := fun x hx => by
    simpa [State.setsOf] using (List.mem_filter.1 hx).2
  obtain ⟨tray, ⟨e, he⟩, -, gone⟩ := State.withdrawSets hd mine
  generalize hv : (u.setsOf k).foldl State.withdrawSet u = v at tray he gone
  have plansv : v.planner.plans = u.planner.plans := by
    rw [← hv]
    exact State.foldl_planner_plans _ _ _ fun _ _ => by simp
  have hov : v.ordered := hv ▸ ((State.Formed.refl u).foldl fun _ _ hx => hx.withdrawSet).ordered hou
  obtain ⟨f, hf⟩ := (State.cleared_clearFillLow
    (v.onPatron k fun r => { r with orders := r.orders.filter (fun _ => !true) }) k).patron (State.patron_onPatron he _)
  generalize hw : v.removeEntries k (fun _ => true) = w at *
  have hpw : w.patron k = some
      { r with
        cartCount := r.cartCount - (s.plansOf k).length, setCount := r.setCount - (u.setsOf k).length, orders := []
        deferral := f } := by
    rw [← hw]
    refine hf.trans ?_
    simp
  have framew : w.records.titles = v.records.titles ∧ w.mail = v.mail ∧ w.planner.plans = v.planner.plans := by
    rw [← hw]
    simp
  obtain ⟨htw, hmw, hqw⟩ := framew
  generalize hx : (w.holdsOf k).foldl (fun s t => s.leaveHold k t) w = x
  have framex : x.records.patrons = w.records.patrons ∧ x.mail = w.mail ∧ x.planner = w.planner := by
    rw [← hx]
    exact ⟨State.foldl_records_patrons _ _ _ fun _ _ => by simp, State.foldl_mail _ _ _ fun _ _ => by simp,
      State.foldl_planner _ _ _ fun _ _ => by simp⟩
  obtain ⟨hpx, hmx, hqx⟩ := framex
  have there : x.patron k = w.patron k := by rw [State.patron, hpx]; rfl
  rw [hpw] at there
  have closed := State.patron_onPatron there fun r => { r with state := .closed, pauseUntil := none, deferral := .none }
  have framey (g : Patron → Patron) : (x.onPatron k g).records.titles = x.records.titles ∧
      (x.onPatron k g).mail = x.mail ∧ (x.onPatron k g).planner = x.planner := by simp
  obtain ⟨hty, hmy, hqy⟩ := framey fun r => { r with state := .closed, pauseUntil := none, deferral := .none }
  refine ⟨(s.plansOf k).length, (u.setsOf k).length, closed, ⟨fun j z hz => ?_, fun y hy hk => ?_⟩, fun n p hp => ?_,
    fun hshape hb => ⟨rfl, ?_, fun y hy t c z hkind hz hf h1 h15 => ?_⟩⟩
  · rw [State.title, hty, ← State.title, ← hx, State.title_leaveHolds] at hz
    cases hj : w.title j with
    | none => rw [hj] at hz; split at hz <;> cases hz
    | some q =>
      rw [hj] at hz
      split at hz
      · cases hz
        simp
      · next hnot =>
        cases hz
        exact fun hk => hnot (State.mem_holdsOf hj hk)
  · rw [hmy, hmx, hmw, tray] at hy
    obtain ⟨hyu, hnum⟩ := List.mem_filter.1 hy
    by_contra hset
    have : y ∈ u.setsOf k := List.mem_filter.2 ⟨hyu, by simp [hk, hset]⟩
    simp only [decide_eq_true_eq] at hnum
    exact hnum (List.mem_map_of_mem this)
  · rw [State.plan, hqy, hqx, hqw, plansv, ← State.plan, plans] at hp
    split at hp
    · cases hp
    · next hnot => exact fun hk => hnot ((State.mem_plansOf hs).2 ⟨p, hp, hk⟩)
  · rw [sets.2 (fun n _ p hp y hy hset => State.set_not_mailing hb.2.2.1 hp hy hset) hs]
  · rw [← sets.2 (fun n _ p hp y hy hset => State.set_not_mailing hb.2.2.1 hp hy hset) hs] at hy
    have length : z.copies.length = 15 := hshape.2.2.2.2 (t, z) (Table.mem_of_look hz) hf
    have here : v.atHand t c := gone y hy t c 15 hkind ⟨z, by rw [State.title, titles]; exact hz, length⟩ (by omega)
    refine State.atHand.of_eq (s := x) ?_ hty
    have held : w.atHand t c := here.of_eq htw
    rw [← hx]
    generalize w.holdsOf k = l
    clear hx hpw htw hmw hqw hw hpx hmx hqx
    induction l generalizing w with
    | nil => exact held
    | cons j l ih => exact ih _ (held.leaveHold k j)

end Sys2Proof.Machine

namespace Sys2Proof.Proofs

open Sys2Proof Sys2Proof.Machine

/-- Settles O32: the close as its writes leave it, which neither the sweep nor matching touches for a closed patron. -/
theorem patronClosedAndReleased : Obligations.PatronClosedAndReleased := by
  intro s i tag n k r h hq hs hn hk hr hopen hroll
  obtain ⟨carts, sets, hp, hout, hplans, counts⟩ := State.closePatron_closed hs hr
  generalize hpp : ({ r with
    state := .closed, pauseUntil := none, deferral := .none, orders := [], cartCount := r.cartCount - carts
    setCount := r.setCount - sets } : Patron) = p at hp
  have hc : p.state = .closed := by rw [← hpp]
  generalize hl : (s.setsOf k).filterMap Item.setTitle = l
  have swept : ((s.closePatron k).sweepAfterClose l).patron k = some p ∧
      ((s.closePatron k).sweepAfterClose l).outOf k ∧
        ∀ j c, (s.closePatron k).atHand j c → ((s.closePatron k).sweepAfterClose l).atHand j c := by
    unfold State.sweepAfterClose
    split
    · exact ⟨hp, hout, fun _ _ h => h⟩
    · refine State.sweep_keeps (P := fun u => u.patron k = some p ∧ u.outOf k ∧
        ∀ j c, (s.closePatron k).atHand j c → u.atHand j c) (fun t u j ⟨ht, hto, hth⟩ hu => ?_) ⟨hp, hout, fun _ _ h => h⟩ _
      obtain ⟨hu1, hu2, hu3⟩ := State.closed_sweepOnce hu ht hc hto
      exact ⟨hu1, hu2, fun j c hj => hu3 j c (hth j c hj)⟩
  have formed : s.Formed ((s.closePatron k).sweepAfterClose l) := by
    unfold State.sweepAfterClose
    split
    · exact (State.Formed.refl s).closePatron
    · exact (State.Formed.refl s).closePatron.sweep
  have plansu : ((s.closePatron k).sweepAfterClose l).planner.plans = (s.closePatron k).planner.plans := by simp
  have link : (((s.closePatron k).sweepAfterClose l).matchIdled s).link.patronCtx = s.link.patronCtx ∧
      (((s.closePatron k).sweepAfterClose l).matchIdled s).link.queue = s.link.queue ∧
      (((s.closePatron k).sweepAfterClose l).matchIdled s).link.settings = s.link.settings := by simp
  have frame : ((s.closePatron k).sweepAfterClose l).records.loans = s.records.loans ∧
      ((s.closePatron k).sweepAfterClose l).records.lost = s.records.lost ∧
      ((s.closePatron k).sweepAfterClose l).calendar = s.calendar ∧
      ((s.closePatron k).sweepAfterClose l).returns = s.returns ∧
      ((s.closePatron k).sweepAfterClose l).store.flash = s.store.flash := by simp
  have answer : answerOf (.patronClose tag n) s =
      accept ((((s.closePatron k).sweepAfterClose l).matchIdled s).usePatron n)
        (u8 (s.plansOf k).length ++ u8 (s.setsOf k).length ++ u8 r.orders.length ++ u8 (s.holdsOf k).length ++
          u8 (s.loansOf k).length) := by
    simp [answerOf, answerPatronClose, State.findPatron_of_named hn hk hr, hopen, hroll, hl]
  generalize (s.closePatron k).sweepAfterClose l = u at swept formed plansu link frame answer
  obtain ⟨hu, ho, hat⟩ := swept
  have matched := u.matched_matchIdled s
  have ordered : (u.matchIdled s).ordered := formed.matchIdled.ordered hs
  rw [State.usePatron_after hk link.1] at answer
  refine ⟨_, p, exec_accepted h rfl answer, State.answered_replied h (by simpa using link.2.1) _, ?_, hc, ?_, ?_, ?_, ?_, ?_,
    fun e he => ?_, fun x hx hx' => ?_, fun e he => ?_, ?_, ?_, ?_, ?_, ?_, ?_, ?_, fun hshape hb => ?_⟩
  · simpa [State.patron, State.replied] using hu
  any_goals (rw [← hpp])
  · have he : e ∈ (u.matchIdled s).planner.plans := by simpa [State.replied] using he
    have look : (u.matchIdled s).plan e.1 = some e.2 := Table.look_of_mem ordered.2.2.2.1 he
    rcases matched.plan e.1 with ⟨hx, -⟩ | ⟨q, j, hq, -, -, ht, -⟩
    · rw [hx, State.plan, plansu] at look
      exact hplans _ _ look
    · rw [State.plan, plansu] at hq
      rw [ht] at look
      rw [← Option.some.inj look]
      exact show q.patron ≠ k from hplans _ q hq
  · exact ho.2 x (by simpa [State.replied] using hx) hx'
  · have he : e ∈ u.records.titles := by simpa [State.replied] using he
    exact ho.1 e.1 e.2 (Table.look_of_mem (formed.ordered hs).2.1 he)
  · simpa [State.replied] using frame.1
  · simpa [State.replied] using frame.2.1
  · simp [State.replied]
  · simpa [State.replied] using link.2.2
  · simpa [State.replied] using frame.2.2.1
  · simpa [State.replied] using frame.2.2.2.1
  · simpa [State.replied] using frame.2.2.2.2
  · obtain ⟨hcarts, hsets, hcopies⟩ := counts hshape hb
    refine ⟨by rw [hcarts], by rw [hsets], fun x hx t c z hkind hz hf h1 h15 => ?_⟩
    obtain ⟨w, hw, hc⟩ := hat t c (hcopies x hx t c z hkind hz hf h1 h15)
    exact ⟨w, by simpa [State.title, State.replied] using hw, hc⟩

end Sys2Proof.Proofs

end

section
/-!
PROOF. The sockets: insertion, removal, identification and faults (R85 to R90, R106 to R110); obligations O47,
O48 and O52.
-/

namespace Sys2Proof.Machine

/-! ## Reports -/

theorem State.report_answered {s : State} {n : Nat} {answers : CartOp → Bool} {f : CartOp → State → State} {op : CartOp}
    (he : (s.slot n).state ≠ .empty) (hf : (s.slot n).state ≠ .fault) (ho : (s.slot n).op.map (·.op) = some op)
    (ha : answers op = true) : s.report n answers f = f op s := by
  obtain ⟨o, hop, rfl⟩ := Option.map_eq_some_iff.1 ho
  unfold State.report
  rw [hop]
  cases hst : (s.slot n).state <;> simp_all

theorem State.report_stray {s : State} {n : Nat} {answers : CartOp → Bool} {f : CartOp → State → State}
    (he : (s.slot n).state ≠ .empty) (hf : (s.slot n).state ≠ .fault)
    (ho : ∀ o, (s.slot n).op = some o → answers o.op = false) : s.report n answers f = s.slotFault n .protocol := by
  unfold State.report
  cases hst : (s.slot n).state <;> cases hop : (s.slot n).op <;> simp_all

theorem State.report_idle {s : State} {n : Nat} {answers : CartOp → Bool} {f : CartOp → State → State}
    (h : (s.slot n).state = .empty ∨ (s.slot n).state = .fault) : s.report n answers f = s := by
  unfold State.report
  rcases h with h | h
  · rw [h]
  · rw [h]

section
variable {c : Instr} {n : Nat} {g : State → State} (hc : socketWork c = some (n, g)) (h1 : 1 ≤ n) (h8 : n ≤ 8)
include hc h1 h8

theorem exec_socket {s : State} (hr : s.run = .running) : exec c s = .next (g s).takeTrigger := by
  rw [exec_socketWork hc, State.socketEvent, if_neg (by simp only [Config.slots]; omega), if_neg (by simp [hr])]

theorem exec_socket_idle {s : State} (hr : s.run ≠ .running) : exec c s = .next s := by
  rw [exec_socketWork hc, State.socketEvent, if_neg (by simp only [Config.slots]; omega), if_pos hr]

/-- A report that answers the operation in hand. -/
theorem exec_report {s : State} {answers : CartOp → Bool} {f : CartOp → State → State} (hg : g s = s.report n answers f)
    (hr : s.run = .running) (he : (s.slot n).state ≠ .empty) (hf : (s.slot n).state ≠ .fault) {op : CartOp}
    (ho : (s.slot n).op.map (·.op) = some op) (ha : answers op = true) : exec c s = .next (f op s).takeTrigger := by
  rw [exec_socket hc h1 h8 hr, hg, State.report_answered he hf ho ha]

end

section
variable {s : State} {n : Nat} (h1 : 1 ≤ n) (h8 : n ≤ 8) (hr : s.run = .running) (he : (s.slot n).state ≠ .empty)
  (hf : (s.slot n).state ≠ .fault)
include h1 h8 hr he hf

theorem exec_identityReadDone {ok : Bool} {area : List Byte} (ho : (s.slot n).op.map (·.op) = some .readIdentity) :
    exec (.identityReadDone n ok area) s = .next (s.identityRead n (identityOf ok area)).takeTrigger :=
  exec_report (f := fun _ s => s.identityRead n (identityOf ok area)) rfl h1 h8 rfl hr he hf ho rfl

theorem exec_pageReadDone {ok : Bool} {page : List Byte} {b k : Nat}
    (ho : (s.slot n).op.map (·.op) = some (.readPage b k)) :
    exec (.pageReadDone n ok page) s = .next (s.pageRead n ok page).takeTrigger :=
  exec_report (f := fun _ s => s.pageRead n ok page) rfl h1 h8 rfl hr he hf ho rfl

theorem exec_permitReply {granted : Bool} {w : WriteOp} (ho : (s.slot n).op.map (·.op) = some (.grantPermit w)) :
    exec (.permitReply n granted) s = .next (s.permitReply n granted w).takeTrigger :=
  exec_report (f := fun o s =>
    match o with
    | .grantPermit w => s.permitReply n granted w
    | _ => s) rfl h1 h8 rfl hr he hf ho rfl

theorem exec_pageProgramDone {ok : Bool} {b k : Nat} {data : List Byte}
    (ho : (s.slot n).op.map (·.op) = some (.write (.program b k data))) :
    exec (.pageProgramDone n ok) s = .next (s.programDone n ok).takeTrigger :=
  exec_report (f := fun _ s => s.programDone n ok) rfl h1 h8 rfl hr he hf ho rfl

theorem exec_eraseDone {ok : Bool} {op : CartOp} (ho : (s.slot n).op.map (·.op) = some op)
    (ha : (s.slot n).awaitsErase op = true) : exec (.eraseDone n ok) s = .next (s.eraseDone n ok op).takeTrigger :=
  exec_report (f := fun o s => s.eraseDone n ok o) rfl h1 h8 rfl hr he hf ho ha

theorem exec_markCycleDone (ho : (s.slot n).op.map (·.op) = some .markCycle) :
    exec (.markCycleDone n) s = .next (s.markDone n).takeTrigger :=
  exec_report (f := fun _ s => s.markDone n) rfl h1 h8 rfl hr he hf ho rfl

theorem exec_suspendDone (ho : (s.slot n).op.map (·.op) = some .suspend) :
    exec (.suspendDone n) s = .next (s.suspendDone n).takeTrigger :=
  exec_report (f := fun _ s => s.suspendDone n) rfl h1 h8 rfl hr he hf ho rfl

theorem exec_resumeDone (ho : (s.slot n).op.map (·.op) = some .resume) :
    exec (.resumeDone n) s = .next (s.resumeDone n).takeTrigger :=
  exec_report (f := fun _ s => s.resumeDone n) rfl h1 h8 rfl hr he hf ho rfl

end

/-! ## Identification -/

theorem identityOf_good {area : List Byte} {c : Cls} (hl : area.length = 12) (hs : leAt area 0 4 ≠ 0)
    (hc : leAt area 4 1 = c.code) : identityOf true area =
      some { serial := leAt area 0 4, cls := c, cycles := leAt area 8 4, tab := decide (leAt area 5 1 ≠ 0) } := by
  have : clsOf c.code = some c := by cases c <;> rfl
  simp [identityOf, hl, hs, hc, this, flagOf]

theorem identityOf_bad {ok : Bool} {area : List Byte}
    (h : ok = false ∨ area.length ≠ 12 ∨ leAt area 0 4 = 0 ∨ (∀ c : Cls, leAt area 4 1 ≠ c.code)) :
    identityOf ok area = none := by
  unfold identityOf
  split
  · next hx =>
    obtain ⟨⟨hok, hl⟩, hs⟩ : (ok = true ∧ area.length = 12) ∧ leAt area 0 4 ≠ 0 := by simpa using hx
    have none : clsOf (leAt area 4 1) = none := by
      have hc := ((h.resolve_left (by simp [hok])).resolve_left (by simp [hl])).resolve_left hs
      unfold clsOf
      split
      · next h2 => exact absurd h2 (hc .c2)
      · next h4 => exact absurd h4 (hc .c4)
      · next h8 => exact absurd h8 (hc .c8)
      · rfl
    rw [none]
  · rfl

theorem State.serialSlot_setSlot {s : State} {n : Nat} (hn : n ∈ slotNumbers) (x : Slot) (serial : Nat) :
    (s.setSlot n x).serialSlot serial (fun k => decide (k ≠ n)) = s.serialSlot serial (fun k => decide (k ≠ n)) := by
  unfold State.serialSlot
  refine List.find?_congr fun m hm => ?_
  by_cases he : m = n
  · simp [he]
  · rw [State.slot_setSlot_other _ hn hm he]

theorem State.reseat_iff {s : State} {n : Nat} {c : Cartridge} {x : Nat × Nat} : s.reseat n c = some x ↔
    c.marker = .written ∧ x.1 = c.planTag ∧ (∃ q, s.plan c.planTag = some q ∧ q.state = .mailing x.2) ∧
      (∃ i job, s.item x.2 = some i ∧ i.kind = .cartridge job c.serial) ∧
      (s.serialSlot c.serial (fun k => decide (k ≠ n))).isSome = false := by
  have serial (item : Nat) : ((s.item item).bind (fun i =>
      match i.kind with
      | .cartridge _ y => some y
      | .set _ _ => none)) = some c.serial ↔ ∃ i job, s.item item = some i ∧ i.kind = .cartridge job c.serial := by
    rw [Option.bind_eq_some_iff]
    refine exists_congr fun i => ?_
    cases hk : i.kind <;> simp
  obtain ⟨tag, item⟩ := x
  unfold State.reseat
  by_cases hm : c.marker = .written
  · rw [if_pos hm, and_iff_right hm]
    cases hq : s.plan c.planTag with
    | none => simp
    | some q =>
      cases hst : q.state with
      | queued => simp [hst]
      | inSlot k => simp [hst]
      | mailing j =>
        simp only [hst, Option.ite_none_right_eq_some, Option.some.injEq, Prod.mk.injEq, ← Option.not_isSome,
          Bool.not_eq_true']
        constructor
        · rintro ⟨⟨hi, hn⟩, rfl, rfl⟩
          exact ⟨rfl, ⟨q, rfl, hst⟩, (serial j).1 hi, hn⟩
        · rintro ⟨rfl, ⟨p, rfl, hp⟩, hi, hn⟩
          rw [hst] at hp
          cases hp
          exact ⟨⟨(serial _).2 hi, hn⟩, rfl, rfl⟩
  · rw [if_neg hm]
    simp [hm]

end Sys2Proof.Machine

namespace Sys2Proof.Proofs

open Sys2Proof Sys2Proof.Machine

/-- Settles O47: what each of the three makes of the slot, by its state. -/
theorem cartridgesInsertedRemovedCleared : Obligations.CartridgesInsertedRemovedCleared := by
  intro s n h1 h8 hs hq sl reading
  have range : ¬(n = 0 ∨ Config.slots < n) := by simp only [Config.slots]; omega
  have ident (present : Bool) (hp : present = sl.present) : sl.beginIdent = reading present := by
    rw [hp]
    rfl
  refine ⟨fun hr he => ?_, fun hr he => ?_, fun hr he hj => ?_, fun job p hr he hj hp => ?_, fun hr he => ?_,
    fun hr => ⟨?_, ?_⟩, fun i tag h => ⟨fun hc => ?_, fun h1' h2' h3' => ?_⟩⟩
  · rw [exec_cartridgeInsert, execCartridgeInsert, if_neg range, if_neg (by simp [hr]), State.insertCartridge, if_pos he]
    rfl
  · rw [exec_cartridgeInsert, execCartridgeInsert, if_neg range, if_neg (by simp [hr]), State.insertCartridge, if_neg he]
  · rw [exec_cartridgeRemove, execCartridgeRemove, if_neg range, if_neg (by simp [hr]), if_neg he]
    have none : (s.slot n).job = none := hj
    have quiet : ((s.loseRead n .dropped).setSlot n (s.slot n).lose).quiet := hq
    simp only [State.removeCartridge, none]
    rw [State.takeTrigger_of_quiet quiet]
    rfl
  · rw [exec_cartridgeRemove, execCartridgeRemove, if_neg range, if_neg (by simp [hr]), if_neg he]
    have some : (s.slot n).job = some job := hj
    have there : ((s.loseRead n .dropped).setSlot n (s.slot n).lose).plan job = Option.some p := hp
    simp only [State.removeCartridge, some, State.returnPlan, there]
    rfl
  · rw [exec_cartridgeRemove, execCartridgeRemove, if_neg range, if_neg (by simp [hr]), if_pos he]
  · rw [exec_cartridgeInsert, execCartridgeInsert, if_neg range, if_pos hr]
    rfl
  · rw [exec_cartridgeRemove, execCartridgeRemove, if_neg range, if_pos hr]
    rfl
  · have clear : (s.slot n).clearable = true := by
      unfold Slot.clearable
      rcases hc with hc | hc | ⟨hc, hf⟩
      · rw [show (s.slot n).state = _ from hc]
      · rw [show (s.slot n).state = _ from hc]
      · rw [show (s.slot n).state = _ from hc, show (s.slot n).finishing = _ from hf]
        rfl
    refine exec_accepted_quiet h rfl ?_ (show (s.setSlot n (reading sl.present)).quiet from hq)
    simp only [answerOf, answerSlotClear, slotNumber, Config.slots, h1, h8, and_self, decide_true, Bool.not_true,
      Bool.false_eq_true, if_false, clear, if_true]
    rfl
  · have barred : (s.slot n).clearable = false := by
      unfold Slot.clearable
      cases hst : (s.slot n).state with
      | fault => exact absurd hst h1'
      | idleBlank => exact absurd hst h2'
      | idleDirty => simpa [sl, hst] using h3'
      | _ => rfl
    refine exec_refused h rfl hq ?_
    simp [answerOf, answerSlotClear, slotNumber, Config.slots, h1, h8, barred]

/-- Settles O48: the pages read lead to the marker, and the marker and the serial to the outcome. -/
theorem cartridgeIdentified : Obligations.CartridgeIdentified := by
  intro s n h1 h8 hs hq hr hst hfin sl
  have hn : n ∈ slotNumbers := mem_slotNumbers.2 ⟨h1, h8⟩
  have he : (s.slot n).state ≠ .empty := by rw [hst]; exact nofun
  have hf : (s.slot n).state ≠ .fault := by rw [hst]; exact nofun
  refine ⟨fun ok area ho => ⟨fun c hok hl h0 hc => ?_, fun hbad => ?_⟩, fun c b p ok page ho hcart => ?_⟩
  · rw [exec_identityReadDone h1 h8 hr he hf ho, hok, identityOf_good hl h0 hc, State.takeTrigger_of_quiet (s := s.identityRead n (some _)) hq]
    rfl
  · rw [exec_identityReadDone h1 h8 hr he hf ho, identityOf_bad hbad]
    rfl
  · intro held elsewhere outcome gives pages first
    have read : exec (.pageReadDone n ok page) s = .next (s.identPage n ok page).takeTrigger := by
      rw [exec_pageReadDone h1 h8 hr he hf ho]
      simp only [State.pageRead, hfin, hst, Bool.false_eq_true, if_false]
    have identified (m : Marker) (tag last : Nat) :
        s.identifyAs n m tag last = s.identified n { c with marker := m, planTag := tag, lastUsed := last } := by
      simp only [State.identifyAs, show (s.slot n).cart = some c from hcart]
    have given (m : Marker) (tag last : Nat) (hg : s.identPage n ok page = s.identifyAs n m tag last) : gives m tag last := by
      refine ⟨s.identifyAs n m tag last, by rw [read, hg], ?_⟩
      rw [identified]
      generalize hd : ({ c with marker := m, planTag := tag, lastUsed := last } : Cartridge) = d
      have serial : d.serial = c.serial := by rw [← hd]
      have cycles : d.cycles = c.cycles := by rw [← hd]
      have marker : d.marker = m := by rw [← hd]
      have tagged : d.planTag = tag := by rw [← hd]
      dsimp only [outcome]
      rw [hd]
      have loan : (s.setSlot n (held d)).serialLoan d.serial = s.serialLoan c.serial := by rw [serial]; rfl
      have item : (s.setSlot n (held d)).serialItem d.serial = s.serialItem c.serial := by rw [serial]; rfl
      have away : ((s.setSlot n (held d)).serialSlot d.serial (fun k => decide (k ≠ n))).isSome = elsewhere := by
        rw [State.serialSlot_setSlot hn, serial]
      have seat (x : Nat × Nat) : (s.setSlot n (held d)).reseat n d = some x ↔
          m = .written ∧ x.1 = tag ∧ (∃ q, s.plan tag = some q ∧ q.state = .mailing x.2) ∧
            (∃ i job, s.item x.2 = some i ∧ i.kind = .cartridge job c.serial) ∧ elsewhere = false := by
        rw [State.reseat_iff, away, marker, tagged, serial]
        rfl
      have unfolded : s.identified n d =
          if ((s.setSlot n (held d)).serialLoan d.serial).isSome then (s.setSlot n (held d)).slotFault n .onLoan
          else
            match (s.setSlot n (held d)).reseat n d with
            | some x =>
              (s.setSlot n (held d)).setSlot n { held d with state := .done, doneItem := some x, dispatched := false }
            | none =>
              if ((s.setSlot n (held d)).serialItem d.serial).isSome ||
                  ((s.setSlot n (held d)).serialSlot d.serial (fun k => decide (k ≠ n))).isSome then
                (s.setSlot n (held d)).slotFault n .conflict
              else if Config.wornCycles ≤ d.cycles then
                (((s.setSlot n (held d)).unbin d.serial).unlose d.serial).slotFault n .worn
              else
                ((((s.setSlot n (held d)).unbin d.serial).unlose d.serial).setSlot n
                  { held d with state := if d.marker = .blank then .idleBlank else .idleDirty }).matchJobs := rfl
      rw [unfolded, loan, item, away, marker, cycles]
      refine ⟨fun hl => by rw [if_pos hl], fun hl => ?_⟩
      rw [if_neg (by rw [hl]; exact nofun)]
      have unseated (hx : (∀ i, ¬(m = .written ∧ (∃ q, s.plan tag = some q ∧ q.state = .mailing i) ∧
          ∃ x job, s.item i = some x ∧ x.kind = .cartridge job c.serial)) ∨ elsewhere = true) :
          (s.setSlot n (held d)).reseat n d = none := by
        rw [Option.eq_none_iff_forall_ne_some]
        intro x hx'
        obtain ⟨hm, -, hplan, hitem, haway⟩ := (seat x).1 hx'
        rcases hx with hx | hx
        · exact hx x.2 ⟨hm, hplan, hitem⟩
        · rw [haway] at hx; cases hx
      refine ⟨fun i ⟨hm, hplan, hitem⟩ haway => ?_, fun hnot hbound => ?_, fun hnone haway => ?_⟩
      · rw [(seat (tag, i)).2 ⟨hm, rfl, hplan, hitem, haway⟩]
      · rw [unseated hnot]
        dsimp only
        rw [if_pos (by simpa using hbound)]
      · have free : ∀ i, ¬(m = .written ∧ (∃ q, s.plan tag = some q ∧ q.state = .mailing i) ∧
            ∃ x job, s.item i = some x ∧ x.kind = .cartridge job c.serial) := by
          rintro i ⟨-, -, x, job, hx, hk⟩
          refine absurd hnone (Option.isSome_iff_ne_none.1 (List.find?_isSome.2 ⟨x, List.mem_of_find?_eq_some hx, ?_⟩))
          simp [hk]
        rw [unseated (.inl free)]
        dsimp only
        rw [if_neg (by simp [hnone, haway]), serial]
        refine ⟨fun hw => if_pos hw, fun hw => if_neg (by simp only [Config.wornCycles]; omega)⟩
    have page' : s.identPage n ok page =
        if !ok || page.length ≠ Config.pageBytes then s.identifyAs n .dirty 0 0
        else if stampValid first c.cls c.cycles then s.identifyAs n .blank 0 0
        else if !hasMarker first 2 || 3 < directoryPages first then s.identifyAs n .dirty 0 0
        else if pages.length < directoryPages first then
          s.setSlot n ({ s.slot n with identPages := pages }.issue (.readPage 0 pages.length))
        else
          match directoryOf pages c.cls c.cycles with
          | some (plan, last) => s.identifyAs n .written plan last
          | none => s.identifyAs n .dirty 0 0 := by
      simp only [State.identPage, show (s.slot n).cart = some c from hcart]
      rfl
    have whole (hok : ok = true) (hp : page.length = 512) : ¬((!ok || decide (page.length ≠ Config.pageBytes)) = true) := by
      simp [hok, hp, Config.pageBytes]
    refine ⟨fun hbad => given _ _ _ ?_, fun hok hp hstamp => given _ _ _ ?_, fun hok hp hstamp =>
      ⟨fun hno => given _ _ _ ?_, fun hm hd => ⟨fun hmore => ?_, fun hall => ⟨fun hno => given _ _ _ ?_,
        fun tag last hdir => given _ _ _ ?_⟩⟩⟩⟩
    · rw [page', if_pos (by rcases hbad with h | h <;> simp [h, Config.pageBytes])]
    · rw [page', if_neg (whole hok hp), if_pos hstamp]
    · rw [page', if_neg (whole hok hp), if_neg (by simp [hstamp]), if_pos (by rcases hno with h | h <;> simp [h])]
    · rw [read, page', if_neg (whole hok hp), if_neg (by simp [hstamp]), if_neg (by simp [hm]; omega), if_pos hmore,
        State.takeTrigger_of_quiet (by exact hq)]
      rfl
    · rw [page', if_neg (whole hok hp), if_neg (by simp [hstamp]), if_neg (by simp [hm]; omega), if_neg (by omega), hno]
    · rw [page', if_neg (whole hok hp), if_neg (by simp [hstamp]), if_neg (by simp [hm]; omega), if_neg (by omega), hdir]

end Sys2Proof.Proofs

end

section
/-!
PROOF. Faults of slots (R85, R108, R109): the slot, and its plan that goes back or fails; obligation O52.
-/

namespace Sys2Proof.Machine

theorem Events.raise_keeps (e : Events) (f g : Flag) (h : (e.main ||| e.pending).getLsbD f.bit = true) :
    ((e.raise g).main ||| (e.raise g).pending).getLsbD f.bit = true := by
  unfold Events.raise
  simp only [BitVec.getLsbD_or, Bool.or_eq_true] at h
  split <;> simp [Events.drive] <;> tauto

theorem State.timeOut_eq (s : State) (n : Nat) (op : CartOp) : s.timeOut n op =
    if (s.slot n).state = .ident then
      if op = .readIdentity then s.slotFault n .headerBad else s.identifyAs n .dirty 0 0
    else s.slotFault n .timeout := by
  unfold State.timeOut
  split
  · next h => rw [if_pos h, if_pos rfl]
  · next h hop => rw [if_pos h, if_neg hop]
  · next h hop => exact (if_neg fun hst => hop hst (by simp_all)).symm

/-- The slot as a fault leaves it. -/
def State.failed (s : State) (n : Nat) (cause : FaultCause) : Slot :=
  (s.slot n).fail (s.faultRecord (s.slot n) cause)

/-- The state with the slot faulted and nothing done yet about its plan. -/
def State.faulted (s : State) (n : Nat) (cause : FaultCause) : State :=
  ((s.loseRead n .dropped).setSlot n (s.failed n cause)).raise .slotFault

theorem State.slotFault_eq (s : State) (n : Nat) (cause : FaultCause) : s.slotFault n cause =
    match (s.slot n).job with
    | some job => (s.faulted n cause).planFault job
    | none => s.faulted n cause := rfl

theorem State.slot_leavePlace_of {s : State} {m j : Nat} {p : Plan} (hj : (s.slot j).job ≠ some m)
    (hd : (s.slot j).state ≠ .done) : (s.leavePlace m p).slot j = s.slot j := by
  unfold State.leavePlace
  split
  · simp [State.slot]
  · next k hk =>
    split
    · next hjob =>
      rcases s.slot_unbind_or k j with he | ⟨-, he⟩
      · exact he
      · rw [he] at hj
        exact absurd hjob hj
    · rfl
  · next item hi =>
    have fold (l : List Nat) (u : State) (hu : u.slot j = s.slot j) :
        (l.foldl (fun s k => s.undone m k) u).slot j = s.slot j := by
      induction l generalizing u with
      | nil => exact hu
      | cons k l ih =>
        rcases u.job_undone m k j with he | ⟨-, he⟩
        · exact ih _ (he.trans hu)
        · rw [hu] at he
          exact absurd he hd
    exact fold slotNumbers (s.removeItem item) rfl

theorem State.slot_endPlan_of {s : State} {m j : Nat} (hj : (s.slot j).job ≠ some m) (hd : (s.slot j).state ≠ .done) :
    (s.endPlan m).slot j = s.slot j := by
  cases hp : s.plan m with
  | none => rw [State.endPlan_of_none hp]
  | some p =>
    have same : (s.endPlan m).slot j = (s.leavePlace m p).slot j := by rw [State.slot, State.rack_endPlan hp]; rfl
    rw [same, State.slot_leavePlace_of hj hd]

/-- A slot in FAULT is left alone by what is done about the plan it had. -/
theorem State.slot_planFault {s : State} {job n : Nat} (hs : (s.slot n).state = .fault) (hj : (s.slot n).job = none) :
    (s.planFault job).slot n = s.slot n := by
  have unavailable : (s.slot n).available = false := by rw [Slot.available, hs]
  unfold State.planFault
  split
  · rfl
  · next p hp =>
    dsimp only
    have same (q : Plan) : (s.setPlan job q).slot n = s.slot n := rfl
    split
    · have returned : ((s.setPlan job { p with faults := p.faults + 1 }).returnPlan job).slot n = s.slot n := by
        simp [State.slot]
      rw [((State.matched_matchJobs _).slot n (by rw [returned]; exact unavailable)), returned]
    · rw [State.failPlan]
      have told (u : State) : (u.raise .planFailed).slot n = u.slot n := rfl
      rw [told, State.slot_endPlan_of (by rw [same, hj]; exact nofun) (by rw [same, hs]; exact nofun), same]

theorem State.link_endPlan (s : State) (n : Nat) : (s.endPlan n).link = s.link := by simp

/-- What is done about a plan takes back no flag raised. -/
theorem State.flag_planFault {s : State} {job : Nat} {f : Flag}
    (h : (s.link.events.main ||| s.link.events.pending).getLsbD f.bit = true) :
    ((s.planFault job).link.events.main ||| (s.planFault job).link.events.pending).getLsbD f.bit = true := by
  unfold State.planFault
  split
  · exact h
  · dsimp only
    split
    · rw [show ∀ u : State, u.matchJobs.link = u.link from fun u => by simp]
      simpa using h
    · exact Events.raise_keeps _ _ _ (by simpa using h)

theorem State.queue_joinHead (s : State) (n : Nat) (rush : Bool) :
    (s.joinHead n rush).planner.queue = if rush then n :: s.planner.queue
      else s.planner.queue.take (s.rushJobs s.planner.queue) ++ n :: s.planner.queue.drop (s.rushJobs s.planner.queue) := by
  unfold State.joinHead
  split
  · rfl
  · rfl

theorem State.mem_joinHead (s : State) (n : Nat) (rush : Bool) : n ∈ (s.joinHead n rush).planner.queue := by
  rw [State.queue_joinHead]
  split
  · exact List.mem_cons_self
  · simp

end Sys2Proof.Machine

namespace Sys2Proof.Proofs

open Sys2Proof Sys2Proof.Machine

/-- Settles O52: a time-out by the operation and the state, a stray report by the state, and the fault's own writes. -/
theorem slotsFault : Obligations.SlotsFault := by
  refine ⟨fun s n ran h1 h8 hq => ⟨fun hidle => ?_, fun o hr ho => ⟨fun hlt => ?_, fun hge hst => ?_, fun hge hst =>
    ⟨fun hx => ?_, fun c hop hc => ?_⟩⟩⟩, fun s n h1 h8 hq => ⟨fun hr he hf => ?_, fun hidle => ?_⟩,
    fun s n cause h1 h8 hs => ?_⟩
  · by_cases hr : s.run = .running
    · have none : (s.slot n).op = none := hidle.resolve_left (by simp [hr])
      rw [exec_socket (c := .cartOpTimeout n ran) rfl h1 h8 hr, State.runFor, none, State.takeTrigger_of_quiet hq]
    · exact exec_socket_idle rfl h1 h8 hr
  · rw [exec_socket (c := .cartOpTimeout n ran) rfl h1 h8 hr, State.runFor, ho]
    dsimp only
    rw [if_pos hlt, State.takeTrigger_of_quiet (by exact hq)]
  · rw [exec_socket (c := .cartOpTimeout n ran) rfl h1 h8 hr, State.runFor, ho]
    dsimp only
    rw [if_neg (by omega), State.timeOut_eq, if_neg hst]
  · rw [exec_socket (c := .cartOpTimeout n ran) rfl h1 h8 hr, State.runFor, ho]
    dsimp only
    rw [if_neg (by omega), State.timeOut_eq, if_pos hst]
    by_cases hread : o.op = .readIdentity
    · rw [if_pos hread]
    · rw [if_neg hread, State.identifyAs, hx.resolve_left hread]
  · rw [exec_socket (c := .cartOpTimeout n ran) rfl h1 h8 hr, State.runFor, ho]
    dsimp only
    rw [if_neg (by omega), State.timeOut_eq, if_pos hst, if_neg hop, State.identifyAs, hc]
  · rw [exec_socket (c := .reportAnsweringNoOperation n) rfl h1 h8 hr, State.report_stray he hf fun _ _ => rfl]
  · by_cases hr : s.run = .running
    · rw [exec_socket (c := .reportAnsweringNoOperation n) rfl h1 h8 hr,
        State.report_idle (hidle.resolve_left (by simp [hr])), State.takeTrigger_of_quiet hq]
    · exact exec_socket_idle rfl h1 h8 hr
  · intro sl t
    refine ⟨s.faultRecord sl cause, rfl, rfl, rfl, rfl, rfl, rfl, rfl, ?_⟩
    have hn : n ∈ slotNumbers := mem_slotNumbers.2 ⟨h1, h8⟩
    intro failed u
    have hu : u = s.faulted n cause := rfl
    have there : u.slot n = failed := State.slot_setSlot (s.loseRead n .dropped) failed hs.1 h1 h8
    have raised : (u.link.events.main ||| u.link.events.pending).getLsbD Flag.slotFault.bit = true :=
      Events.raise_holds _ _
    have fault : t = match sl.job with
      | some job => u.planFault job
      | none => u := rfl
    refine ⟨?_, ?_, fun hj => ?_, fun job hj hp => ?_, fun job p hj hp => ⟨fun hlt => ?_, fun hge => ?_⟩⟩
    · rw [fault]
      split
      · rw [State.slot_planFault (by rw [there]) (by rw [there]), there]
      · exact there
    · rw [fault]
      split
      · exact State.flag_planFault raised
      · exact raised
    · rw [fault, hj]
      refine ⟨rfl, rfl, rfl, fun m hm hne => ?_⟩
      exact State.slot_setSlot_of_ne (s.loseRead n .dropped) failed h1 (mem_slotNumbers.1 hm).1 hne
    · rw [fault, hj]
      have : u.plan job = none := hp
      simp only [State.planFault, this]
    · have hpu : u.plan job = some p := hp
      have now : (u.setPlan job { p with faults := p.faults + 1 }).plan job = some { p with faults := p.faults + 1 } :=
        Table.look_put _ _ _
      have put (q r : Plan) : (u.setPlan job q).setPlan job r = u.setPlan job r := by
        simp [State.setPlan, Table.put_put]
      have given : t = ((u.setPlan job { p with faults := p.faults + 1, state := .queued }).joinHead job p.rush).matchJobs := by
        rw [fault, hj]
        simp only [State.planFault, hpu, Config.planFaultMax, hlt, if_true, State.returnPlan, now, put]
      refine ⟨given, ?_⟩
      generalize hw : (u.setPlan job { p with faults := p.faults + 1, state := .queued }).joinHead job p.rush = w at given
      have queued : job ∈ w.planner.queue := hw ▸ State.mem_joinHead _ _ _
      have planned : w.plan job = some { p with faults := p.faults + 1, state := .queued } := by
        rw [← hw]
        have put : (u.setPlan job { p with faults := p.faults + 1, state := .queued }).plan job =
            some { p with faults := p.faults + 1, state := .queued } := Table.look_put _ _ _
        rw [State.plan, show ∀ v : State, (v.joinHead job p.rush).planner.plans = v.planner.plans from fun v => by simp]
        exact put
      have matched := w.matched_matchJobs
      have records : t.records = s.records := by
        rw [given, ← hw]
        simp [hu, State.faulted]
      rcases matched.plan job with ⟨he, hin⟩ | ⟨q, m, hq, -, hm, ht, hjob, -, hout⟩
      · exact ⟨{ p with faults := p.faults + 1, state := .queued }, by rw [given, he, planned], rfl,
          .inl ⟨rfl, by rw [given]; exact hin queued⟩, records⟩
      · rw [planned] at hq
        cases hq
        refine ⟨_, by rw [given]; exact ht, rfl, .inr ⟨m, hm, fun hmn => ?_, rfl, by rw [given]; exact hout⟩, records⟩
        have slot : w.slot n = failed := by
          rw [← there, ← hw]
          simp [State.slot]
        have kept := matched.slot n (by rw [slot]; rfl)
        rw [hmn, kept, slot] at hjob
        cases hjob
    · have hpu : u.plan job = some p := hp
      have given : t = (u.setPlan job { p with faults := p.faults + 1 }).failPlan job := by
        rw [fault, hj]
        have : ¬p.faults + 1 < Config.planFaultMax := by simp only [Config.planFaultMax]; omega
        simp only [State.planFault, hpu, this, if_false]
      refine ⟨given, fun ho => ?_⟩
      generalize hw : u.setPlan job { p with faults := p.faults + 1 } = w at given
      have ordered : w.ordered := by
        rw [← hw]
        exact ho.imp id fun h => h.imp id fun h => h.imp id fun ⟨hp, hi⟩ => ⟨Table.rising_put _ _ _ hp, hi⟩
      have planned : w.plan job = some { p with faults := p.faults + 1 } := hw ▸ Table.look_put _ _ _
      refine ⟨?_, fun hnot => ?_, ?_, fun x hx => ?_⟩
      · rw [given]
        exact (State.plan_endPlan ordered.2.2.2.1 job job).trans (if_pos rfl)
      · rw [given]
        change job ∉ (w.endPlan job).planner.queue
        rw [State.queue_endPlan planned, State.queue_leavePlace, ← hw]
        split
        · simp
        · exact hnot
      · rw [given]
        exact Events.raise_holds _ _
      · have hx' : w.patron p.patron = some x := hw ▸ hx
        obtain ⟨d, hd⟩ := (State.cleared_endPlan planned).patron (State.patron_onPatron hx' _)
        exact ⟨_, by rw [given]; exact hd, rfl, rfl⟩

end Sys2Proof.Proofs

end

section
/-!
PROOF. The operations of a slot (R85 to R101): what each report leads on to, by the slot it finds; obligation O50.
-/

namespace Sys2Proof.Machine

/-! ## What a slot goes on to -/

section Going
variable {s : State} {n : Nat} (hs : s.rack.length = 8) (h1 : 1 ≤ n) (h8 : n ≤ 8)
include hs h1 h8

theorem State.goProgram_unerased (x : Slot) (he : x.cursor.erased = false) :
    (s.setSlot n x).goProgram n = s.setSlot n (x.permit (.eraseBlock 0)) := by
  simp [State.goProgram, State.slot_setSlot s x hs h1 h8, State.setSlot_setSlot, he]

section Placed
variable (x : Slot) {p : Placement} (he : x.cursor.erased = true) (hp : s.placementOf x = some p)
include he hp

theorem State.goProgram_full (hf : p.blockFrames x.cursor.image ≤ x.cursor.frame) :
    (s.setSlot n x).goProgram n = s.setSlot n (x.beginVerify p) := by
  have placed : (s.setSlot n x).placementOf x = some p := hp
  simp [State.goProgram, State.slot_setSlot s x hs h1 h8, State.setSlot_setSlot, he, placed, hf]

theorem State.goProgram_page (hf : x.cursor.frame < p.blockFrames x.cursor.image)
    (hb : x.spare.isSome = true ∨ x.cursor.inBuffer = true) :
    (s.setSlot n x).goProgram n = s.setSlot n (x.permit
      (.program (x.target p) (Config.framePages * x.cursor.frame + x.cursor.page)
        (x.bufferPage x.cursor.frame x.cursor.page))) := by
  have placed : (s.setSlot n x).placementOf x = some p := hp
  simp [State.goProgram, State.slot_setSlot s x hs h1 h8, State.setSlot_setSlot, he, placed, hf, hb]

theorem State.goProgram_read (hf : x.cursor.frame < p.blockFrames x.cursor.image) (hn : x.spare = none)
    (hb : x.cursor.inBuffer = false) : (s.setSlot n x).goProgram n = (s.setSlot n x).beginBlock n p := by
  have placed : (s.setSlot n x).placementOf x = some p := hp
  simp [State.goProgram, State.slot_setSlot s x hs h1 h8, he, placed, hf, hb, hn]

end Placed

theorem State.goOn_erase (x : Slot) (hx : x.state = .preErase ∨ x.state = .erasing) (he : x.eraseStep ≠ .ended) :
    (s.setSlot n x).goOn n = s.setSlot n (x.goErase s.today) := by
  have today : (s.setSlot n x).today = s.today := rfl
  rcases hx with hx | hx <;>
    simp [State.goOn, State.slot_setSlot s x hs h1 h8, State.setSlot_setSlot, hx, he, today]

theorem State.goOn_blank (x : Slot) (hx : x.state = .preErase) (he : x.eraseStep = .ended) :
    (s.setSlot n x).goOn n = s.setSlot n { x with state := .idleBlank } := by
  simp [State.goOn, State.slot_setSlot s x hs h1 h8, State.setSlot_setSlot, hx, he]

theorem State.goOn_erased (x : Slot) (hx : x.state = .erasing) (he : x.eraseStep = .ended) :
    (s.setSlot n x).goOn n = s.setSlot n x.beginProgram := by
  simp [State.goOn, State.slot_setSlot s x hs h1 h8, State.setSlot_setSlot, hx, he]

theorem State.goOn_programming (x : Slot) (hx : x.state = .programming) :
    (s.setSlot n x).goOn n = (s.setSlot n x).goProgram n := by
  simp [State.goOn, State.slot_setSlot s x hs h1 h8, hx]

theorem State.goOn_verifying (x : Slot) {p : Placement} (hx : x.state = .verifying) (hp : s.placementOf x = some p) :
    (s.setSlot n x).goOn n = s.setSlot n (x.issue (.readPage (x.target p) x.back)) := by
  have placed : (s.setSlot n x).placementOf x = some p := hp
  simp [State.goOn, State.slot_setSlot s x hs h1 h8, State.setSlot_setSlot, hx, placed]

theorem State.goOn_directory (x : Slot) (hx : x.state = .directory) :
    (s.setSlot n x).goOn n = s.setSlot n x.goDirectory := by
  simp [State.goOn, State.slot_setSlot s x hs h1 h8, State.setSlot_setSlot, hx]

theorem State.afterOp_held (x : Slot) (hx : x.holdPending = true) : (s.setSlot n x).afterOp n = s.setSlot n x.hold := by
  simp [State.afterOp, State.slot_setSlot s x hs h1 h8, State.setSlot_setSlot, hx]

/-- A slot on which no hold waits goes on, and only one left IDLE_BLANK has matching tried. -/
theorem State.afterOp_of (x : Slot) (hx : x.holdPending = false) :
    (s.setSlot n x).afterOp n = if (((s.setSlot n x).goOn n).slot n).state = .idleBlank then
      ((s.setSlot n x).goOn n).matchJobs else (s.setSlot n x).goOn n := by
  simp [State.afterOp, State.slot_setSlot s x hs h1 h8, hx]

/-- A slot that goes on to a record of its own, not IDLE_BLANK. -/
theorem State.afterOp_to (x : Slot) {y : Slot} (hx : x.holdPending = false) (hg : (s.setSlot n x).goOn n = s.setSlot n y)
    (hy : y.state ≠ .idleBlank) : (s.setSlot n x).afterOp n = s.setSlot n y := by
  rw [State.afterOp_of hs h1 h8 x hx, hg, State.slot_setSlot s y hs h1 h8, if_neg hy]

theorem State.beginBlock_setSlot (x : Slot) (p : Placement) : (s.setSlot n x).beginBlock n p =
    if s.readable p.title x.cursor.image then (s.setSlot n { x with state := .programming }).readFrame n p
    else s.setSlot n { x with state := .waitImage } := by
  have same : (s.setSlot n x).readable p.title x.cursor.image = s.readable p.title x.cursor.image := rfl
  unfold State.beginBlock
  simp only [State.slot_setSlot s x hs h1 h8, State.setSlot_setSlot, same]

theorem State.readFrame_setSlot {x : Slot} {p : Placement} {e : Image} (he : s.image p.title = some e) :
    (s.setSlot n x).readFrame n p = (s.setSlot n x).handRead
      { slot := n, block := e.blocks.getD x.cursor.image 0, place := x.cursor.frame, fate := .deliver } := by
  have image : (s.setSlot n x).image p.title = some e := he
  unfold State.readFrame
  simp only [image, State.slot_setSlot s x hs h1 h8]

omit hs h1 h8 in
theorem State.state_handRead (r : ReadOp) (m : Nat) : ((s.handRead r).slot m).state = (s.slot m).state := by
  have grant (b : Nat) : ((s.grantRead b r).slot m).state = (s.slot m).state := by
    unfold State.grantRead
    dsimp only
    rcases (s.setBank b { s.bank b with
        current := some (.read r), reads := (s.bank b).reads.filter (fun x => decide (x.slot ≠ r.slot))
        lastServed := r.slot }).slot_setSlot_or r.slot m { s.slot r.slot with readMark := true } with h | ⟨h, hm⟩
    · rw [h]; rfl
    · rw [h]
      exact (congrArg Slot.state hm).symm
  unfold State.handRead
  dsimp only
  split
  · exact grant _
  · rfl

/-- A slot that comes to a block is not IDLE_BLANK there. -/
theorem State.state_beginBlock (x : Slot) (p : Placement) :
    (((s.setSlot n x).beginBlock n p).slot n).state = .programming ∨
      (((s.setSlot n x).beginBlock n p).slot n).state = .waitImage := by
  rw [State.beginBlock_setSlot hs h1 h8]
  split
  · refine .inl ?_
    unfold State.readFrame
    split
    · rw [State.slot_setSlot s _ hs h1 h8]
    · rw [State.state_handRead, State.slot_setSlot s _ hs h1 h8]
  · exact .inr (by rw [State.slot_setSlot s _ hs h1 h8])

theorem State.afterOp_block (x : Slot) {p : Placement} (hx : x.holdPending = false)
    (hg : (s.setSlot n x).goOn n = (s.setSlot n x).beginBlock n p) :
    (s.setSlot n x).afterOp n = (s.setSlot n x).beginBlock n p := by
  rw [State.afterOp_of hs h1 h8 x hx, hg, if_neg]
  rcases State.state_beginBlock hs h1 h8 x p with h | h
  · rw [h]; exact nofun
  · rw [h]; exact nofun

section Released
variable (x : Slot) (hx : x.holdPending = false)
include hx

theorem State.afterOp_erase (hst : x.state = .preErase ∨ x.state = .erasing) (he : x.eraseStep ≠ .ended) :
    (s.setSlot n x).afterOp n = s.setSlot n (x.goErase s.today) :=
  State.afterOp_to hs h1 h8 x hx (State.goOn_erase hs h1 h8 x hst he) (by
    rw [Slot.goErase_state]
    rcases hst with h | h <;> (rw [h]; exact nofun))

theorem State.afterOp_erased (hst : x.state = .erasing) (he : x.eraseStep = .ended) :
    (s.setSlot n x).afterOp n = s.setSlot n x.beginProgram :=
  State.afterOp_to hs h1 h8 x hx (State.goOn_erased hs h1 h8 x hst he) nofun

variable (hst : x.state = .programming) {p : Placement} (he : x.cursor.erased = true) (hp : s.placementOf x = some p)
include hst he hp

theorem State.afterOp_full (hf : p.blockFrames x.cursor.image ≤ x.cursor.frame) :
    (s.setSlot n x).afterOp n = s.setSlot n (x.beginVerify p) :=
  State.afterOp_to hs h1 h8 x hx
    ((State.goOn_programming hs h1 h8 x hst).trans (State.goProgram_full hs h1 h8 x he hp hf)) nofun

theorem State.afterOp_page (hf : x.cursor.frame < p.blockFrames x.cursor.image)
    (hb : x.spare.isSome = true ∨ x.cursor.inBuffer = true) :
    (s.setSlot n x).afterOp n = s.setSlot n (x.permit
      (.program (x.target p) (Config.framePages * x.cursor.frame + x.cursor.page)
        (x.bufferPage x.cursor.frame x.cursor.page))) :=
  State.afterOp_to hs h1 h8 x hx
    ((State.goOn_programming hs h1 h8 x hst).trans (State.goProgram_page hs h1 h8 x he hp hf hb)) (by
      rw [show (Slot.permit x _).state = _ from hst]
      exact nofun)

theorem State.afterOp_read (hf : x.cursor.frame < p.blockFrames x.cursor.image) (hn : x.spare = none)
    (hb : x.cursor.inBuffer = false) : (s.setSlot n x).afterOp n = (s.setSlot n x).beginBlock n p :=
  State.afterOp_block hs h1 h8 x hx
    ((State.goOn_programming hs h1 h8 x hst).trans (State.goProgram_read hs h1 h8 x he hp hf hn hb))

end Released

end Going

/-- The next step of an erase phase is issued as the step says. -/
theorem Slot.goErase_erase {x : Slot} {today i : Nat} (h : x.eraseStep = .erase i) :
    x.goErase today = x.permit (x.eraseAt i) := by
  rw [Slot.goErase, h]

theorem Slot.goErase_mark {x : Slot} {today : Nat} (h : x.eraseStep = .mark) : x.goErase today = x.issue .markCycle := by
  rw [Slot.goErase, h]

theorem Slot.goErase_stamp {x : Slot} {today : Nat} {c : Cartridge} (h : x.eraseStep = .stamp) (hc : x.cart = some c) :
    x.goErase today = { x with pages := [stampPage c.cls c.cycles today] }.permit
      (.program 0 0 (stampPage c.cls c.cycles today)) := by
  rw [Slot.goErase, h]
  simp only [hc]

theorem Slot.goErase_stampBack {x : Slot} {today : Nat} (h : x.eraseStep = .stampBack) :
    x.goErase today = x.issue (.readPage 0 0) := by
  rw [Slot.goErase, h]

/-! ## What a report leads on to -/

section Reports
variable {s : State} {n : Nat} (hfin : (s.slot n).finishing = false)
include hfin

theorem State.programDone_erase (hst : (s.slot n).state = .preErase ∨ (s.slot n).state = .erasing) :
    s.programDone n true = (s.setSlot n { s.slot n with op := none, eraseStep := .stampBack }).afterOp n := by
  unfold State.programDone
  dsimp only
  rw [if_neg nofun, if_neg (by rw [hfin]; exact nofun)]
  split
  · rfl
  · rfl
  all_goals next h => rcases hst with hst | hst <;> exact absurd hst (by simp_all)

theorem State.programDone_programming (hst : (s.slot n).state = .programming) {p : Placement}
    (hp : s.placementOf (s.slot n) = some p) :
    s.programDone n true = (s.setSlot n ({ s.slot n with op := none }.pageDone p)).afterOp n := by
  unfold State.programDone
  dsimp only
  rw [if_neg nofun, if_neg (by rw [hfin]; exact nofun)]
  split
  · next h => exact nomatch hst.symm.trans h
  · next h => exact nomatch hst.symm.trans h
  · split
    · next q hq =>
      have : some q = some p := hq.symm.trans hp
      cases this
      rfl
    · next hq => exact nomatch hq.symm.trans hp
  · next h => exact nomatch hst.symm.trans h
  · next h _ => exact absurd hst h

theorem State.programDone_directory (hst : (s.slot n).state = .directory) :
    s.programDone n true = (s.setSlot n { s.slot n with op := none }.directoryDone).goOn n := by
  unfold State.programDone
  dsimp only
  rw [if_neg nofun, if_neg (by rw [hfin]; exact nofun)]
  split
  · next h => exact nomatch hst.symm.trans h
  · next h => exact nomatch hst.symm.trans h
  · next h => exact nomatch hst.symm.trans h
  · rfl
  · next h => exact absurd hst h

theorem State.eraseDone_erase (hst : (s.slot n).state = .preErase ∨ (s.slot n).state = .erasing) (w : WriteOp) :
    s.eraseDone n true (.write w) =
      (s.setSlot n { s.slot n with op := none, eraseStep := (s.slot n).nextErase }).afterOp n := by
  unfold State.eraseDone
  dsimp only
  rw [if_neg nofun, if_neg nofun, if_neg (by rw [hfin]; exact nofun)]
  split
  · rfl
  · rfl
  all_goals next h => rcases hst with hst | hst <;> exact absurd hst (by simp_all)

theorem State.eraseDone_programming (hst : (s.slot n).state = .programming) (w : WriteOp) :
    s.eraseDone n true (.write w) =
      (s.setSlot n { s.slot n with op := none, cursor := { (s.slot n).cursor with erased := true } }).afterOp n := by
  unfold State.eraseDone
  dsimp only
  rw [if_neg nofun, if_neg nofun, if_neg (by rw [hfin]; exact nofun)]
  split
  · next h => exact nomatch hst.symm.trans h
  · next h => exact nomatch hst.symm.trans h
  · rfl
  · next h => exact absurd hst h

end Reports

section Reports
variable {s : State} {n : Nat}

theorem State.permitReply_granted {w : WriteOp} (hfin : (s.slot n).finishing = false)
    (hh : (s.slot n).holdPending = false) : s.permitReply n true w = s.setSlot n ((s.slot n).startWrite w) := by
  simp only [State.permitReply, Bool.not_true, Bool.false_eq_true, if_false, hfin, hh]

theorem State.permitReply_held {w : WriteOp} (hfin : (s.slot n).finishing = false)
    (hh : (s.slot n).holdPending = true) : s.permitReply n true w = s.setSlot n (s.slot n).hold := by
  simp only [State.permitReply, Bool.not_true, Bool.false_eq_true, if_false, hfin, hh, if_true]

theorem State.permitReply_denied {w : WriteOp} : s.permitReply n false w = s.slotFault n .writeProtected := by
  simp only [State.permitReply, Bool.not_false, if_true]

/-- The slot with one cycle more counted. -/
def Slot.counted (sl : Slot) : Slot :=
  { sl with op := none, cart := sl.cart.map (fun c => { c with cycles := c.cycles + 1 }) }

theorem State.markDone_worn {c : Cartridge} (hc : (s.slot n).cart = some c) (h : 10000 ≤ c.cycles + 1) :
    s.markDone n = (s.setSlot n (s.slot n).counted).slotFault n .worn := by
  unfold State.markDone
  dsimp only
  rw [if_pos (by rw [hc]; exact h)]
  rfl

theorem State.markDone_finishing {c : Cartridge} (hc : (s.slot n).cart = some c) (h : c.cycles + 1 < 10000)
    (hfin : (s.slot n).finishing = true) : s.markDone n = (s.setSlot n (s.slot n).counted).finished n := by
  unfold State.markDone
  dsimp only
  rw [if_neg (by rw [hc]; exact Nat.not_le.2 h), if_pos hfin]
  rfl

theorem State.markDone_stamp {c : Cartridge} (hc : (s.slot n).cart = some c) (h : c.cycles + 1 < 10000)
    (hfin : (s.slot n).finishing = false) :
    s.markDone n = (s.setSlot n { (s.slot n).counted with eraseStep := .stamp }).afterOp n := by
  unfold State.markDone
  dsimp only
  rw [if_neg (by rw [hc]; exact Nat.not_le.2 h), if_neg (by rw [hfin]; exact nofun), State.setSlot_setSlot]
  rfl

/-- The slot once what was left of its job is done. -/
def Slot.idled (sl : Slot) : Slot :=
  { sl with op := none, suspended := none, awaiting := false, finishing := false, readBack := none }

theorem State.finished_eq : s.finished n = (s.setSlot n (s.slot n).idled).matchJobs := rfl

theorem State.finished_setSlot {x : Slot} (hs : s.rack.length = 8) (h1 : 1 ≤ n) (h8 : n ≤ 8) :
    (s.setSlot n x).finished n = (s.setSlot n x.idled).matchJobs := by
  rw [State.finished_eq, State.slot_setSlot s x hs h1 h8, State.setSlot_setSlot]

end Reports

/-! ## The job taken away -/

/-- What a page read last is judged by (R106). -/
theorem State.readBackOf_eq (s : State) (sl : Slot) : s.readBackOf sl =
    if sl.state = .erasing then some { cause := .headerBad, page := sl.pages.head? }
    else if sl.state = .directory ∧ sl.pages.length ≤ sl.back + 1 then
      some { cause := .headerBad, page := if sl.backOk then sl.pages[sl.back]? else none }
    else if sl.state = .verifying ∧ 512 ≤ sl.back + 1 then
      ((s.placementOf sl).bind fun p => sl.cart.bind fun c =>
        if c.cls.reserve ≤ sl.sparesTaken then
          some { cause := .noSpare, page := if sl.backOk then some (sl.expected p sl.back) else none }
        else none)
    else none := by
  unfold State.readBackOf
  cases hst : sl.state with
  | erasing => rfl
  | directory => simp
  | verifying =>
    simp only [reduceCtorEq, if_false, false_and, true_and]
    cases s.placementOf sl with
    | none => simp
    | some p =>
      cases sl.cart with
      | none => simp
      | some c => by_cases hl : 512 ≤ sl.back + 1 <;> simp [hl, Config.blockPages]
  | _ => simp

theorem Slot.eraseUnderWay_eq (sl : Slot) : sl.eraseUnderWay =
    if sl.op.any (fun o => decide (o.op = .suspend ∨ o.op = .resume)) then sl.suspended else none := by
  unfold Slot.eraseUnderWay
  cases sl.op with
  | none => rfl
  | some o =>
    obtain ⟨op, ran⟩ := o
    cases op <;> rfl

theorem CartOp.not_program {w : WriteOp} (h : ∀ b k data, w ≠ .program b k data) (sl : Slot) :
    sl.awaitsErase (.write w) = true := by
  cases w with
  | program b k data => exact absurd rfl (h b k data)
  | _ => rfl

end Sys2Proof.Machine

namespace Sys2Proof.Proofs

open Sys2Proof Sys2Proof.Machine

/-- Settles O50: each report by the operation it answers and the state of the slot, and under the finishing mark its end. -/
theorem writesTakePermitsAndAdvance : Obligations.WritesTakePermitsAndAdvance := by
  intro s n h1 h8 ⟨hs, _⟩ hq hr he hf sl
  have quiet {x : Slot} : (s.setSlot n x).takeTrigger = s.setSlot n x := State.takeTrigger_of_quiet hq
  refine ⟨fun hfin hhold => ⟨fun w ho => ⟨?_, ?_⟩, ?program, ?erase, ?eraseBlock, ?mark⟩, ?refused, ?unbound, ?finishing⟩
  · rw [exec_permitReply h1 h8 hr he hf ho, State.permitReply_granted hfin hhold, quiet]
    rfl
  · rw [exec_permitReply h1 h8 hr he hf ho, State.permitReply_denied]
  case program =>
    intro b k data ho gives
    have done : exec (.pageProgramDone n true) s = .next (s.programDone n true).takeTrigger :=
      exec_pageProgramDone h1 h8 hr he hf ho
    refine ⟨fun p hst hp her hfr => ⟨fun hpage hbuf => ?_, fun hpage => ?_⟩, fun hst => ?_, fun hst hback =>
      ⟨fun hmore => ?_, fun hall => ?_⟩⟩
    · have next : { s.slot n with op := none }.pageDone p =
          { sl with op := none, cursor := { sl.cursor with page := sl.cursor.page + 1 } } := if_pos hpage
      have arrived := State.afterOp_page hs h1 h8
        { sl with op := none, cursor := { sl.cursor with page := sl.cursor.page + 1 } } hhold hst her hp hfr hbuf.symm
      exact done.trans (by rw [State.programDone_programming hfin hst hp, next, arrived, quiet]; rfl)
    · intro after
      have next : { s.slot n with op := none }.pageDone p = after := if_neg (Nat.not_lt.2 hpage)
      have step : s.programDone n true = (s.setSlot n after).afterOp n := by
        rw [State.programDone_programming hfin hst hp, next]
      refine ⟨fun hlast => ?_, fun hmore => ⟨fun spare hsp => ?_, fun e hsp himg hread => ?_, fun hsp hread => ?_⟩⟩
      · have arrived := State.afterOp_full hs h1 h8 after hhold hst her hp hlast
        exact done.trans (by rw [step, arrived, quiet]; rfl)
      · have target : after.target p = spare := by
          rw [Slot.target, show after.spare = some spare from hsp]
          rfl
        have arrived := State.afterOp_page hs h1 h8 after hhold hst her hp hmore
          (.inl (by rw [show after.spare = some spare from hsp]; rfl))
        exact done.trans (by rw [step, arrived, quiet, target]; rfl)
      · have arrived := State.afterOp_read hs h1 h8 after hhold hst her hp hmore hsp rfl
        rw [State.beginBlock_setSlot hs h1 h8] at arrived
        rw [if_pos (show s.readable p.title after.cursor.image = true from hread), State.readFrame_setSlot hs h1 h8 himg] at arrived
        have same : ({ after with state := .programming } : Slot) = after := by
          rw [← show after.state = .programming from hst]
        rw [same] at arrived
        exact done.trans (by rw [step, arrived, State.takeTrigger_of_quiet (by simpa [State.quiet] using hq)])
      · have arrived := State.afterOp_read hs h1 h8 after hhold hst her hp hmore hsp rfl
        rw [State.beginBlock_setSlot hs h1 h8] at arrived
        rw [if_neg (by rw [show s.readable p.title after.cursor.image = false from hread]; exact nofun)] at arrived
        exact done.trans (by rw [step, arrived, quiet])
    · have busy : sl.state ≠ .idleBlank := by rcases hst with h | h <;> (rw [h]; exact nofun)
      have arrived := State.afterOp_erase hs h1 h8 { sl with op := none, eraseStep := .stampBack } hhold hst nofun
      exact done.trans (by rw [State.programDone_erase hfin hst, arrived, quiet]; rfl)
    · have next : { s.slot n with op := none }.directoryDone = { sl with op := none, back := sl.back + 1 } := if_pos hmore
      have issued : ({ sl with op := none, back := sl.back + 1 } : Slot).goDirectory =
          { sl with op := none, back := sl.back + 1 }.permit (.program 0 (sl.back + 1) (sl.pages.getD (sl.back + 1) [])) :=
        if_neg (by rw [hback]; exact nofun)
      exact done.trans (by
        rw [State.programDone_directory hfin hst, next, State.goOn_directory hs h1 h8 _ (by exact hst), issued, quiet]; rfl)
    · have next : { s.slot n with op := none }.directoryDone =
          { sl with op := none, back := 0, readingBack := true, backOk := true } := if_neg (Nat.not_lt.2 hall)
      exact done.trans (by
        rw [State.programDone_directory hfin hst, next, State.goOn_directory hs h1 h8 _ (by exact hst), quiet]; rfl)
  case erase =>
    intro w j ho hw hst hstep
    refine ⟨fun hmore => ?_, fun hall => ?_⟩
    · have next : (s.slot n).nextErase = .erase (j + 1) := by
        rw [Slot.nextErase, show (s.slot n).eraseStep = _ from hstep]
        exact if_pos hmore
      have arrived := State.afterOp_erase hs h1 h8 { sl with op := none, eraseStep := .erase (j + 1) } hhold hst nofun
      rw [exec_eraseDone h1 h8 hr he hf ho (CartOp.not_program hw _), State.eraseDone_erase hfin hst w, next, arrived, quiet]
      rfl
    · have next : (s.slot n).nextErase = .mark := by
        rw [Slot.nextErase, show (s.slot n).eraseStep = _ from hstep]
        exact if_neg (Nat.not_lt.2 hall)
      have arrived := State.afterOp_erase hs h1 h8 { sl with op := none, eraseStep := .mark } hhold hst nofun
      rw [exec_eraseDone h1 h8 hr he hf ho (CartOp.not_program hw _), State.eraseDone_erase hfin hst w, next, arrived, quiet]
      rfl
  case eraseBlock =>
    intro w p ho hw hst hp hcur hfr hsp
    have cursor : (s.slot n).cursor = Cursor.zero := hcur
    have placed : s.placementOf { sl with op := none, cursor := { Cursor.zero with erased := true } } = some p := by
      rw [← hp, State.placementOf, State.placementOf, hcur]
    have arrived := State.afterOp_read hs h1 h8 { sl with op := none, cursor := { Cursor.zero with erased := true } } hhold hst
      rfl placed hfr hsp rfl
    rw [exec_eraseDone h1 h8 hr he hf ho (CartOp.not_program hw _), State.eraseDone_programming hfin hst w, cursor, arrived]
  case mark =>
    intro c ho hc hst d stamp
    have cart : (s.slot n).cart = some c := hc
    have counted : (s.slot n).counted = { sl with op := none, cart := some d } := by rw [Slot.counted, cart]; rfl
    refine ⟨fun hlt => ?_, fun hge => ?_⟩
    · have arrived := State.afterOp_erase hs h1 h8 { (s.slot n).counted with eraseStep := .stamp } hhold hst nofun
      have stamped : ({ (s.slot n).counted with eraseStep := .stamp } : Slot).goErase s.today =
          { ({ (s.slot n).counted with eraseStep := .stamp } : Slot) with pages := [stamp] }.permit (.program 0 0 stamp) :=
        Slot.goErase_stamp rfl (c := d) (by rw [counted])
      rw [exec_markCycleDone h1 h8 hr he hf ho, State.markDone_stamp cart hlt hfin, arrived, stamped, counted, quiet]
      rfl
    · rw [exec_markCycleDone h1 h8 hr he hf ho, State.markDone_worn cart hge, counted]
  case refused =>
    intro before refused
    refine ⟨fun b k data ho => ?_, fun w ho hw => ?_, fun ho hsus => ?_⟩
    · exact exec_pageProgramDone h1 h8 hr he hf ho
    · exact exec_eraseDone h1 h8 hr he hf ho (CartOp.not_program hw _)
    · exact exec_eraseDone h1 h8 hr he hf ho hsus
  case unbound =>
    intro granted judged reading stopping
    refine ⟨fun job p hst hjob => ?_, ?_⟩
    · simp only [State.leavePlace, hst]
      exact if_pos hjob
    · unfold State.unbind
      dsimp only
      rw [Slot.eraseUnderWay_eq, State.readBackOf_eq]
      rfl
  case finishing =>
    intro hfin cleared ends faults
    have fin (w : WriteOp) : s.permitReply n true w = s.finished n := if_pos hfin
    refine ⟨fun w ho => ⟨?_, ?_⟩, fun b k data ho => ?_, fun w ho hw => ?_, ?_, fun ho => ⟨?_, fun hsus => ?_⟩,
      fun ho hhold hst => ?_, fun b k ok page ho => ⟨fun hn => ?_, fun r hb => ⟨fun hok hp => ?_, fun hbad => ?_⟩⟩⟩
    · exact (exec_permitReply h1 h8 hr he hf ho).trans (by rw [fin, State.finished_eq]; rfl)
    · exact (exec_permitReply h1 h8 hr he hf ho).trans (by rw [State.permitReply_denied])
    · exact (exec_pageProgramDone h1 h8 hr he hf ho).trans (by
        have ended : s.programDone n true = s.finished n := if_pos hfin
        rw [ended, State.finished_eq]; rfl)
    · exact (exec_eraseDone h1 h8 hr he hf ho (CartOp.not_program hw _)).trans (by
        have ended : s.eraseDone n true (.write w) = s.finished n := if_pos hfin
        rw [ended, State.finished_eq]; rfl)
    · intro c ho hc d
      have cart : (s.slot n).cart = some c := hc
      have counted : (s.slot n).counted = { sl with op := none, cart := some d } := by rw [Slot.counted, cart]; rfl
      refine ⟨fun hlt => ?_, fun hge => ?_⟩
      · exact (exec_markCycleDone h1 h8 hr he hf ho).trans (by
          rw [State.markDone_finishing cart hlt hfin, State.finished_setSlot hs h1 h8, counted]; rfl)
      · rw [exec_markCycleDone h1 h8 hr he hf ho, State.markDone_worn cart hge, counted]
    · exact (exec_suspendDone h1 h8 hr he hf ho).trans (by
        rw [State.suspendDone, if_pos hfin, State.finished_eq]; rfl)
    · rw [exec_eraseDone h1 h8 hr he hf ho hsus]
      simp only [State.eraseDone, Bool.not_true, Bool.false_eq_true, if_false, if_true]
      rw [if_pos hfin, quiet]
    · rw [exec_resumeDone h1 h8 hr he hf ho]
      unfold State.resumeDone
      dsimp only
      rw [if_neg (by rw [hhold]; exact nofun), if_neg (by rw [hst]; exact nofun), quiet]
    · have reads : s.pageRead n ok page = s.finishRead n ok page := if_pos hfin
      exact (exec_pageReadDone h1 h8 hr he hf ho).trans (by
        rw [reads, State.finishRead, show (s.slot n).readBack = none from hn]
        rfl)
    · have reads : s.pageRead n ok page = s.finishRead n ok page := if_pos hfin
      exact (exec_pageReadDone h1 h8 hr he hf ho).trans (by
        rw [reads, State.finishRead, show (s.slot n).readBack = some r from hb]
        dsimp only
        rw [if_pos (by simp [hok, hp])]
        rfl)
    · have reads : s.pageRead n ok page = s.finishRead n ok page := if_pos hfin
      exact (exec_pageReadDone h1 h8 hr he hf ho).trans (by
        rw [reads, State.finishRead, show (s.slot n).readBack = some r from hb]
        dsimp only
        rw [if_neg (by rcases hbad with h | h <;> simp [h])])

end Sys2Proof.Proofs

end

section
/-!
PROOF. The read-back of a block, a stamp and a directory (R94, R98 to R101); obligation O49.
-/

namespace Sys2Proof.Machine

section Reading
variable {s : State} {n : Nat} {ok : Bool} {page : List Byte}

theorem State.pageRead_stamp (hfin : (s.slot n).finishing = false)
    (hst : (s.slot n).state = .preErase ∨ (s.slot n).state = .erasing) :
    s.pageRead n ok page = s.stampRead n ok page := by
  unfold State.pageRead
  dsimp only
  rw [if_neg (by rw [hfin]; exact nofun)]
  rcases hst with hst | hst <;> simp only [hst]

theorem State.pageRead_verify (hfin : (s.slot n).finishing = false) (hst : (s.slot n).state = .verifying) :
    s.pageRead n ok page = s.verifyRead n ok page := by
  unfold State.pageRead
  dsimp only
  rw [if_neg (by rw [hfin]; exact nofun)]
  simp only [hst]

theorem State.pageRead_directory (hfin : (s.slot n).finishing = false) (hst : (s.slot n).state = .directory) :
    s.pageRead n ok page = s.directoryRead n ok page := by
  unfold State.pageRead
  dsimp only
  rw [if_neg (by rw [hfin]; exact nofun)]
  simp only [hst]

/-- The slot with one page more of its block read back. -/
def Slot.verified (sl : Slot) (p : Placement) (ok : Bool) (page : List Byte) : Slot :=
  { sl with op := none, back := sl.back + 1, backOk := sl.backOk && ok && decide (page = sl.expected p sl.back) }

theorem State.verifyRead_eq {p : Placement} (hp : s.placementOf (s.slot n) = some p)
    (hh : (s.slot n).holdPending = false) : s.verifyRead n ok page =
      if (s.slot n).back + 1 < 512 then (s.setSlot n ((s.slot n).verified p ok page)).goOn n
      else if ((s.slot n).verified p ok page).backOk then
        (s.setSlot n ((s.slot n).verified p ok page)).blockVerified n p
      else (s.setSlot n ((s.slot n).verified p ok page)).takeSpare n p := by
  unfold State.verifyRead
  dsimp only
  rw [hp]
  exact if_neg (by rw [hh]; exact nofun)

theorem State.verifyRead_held {p : Placement} (hp : s.placementOf (s.slot n) = some p)
    (hh : (s.slot n).holdPending = true) : s.verifyRead n ok page =
      (s.setSlot n ((s.slot n).verified p ok page)).setSlot n ((s.slot n).verified p ok page).hold := by
  unfold State.verifyRead
  dsimp only
  rw [hp]
  exact if_pos hh

variable (hs : s.rack.length = 8) (h1 : 1 ≤ n) (h8 : n ≤ 8)
include hs h1 h8

theorem State.blockVerified_next {x : Slot} {p : Placement} (hb : x.cursor.image + 1 < p.blocks) :
    (s.setSlot n x).blockVerified n p = (s.setSlot n
      { x with
        buffer := [], spare := none
        cursor := { x.cursor with image := x.cursor.image + 1, frame := 0, page := 0, inBuffer := false } }).beginBlock n p := by
  unfold State.blockVerified
  dsimp only
  rw [State.slot_setSlot s x hs h1 h8, if_pos hb, State.setSlot_setSlot]

/-- The slot past the last block of its placement. -/
def Slot.placed (x : Slot) : Slot :=
  { x with
    buffer := [], spare := none, readMark := false
    cursor :=
      { x.cursor with placement := x.cursor.placement + 1, image := 0, frame := 0, page := 0, inBuffer := false } }

omit hs h1 h8 in
theorem State.toRecent_setSlot (x : Slot) (t : Nat) : (s.setSlot n x).toRecent t = (s.toRecent t).setSlot n x := by
  have image : (s.setSlot n x).image t = s.image t := rfl
  unfold State.toRecent
  rw [image]
  split
  · split
    · rfl
    · rfl
  · rfl

omit hs h1 h8 in
theorem State.placementOf_toRecent (x : Slot) (t : Nat) : (s.toRecent t).placementOf x = s.placementOf x := by
  have plan (m : Nat) : (s.toRecent t).plan m = s.plan m := by simp [State.plan]
  unfold State.placementOf
  split
  · rfl
  · rw [plan]

theorem State.blockVerified_placement {x : Slot} {p q : Placement} (hb : p.blocks ≤ x.cursor.image + 1)
    (hq : s.placementOf x.placed = some q) :
    (s.setSlot n x).blockVerified n p = ((s.toRecent p.title).setSlot n x.placed).beginBlock n q := by
  have next : (s.setSlot n x).placementOf x.placed = some q := hq
  have recent : ((s.setSlot n x).toRecent p.title).placementOf x.placed = some q := by
    rw [State.placementOf_toRecent]; exact hq
  unfold State.blockVerified
  dsimp only
  rw [State.slot_setSlot s x hs h1 h8, if_neg (Nat.not_lt.2 hb)]
  change (match ((s.setSlot n x).toRecent p.title).placementOf x.placed with
    | some q => (((s.setSlot n x).toRecent p.title).setSlot n x.placed).beginBlock n q
    | none => (((s.setSlot n x).toRecent p.title).setSlot n _).beginDirectory n) = _
  rw [recent]
  dsimp only
  rw [State.toRecent_setSlot, State.setSlot_setSlot]

theorem State.blockVerified_directory {x : Slot} {p : Placement} (hb : p.blocks ≤ x.cursor.image + 1)
    (hq : s.placementOf x.placed = none) : (s.setSlot n x).blockVerified n p =
      ((s.toRecent p.title).setSlot n { x with buffer := [], spare := none, readMark := false }).beginDirectory n := by
  have recent : ((s.setSlot n x).toRecent p.title).placementOf x.placed = none := by
    rw [State.placementOf_toRecent]; exact hq
  unfold State.blockVerified
  dsimp only
  rw [State.slot_setSlot s x hs h1 h8, if_neg (Nat.not_lt.2 hb)]
  change (match ((s.setSlot n x).toRecent p.title).placementOf x.placed with
    | some q => (((s.setSlot n x).toRecent p.title).setSlot n x.placed).beginBlock n q
    | none => (((s.setSlot n x).toRecent p.title).setSlot n _).beginDirectory n) = _
  rw [recent]
  dsimp only
  rw [State.toRecent_setSlot, State.setSlot_setSlot]

omit hs h1 h8 in
theorem State.stampRead_good (hg : (ok && decide ((s.slot n).pages.head? = some page)) = true) :
    s.stampRead n ok page = (s.setSlot n
      { s.slot n with
        op := none, cart := (s.slot n).cart.map (fun c => c.mark .blank), eraseStep := .ended, pages := [] }).afterOp n :=
  if_pos hg

omit hs h1 h8 in
theorem State.stampRead_bad (hg : (ok && decide ((s.slot n).pages.head? = some page)) = false) :
    s.stampRead n ok page = s.slotFault n .headerBad := if_neg (by rw [hg]; exact nofun)

theorem State.afterOp_blank (x : Slot) (hx : x.holdPending = false) (hst : x.state = .preErase) (he : x.eraseStep = .ended) :
    (s.setSlot n x).afterOp n = (s.setSlot n { x with state := .idleBlank }).matchJobs := by
  rw [State.afterOp_of hs h1 h8 x hx, State.goOn_blank hs h1 h8 x hst he, if_pos (by rw [State.slot_setSlot s _ hs h1 h8])]

theorem State.takeSpare_free {x : Slot} {p : Placement} {c : Cartridge} (hc : x.cart = some c)
    (hr : x.sparesTaken < c.cls.reserve) (he : x.cursor.erased = true) (hp : s.placementOf x = some p)
    (hb : 0 < p.blockFrames x.cursor.image) : (s.setSlot n x).takeSpare n p = s.setSlot n
      { x with
        state := .programming, spare := some (c.cls.reserveStart + x.sparesTaken), sparesTaken := x.sparesTaken + 1
        spares := spareMapSet x.spares (p.start + x.cursor.image) (c.cls.reserveStart + x.sparesTaken)
        cursor := { x.cursor with frame := 0, page := 0, inBuffer := false }
        op := some
          { op := .grantPermit (.program (c.cls.reserveStart + x.sparesTaken) 0 (x.bufferPage 0 0)), elapsed := 0 } } := by
  unfold State.takeSpare
  dsimp only
  rw [State.slot_setSlot s x hs h1 h8, hc]
  dsimp only
  rw [if_pos hr, State.setSlot_setSlot]
  exact State.goProgram_page hs h1 h8 _ he hp hb (.inl rfl)

theorem State.takeSpare_full {x : Slot} {p : Placement} {c : Cartridge} (hc : x.cart = some c)
    (hr : c.cls.reserve ≤ x.sparesTaken) : (s.setSlot n x).takeSpare n p = (s.setSlot n x).slotFault n .noSpare := by
  unfold State.takeSpare
  dsimp only
  rw [State.slot_setSlot s x hs h1 h8, hc]
  exact if_neg (Nat.not_lt.2 hr)

theorem State.beginDirectory_setSlot {x : Slot} {job : Nat} {q : Plan} {c : Cartridge} (hj : x.job = some job)
    (hc : x.cart = some c) (hp : s.plan job = some q) : (s.setSlot n x).beginDirectory n = s.setSlot n
      { x with
        state := .directory, pages := (s.directory x job q c).pages, back := 0, readingBack := false, backOk := true
        op := some
          { op := .grantPermit (.program 0 0 ((s.directory x job q c).pages.getD 0 [])), elapsed := 0 } } := by
  have plan : (s.setSlot n x).plan job = some q := hp
  unfold State.beginDirectory
  dsimp only
  rw [State.slot_setSlot s x hs h1 h8, hj, hc]
  dsimp only
  rw [plan]
  dsimp only
  rw [State.setSlot_setSlot]
  rfl

/-- The slot with one page more of its directory read back. -/
def Slot.pageBack (sl : Slot) (ok : Bool) (page : List Byte) : Slot :=
  { sl with op := none, back := sl.back + 1, backOk := sl.backOk && ok && decide (sl.pages[sl.back]? = some page) }

omit hs h1 h8 in
theorem State.directoryRead_eq : s.directoryRead n ok page =
    if (s.slot n).back + 1 < (s.slot n).pages.length then (s.setSlot n ((s.slot n).pageBack ok page)).goOn n
    else if ((s.slot n).pageBack ok page).backOk then (s.setSlot n ((s.slot n).pageBack ok page)).reachDone n
    else (s.setSlot n ((s.slot n).pageBack ok page)).slotFault n .headerBad := rfl

end Reading

/-! ## The pins of a plan that reaches DONE -/

theorem State.image_unpins (s : State) (titles : List Nat) (hn : titles.Nodup) (k : Nat) :
    (titles.foldl (fun s t => s.unpin t) s).image k =
      if k ∈ titles then (s.image k).map (fun e => { e with pins := e.pins - 1 }) else s.image k := by
  induction titles generalizing s with
  | nil => rfl
  | cons t titles ih =>
    obtain ⟨ht, hn⟩ := List.nodup_cons.1 hn
    have one : (s.unpin t).image k = (s.onImage t (fun e => { e with pins := e.pins - 1 })).image k := rfl
    rw [List.foldl_cons, ih _ hn, one, State.image_onImage]
    by_cases hk : k = t
    · subst hk
      simp [ht]
    · simp [hk]

theorem State.pins_unpinAll (s : State) {p : Plan} (hn : (p.placements.map (·.title)).Nodup) (k : Nat) :
    (s.unpinAll p).pins k = s.pins k - if k ∈ p.placements.map (·.title) then 1 else 0 := by
  have folded : s.unpinAll p = (p.placements.map (·.title)).foldl (fun s t => s.unpin t) s := by
    rw [List.foldl_map]
    rfl
  rw [folded, State.pins, State.image_unpins _ _ hn, State.pins]
  by_cases hk : k ∈ p.placements.map (·.title)
  · rw [if_pos hk, if_pos hk]
    cases s.image k with
    | none => rfl
    | some e => rfl
  · rw [if_neg hk, if_neg hk]
    rfl

/-- What reaching DONE writes (R101). -/
theorem State.reachDone_eq {s : State} {n job : Nat} {c : Cartridge} {p : Plan} (hj : (s.slot n).job = some job)
    (hc : (s.slot n).cart = some c) (hp : s.plan job = some p) : s.reachDone n =
      (((((s.setPlan job { p with state := .mailing s.nextItem }).addItem p.patron
        (.cartridge job c.serial) .awaitingLabel).unpinAll p).setSlot n
          { (s.slot n).release .done with
            cart := some (c.written job p.used), op := none, doneItem := some (job, s.nextItem) }).raise .slotDone) := by
  unfold State.reachDone
  dsimp only
  rw [hj, hc]
  dsimp only
  rw [hp]

end Sys2Proof.Machine

namespace Sys2Proof.Proofs

open Sys2Proof Sys2Proof.Machine

/-- Settles O49: the read-back by the phase it is of, page by page and then by its judgement. -/
theorem pagesReadBack : Obligations.PagesReadBack := by
  intro s n ok page b k h1 h8 ⟨hs, _⟩ hq hr hfin hhold ho sl gives
  have quiet {x : Slot} : (s.setSlot n x).takeTrigger = s.setSlot n x := State.takeTrigger_of_quiet hq
  have done (he : (s.slot n).state ≠ .empty) (hf : (s.slot n).state ≠ .fault) :
      exec (.pageReadDone n ok page) s = .next (s.pageRead n ok page).takeTrigger := exec_pageReadDone h1 h8 hr he hf ho
  refine ⟨?verify, ?stamp, ?next, ?last⟩
  case verify =>
    intro p hst hp good
    have read : gives (s.verifyRead n ok page).takeTrigger := by
      rw [← State.pageRead_verify hfin hst]
      exact done (by rw [hst]; exact nofun) (by rw [hst]; exact nofun)
    rw [State.verifyRead_eq hp hhold] at read
    have after : (s.slot n).verified p ok page = { sl with op := none, back := sl.back + 1, backOk := good } := rfl
    rw [after] at read
    refine ⟨fun hmore => ?_, fun hall hgood => ?_, fun c hall hbad hc her hfr => ⟨fun hlt => ?_, fun hge => ?_⟩⟩
    · rw [if_pos hmore, State.goOn_verifying hs h1 h8 _ (by exact hst) (by exact hp), quiet] at read
      exact read
    · intro fin
      rw [if_neg (Nat.not_lt.2 hall), if_pos hgood, show good = true from hgood] at read
      refine ⟨fun hb => ?_, ?_⟩
      · rw [State.blockVerified_next hs h1 h8 (by exact hb)] at read
        exact read
      · intro hb recent following
        have placed : ({ sl with op := none, back := sl.back + 1, backOk := true } : Slot).placed = following := rfl
        refine ⟨fun e he hres => ?_, fun q hq' => ?_, ?_⟩
        · simp only [recent, State.toRecent, he, hres, if_true]
        · rw [State.blockVerified_placement hs h1 h8 (by exact hb) (placed ▸ hq'), placed] at read
          exact read
        · intro job c q hnone hj hc hplan pages
          rw [State.blockVerified_directory hs h1 h8 (by exact hb) (placed ▸ hnone),
            State.beginDirectory_setSlot (by simpa using hs) h1 h8 (by exact hj) (by exact hc)
              (by simpa [State.plan] using hplan)] at read
          have same : (s.toRecent p.title).directory
              { ({ sl with op := none, back := sl.back + 1, backOk := true } : Slot) with
                buffer := [], spare := none, readMark := false } job q c = s.directory sl job q c := by
            have records : (s.toRecent p.title).records = s.records := by simp
            simp only [State.directory, State.patron, State.title, State.patronNumber, State.catalogue, records]
          rw [same, State.takeTrigger_of_quiet (by simpa [State.quiet] using hq)] at read
          exact read
    · have hbad' : good = false := hbad
      rw [if_neg (Nat.not_lt.2 hall), if_neg (by rw [hbad']; exact nofun), hbad',
        State.takeSpare_free hs h1 h8 (x := { sl with op := none, back := sl.back + 1, backOk := false }) hc hlt (by exact her) (by exact hp) (by exact hfr), quiet] at read
      exact read
    · have hbad' : good = false := hbad
      rw [if_neg (Nat.not_lt.2 hall), if_neg (by rw [hbad']; exact nofun), hbad',
        State.takeSpare_full hs h1 h8 (x := { sl with op := none, back := sl.back + 1, backOk := false }) hc hge] at read
      exact read
  case stamp =>
    intro hst good
    have read : gives (s.stampRead n ok page).takeTrigger := by
      rw [← State.pageRead_stamp hfin hst]
      exact done (by rcases hst with h | h <;> (rw [h]; exact nofun)) (by rcases hst with h | h <;> (rw [h]; exact nofun))
    refine ⟨fun hbad => ?_, fun c hgood hc => ?_⟩
    · rw [State.stampRead_bad hbad] at read
      exact read
    · intro blank
      have after : ({ s.slot n with
          op := none, cart := (s.slot n).cart.map (fun c => c.mark .blank), eraseStep := .ended, pages := [] } : Slot) =
            blank := by
        rw [show (s.slot n).cart = some c from hc]
        rfl
      rw [State.stampRead_good hgood, after] at read
      refine ⟨fun hpre => ?_, fun her => ?_⟩
      · rw [State.afterOp_blank hs h1 h8 blank hhold hpre rfl] at read
        exact read
      · rw [State.afterOp_erased hs h1 h8 blank hhold her rfl, quiet] at read
        exact read
  case next =>
    intro hst hmore hback
    have read : gives (s.directoryRead n ok page).takeTrigger := by
      rw [← State.pageRead_directory hfin hst]
      exact done (by rw [hst]; exact nofun) (by rw [hst]; exact nofun)
    have issued : ((s.slot n).pageBack ok page).goDirectory =
        ((s.slot n).pageBack ok page).issue (.readPage 0 (sl.back + 1)) := if_pos hback
    rw [State.directoryRead_eq, if_pos hmore, State.goOn_directory hs h1 h8 _ (by exact hst), issued, quiet] at read
    exact read
  case last =>
    intro hst hlast good
    have read : gives (s.directoryRead n ok page).takeTrigger := by
      rw [← State.pageRead_directory hfin hst]
      exact done (by rw [hst]; exact nofun) (by rw [hst]; exact nofun)
    have after : (s.slot n).pageBack ok page = { sl with back := sl.back + 1, backOk := good, op := none } := rfl
    rw [State.directoryRead_eq, if_neg (Nat.not_lt.2 hlast.le), after] at read
    intro told
    refine ⟨fun hbad => ?_, fun job c p hgood hj hc hp => ?_⟩
    · have hbad' : good = false := hbad
      rw [if_neg (by rw [hbad']; exact nofun)] at read
      exact read
    · rw [if_pos hgood] at read
      have here : told.slot n = { sl with back := sl.back + 1, backOk := good, op := none } :=
        State.slot_setSlot s _ hs h1 h8
      have reached := State.reachDone_eq (s := told) (n := n) (by rw [here]; exact hj) (by rw [here]; exact hc)
        (show told.plan job = some p from hp)
      have item : told.nextItem = s.nextItem := rfl
      rw [item] at reached
      refine ⟨_, read, ?_⟩
      rw [show s.setSlot n _ = told from rfl, reached]
      generalize hx : ({ (told.slot n).release .done with
        cart := some (c.written job p.used), op := none, doneItem := some (job, s.nextItem) } : Slot) = x
      generalize hv : ((told.setPlan job { p with state := .mailing s.nextItem }).addItem p.patron
        (.cartridge job c.serial) .awaitingLabel).unpinAll p = v
      have rackv : v.rack = told.rack := by rw [← hv]; simp
      have mailv : v.mail = (s.addItem p.patron (.cartridge job c.serial) .awaitingLabel).mail := by rw [← hv]; simp; rfl
      have slot : ((v.setSlot n x).raise .slotDone).takeTrigger.slot n = x := by
        have := State.slot_setSlot v x (by rw [rackv]; simpa [told] using hs) h1 h8
        simpa [State.slot] using this
      refine ⟨?_, ?_, ?_, by rw [slot, ← hx]; rfl, by rw [slot, ← hx]; rfl, by rw [slot, ← hx], by rw [slot, ← hx],
        by rw [slot, ← hx]; rfl, fun m hm hne => ?_, fun y hn => ?_, ?_, ?_, ?_, ?_⟩
      · have : v.planner.plans = told.planner.plans.put job { p with state := .mailing s.nextItem } := by rw [← hv]; simp [State.setPlan]
        simp only [State.plan, State.takeTrigger_frame]
        change v.planner.plans.look job = _
        rw [this]
        exact Table.look_put _ _ _
      · simp only [State.takeTrigger_frame]
        exact congrArg Mail.tray mailv
      · simp only [State.takeTrigger_frame]
        exact congrArg Mail.lastItem mailv
      · have one : (v.setSlot n x).slot m = v.slot m := State.slot_setSlot_of_ne v x h1 (mem_slotNumbers.1 hm).1 hne
        have two : told.slot m = s.slot m := State.slot_setSlot_of_ne s _ h1 (mem_slotNumbers.1 hm).1 hne
        have three : v.slot m = told.slot m := by rw [State.slot, State.slot, rackv]
        simpa [State.slot] using one.trans (three.trans two)
      · have pins : v.pins y = s.pins y - if y ∈ p.placements.map (·.title) then 1 else 0 := by
          rw [← hv]
          exact State.pins_unpinAll _ hn y
        rw [← pins]
        simp [State.pins, State.image]
      · simp only [State.takeTrigger_frame]
        exact Events.raise_holds _ _
      · have : v.records.titles = s.records.titles := by rw [← hv]; simp [told]
        simpa using this
      · have : v.records.loans = s.records.loans := by rw [← hv]; simp [told]
        simpa using this
      · have : v.store.flash = s.store.flash := by rw [← hv]; simp [told]
        simpa using this

end Sys2Proof.Proofs

end

section
/-!
PROOF. Holds and releases of slots (R103, R104); obligation O51.
-/

namespace Sys2Proof.Machine

section Holding
variable {s : State} {n : Nat}

theorem slotNumber_of (h1 : 1 ≤ n) (h8 : n ≤ 8) : slotNumber n = true := by
  simp [slotNumber, Config.slots, h1, h8]

theorem answerSlotHold_of (h1 : 1 ≤ n) (h8 : n ≤ 8) {t : State} (h : s.holdSlot n = some t) : answerSlotHold n s =
    accept t (u8 (((s.slot n).state.phase.map Phase.code).getD 0) ++ flagByte (t.slot n).suspended.isSome) := by
  simp [answerSlotHold, slotNumber_of h1 h8, h]

theorem answerSlotHold_none (h1 : 1 ≤ n) (h8 : n ≤ 8) (h : s.holdSlot n = none) :
    answerSlotHold n s = refuse s .state := by
  simp [answerSlotHold, slotNumber_of h1 h8, h]

theorem State.holdSlot_again (h : (s.slot n).holdPending = true) : s.holdSlot n = none := if_pos h

theorem State.holdSlot_erase (hh : (s.slot n).holdPending = false)
    (hst : (s.slot n).state = .preErase ∨ (s.slot n).state = .erasing) :
    s.holdSlot n = if (s.slot n).eraseKind = .full then none else some (s.setSlot n (s.slot n).holdErase) := by
  unfold State.holdSlot
  dsimp only
  rw [if_neg (by rw [hh]; exact nofun)]
  rcases hst with h | h <;> simp only [h]

theorem State.holdSlot_programming (hh : (s.slot n).holdPending = false) (hst : (s.slot n).state = .programming) :
    s.holdSlot n = some (s.holdProgram n) := by
  unfold State.holdSlot
  dsimp only
  rw [if_neg (by rw [hh]; exact nofun)]
  simp only [hst]

theorem State.holdSlot_verifying (hh : (s.slot n).holdPending = false) (hst : (s.slot n).state = .verifying) :
    s.holdSlot n = some (s.setSlot n
      (if (s.slot n).op.isSome then { s.slot n with holdPending := true } else (s.slot n).hold)) := by
  unfold State.holdSlot
  dsimp only
  rw [if_neg (by rw [hh]; exact nofun)]
  split
  · next h => exact nomatch hst.symm.trans h
  · next h => exact nomatch hst.symm.trans h
  · next h => exact nomatch hst.symm.trans h
  · rfl
  · next h => exact nomatch hst.symm.trans h
  · next h _ => exact absurd hst h

theorem State.holdSlot_waiting (hh : (s.slot n).holdPending = false) (hst : (s.slot n).state = .waitImage) :
    s.holdSlot n = some (s.setSlot n (s.slot n).hold) := by
  unfold State.holdSlot
  dsimp only
  rw [if_neg (by rw [hh]; exact nofun)]
  simp only [hst]

theorem State.holdSlot_other (hpre : (s.slot n).state ≠ .preErase) (her : (s.slot n).state ≠ .erasing)
    (hpr : (s.slot n).state ≠ .programming) (hv : (s.slot n).state ≠ .verifying) (hw : (s.slot n).state ≠ .waitImage) :
    s.holdSlot n = none := by
  unfold State.holdSlot
  dsimp only
  split
  · rfl
  · split
    · next h => exact absurd h hpre
    · next h => exact absurd h her
    · next h => exact absurd h hpr
    · next h => exact absurd h hv
    · next h => exact absurd h hw
    · rfl

theorem flagByte_eq (b : Bool) : flagByte b = [if b then 1#8 else 0#8] := by
  cases b <;> rfl

/-- An accepted SLOT HOLD: the slot as it is held, and its reply. -/
theorem exec_slotHold {i tag : Nat} {x : Slot} {u : State} {phase : Byte} (h : s.serves i (.slotHold tag n))
    (hs : u.rack.length = 8) (h1 : 1 ≤ n) (h8 : n ≤ 8) (hq : u.quiet) (hh : s.holdSlot n = some (u.setSlot n x))
    (hp : u8 (((s.slot n).state.phase.map Phase.code).getD 0) = [phase]) :
    exec (.slotHold tag n) s =
      .next ((u.setSlot n x).replied i [phase, if x.suspended.isSome then 1#8 else 0#8]) := by
  have answer := answerSlotHold_of h1 h8 hh
  rw [State.slot_setSlot u x hs h1 h8, hp, flagByte_eq] at answer
  exact Proofs.exec_accepted_quiet h rfl answer hq

/-- A slot goes back to its erase phase: to the erase suspended, or to the step at its cursor. -/
theorem State.releaseErase_setSlot (hs : s.rack.length = 8) (h1 : 1 ≤ n) (h8 : n ≤ 8) (x : Slot) :
    (s.setSlot n x).releaseErase n =
      if x.state = .preErase then
        (if x.suspended.isSome then s.setSlot n (x.issue .resume) else (s.setSlot n x).goOn n).matchJobs
      else if x.suspended.isSome then s.setSlot n (x.issue .resume) else (s.setSlot n x).goOn n := by
  unfold State.releaseErase
  dsimp only
  rw [State.slot_setSlot s x hs h1 h8, State.setSlot_setSlot]

end Holding

end Sys2Proof.Machine

namespace Sys2Proof.Proofs

open Sys2Proof Sys2Proof.Machine

/-- Settles O51: the hold by the phase and what is in hand, the hold that waited, and the release by the remembered phase. -/
theorem slotsHeldAndReleased : Obligations.SlotsHeldAndReleased := by
  intro s n h1 h8 ⟨hs, _⟩ hq hr sl erase suspended held
  have quiet {x : Slot} : (s.setSlot n x).takeTrigger = s.setSlot n x := State.takeTrigger_of_quiet hq
  have hold (x : Slot) : x.hold = held x := rfl
  refine ⟨?hold, fun ho hfin he hf => ?_, ?pending, ?release, ?resumed⟩
  case hold =>
    intro i tag h accepts phase
    have code (hst : erase) : u8 (((s.slot n).state.phase.map Phase.code).getD 0) = [phase] := by
      rcases hst with hst | hst
      · rw [show (s.slot n).state = .preErase from hst, show phase = 0#8 from if_pos hst]; rfl
      · rw [show (s.slot n).state = .erasing from hst, show phase = 1#8 from if_neg (by rw [hst]; exact nofun)]; rfl
    refine ⟨fun o her hk hh ho => ⟨fun hx => ?_, fun hx => ?_⟩, fun her hk hh ho => ?_,
      fun hst hh => ⟨fun hbusy => ?_, fun ho hg => ?_⟩, fun hst hh => ⟨fun ho => ?_, fun ho => ?_⟩, fun hst hh => ?_,
      fun hno => ?_⟩
    · have given : s.holdSlot n = some (s.setSlot n _) := (State.holdSlot_erase hh her).trans (if_neg hk)
      have held : (s.slot n).holdErase =
          { sl with suspended := some o, holdPending := true, op := some { op := .suspend, elapsed := 0 } } := by
        rw [Slot.holdErase, ho]
        exact if_pos hx
      rw [held] at given
      exact exec_slotHold h hs h1 h8 hq given (code her)
    · have given : s.holdSlot n = some (s.setSlot n _) := (State.holdSlot_erase hh her).trans (if_neg hk)
      have held : (s.slot n).holdErase = { sl with holdPending := true } := by
        rw [Slot.holdErase, ho]
        exact if_neg (by rw [hx]; exact nofun)
      rw [held] at given
      exact exec_slotHold h hs h1 h8 hq given (code her)
    · have given : s.holdSlot n = some (s.setSlot n _) := (State.holdSlot_erase hh her).trans (if_neg hk)
      have none : (s.slot n).holdErase = held sl := by
        rw [Slot.holdErase, ho]
        rfl
      rw [none] at given
      exact exec_slotHold h hs h1 h8 hq given (code her)
    · have given := State.holdSlot_programming hh hst
      have kept : (s.loseRead n .awaited).slot n = s.slot n := rfl
      have holding : s.holdProgram n = (s.loseRead n .awaited).setSlot n
          { sl with holdPending := true, awaiting := s.readGranted n } :=
        if_pos (by simpa [kept] using hbusy)
      rw [holding] at given
      exact exec_slotHold h (u := s.loseRead n .awaited) hs h1 h8 hq given (by rw [show (s.slot n).state = _ from hst]; rfl)
    · have given := State.holdSlot_programming hh hst
      have holding : s.holdProgram n = (s.loseRead n .awaited).setSlot n (held sl) :=
        if_neg (by simp [show ((s.loseRead n .awaited).slot n).op = none from ho, hg])
      rw [holding] at given
      exact exec_slotHold h (u := s.loseRead n .awaited) hs h1 h8 hq given (by rw [show (s.slot n).state = _ from hst]; rfl)
    · have given := State.holdSlot_verifying hh hst
      rw [if_pos ho] at given
      exact exec_slotHold h hs h1 h8 hq given (by rw [show (s.slot n).state = _ from hst]; rfl)
    · have given := State.holdSlot_verifying hh hst
      rw [if_neg (by rw [show (s.slot n).op = none from ho]; exact nofun)] at given
      exact exec_slotHold h hs h1 h8 hq given (by rw [show (s.slot n).state = _ from hst]; rfl)
    · exact exec_slotHold h hs h1 h8 hq (State.holdSlot_waiting hh hst) (by rw [show (s.slot n).state = _ from hst]; rfl)
    · refine exec_refused h rfl hq (answerSlotHold_none h1 h8 ?_)
      rcases hno with hh | hno
      · exact State.holdSlot_again hh
      · have idle (hst : (s.slot n).state ≠ .preErase ∧ (s.slot n).state ≠ .erasing ∧ (s.slot n).state ≠ .programming ∧
            (s.slot n).state ≠ .verifying ∧ (s.slot n).state ≠ .waitImage) : s.holdSlot n = none := by
          obtain ⟨hpre, her, hpr, hv, hw⟩ := hst
          exact State.holdSlot_other hpre her hpr hv hw
        rcases hno with hx | hx | hx | hx | hx | hx | hx | hx | ⟨hst, hfull⟩
        iterate 8 exact idle (by rw [show (s.slot n).state = _ from hx]; decide)
        by_cases hh : (s.slot n).holdPending = true
        · exact State.holdSlot_again hh
        · rw [State.holdSlot_erase (by simpa using hh) hst]
          exact if_pos hfull
  · rw [exec_suspendDone h1 h8 hr he hf ho, State.suspendDone, if_neg (by rw [hfin]; exact nofun), quiet]
    rfl
  case pending =>
    intro hpend hfin
    have active {st : SlotState} (hst : sl.state = st) (he : st ≠ .empty) (hf : st ≠ .fault) :
        (s.slot n).state ≠ .empty ∧ (s.slot n).state ≠ .fault := by
      rw [show (s.slot n).state = st from hst]
      exact ⟨he, hf⟩
    have erasing (her : erase) : (s.slot n).state ≠ .empty ∧ (s.slot n).state ≠ .fault := by
      rcases her with h | h <;> exact active h nofun nofun
    refine ⟨fun w hst ho => ?_, fun w j her ho hw hstep => ?_, fun c her ho hc hlt => ?_, fun b k data p hst ho hp hpage => ?_,
      fun b k p page hst ho hp => ?_⟩
    · obtain ⟨he, hf⟩ := hst.elim erasing fun h => active h nofun nofun
      rw [exec_permitReply h1 h8 hr he hf ho, State.permitReply_held hfin hpend, quiet]
      rfl
    · obtain ⟨he, hf⟩ := erasing her
      have next : (s.slot n).nextErase = if j + 1 < sl.eraseOps then .erase (j + 1) else .mark := by
        rw [Slot.nextErase, show (s.slot n).eraseStep = _ from hstep]
      rw [exec_eraseDone h1 h8 hr he hf ho (CartOp.not_program hw _), State.eraseDone_erase hfin her w,
        State.afterOp_held hs h1 h8 _ (by exact hpend), next, quiet]
      rfl
    · obtain ⟨he, hf⟩ := erasing her
      have cart : (s.slot n).cart = some c := hc
      have counted : (s.slot n).counted = { sl with op := none, cart := some { c with cycles := c.cycles + 1 } } := by
        rw [Slot.counted, cart]; rfl
      rw [exec_markCycleDone h1 h8 hr he hf ho, State.markDone_stamp cart hlt hfin,
        State.afterOp_held hs h1 h8 _ (by exact hpend), counted, quiet]
      rfl
    · obtain ⟨he, hf⟩ := active hst nofun nofun
      have next : { s.slot n with op := none }.pageDone p =
          { sl with op := none, cursor := { sl.cursor with page := sl.cursor.page + 1 } } := if_pos hpage
      rw [exec_pageProgramDone h1 h8 hr he hf ho, State.programDone_programming hfin hst hp, next,
        State.afterOp_held hs h1 h8 _ (by exact hpend), quiet]
      rfl
    · obtain ⟨he, hf⟩ := active hst nofun nofun
      rw [exec_pageReadDone h1 h8 hr he hf ho, State.pageRead_verify hfin hst, State.verifyRead_held hp hpend,
        State.setSlot_setSlot, quiet]
      simp only [Slot.verified, Bool.and_true]
      rfl
  case release =>
    intro i tag h accepts back issues resumes
    refine ⟨fun hheld => ?_, fun hno => ?_⟩
    · have releases {p : Phase} (hp : sl.remembered = some p) {t : State} (ht : s.releaseSlot n p = t) : accepts t := by
        refine exec_accepted h rfl ?_
        simp only [answerOf, answerSlotRelease, slotNumber_of h1 h8, Bool.not_true, Bool.false_eq_true, if_false,
          show (s.slot n).state = .held from hheld, show (s.slot n).remembered = some p from hp, ht]
      have backs (p : Phase) (hp : p = .preErase ∨ p = .erasing) :
          s.releaseSlot n p = (s.setSlot n (back p.slotState)).releaseErase n := by
        rcases hp with rfl | rfl <;> rfl
      have erases {u : SlotState → State} (hu : ∀ st, st = .preErase ∨ st = .erasing →
          (if sl.suspended.isSome then s.setSlot n ((back st).issue .resume) else (s.setSlot n (back st)).goOn n) = u st) :
          resumes u := by
        refine ⟨fun hp => releases hp ?_, fun hp => releases hp ?_⟩
        · rw [backs _ (.inr rfl), State.releaseErase_setSlot hs h1 h8, if_neg nofun]
          exact hu .erasing (.inr rfl)
        · rw [backs _ (.inl rfl), State.releaseErase_setSlot hs h1 h8, if_pos (show (back Phase.preErase.slotState).state = .preErase from rfl)]
          exact congrArg State.matchJobs (hu .preErase (.inl rfl))
      have stepping {u : SlotState → State} (hsus : sl.suspended = none) (hstep : sl.eraseStep ≠ .ended)
          (hu : ∀ st, s.setSlot n ((back st).goErase s.today) = u st) : resumes u := by
        refine erases fun st hst => ?_
        rw [if_neg (by rw [hsus]; exact nofun), State.goOn_erase hs h1 h8 (back st) hst hstep]
        exact hu st
      refine ⟨fun hsus => erases fun st _ => if_pos hsus, fun hsus => ⟨fun j hj => ?_, fun hm => ?_, fun c hst hc => ?_, fun hb => ?_,
        fun hend => ⟨fun hp => releases hp ?_, fun hp => releases hp ?_⟩⟩, fun hp => ⟨fun her => releases hp ?_, fun p her hpl =>
          ⟨fun hall => releases hp ?_, fun hmore => ⟨fun spare hsp => releases hp ?_, fun hsp => releases hp ?_⟩⟩⟩,
        fun p hp hpl => releases hp ?_, fun p hp hpl => releases hp ?_⟩
      · refine stepping (u := fun st => issues st id (.grantPermit (sl.eraseAt j))) hsus (by rw [hj]; exact nofun) fun st => ?_
        rw [Slot.goErase_erase (x := back st) hj]
        rfl
      · refine stepping (u := fun st => issues st id .markCycle) hsus (by rw [hm]; exact nofun) fun st => ?_
        rw [Slot.goErase_mark (x := back st) hm]
        rfl
      · intro stamp
        refine stepping (u := fun st => issues st (fun x => { x with pages := [stamp] }) (.grantPermit (.program 0 0 stamp)))
          hsus (by rw [hst]; exact nofun) fun st => ?_
        rw [Slot.goErase_stamp (x := back st) hst hc]
        rfl
      · refine stepping (u := fun st => issues st id (.readPage 0 0)) hsus (by rw [hb]; exact nofun) fun st => ?_
        rw [Slot.goErase_stampBack (x := back st) hb]
        rfl
      · rw [backs _ (.inr rfl), State.releaseErase_setSlot hs h1 h8, if_neg nofun, if_neg (by
          rw [show (back _).suspended = none from hsus]; exact nofun), State.goOn_erased hs h1 h8 _ rfl (by exact hend)]
        rfl
      · rw [backs _ (.inl rfl), State.releaseErase_setSlot hs h1 h8, if_pos (show (back Phase.preErase.slotState).state = .preErase from rfl), if_neg (by
          rw [show (back _).suspended = none from hsus]; exact nofun), State.goOn_blank hs h1 h8 _ rfl (by exact hend)]
      · exact State.goProgram_unerased hs h1 h8 (back .programming) her
      · exact State.goProgram_full hs h1 h8 (back .programming) her hpl hall
      · have target : (back .programming).target p = spare := by
          rw [Slot.target, show (back .programming).spare = some spare from hsp]
          rfl
        have page := State.goProgram_page hs h1 h8 (back .programming) her hpl hmore
          (.inl (by rw [show (back .programming).spare = some spare from hsp]; rfl))
        rw [target] at page
        exact page
      · exact State.goProgram_read hs h1 h8 (back .programming) her hpl hmore hsp rfl
      · have placed : (s.setSlot n (back .verifying)).placementOf (back .verifying) = some p := hpl
        have begun : s.releaseSlot n .verifying = (s.setSlot n (back .verifying)).setSlot n ((back .verifying).beginVerify p) := by
          unfold State.releaseSlot
          dsimp only
          exact (congrArg (fun q : Option Placement =>
            match q with
            | some q => (s.setSlot n (back .verifying)).setSlot n ((back .verifying).beginVerify q)
            | none => s.setSlot n (back .verifying)) placed)
        rw [begun, State.setSlot_setSlot]
        rfl
      · have placed : (s.setSlot n (back .waitImage)).placementOf (back .waitImage) = some p := hpl
        unfold State.releaseSlot
        dsimp only
        exact (congrArg (fun q : Option Placement =>
          match q with
          | some q => (s.setSlot n (back .waitImage)).beginBlock n q
          | none => s.setSlot n (back .waitImage)) placed)
    · refine exec_refused h rfl hq ?_
      have answer : answerOf (.slotRelease tag n) s =
          match (s.slot n).state, (s.slot n).remembered with
          | .held, some p => accept (s.releaseSlot n p) []
          | _, _ => refuse s .state := if_neg (by rw [slotNumber_of h1 h8]; exact nofun)
      rw [answer]
      split
      · next hx _ => exact absurd hx hno
      · rfl
  case resumed =>
    intro ho
    have resume (he : erase) : exec (.resumeDone n) s = .next (s.resumeDone n).takeTrigger := by
      refine exec_resumeDone h1 h8 hr ?_ ?_ ho <;>
        (rcases he with h | h <;> (rw [show (s.slot n).state = _ from h]; exact nofun))
    refine ⟨fun hst hh => ?_, fun hst hh => ?_, fun he hh => ?_⟩
    · rw [resume (.inr hst)]
      unfold State.resumeDone
      dsimp only
      rw [if_neg (by rw [hh]; exact nofun), if_neg (by rw [hst]; exact nofun), quiet]
    · rw [resume (.inl hst)]
      unfold State.resumeDone
      dsimp only
      rw [if_neg (by rw [hh]; exact nofun), if_pos hst]
    · rw [resume he]
      unfold State.resumeDone
      dsimp only
      rw [if_pos hh, quiet]
      rfl

end Sys2Proof.Proofs

end

section
/-!
PROOF. Frame reads completed, and images admitted, dropped and abandoned (R76, R78 to R81); obligations O45 and O46.
-/

namespace Sys2Proof.Machine

/-! ## A frame read completed -/

theorem exec_frameReadDone {s : State} {b : Nat} {r : ReadOp} (hr : s.run = .running) (hb : b < 4)
    (hc : (s.bank b).current = some (.read r)) :
    exec (.frameReadComplete b) s = .next (s.readComplete b r).takeTrigger := by
  rw [exec_frameReadComplete, execFrameReadComplete, if_neg (by simp only [Config.banks]; omega), if_neg (by simp [hr]), hc]

theorem State.deliver_eq {s : State} {r : ReadOp} {p : Placement} (hs : s.rack.length = 8) (h1 : 1 ≤ r.slot) (h8 : r.slot ≤ 8)
    (he : (s.slot r.slot).cursor.erased = true) (hp : s.placementOf (s.slot r.slot) = some p)
    (hf : (s.slot r.slot).cursor.frame < p.blockFrames (s.slot r.slot).cursor.image)
    (hl : (s.slot r.slot).buffer.length = (s.slot r.slot).cursor.frame) :
    let frame := flashRead s.store.flash (frameAddress r.block r.place) Config.frameBytes
    s.deliver r = s.setSlot r.slot
      { s.slot r.slot with
        buffer := (s.slot r.slot).buffer ++ [frame], cursor := { (s.slot r.slot).cursor with inBuffer := true }
        op := some
          { op := .grantPermit (.program ((s.slot r.slot).target p)
              (8 * (s.slot r.slot).cursor.frame + (s.slot r.slot).cursor.page)
              ((frame.drop (512 * (s.slot r.slot).cursor.page)).take 512)),
            elapsed := 0 } } := by
  intro frame
  have page (x : Slot) (hx : x.buffer = (s.slot r.slot).buffer ++ [frame]) :
      x.bufferPage (s.slot r.slot).cursor.frame (s.slot r.slot).cursor.page =
        (frame.drop (512 * (s.slot r.slot).cursor.page)).take 512 := by
    rw [Slot.bufferPage, hx, ← hl]
    simp [Config.pageBytes]
  unfold State.deliver
  dsimp only
  have whole : (s.slot r.slot).buffer.take (s.slot r.slot).cursor.frame = (s.slot r.slot).buffer := by
    rw [← hl, List.take_length]
  rw [whole, State.goProgram_page hs h1 h8
    { s.slot r.slot with
      buffer := (s.slot r.slot).buffer ++ [frame], cursor := { (s.slot r.slot).cursor with inBuffer := true } }
    he hp hf (.inr rfl), ← page
      { s.slot r.slot with
        buffer := (s.slot r.slot).buffer ++ [frame], cursor := { (s.slot r.slot).cursor with inBuffer := true } } rfl]
  rfl

/-! ## The end of an image -/

theorem State.image_unpinAll (s : State) (p : Plan) (k : Nat) : (s.unpinAll p).image k = none ↔ s.image k = none := by
  unfold State.unpinAll
  generalize p.placements = l
  induction l generalizing s with
  | nil => rfl
  | cons q l ih =>
    have one : (s.unpin q.title).image k = (s.onImage q.title (fun e => { e with pins := e.pins - 1 })).image k := rfl
    rw [List.foldl_cons, ih, one, State.image_onImage]
    split
    · simp
    · rfl

/-- The end of a plan makes no image and removes none. -/
theorem State.image_endPlan (s : State) (n k : Nat) : (s.endPlan n).image k = none ↔ s.image k = none := by
  unfold State.endPlan
  split
  · rfl
  · next p hp =>
    have same : (((s.leavePlace n p).returnEntries p.patron n).dropCarts p.patron).image k = s.image k := by
      simp [State.image]
    dsimp only
    split
    · exact (by rw [same] : (((s.leavePlace n p).returnEntries p.patron n).dropCarts p.patron).image k = none ↔ _)
    · exact (State.image_unpinAll _ p k).trans (by rw [same])

theorem State.plan_endPlans {s : State} (hs : s.planner.plans.rising = true) (l : List Nat) (m : Nat) :
    (l.foldl State.endPlan s).plan m = if m ∈ l then none else s.plan m := by
  induction l generalizing s with
  | nil => simp
  | cons n l ih =>
    have rising : (s.endPlan n).planner.plans.rising = true := by
      cases hp : s.plan n with
      | none => rw [State.endPlan_of_none hp]; exact hs
      | some p => rw [State.plans_endPlan hp]; exact Table.rising_del _ _ hs
    rw [List.foldl_cons, ih rising, State.plan_endPlan hs]
    by_cases hm : m = n
    · simp [hm]
    · simp [hm]

theorem State.mem_plansPlacing {s : State} {t n : Nat} {p : Plan} (hp : s.plan n = some p) {q : Placement}
    (hq : q ∈ p.placements) (ht : q.title = t) : n ∈ s.plansPlacing t :=
  List.mem_map.2 ⟨(n, p), List.mem_filter.2 ⟨Table.mem_of_look hp, by simpa using ⟨q, hq, ht⟩⟩, rfl⟩

theorem State.fetches_removeFetch {s : State} {id : Nat} {h : Fetch} (hh : h ∈ (s.removeFetch id).store.fetches) :
    h.id ≠ id := by
  have there : h.id ∈ (promote (s.store.fetches.filter (fun f => decide (f.id ≠ id)))).map (·.id) :=
    List.mem_map_of_mem hh
  rw [promote_ids] at there
  obtain ⟨f, hf, he⟩ := List.mem_map.1 there
  rw [← he]
  simpa using (List.mem_filter.1 hf).2

/-- What the end of an image leaves of the image, the title, the fetch and the plans that placed it (R75, R76). -/
theorem State.imageBad_leaves {s : State} (hs : s.ordered) {t id failures : Nat} {r : Title} (hr : s.title t = some r) :
    (s.imageBad t id failures).image t = none ∧
      (s.imageBad t id failures).title t = some { r with bad := true, failures := failures } ∧
      (∀ h ∈ (s.imageBad t id failures).store.fetches, h.id ≠ id) ∧
      (∀ x ∈ (s.imageBad t id failures).planner.plans, ∀ q ∈ x.2.placements, q.title ≠ t) ∧
      (s.plansPlacing t ≠ [] → ((s.imageBad t id failures).link.events.main |||
        (s.imageBad t id failures).link.events.pending).getLsbD Flag.planFailed.bit = true) := by
  have ordered : (s.imageBad t id failures).ordered := (State.Formed.refl s).imageBad.ordered hs
  unfold State.imageBad at ordered ⊢
  dsimp only at ordered ⊢
  generalize hu : (((s.onTitle t fun r => { r with bad := true, failures := failures }).removeImage t).spaceFreed).removeFetch id = u
    at ordered ⊢
  have image : u.image t = none := by
    rw [← hu]
    have rising : (s.onTitle t fun r => { r with bad := true, failures := failures }).store.images.rising = true := by
      simpa using hs.2.2.2.2
    exact Table.look_del _ t rising
  have title : u.title t = some { r with bad := true, failures := failures } := by
    have now : (s.onTitle t fun r => { r with bad := true, failures := failures }).title t =
        some { r with bad := true, failures := failures } := by
      rw [State.title_onTitle, if_pos rfl, hr]
      rfl
    rw [← hu]
    exact now
  have fetches : ∀ h ∈ u.store.fetches, h.id ≠ id := fun h hh => State.fetches_removeFetch (by rw [← hu] at hh; exact hh)
  have plans : u.planner.plans = s.planner.plans := by rw [← hu]; simp
  have ended : ∀ l : List Nat, (l.foldl State.endPlan u).image t = none ∧
      (l.foldl State.endPlan u).title t = u.title t ∧ (l.foldl State.endPlan u).store.fetches = u.store.fetches := by
    intro l
    refine ⟨?_, ?_, State.foldl_store_fetches _ _ _ fun _ _ => by simp⟩
    · clear title fetches plans hu ordered
      induction l generalizing u with
      | nil => exact image
      | cons n l ih => exact ih _ ((State.image_endPlan u n t).2 image)
    · rw [State.title, State.title, State.foldl_records_titles _ _ _ fun _ _ => by simp]
  unfold State.failPlans at ordered ⊢
  split
  · next hempty =>
    refine ⟨image, title, fetches, fun x hx q hq ht => ?_, fun hne => absurd (List.isEmpty_iff.1 hempty) hne⟩
    rw [if_pos hempty] at ordered
    have look := Table.look_of_mem ordered.2.2.2.1 hx
    rw [plans] at look
    have := State.mem_plansPlacing (s := s) look hq ht
    rw [List.isEmpty_iff.1 hempty] at this
    exact nomatch this
  · next hempty =>
    rw [if_neg hempty] at ordered
    obtain ⟨image', title', fetches'⟩ := ended (s.plansPlacing t)
    have risingu : u.planner.plans.rising = true := by rw [plans]; exact hs.2.2.2.1
    have planned := State.plan_endPlans risingu (s.plansPlacing t)
    have matched := (((s.plansPlacing t).foldl State.endPlan u).raise .planFailed).matched_matchIdled u
    generalize hw : ((s.plansPlacing t).foldl State.endPlan u).raise .planFailed = w at matched ordered ⊢
    have toldplan (m : Nat) : w.plan m = ((s.plansPlacing t).foldl State.endPlan u).plan m := by rw [← hw]; rfl
    have store : (w.matchIdled u).store = ((s.plansPlacing t).foldl State.endPlan u).store := by
      rw [(by simp : (w.matchIdled u).store = w.store), ← hw]
      simp
    have records : (w.matchIdled u).records = ((s.plansPlacing t).foldl State.endPlan u).records := by
      rw [(by simp : (w.matchIdled u).records = w.records), ← hw]
      simp
    refine ⟨?_, ?_, ?_, fun x hx q hq ht => ?_, fun _ => ?_⟩
    · rw [State.image, store]
      exact image'
    · rw [State.title, records]
      exact title'.trans title
    · rw [store, fetches']
      exact fetches
    · have look : (w.matchIdled u).plan x.1 = some x.2 := Table.look_of_mem ordered.2.2.2.1 hx
      have gone {p : Plan} (hp : w.plan x.1 = some p) (hpl : p.placements = x.2.placements) : False := by
        rw [toldplan, planned] at hp
        split at hp
        · cases hp
        · next hno =>
          rw [State.plan, plans] at hp
          exact hno (State.mem_plansPlacing (s := s) hp (hpl ▸ hq) ht)
      rcases matched.plan x.1 with ⟨he, -⟩ | ⟨p, j, hp, -, -, he, -⟩
      · exact gone (he ▸ look) rfl
      · rw [he] at look
        exact gone hp (by rw [← Option.some.inj look])
    · rw [(by simp : (w.matchIdled u).link = w.link), ← hw]
      exact Events.raise_holds _ _

theorem State.answered_replied_of {t : State} {i : Nat} (hi : i < t.link.queue.length) (fields : List Byte) :
    ((t.replied i fields).takeTrigger).answered i fields := by
  have stage := setStage_getElem? t.link.queue i (.formed (u8 0 ++ fields))
  simp only [State.answered, State.takeTrigger_frame, State.replied, State.formReply]
  change ((setStage t.link.queue i (.formed (u8 0 ++ fields)))[i]?).map (·.stage) = _
  rw [stage, List.getElem?_eq_getElem hi]
  rfl

/-- The reply of a frame that its bank still holds back is all that a fetch given up leaves on the link. -/
theorem State.abandonReply_link (s : State) (id : Nat) :
    ∃ l : Link, (if s.fillWaiting id then s.formWriting id { status := .noRecord, fields := [] } else s) = s.setLink l ∧
      l.queue.length = s.link.queue.length := by
  unfold State.formWriting
  split
  · split
    · exact ⟨_, rfl, by simp⟩
    · exact ⟨s.link, rfl, rfl⟩
  · exact ⟨s.link, rfl, rfl⟩

end Sys2Proof.Machine

namespace Sys2Proof.Proofs

open Sys2Proof Sys2Proof.Machine

/-- Settles O45: the read by its fate, and the slot by its marks. -/
theorem frameReadCompletes : Obligations.FrameReadCompletes := by
  intro s b r hr hq ⟨hs, _⟩ hb h1 h8 hc sl frame
  have read := exec_frameReadDone hr hb hc
  refine ⟨fun p hf he hp hlt hl => ?_, fun hf hfin hh => ?_, fun hf hfin => ?_, fun hf => ?_⟩
  · rw [read, State.readComplete, hf]
    dsimp only
    rw [State.deliver_eq hs h1 h8 he hp hlt hl]
    rfl
  · rw [read, State.readComplete, hf]
    dsimp only
    unfold State.discardRead
    dsimp only
    rw [State.slot_setSlot s _ hs h1 h8, if_neg (by rw [hfin]; exact nofun), if_pos hh, State.setSlot_setSlot]
    rfl
  · rw [read, State.readComplete, hf]
    dsimp only
    unfold State.discardRead
    dsimp only
    rw [State.slot_setSlot s _ hs h1 h8, if_pos hfin, State.finished_setSlot hs h1 h8]
    rfl
  · rw [read, State.readComplete, hf]

/-- Settles O46: the three requests by what they find of the image. -/
theorem imagesPreloadedDroppedAbandoned : Obligations.ImagesPreloadedDroppedAbandoned := by
  refine ⟨fun s i tag n k r h hq hn hk hr hform hbad hw himg => ?preload,
    fun s i tag n k r h hq hn hk hr => ⟨fun himg => ?_, fun e himg => ⟨fun hp => ?_, fun hp hres => ?_, fun hp hres => ?_⟩⟩,
    ?abandon⟩
  case preload =>
    intro blocks
    have size : blockSize r.pages = blocks := blockSize_eq r.pages
    have frames : framesOf r.pages = (r.pages + 7) / 8 := framesOf_eq r.pages
    refine ⟨fun hno => exec_refused h rfl hq ?_, fun hyes => ?_⟩
    · simp [answerOf, answerPreload, State.findTitle_of_named hn hk hr, hform, hbad, hw, himg, size, hno]
    · intro v u
      refine exec_accepted h rfl ?_
      have used : u.useTitle n = _ := State.useTitle_after hk (by simp [u, v])
      rw [← used, ← frames]
      simp only [answerOf, answerPreload, State.findTitle_of_named hn hk hr, hform, hbad, hw, himg, size, hyes,
        Option.isSome_none, Bool.false_eq_true, if_false, Bool.not_true, State.admitTitle, State.createImage]
      rfl
  case abandon =>
    intro s i tag id f r h hq hs hf hr hroll
    generalize hv : (if s.fillWaiting id then s.formWriting id { status := .noRecord, fields := [] } else s) = v
    obtain ⟨l, hl, hlen⟩ : ∃ l, v = s.setLink l ∧ l.queue.length = s.link.queue.length := by
      rw [← hv]
      exact State.abandonReply_link s id
    have answer : answerOf (.fetchAbandon tag id) s = accept ((v.loseFill id).imageBad f.title id r.failures)
        (u16 f.title ++ u8 (s.plansPlacing f.title).length) := by
      simp only [answerOf, answerFetchAbandon, hf, hroll, hr, Bool.false_eq_true, if_false, hv]
    have ordered : (v.loseFill id).ordered := by rw [hl]; exact hs
    have title : (v.loseFill id).title f.title = some r := by rw [hl]; exact hr
    have placing : (v.loseFill id).plansPlacing f.title = s.plansPlacing f.title := by rw [hl]; rfl
    have kept := State.imageBad_leaves ordered (t := f.title) (id := id) (failures := r.failures) title
    rw [placing] at kept
    obtain ⟨image, bad, fetches, plans, failed⟩ := kept
    have waiting : i < ((v.loseFill id).imageBad f.title id r.failures).link.queue.length := by
      obtain ⟨-, -, -, code, tag', body, -, at_i⟩ := (h : s.serves i _)
      rw [(by simp : ((v.loseFill id).imageBad f.title id r.failures).link.queue = v.link.queue), hl]
      exact hlen ▸ (List.getElem?_eq_some_iff.1 at_i).1
    refine ⟨_, exec_accepted h rfl answer, State.answered_replied_of waiting _, ?_⟩
    generalize hw : (v.loseFill id).imageBad f.title id r.failures = w at *
    simp only [State.image, State.title, State.takeTrigger_frame]
    refine ⟨image, bad, fetches, plans, failed, ?_⟩
    change w.store.flash = _ ∧ w.records.loans = _ ∧ w.calendar = _
    rw [← hw, hl]
    simp [State.loseFill]
  · refine exec_refused h rfl hq ?_
    simp [answerOf, answerImageDrop, State.findTitle_of_named hn hk hr, himg]
  · refine exec_refused h rfl hq ?_
    simp [answerOf, answerImageDrop, State.findTitle_of_named hn hk hr, himg, hp]
  · refine exec_refused h rfl hq ?_
    simp [answerOf, answerImageDrop, State.findTitle_of_named hn hk hr, himg, hp, hres]
  · intro v
    have used : v.useTitle n = v.setLink { v.link with titleCtx := some k } := State.useTitle_after hk (by simp [v])
    have answer : answerOf (.imageDrop tag n) s =
        accept (v.setLink { v.link with titleCtx := some k }) (u16 e.blocks.length) := by
      rw [← used]
      simp [answerOf, answerImageDrop, State.findTitle_of_named hn hk hr, himg, hp, hres, v, State.removeImage]
    exact exec_accepted h rfl answer

end Sys2Proof.Proofs

end

section
/-!
PROOF. Fill writes completed (R71 to R79): what refutes O44.
-/

namespace Sys2Proof.Machine

/-- A rack whose slot 1 has read the image of title 1, in the course of its last fill write, while the bank's queue
holds a read for socket 0, which the rack takes for its first. `Bank.right`, the premise of O7, shuts this state out. -/
def strayReadState : State :=
  { State.reset with
    records :=
      { Records.empty with
        titles := [(1,
          { catalogue := 1, format := .ebraille, withdrawn := false, pages := 8, check := 1#32, bad := false
            failures := 0, volumes := 0, copies := [], holds := [] })] }
    planner :=
      { Planner.empty with
        plans := [(1,
          { patron := 1, cls := .c2, rush := false, placements := [{ title := 1, start := 1, blocks := 1, pages := 8 }]
            used := 1, fill := 0, faults := 0, state := .inSlot 1 })] }
    store :=
      { Store.empty with
        images := [(1, { resident := false, blocks := [0], filled := 0, sum := 0#32, pins := 1 })]
        fetches := [{ id := 1, title := 1, state := .streaming true, expected := 1, next := 0, retries := 0 }]
        banks :=
          { current := some (.fill { fetch := 1, title := 1, frame := 0, block := 0, place := 0, data := [], live := true })
            fills := [], reads := [{ slot := 0, block := 0, place := 0, fate := .deliver }], lastServed := 8 } ::
            List.replicate 3 Bank.idle }
    rack := { Slot.bare with state := .programming, job := some 1, readMark := true } :: List.replicate 7 Slot.bare }

/-- What the fill write's completion makes of it: slot 1 loses its job, and then takes socket 0's mark. -/
def strayReadAfter : State :=
  (strayReadState.fillComplete 0
    { fetch := 1, title := 1, frame := 0, block := 0, place := 0, data := [], live := true }).takeTrigger

theorem strayReadAfter_eq : exec (.fillWriteComplete 0) strayReadState = .next strayReadAfter := rfl

theorem strayReadAfter_marked : (strayReadAfter.slot 1).readMark = true := by
  rw [strayReadAfter, State.slot, (State.takeTrigger_frame _).2.2.2.2.2.2.2.2.2.1]
  rfl

end Sys2Proof.Machine

namespace Sys2Proof.Proofs

open Sys2Proof Sys2Proof.Machine

/-- Refutes O44: a granted read of socket 0, which no premise shuts out, marks the first slot again that the mismatch has
just aborted. -/
theorem not_fillWriteCompletes : ¬ Obligations.FillWriteCompletes := by
  intro h
  obtain ⟨-, live⟩ := h strayReadState 0
    { fetch := 1, title := 1, frame := 0, block := 0, place := 0, data := [], live := true } rfl rfl (by decide) rfl
  obtain ⟨-, -, mismatch, -⟩ := live _ _ _ rfl rfl rfl rfl
  obtain ⟨t, blocks, ht, -, -, -, -, -, -, slots, -⟩ := mismatch rfl (by decide) (by decide)
  have shaped : strayReadState.shaped := ⟨rfl, rfl, rfl, rfl, by decide⟩
  have unmarked : (t.slot 1).readMark = false := ((slots shaped 1 (by decide)).1 rfl).1
  have same : strayReadAfter = t := by
    have := strayReadAfter_eq.symm.trans ht
    injection this
  rw [← same, strayReadAfter_marked] at unmarked
  exact nomatch unmarked

end Sys2Proof.Proofs

end

section
/-!
PROOF. A step of the running pass (R44, R47, R48, R50); obligation O39.
-/

namespace Sys2Proof.Machine

theorem exec_passPatronStep (s : State) :
    exec .passPatronStep s = if s.run = .running then .next s.passStep else .next s := rfl

/-- The step takes the next patron, and ends the pass behind the last one. -/
def State.afterPatron (s : State) (rest : List Nat) : State := if rest = [] then s.endPass else s

theorem State.passStep_stop {s : State} {k : Nat} {rest : List Nat} (hp : s.planner.pass = some (k :: rest))
    (h : 64 ≤ s.planner.plans.length ∨ 16 ≤ s.planner.queue.length) : s.passStep = s.endPass := by
  have stop : s.stopTest = true := decide_eq_true h
  simp only [State.passStep, hp, stop, if_true]

section
variable {s : State} {k : Nat} {rest : List Nat} (hp : s.planner.pass = some (k :: rest))
  (h64 : s.planner.plans.length < 64) (h16 : s.planner.queue.length < 16)
include hp h64 h16

theorem State.passStep_eq : s.passStep =
    (match s.patron k with
      | some p => if p.passable then (s.setPlanner { s.planner with pass := some rest }).planFor k p
        else s.setPlanner { s.planner with pass := some rest }
      | none => s.setPlanner { s.planner with pass := some rest }).takeTrigger.afterPatron rest := by
  have go : s.stopTest = false :=
    decide_eq_false (not_or.2 ⟨Nat.not_le.2 h64, Nat.not_le.2 h16⟩)
  simp only [State.passStep, hp, go, State.afterPatron, List.isEmpty_iff, Bool.false_eq_true, if_false]
  rfl

theorem State.passStep_over (hq : s.quiet) (h : ∀ p, s.patron k = some p → p.passable = false) :
    s.passStep = (s.setPlanner { s.planner with pass := some rest }).afterPatron rest := by
  have quiet : (s.setPlanner { s.planner with pass := some rest }).takeTrigger =
      s.setPlanner { s.planner with pass := some rest } := State.takeTrigger_of_quiet hq
  rw [State.passStep_eq hp h64 h16]
  split
  · next p hpat => rw [h p hpat, if_neg Bool.false_ne_true, quiet]
  · rw [quiet]

theorem State.passStep_plan {p : Patron} (hpat : s.patron k = some p) (h : p.passable = true) :
    s.passStep = ((s.setPlanner { s.planner with pass := some rest }).planFor k p).takeTrigger.afterPatron rest := by
  rw [State.passStep_eq hp h64 h16, hpat]
  simp only [h, if_true]

end

theorem State.defer_setPatron (s : State) (k : Nat) (p : Patron) (d : Deferral) :
    (s.setPatron k p).defer k d = s.setPatron k { p with deferral := d } := by
  have now : (s.setPatron k p).patron k = some p := Table.look_put _ _ _
  rw [State.defer, State.onPatron, now]
  simp only [State.setPatron, State.setRecords, Table.put_put]

/-- The packing does not look at the Planner. -/
theorem State.pack_setPlanner (s : State) (x : Planner) (p : Patron) : (s.setPlanner x).pack p = s.pack p := by
  rw [State.pack, State.pack, State.greedy_eq_foldl, State.greedy_eq_foldl]
  rfl

section
variable {s : State} {k : Nat} {p : Patron}

theorem State.planFor_empty (h : (s.pack p).taken = []) :
    s.planFor k p = s.setPatron k { p with orders := markOversize (s.pack p).oversize p.orders } := by
  simp only [State.planFor, h, List.isEmpty_nil, if_true]

variable (h : (s.pack p).taken ≠ [])
include h

theorem State.planFor_low (hc : p.cartCount ≠ 0) (hf : (planOf k (s.pack p).taken).fill < s.link.settings.floor) :
    s.planFor k p = s.setPatron k
      { p with orders := markOversize (s.pack p).oversize p.orders, deferral := .fillLow } := by
  have low : floorPassed p.cartCount (planOf k (s.pack p).taken).fill s.link.settings.floor = false :=
    decide_eq_false (not_or.2 ⟨hc, Nat.not_le.2 hf⟩)
  have there : (s.pack p).taken.isEmpty = false := by simpa using h
  simp only [State.planFor, there, Bool.false_eq_true, if_false]
  rw [if_pos (by simpa using low), State.defer_setPatron]

theorem State.planFor_passed
    (hf : p.cartCount = 0 ∨ s.link.settings.floor ≤ (planOf k (s.pack p).taken).fill) :
    s.planFor k p =
      if (s.setPatron k { p with orders := markOversize (s.pack p).oversize p.orders }).admissible
        (planOf k (s.pack p).taken).titles
      then (s.setPatron k { p with orders := markOversize (s.pack p).oversize p.orders }).commit
        (planOf k (s.pack p).taken)
      else s.setPatron k
        { p with orders := markOversize (s.pack p).oversize p.orders, deferral := .storeSpace } := by
  have passed : floorPassed p.cartCount (planOf k (s.pack p).taken).fill s.link.settings.floor = true :=
    decide_eq_true hf
  have there : (s.pack p).taken.isEmpty = false := by simpa using h
  simp only [State.planFor, there, Bool.false_eq_true, if_false]
  rw [if_neg (by simpa using passed), State.defer_setPatron]

end

end Sys2Proof.Machine

namespace Sys2Proof.Proofs

open Sys2Proof Sys2Proof.Machine

/-- Settles O39: the stop test, then the patron at the head of the pass, by what its plan finds. -/
theorem passTakesNextPatron : Obligations.PassTakesNextPatron := by
  intro s hq
  refine ⟨fun h => ?_, fun k rest hr hp => ?_⟩
  · rw [exec_passPatronStep]
    split
    · next hr => rw [State.passStep, h.resolve_left (not_not.2 hr)]
    · rfl
  intro ended last u
  have step : exec .passPatronStep s = .next s.passStep := by rw [exec_passPatronStep, if_pos hr]
  have afterOf (v : State) : v.afterPatron rest = last v := rfl
  have lastOf (v : State) (hv : v.quiet) : v.takeTrigger.afterPatron rest = last v := by
    rw [State.takeTrigger_of_quiet hv]
    exact afterOf v
  rw [step]
  refine ⟨fun h => by rw [State.passStep_stop hp h]; rfl, fun h64 h16 => ⟨fun hno => ?_, fun p hpat => ⟨fun h => ?_, ?_⟩⟩⟩
  · rw [State.passStep_over hp h64 h16 hq fun p h => nomatch hno.symm.trans h]
    rfl
  · rw [State.passStep_over hp h64 h16 hq fun r hr => ?_]
    · rfl
    · obtain rfl := Option.some.inj (hpat.symm.trans hr)
      refine decide_eq_false fun ⟨ha, hc, hd⟩ => ?_
      rcases h with h | h | h
      · exact h ha
      · omega
      · exact h hd
  · intro ha hc hd w marked m plan
    have packed : u.pack p = w := s.pack_setPlanner _ p
    have empty := State.planFor_empty (s := u) (k := k) (p := p)
    have low := State.planFor_low (s := u) (k := k) (p := p)
    have passed := State.planFor_passed (s := u) (k := k) (p := p)
    rw [packed] at empty low passed
    rw [State.passStep_plan hp h64 h16 hpat (decide_eq_true ⟨ha, hc, hd⟩)]
    refine ⟨fun h => ?_, fun h hcart hf => ?_, fun h hf hadm => ?_, fun h hf hadm => ?_⟩
    · rw [empty h]
      exact congrArg Host.Outcome.next (lastOf _ (by exact hq))
    · rw [low h hcart hf]
      exact congrArg Host.Outcome.next (lastOf _ (by exact hq))
    · rw [passed h hf, if_neg (by exact fun ht => nomatch hadm.symm.trans ht)]
      exact congrArg Host.Outcome.next (lastOf _ (by exact hq))
    · rw [passed h hf, if_pos (by exact hadm)]
      change Host.Outcome.next ((m.commit plan).takeTrigger.afterPatron rest) = _
      generalize (m.commit plan).takeTrigger = v
      exact congrArg Host.Outcome.next (afterOf v)

end Sys2Proof.Proofs

end

section
/-!
PROOF. The returns reader and its bins (R133 to R145), and the work that follows a roll (R154, R172); obligations O55 and
O60.
-/

namespace Sys2Proof.Machine

/-! ## A cartridge goes to its bin -/

/-- A bin that takes its fortieth entry tells of it. -/
def State.fills (u : State) (depth : Nat) : State := if depth = 39 then u.raise .binFull else u

theorem State.push_eq (u : State) (x : Returns) (b : BinName) (serial : Option Nat) (reason : BinReason) :
    (u.setReturns x).push b serial reason = (u.fills (x.bin b).length).setReturns
      (x.setBin b ({ serial := serial, reason := reason, date := u.today } :: x.bin b)) := by
  unfold State.push State.fills
  dsimp only
  have full : ({ serial := serial, reason := reason, date := u.today } :: x.bin b : List BinEntry).length =
      Config.binMax ↔ (x.bin b).length = 39 := by simp [Config.binMax]
  by_cases h : (x.bin b).length = 39
  · rw [if_pos h, if_pos (by exact full.2 h)]
    rfl
  · rw [if_neg h, if_neg (by exact fun hl => h (full.1 hl))]
    rfl

section
variable {u : State} {x : Returns} {c : Classification} {r : Result} {d : Nat} (hd : u.today = d)
include hd

theorem State.binCartridge_some {b : BinName} {reason : BinReason} {spill : Bool}
    (h : chooseBin c x.reuse.length x.inspect.length = (some (b, reason), spill)) :
    (u.setReturns x).binCartridge c r = ((u.fills (x.bin b).length).setReturns
      { x.setBin b ({ serial := r.serial, reason := reason, date := d } :: x.bin b) with
        result := some
          { r with
            outcome := c.outcome, classification := some c, bin := some b, depth := some ((x.bin b).length + 1)
            spill := spill } }).raise .returnRead := by
  subst hd
  have found : chooseBin c (u.setReturns x).returns.reuse.length (u.setReturns x).returns.inspect.length =
      (some (b, reason), spill) := h
  rw [State.binCartridge, found]
  dsimp only
  rw [State.push_eq]
  cases b <;> rfl

omit hd in
theorem State.binCartridge_none {spill : Bool} (h : chooseBin c x.reuse.length x.inspect.length = (none, spill)) :
    (u.setReturns x).binCartridge c r = (u.setReturns
      { x with
        result := some { r with outcome := .noBin, classification := some c, spill := spill } }).raise .returnRead := by
  have found : chooseBin c (u.setReturns x).returns.reuse.length (u.setReturns x).returns.inspect.length =
      (none, spill) := h
  rw [State.binCartridge, found]
  rfl

end

/-! ## Where a classification goes -/

section
variable {c : Classification} {reuse inspect : Nat}

theorem Classification.reusable_iff : c.reusable = true ↔ c = .checkedIn ∨ c = .late := by
  cases c <;> simp [Classification.reusable]

theorem chooseBin_reuse (hc : c = .checkedIn ∨ c = .late) (h : reuse < 40) :
    chooseBin c reuse inspect = (some (.reuse, c.reason), false) := by
  rw [chooseBin, if_pos (Classification.reusable_iff.2 hc), if_pos (by exact h)]

theorem chooseBin_spill (hc : c = .checkedIn ∨ c = .late) (h : 40 ≤ reuse) (hi : inspect < 40) :
    chooseBin c reuse inspect = (some (.inspect, .spill), true) := by
  rw [chooseBin, if_pos (Classification.reusable_iff.2 hc), if_neg (by exact Nat.not_lt.2 h), if_pos (by exact hi)]

theorem chooseBin_full (hc : c = .checkedIn ∨ c = .late) (h : 40 ≤ reuse) (hi : 40 ≤ inspect) :
    chooseBin c reuse inspect = (none, true) := by
  rw [chooseBin, if_pos (Classification.reusable_iff.2 hc), if_neg (by exact Nat.not_lt.2 h), if_neg (by exact Nat.not_lt.2 hi)]

theorem chooseBin_inspect (hc : c ≠ .checkedIn) (hl : c ≠ .late) (hi : inspect < 40) :
    chooseBin c reuse inspect = (some (.inspect, c.reason), false) := by
  rw [chooseBin, if_neg (fun h => (Classification.reusable_iff.1 h).elim hc hl), if_pos (by exact hi)]

theorem chooseBin_nowhere (hc : c ≠ .checkedIn) (hl : c ≠ .late) (hi : 40 ≤ inspect) :
    chooseBin c reuse inspect = (none, false) := by
  rw [chooseBin, if_neg (fun h => (Classification.reusable_iff.1 h).elim hc hl), if_neg (by exact Nat.not_lt.2 hi)]

end

/-! ## What the serial is related to (R135, R136) -/

theorem State.onPatron_setReturns (s : State) (x : Returns) (k : Nat) (f : Patron → Patron) :
    (s.setReturns x).onPatron k f = (s.onPatron k f).setReturns x := by
  unfold State.onPatron
  change (match s.patron k with | some p => _ | none => _) = _
  cases s.patron k <;> rfl

theorem State.clearFillLow_setReturns (s : State) (x : Returns) (k : Nat) :
    (s.setReturns x).clearFillLow k = (s.clearFillLow k).setReturns x := by
  unfold State.clearFillLow
  change (match s.patron k with | some p => _ | none => _) = _
  cases s.patron k with
  | none => rfl
  | some p =>
    by_cases h : p.deferral = .fillLow
    · simp only [h, if_true]
      rfl
    · simp only [h, if_false]

theorem State.dropCarts_setReturns (s : State) (x : Returns) (k : Nat) :
    (s.setReturns x).dropCarts k = (s.dropCarts k).setReturns x := by
  rw [State.dropCarts, State.onPatron_setReturns, State.clearFillLow_setReturns]
  rfl

section
variable {s : State} {serial : Nat} (x : Returns)

theorem State.relate_loan {id : Nat} {l : Loan} (h : s.serialLoan serial = some (id, l)) :
    (s.setReturns x).relate serial = ({ kind := .checkedIn, loan := some id, patron := some l.patron },
      (((s.freeLoan id).dropCarts l.patron).noteTrigger).setReturns x) := by
  have found : (s.setReturns x).serialLoan serial = some (id, l) := h
  have freed : ((s.setReturns x).freeLoan id).dropCarts l.patron = ((s.freeLoan id).dropCarts l.patron).setReturns x :=
    State.dropCarts_setReturns (s.freeLoan id) x l.patron
  rw [State.relate, found]
  simp only [freed]
  rfl

theorem State.relate_lost {l : Lost} (h : s.serialLoan serial = none) (hl : s.lostSerial serial = some l) :
    (s.setReturns x).relate serial = ({ kind := .late, loan := none, patron := some l.patron },
      (s.setLost (s.records.lost.filter (fun e => !e.isSerial serial))).setReturns x) := by
  have unloaned : (s.setReturns x).serialLoan serial = none := h
  have found : (s.setReturns x).lostSerial serial = some l := hl
  rw [State.relate, unloaned, found]
  rfl

theorem State.relate_none (h : s.serialLoan serial = none) (hl : s.lostSerial serial = none) :
    (s.setReturns x).relate serial = ({ kind := .unknown, loan := none, patron := none }, s.setReturns x) := by
  have unloaned : (s.setReturns x).serialLoan serial = none := h
  have found : (s.setReturns x).lostSerial serial = none := hl
  rw [State.relate, unloaned, found]

end

theorem State.related_eq_false {s : State} {serial : Nat} :
    s.related serial = false ↔ s.serialLoan serial = none ∧ s.lostSerial serial = none := by
  simp [State.related]

/-! ## The commands of the reader -/

section
variable {s : State} (hr : s.run = .running)
include hr

theorem exec_readerIdentityDone (ok : Bool) (area : List Byte) :
    exec (.readerIdentityDone ok area) s = .next (s.readerRead (identityOf ok area)).takeTrigger := by
  have unfolded : exec (.readerIdentityDone ok area) s = execReaderIdentityDone ok area s := rfl
  rw [unfolded, execReaderIdentityDone, if_pos hr]

theorem exec_readerReadTimeout_due {ran : Nat} (h : 2000 ≤ ran) :
    exec (.readerReadTimeout ran) s = .next (s.readerRead none).takeTrigger := by
  have unfolded : exec (.readerReadTimeout ran) s = execReaderReadTimeout ran s := rfl
  rw [unfolded, execReaderReadTimeout, if_pos ⟨hr, h⟩]

end

theorem exec_readerReadTimeout_early {s : State} {ran : Nat} (h : ran < 2000) :
    exec (.readerReadTimeout ran) s = .next s := by
  have unfolded : exec (.readerReadTimeout ran) s = execReaderReadTimeout ran s := rfl
  rw [unfolded, execReaderReadTimeout, if_neg (fun hx => Nat.not_le.2 h hx.2)]

section
variable {s : State}

theorem State.readerRead_idle (h : s.returns.identifying = false) (i : Option Identity) : s.readerRead i = s := by
  simp [State.readerRead, h]

theorem State.readerRead_reading (h : s.returns.reader = .reading) (hi : s.returns.identifying = true)
    (i : Option Identity) : s.readerRead i = (s.keepRead i).readEnds i := by
  simp [State.readerRead, h, hi]

theorem State.readerRead_pending (h : s.returns.reader = .pendingRoll) (hi : s.returns.identifying = true)
    (i : Option Identity) : s.readerRead i = (s.keepRead i).comparePending i := by
  simp [State.readerRead, h, hi]

theorem State.readEnds_none : (s.keepRead none).readEnds none = (s.setReturns
    { s.returns with reader := .result, identifying := false, kept := none }).binCartridge .unreadable
      (s.blankResult none) := rfl

variable {x : Identity}

theorem State.readEnds_binned (h : s.binned x.serial = true) : (s.keepRead (some x)).readEnds (some x) =
    ((s.setReturns { s.returns with reader := .result, identifying := false, kept := some x }).setResult
      { s.blankResult (some (x.serial, x.cls, x.cycles)) with outcome := .alreadyBinned }) := by
  have binned : (s.keepRead (some x)).binned x.serial = true := h
  simp only [State.readEnds, binned, if_true]
  rfl

theorem State.readEnds_conflict (h : s.binned x.serial = false)
    (hk : ((s.serialItem x.serial).isSome || (s.serialSlot x.serial (fun _ => true)).isSome) = true) :
    (s.keepRead (some x)).readEnds (some x) =
      ((s.setReturns { s.returns with reader := .result, identifying := false, kept := some x }).setResult
        { s.blankResult (some (x.serial, x.cls, x.cycles)) with outcome := .conflict }) := by
  have binned : (s.keepRead (some x)).binned x.serial = false := h
  have known : (((s.keepRead (some x)).serialItem x.serial).isSome ||
    ((s.keepRead (some x)).serialSlot x.serial (fun _ => true)).isSome) = true := hk
  simp only [State.readEnds, binned, known, Bool.false_eq_true, if_false, if_true]
  rfl

theorem State.readEnds_known (h : s.binned x.serial = false)
    (hk : ((s.serialItem x.serial).isSome || (s.serialSlot x.serial (fun _ => true)).isSome) = false) :
    (s.keepRead (some x)).readEnds (some x) =
      if s.rolling && s.related x.serial then (s.keepRead (some x)).storePending x
      else (s.setReturns { s.returns with reader := .result, identifying := false, kept := some x }).classify
        x.serial x.cls x.cycles := by
  have binned : (s.keepRead (some x)).binned x.serial = false := h
  have unknown : (((s.keepRead (some x)).serialItem x.serial).isSome ||
    ((s.keepRead (some x)).serialSlot x.serial (fun _ => true)).isSome) = false := hk
  simp only [State.readEnds, binned, unknown, Bool.false_eq_true, if_false]
  rfl

end

theorem State.binCartridge_told (s : State) (c : Classification) (r : Result) :
    ((s.binCartridge c r).link.events.main ||| (s.binCartridge c r).link.events.pending).getLsbD
      Flag.returnRead.bit = true := by
  unfold State.binCartridge
  split
  · exact Events.raise_holds _ _
  · exact Events.raise_holds _ _

/-- A cartridge checked in frees its loan and lowers its patron's count, and changes no more of the records. -/
theorem State.checkedIn_records {s : State} (hs : s.ordered) {id k : Nat} {p : Patron} (hp : s.patron k = some p) :
    ((s.freeLoan id).dropCarts k).loan id = none ∧
      (∃ d, ((s.freeLoan id).dropCarts k).patron k = some { p with cartCount := p.cartCount - 1, deferral := d }) ∧
      ((s.freeLoan id).dropCarts k).records.titles = s.records.titles ∧
      ((s.freeLoan id).dropCarts k).records.lost = s.records.lost := by
  have there : (s.freeLoan id).patron k = some p := hp
  refine ⟨?_, (State.cleared_clearFillLow _ k).patron (State.patron_onPatron there _), ?_, ?_⟩
  · have loans : ((s.freeLoan id).dropCarts k).records.loans = s.records.loans.del id := by simp [State.freeLoan]
    rw [State.loan, loans]
    exact Table.look_del _ id hs.2.2.1
  · simp [State.freeLoan]
  · simp [State.freeLoan]

end Sys2Proof.Machine

namespace Sys2Proof.Proofs

open Sys2Proof Sys2Proof.Machine

/-- Settles O55: the reader's commands by what the reader stands at, and a read of a fresh cartridge by its serial. -/
theorem readerReadsReturns : Obligations.ReaderReadsReturns := by
  intro s hq hr r
  refine ⟨fun h => ?_, fun h => ?_, fun h => ?_, fun h => ?_, fun ran h => exec_readerReadTimeout_early h,
    fun ran h => ?_, fun ok area h => ?_, fun p hp hi hpend => ?_, fun hread hi => ?_⟩
  · rw [exec_readerInsert, execReaderInsert, if_pos hr, State.readerInsert, h]
    rfl
  · rw [exec_readerInsert, execReaderInsert, if_pos hr, State.readerInsert]
    split
    · next he => exact absurd he h
    · rfl
  · rw [exec_readerRemove, execReaderRemove, if_pos hr, State.readerRemove]
    split
    · next he => exact absurd he h
    · rfl
  · rw [exec_readerRemove, execReaderRemove, if_pos hr, State.readerRemove]
    split
    · rfl
    · next he => exact absurd h he
  · rw [exec_readerReadTimeout_due hr h, exec_readerIdentityDone hr]
    rfl
  · rw [exec_readerIdentityDone hr, State.readerRead_idle h, State.takeTrigger_of_quiet hq]
  · have compare (i : Option Identity) : (s.readerRead i).takeTrigger = s.setReturns
        { r with identifying := false, kept := i, removed := decide (i.map (·.serial) ≠ some p.serial) } := by
      have pending : s.returns.pending = some p := hpend
      rw [State.readerRead_pending hp hi, State.takeTrigger_of_quiet (by exact hq)]
      unfold State.comparePending
      change s.setReturns { r with
        identifying := false, kept := i
        removed := decide (i.map (·.serial) ≠ s.returns.pending.map (·.serial)) } = _
      rw [pending]
      rfl
    refine ⟨fun ok area x hx => ?_, fun ok area hx => ?_, fun ran h => ?_⟩
    · rw [exec_readerIdentityDone hr, hx, compare]
      simp
    · rw [exec_readerIdentityDone hr, hx, compare]
      rfl
    · rw [exec_readerReadTimeout_due hr h, compare]
      rfl
  · intro found tells fills binned
    have bins (c : Instr) (u : State) (i : Option Identity) (k : Classification) (loan patron : Option Nat)
        (hu : u.today = s.today)
        (hx : exec c s = .next (((u.setReturns { r with reader := .result, identifying := false, kept := i }).binCartridge k
          (found i .conflict none loan patron none none false)).takeTrigger)) : binned c u i k loan patron := by
      unfold binned
      intro gives entry onInspect nowhere
      have some' := fun b reason spill => State.binCartridge_some
        (x := { r with reader := .result, identifying := false, kept := i }) (c := k)
        (r := found i .conflict none loan patron none none false) hu (b := b) (reason := reason) (spill := spill)
      have none' := fun spill => State.binCartridge_none (u := u)
        (x := { r with reader := .result, identifying := false, kept := i }) (c := k)
        (r := found i .conflict none loan patron none none false) (spill := spill)
      refine ⟨fun hk => ⟨fun h => ?_, fun h => ⟨fun hi => ?_, fun hi => ?_⟩⟩, fun hc hl => ⟨fun hi => ?_, fun hi => ?_⟩⟩
      · exact hx.trans (by rw [some' _ _ _ (chooseBin_reuse hk h)]; rfl)
      · exact hx.trans (by rw [some' _ _ _ (chooseBin_spill hk h hi)]; rfl)
      · exact hx.trans (by rw [none' _ (chooseBin_full hk h hi)])
      · exact hx.trans (by rw [some' _ _ _ (chooseBin_inspect hc hl hi)]; rfl)
      · exact hx.trans (by rw [none' _ (chooseBin_nowhere hc hl hi)])
    refine ⟨fun ok area hx => bins _ _ _ _ _ _ rfl ?_, fun ran h => bins _ _ _ _ _ _ rfl ?_, fun ok area x hx => ?_⟩
    · rw [exec_readerIdentityDone hr, hx, State.readerRead_reading hread hi]
      rfl
    · rw [exec_readerReadTimeout_due hr h, State.readerRead_reading hread hi]
      rfl
    intro read ends known
    have step : exec read s = .next ((s.keepRead (some x)).readEnds (some x)).takeTrigger := by
      rw [exec_readerIdentityDone hr, hx, State.readerRead_reading hread hi]
    refine ⟨fun hb => ?_, fun hb hk => ?_, fun hb hk => ?_⟩
    · refine step.trans ?_
      rw [State.readEnds_binned hb, State.takeTrigger_of_quiet (by exact hq)]
      rfl
    · refine step.trans ?_
      rw [State.readEnds_conflict hb hk, State.takeTrigger_of_quiet (by exact hq)]
      rfl
    rw [State.readEnds_known hb hk] at step
    have classified (h : (s.rolling && s.related x.serial) = false) : exec read s = .next
        ((s.setReturns { r with reader := .result, identifying := false, kept := some x }).classify
          x.serial x.cls x.cycles).takeTrigger := by
      rw [step, h]
      rfl
    refine ⟨fun hroll hrel => ?_, fun hrel => bins _ _ _ _ _ _ rfl ?_, fun l hroll hno hlost => bins _ _ _ _ _ _ rfl ?_,
      fun id l p hroll hserial hloan hp => ?_⟩
    · rw [step, hroll, hrel, Bool.and_self, if_pos rfl, State.takeTrigger_of_quiet (by exact hq)]
      rfl
    · obtain ⟨hno, hlost⟩ := State.related_eq_false.1 hrel
      rw [classified (by rw [hrel, Bool.and_false]), State.classify, State.relate_none _ hno hlost]
      rfl
    · rw [classified (by rw [hroll, Bool.false_and]), State.classify, State.relate_lost _ hno hlost]
      rfl
    · have checked : exec read s = .next
          (((((s.freeLoan id).dropCarts l.patron).noteTrigger).setReturns
            { r with reader := .result, identifying := false, kept := some x }).binCartridge
              (if 10000 ≤ x.cycles then .worn else .checkedIn)
              (found (some x) .conflict none (some id) (some l.patron) none none false)).takeTrigger := by
        rw [classified (by rw [hroll, Bool.false_and]), State.classify, State.relate_loan _ hserial]
        rfl
      have today : (((s.freeLoan id).dropCarts l.patron).noteTrigger).today = s.today := by
        simp [State.today, State.freeLoan, State.noteTrigger]
      refine ⟨bins _ _ _ _ _ _ today checked, fun hs => ?_⟩
      obtain ⟨freed, ⟨d, left⟩, titles, lost⟩ := State.checkedIn_records (id := id) hs hp
      refine ⟨_, { p with cartCount := p.cartCount - 1, deferral := d }, checked, ?_, ?_, rfl, rfl, rfl, ?_, ?_, ?_⟩
      · simpa [State.loan] using freed
      · simpa [State.patron] using left
      · simp
      · simp
      · simpa using State.binCartridge_told _ _ _

end Sys2Proof.Proofs

end

section
/-!
PROOF. The work that follows a roll (R123, R154, R172); obligation O60.
-/

namespace Sys2Proof.Machine

/-! ## The trigger and the held close -/

theorem exec_rollEndPlanningTrigger (s : State) : exec .rollEndPlanningTrigger s = execRollEndPlanningTrigger s := rfl
theorem exec_heldCloseRelease (s : State) : exec .heldCloseRelease s = execHeldCloseRelease s := rfl
theorem exec_pendingResultComplete (s : State) : exec .pendingResultComplete s = execPendingResultComplete s := rfl

section
variable {s : State}

theorem State.followAfter_trigger : s.followAfter false =
    if s.mail.heldClose then .heldClose else if s.returns.pending.isSome then .pendingResult else .nothing := rfl

theorem State.followAfter_close : s.followAfter true =
    if s.returns.pending.isSome then .pendingResult else .nothing := rfl

theorem State.closeCall_rolling (h : s.rolling = true) :
    s.closeCall = s.setMail { s.mail with heldClose := true } := if_pos h

theorem State.closeCall_waits (h : s.rolling = false) (hc : s.mail.close ≠ none) :
    s.closeCall = s.setMail { s.mail with waitingClose := true } := by
  have there : s.mail.close.isSome = true := Option.isSome_iff_ne_none.2 hc
  rw [State.closeCall, h, if_neg Bool.false_ne_true, if_pos there]

theorem State.closeCall_begins (h : s.rolling = false) (hc : s.mail.close = none) (hl : s.labelled ≠ []) :
    s.closeCall = s.setMail
      { s.mail with
        close := some { selection := s.labelled, date := s.today, time := s.now, anySet := false } } := by
  rw [State.closeCall, h, if_neg Bool.false_ne_true, hc, if_neg (by simp), State.closeBegin,
    if_neg (by simpa using hl)]

theorem State.closeCall_empty (h : s.rolling = false) (hc : s.mail.close = none) (hl : s.labelled = []) :
    s.closeCall = s.raise .pickupEmpty := by
  rw [State.closeCall, h, if_neg Bool.false_ne_true, hc, if_neg (by simp), State.closeBegin, if_pos (by simp [hl])]

theorem exec_heldCloseRelease_due (hr : s.run = .running) (hf : s.calendar.follow = .heldClose) (h : s.today ≠ 73048) :
    exec .heldCloseRelease s = .next
      ((s.setMail { s.mail with heldClose := false }).closeCall.setFollow (s.followAfter true)) := by
  rw [exec_heldCloseRelease, execHeldCloseRelease, if_pos ⟨hr, hf⟩, State.releaseClose]
  rw [if_neg (by exact h)]

end

/-! ## The pending result completed -/

/-- The reader once its pending result is complete. -/
def Returns.settled (y : Returns) : Returns :=
  let reader : ReaderState :=
    if y.identifying then .reading
    else if y.removed then (if y.present then .reading else .empty) else .result
  { y with
    reader := reader, identifying := y.identifying || (y.removed && y.present), removed := false
    kept := if reader = .result then y.kept else none }

theorem State.afterPending_settled (s : State) :
    s.afterPending.setReturns { s.afterPending.returns with removed := false } = s.setReturns s.returns.settled := by
  obtain ⟨pending, run, link, records, planner, store, rack, mail, returns, calendar, drawn⟩ := s
  obtain ⟨present, reader, identifying, removed, kept, held, result, reuse, inspect⟩ := returns
  cases identifying
  · cases removed
    · rfl
    · cases present
      · rfl
      · rfl
  · rfl

theorem State.completePending_eq {s : State} {p : Pending} (hp : s.returns.pending = some p) {t : State}
    (ht : (match s.serialSlot p.serial (fun _ => true) with
      | some n => (s.setReturns { s.returns with pending := none }).classifyHeld p n
      | none => (s.setReturns { s.returns with pending := none }).classify p.serial p.cls p.cycles) = t) :
    s.completePending = t.setReturns t.returns.settled := by
  rw [← State.afterPending_settled, ← ht, State.completePending, hp]
  rfl

/-- The slot that records a serial, of several the lowest-numbered. -/
theorem State.serialSlot_eq {s : State} {serial n : Nat}
    (hn : n ∈ slotNumbers ∧ (s.slot n).cart.map (·.serial) = some serial)
    (hl : ∀ m, m ∈ slotNumbers ∧ (s.slot m).cart.map (·.serial) = some serial → n ≤ m) :
    s.serialSlot serial (fun _ => true) = some n := by
  have sorted : slotNumbers.Pairwise (· < ·) := by decide
  unfold State.serialSlot
  obtain ⟨pre, post, hsplit⟩ := List.append_of_mem hn.1
  refine List.find?_eq_some_iff_append.2 ⟨by simpa using hn.2, pre, post, hsplit, fun m hm => ?_⟩
  rw [hsplit] at sorted
  have below : m < n := (List.pairwise_append.1 sorted).2.2 m hm n List.mem_cons_self
  have there : m ∈ slotNumbers := hsplit ▸ List.mem_append_left _ hm
  have apart : ¬ (s.slot m).cart.map (·.serial) = some serial := fun h => Nat.not_le.2 below (hl m ⟨there, h⟩)
  simpa using apart

theorem State.serialSlot_eq_none {s : State} {serial : Nat}
    (h : ∀ m, ¬ (m ∈ slotNumbers ∧ (s.slot m).cart.map (·.serial) = some serial)) :
    s.serialSlot serial (fun _ => true) = none :=
  List.find?_eq_none.2 fun m hm => by simpa using fun hc => h m ⟨hm, hc⟩

end Sys2Proof.Machine

namespace Sys2Proof.Proofs

open Sys2Proof Sys2Proof.Machine

/-- Settles O60: the three commands by what follows the roll, and the pending result by its serial. -/
theorem workFollowsTheRoll : Obligations.WorkFollowsTheRoll := by
  intro s hr hq follow afterClose
  refine ⟨fun h => ?_, fun h => ?_, fun h hd => ?_, fun h hd => ?_, fun h => ?_, fun h => ?_, fun h hroll hp => ?_,
    fun p h hroll hp => ?_, fun p id l r h hroll hs hp hslot hserial hloan hpat hcyc hreuse hident hrem => ?_⟩
  · rw [exec_rollEndPlanningTrigger, execRollEndPlanningTrigger, if_pos ⟨hr, h⟩, State.followAfter_trigger]
    rfl
  · rw [exec_rollEndPlanningTrigger, execRollEndPlanningTrigger, if_neg fun hx => h hx.2]
  · intro released gives
    have release := exec_heldCloseRelease_due hr h hd
    rw [State.followAfter_close] at release
    refine ⟨fun hroll => ?_, fun hroll hc => ?_, fun hroll hc => ⟨fun hl => ?_, fun hl => ?_⟩⟩
    · rw [State.closeCall_rolling (by exact hroll)] at release
      exact release
    · rw [State.closeCall_waits (by exact hroll) (by exact hc)] at release
      exact release
    · rw [State.closeCall_begins (by exact hroll) (by exact hc) (by exact hl)] at release
      exact release
    · rw [State.closeCall_empty (by exact hroll) (by exact hc) (by exact hl)] at release
      exact release
  · rw [exec_heldCloseRelease, execHeldCloseRelease, if_pos ⟨hr, h⟩, State.releaseClose, if_pos (by exact hd),
      State.followAfter_close]
    rfl
  · rw [exec_heldCloseRelease, execHeldCloseRelease, if_neg fun hx => h hx.2]
  · rw [exec_pendingResultComplete, execPendingResultComplete, if_neg]
    rintro ⟨-, hf, hroll⟩
    rcases h with h | h
    · exact h hf
    · rw [hroll] at h
      cases h
  · rw [exec_pendingResultComplete, execPendingResultComplete, if_pos ⟨hr, h, hroll⟩, State.completePending, hp,
      State.takeTrigger_of_quiet (by exact hq)]
    rfl
  · intro rets reader tells fills gives records completes worn
    have settles (u : State) (k : Classification) (loan patron : Option Nat) (hu : u.today = s.today)
        (kind : Classification) (hk : k = classOf p.cycles kind)
        (hrel : ∀ x, (s.setReturns x).relate p.serial =
          ({ kind := kind, loan := loan, patron := patron }, u.setReturns x)) : completes u k loan patron := by
      unfold completes
      intro found entry onInspect
      have step (t : State) (ht : (match s.serialSlot p.serial (fun _ => true) with
          | some n => (s.setReturns { s.returns with pending := none }).classifyHeld p n
          | none => (s.setReturns { s.returns with pending := none }).classify p.serial p.cls p.cycles) = t) :
          exec .pendingResultComplete s = .next (follow (t.setReturns t.returns.settled) .nothing).takeTrigger := by
        rw [exec_pendingResultComplete, execPendingResultComplete, if_pos ⟨hr, h, hroll⟩,
          State.completePending_eq hp ht]
        rfl
      refine ⟨fun n hn hl => ?_, fun hno => ?_⟩
      · refine step ((s.setReturns { s.returns with pending := none }).classifyHeld p n)
          (by rw [State.serialSlot_eq hn hl]) |>.trans ?_
        rw [State.classifyHeld, hrel]
        subst hk
        rfl
      · have binned : (s.setReturns { s.returns with pending := none }).classify p.serial p.cls p.cycles =
            (u.setReturns { s.returns with pending := none }).binCartridge k
              { s.blankResult (some (p.serial, p.cls, p.cycles)) with loan := loan, patron := patron } := by
          rw [State.classify, hrel, hk]
          rfl
        have classified := step ((u.setReturns { s.returns with pending := none }).binCartridge k
          { s.blankResult (some (p.serial, p.cls, p.cycles)) with loan := loan, patron := patron })
          (by rw [State.serialSlot_eq_none hno]; exact binned)
        have some' := fun b reason spill => State.binCartridge_some
          (x := { s.returns with pending := none }) (c := k)
          (r := { s.blankResult (some (p.serial, p.cls, p.cycles)) with loan := loan, patron := patron }) hu (b := b) (reason := reason) (spill := spill)
        have none' := fun spill => State.binCartridge_none (u := u)
          (x := { s.returns with pending := none }) (c := k)
          (r := { s.blankResult (some (p.serial, p.cls, p.cycles)) with loan := loan, patron := patron }) (spill := spill)
        refine ⟨fun hk => ⟨fun h => ?_, fun h => ⟨fun hi => ?_, fun hi => ?_⟩⟩,
          fun hc hl => ⟨fun hi => ?_, fun hi => ?_⟩⟩
        · exact classified.trans (by rw [some' _ _ _ (chooseBin_reuse hk h)]; rfl)
        · exact classified.trans (by rw [some' _ _ _ (chooseBin_spill hk h hi)]; rfl)
        · exact classified.trans (by rw [none' _ (chooseBin_full hk h hi)]; rfl)
        · exact classified.trans (by rw [some' _ _ _ (chooseBin_inspect hc hl hi)]; rfl)
        · exact classified.trans (by rw [none' _ (chooseBin_nowhere hc hl hi)]; rfl)
    refine ⟨fun hno hlost => settles _ _ _ _ rfl .unknown rfl fun x => State.relate_none x hno hlost,
      fun l hno hlost => settles _ _ _ _ rfl .late rfl fun x => State.relate_lost x hno hlost,
      fun id l hserial => settles _ _ _ _ ?_ .checkedIn rfl fun x => State.relate_loan x hserial⟩
    simp [State.today, State.freeLoan, State.noteTrigger]
  · have step : exec .pendingResultComplete s = .next (s.completePending.setFollow .nothing).takeTrigger := by
      rw [exec_pendingResultComplete, execPendingResultComplete, if_pos ⟨hr, h, hroll⟩]
    generalize hu : ((s.freeLoan id).dropCarts l.patron).noteTrigger = u
    have today : u.today = s.today := by
      rw [← hu]
      simp [State.today, State.freeLoan, State.noteTrigger]
    have kind : classOf p.cycles .checkedIn = .checkedIn := if_neg (Nat.not_le.2 hcyc)
    have classified := State.binCartridge_some (u := u) (x := { s.returns with pending := none }) (c := .checkedIn)
      (r := { s.blankResult (some (p.serial, p.cls, p.cycles)) with loan := some id, patron := some l.patron }) today
      (chooseBin_reuse (.inl rfl) hreuse)
    have binned : (s.setReturns { s.returns with pending := none }).classify p.serial p.cls p.cycles =
        (u.setReturns { s.returns with pending := none }).binCartridge .checkedIn
          { s.blankResult (some (p.serial, p.cls, p.cycles)) with loan := some id, patron := some l.patron } := by
      rw [State.classify, State.relate_loan _ hserial, hu, kind]
      rfl
    have completed := State.completePending_eq hp
      (t := (u.setReturns { s.returns with pending := none }).binCartridge .checkedIn
        { s.blankResult (some (p.serial, p.cls, p.cycles)) with loan := some id, patron := some l.patron })
      (by rw [hslot]; exact binned)
    rw [classified] at completed
    have filled : ∀ n, (u.fills n).records = u.records ∧ (u.fills n).calendar = u.calendar := fun n => by
      unfold State.fills
      split
      · exact ⟨rfl, rfl⟩
      · exact ⟨rfl, rfl⟩
    obtain ⟨records, calendar⟩ := filled (Returns.bin { s.returns with pending := none } .reuse).length
    rw [completed] at step
    obtain ⟨freed, ⟨d, left⟩, -, -⟩ := State.checkedIn_records (id := id) hs hpat
    refine ⟨_, { r with cartCount := r.cartCount - 1, deferral := d }, step, ?_, ?_, rfl, ?_, ?_, ?_⟩
    · simp only [State.loan, State.takeTrigger_frame]
      change (State.fills u _).records.loans.look id = none
      rw [records, ← hu]
      exact freed
    · simp only [State.patron, State.takeTrigger_frame]
      change (State.fills u _).records.patrons.look l.patron = _
      rw [records, ← hu]
      exact left
    · simp only [State.takeTrigger_frame]
      change { (State.fills u _).calendar with follow := Follow.nothing } = _
      rw [calendar, ← hu]
      simp [State.freeLoan]
    · simp only [State.takeTrigger_frame]
      change Returns.settled _ = _
      simp [Returns.settled, Returns.setBin, Returns.bin, State.blankResult, Classification.outcome, Classification.reason, hident,
        hrem]
    · simp only [State.takeTrigger_frame]
      exact Events.raise_holds _ _

end Sys2Proof.Proofs

end

section
/-!
PROOF. The tick of the clock (R122, R155, R156, R165 to R167); obligation O58.
-/

namespace Sys2Proof.Machine

/-! ## Events told -/

/-- An event stands in one of the two halves. -/
def State.told (s : State) (f : Flag) : Prop :=
  (s.link.events.main ||| s.link.events.pending).getLsbD f.bit = true

theorem State.told_raise (s : State) (f : Flag) : (s.raise f).told f := Events.raise_holds _ _

theorem State.told.raise {s : State} {f : Flag} (h : s.told f) (g : Flag) : (s.raise g).told f :=
  Events.raise_keeps _ _ _ h

theorem State.told.closeCall {s : State} {f : Flag} (h : s.told f) : s.closeCall.told f := by
  unfold State.closeCall State.closeBegin
  split
  · exact h
  · split
    · exact h
    · split
      · exact h.raise _
      · exact h

/-! ## A minute boundary -/

/-- A minute's test of the roll to come. -/
theorem State.warnRoll_does (s : State) : s.warnRoll.calendar = { s.calendar with within60 := s.rollSoon } ∧
    (s.rollSoon = true → s.warnRoll.told .rollSoon) := by
  unfold State.warnRoll
  split
  · next h => exact ⟨by rw [h]; rfl, fun _ => State.told_raise _ _⟩
  · next h => exact ⟨by rw [Bool.not_eq_true _ |>.mp h]; rfl, fun hs => absurd hs h⟩

section
variable (s : State)

theorem State.minuteTest_warnRoll : s.warnRoll.minuteTest = s.minuteTest := by
  simp [State.minuteTest, State.rolling, State.now, State.today, s.warnRoll_does.1]

theorem State.alarmFires_warnRoll : s.warnRoll.alarmFires = s.alarmFires := by
  have clock : s.warnRoll.calendar.clock = s.calendar.clock := by rw [s.warnRoll_does.1]
  have mail : s.warnRoll.mail = s.mail := by simp
  rw [State.alarmFires, State.today, State.now, clock, mail]
  rfl

variable {s}

theorem State.minuteBoundary_quiet (hd : s.minuteTest = false) (hf : s.alarmFires = false) :
    s.minuteBoundary = s.warnRoll := by
  simp [State.minuteBoundary, State.minuteTest_warnRoll, State.alarmFires_warnRoll, hd, hf]

theorem State.minuteBoundary_fires (hd : s.minuteTest = false) (hf : s.alarmFires = true) :
    s.minuteBoundary = s.warnRoll.closeCall := by
  simp [State.minuteBoundary, State.minuteTest_warnRoll, State.alarmFires_warnRoll, hd, hf]

theorem State.minuteBoundary_due (hd : s.minuteTest = true) (hf : s.alarmFires = false) :
    s.minuteBoundary = s.warnRoll.beginRoll := by
  simp [State.minuteBoundary, State.minuteTest_warnRoll, State.alarmFires_warnRoll, hd, hf]

/-- A roll due and an alarm that fires: either is first (log entry 3). -/
theorem State.minuteBoundary_both (hd : s.minuteTest = true) (hf : s.alarmFires = true) :
    s.minuteBoundary = (s.warnRoll.setDrawn (s.drawn + 1)).beginRoll.closeCall ∨
      s.minuteBoundary = (s.warnRoll.setDrawn (s.drawn + 1)).closeCall.beginRoll := by
  simp only [State.minuteBoundary, State.minuteTest_warnRoll, State.alarmFires_warnRoll, hd, hf, Bool.and_self,
    if_true]
  have drawn : s.warnRoll.drawn = s.drawn := by simp
  rw [drawn]
  split
  · exact .inl rfl
  · exact .inr rfl

end

/-- A roll begun. -/
theorem State.beginRoll_does (s : State) : ∃ p, s.beginRoll.calendar =
    { s.calendar with within60 := false, roll := some { date := s.today, place := p } } := ⟨_, rfl⟩

/-- What a minute boundary leaves of the calendar, and what else it does not touch. -/
theorem State.minuteBoundary_does (s : State) : s.minuteBoundary.calendar.clock = s.calendar.clock ∧
    s.minuteBoundary.rolling = (s.rolling || s.minuteTest) ∧
    (s.minuteTest = true → s.minuteBoundary.calendar.roll.map (·.date) = some s.today) ∧
    s.minuteBoundary.calendar.within60 = (s.rollSoon && !s.minuteTest) ∧
    (s.rollSoon = true → s.minuteBoundary.told .rollSoon) := by
  obtain ⟨calendar, told⟩ := s.warnRoll_does
  generalize hw : s.warnRoll = w at calendar told
  have begun (v : State) (hv : v.calendar = w.calendar) : v.beginRoll.calendar.clock = s.calendar.clock ∧
      v.beginRoll.rolling = true ∧ v.beginRoll.calendar.roll.map (·.date) = some s.today ∧
      v.beginRoll.calendar.within60 = false := by
    obtain ⟨p, hp⟩ := v.beginRoll_does
    rw [hv, calendar] at hp
    have today : v.today = s.today := by rw [State.today, hv, calendar]; rfl
    rw [today] at hp
    exact ⟨by rw [hp], by rw [State.rolling, hp]; rfl, by rw [hp]; rfl, by rw [hp]⟩
  have closes (v : State) : v.closeCall.calendar = v.calendar := by simp
  cases hd : s.minuteTest with
  | false =>
    have same (v : State) (hv : v.calendar = w.calendar) (ht : s.rollSoon = true → v.told .rollSoon) :
        v.calendar.clock = s.calendar.clock ∧ v.rolling = (s.rolling || false) ∧
          (false = true → v.calendar.roll.map (·.date) = some s.today) ∧
          v.calendar.within60 = (s.rollSoon && !false) ∧ (s.rollSoon = true → v.told .rollSoon) := by
      rw [State.rolling, hv, calendar]
      exact ⟨rfl, (Bool.or_false _).symm, nofun, (Bool.and_true _).symm, ht⟩
    cases hf : s.alarmFires with
    | false =>
      rw [State.minuteBoundary_quiet hd hf, hw]
      exact same w rfl told
    | true =>
      rw [State.minuteBoundary_fires hd hf, hw]
      exact same _ (closes w) fun hs => (told hs).closeCall
  | true =>
    have same (v : State) (hv : v.calendar.clock = s.calendar.clock ∧ v.rolling = true ∧
          v.calendar.roll.map (·.date) = some s.today ∧ v.calendar.within60 = false)
        (ht : s.rollSoon = true → v.told .rollSoon) :
        v.calendar.clock = s.calendar.clock ∧ v.rolling = (s.rolling || true) ∧
          (true = true → v.calendar.roll.map (·.date) = some s.today) ∧
          v.calendar.within60 = (s.rollSoon && !true) ∧ (s.rollSoon = true → v.told .rollSoon) := by
      obtain ⟨clock, rolling, date, within⟩ := hv
      exact ⟨clock, by rw [rolling, Bool.or_true], fun _ => date, by rw [within]; simp, ht⟩
    have drawn : (w.setDrawn (s.drawn + 1)).calendar = w.calendar := rfl
    have tolds (hs : s.rollSoon = true) : (w.setDrawn (s.drawn + 1)).told .rollSoon := told hs
    cases hf : s.alarmFires with
    | false =>
      rw [State.minuteBoundary_due hd hf, hw]
      exact same _ (begun w rfl) told
    | true =>
      rcases State.minuteBoundary_both hd hf with h | h
      · rw [h, hw]
        refine same _ ?_ fun hs => State.told.closeCall (tolds hs)
        rw [State.rolling, closes]
        exact begun _ drawn
      · rw [h, hw]
        exact same _ (begun _ ((closes _).trans drawn)) fun hs => (tolds hs).closeCall

/-- What a minute boundary leaves of the mail desk, by what falls on the minute. -/
theorem State.mail_minuteBoundary (s : State) :
    (s.alarmFires = false → s.minuteBoundary.mail = s.mail) ∧
    (s.alarmFires = true → s.minuteTest = false → s.minuteBoundary.mail = s.closeCall.mail ∧
      (s.rolling = false → s.mail.close = none → s.labelled = [] → s.minuteBoundary.told .pickupEmpty)) ∧
    (s.alarmFires = true → s.minuteTest = true → s.minuteBoundary.drawn = s.drawn + 1 ∧
      (s.minuteBoundary.mail = { s.mail with heldClose := true } ∨ s.minuteBoundary.mail = s.closeCall.mail)) := by
  have calendar := s.warnRoll_does.1
  have mail : s.warnRoll.mail = s.mail := by simp
  generalize hw : s.warnRoll = w at calendar mail
  have called (v : State) (hm : v.mail = s.mail) (hc : v.calendar = w.calendar) : v.closeCall.mail = s.closeCall.mail := by
    have rolling : v.rolling = s.rolling := by rw [State.rolling, hc, calendar]; rfl
    have today : v.today = s.today := by rw [State.today, hc, calendar]; rfl
    have now : v.now = s.now := by rw [State.now, hc, calendar]; rfl
    have labelled : v.labelled = s.labelled := by simp only [State.labelled, hm]
    simp only [State.closeCall, State.closeBegin, rolling, labelled, hm, today, now]
    repeat' split
    all_goals simp [hm]
  refine ⟨fun hf => ?_, fun hf hd => ?_, fun hf hd => ?_⟩
  · cases hd : s.minuteTest with
    | false => rw [State.minuteBoundary_quiet hd hf, hw, mail]
    | true => rw [State.minuteBoundary_due hd hf, hw]; simpa using mail
  · rw [State.minuteBoundary_fires hd hf, hw]
    refine ⟨called w mail rfl, fun hr hc hl => ?_⟩
    have rolling : w.rolling = false := by rw [State.rolling, calendar]; exact hr
    rw [State.closeCall_empty rolling (by rw [mail]; exact hc) (by simpa only [State.labelled, mail] using hl)]
    exact State.told_raise _ _
  · rcases State.minuteBoundary_both hd hf with h | h
    · rw [h, hw]
      refine ⟨by simp [State.setDrawn], .inl ?_⟩
      rw [State.closeCall_rolling (by simp [State.rolling, State.beginRoll, State.setRoll, State.setCalendar])]
      have begun : (w.setDrawn (s.drawn + 1)).beginRoll.mail = s.mail := mail
      rw [begun]
      rfl
    · rw [h, hw]
      refine ⟨by simp [State.setDrawn], .inr ?_⟩
      exact (called (w.setDrawn (s.drawn + 1)) mail rfl)

/-! ## The clock's second -/

theorem exec_clockTick (s : State) : exec .clockTick s = .next s.tick := rfl

theorem State.tick_running {s : State} (h : s.calendar.clock.running = true) : s.tick =
    (if (s.setClock s.calendar.clock.advance).now.second = 0 ∧ s.run = .running
      then (s.setClock s.calendar.clock.advance).minuteBoundary
      else s.setClock s.calendar.clock.advance).endStop := by
  simp only [State.tick, h, if_true]

theorem State.endStop_before {s : State} (h : s.calendar.clock.atEnd = false) : s.endStop = s := by
  simp [State.endStop, h]

theorem TimeOfDay.next_second (t : TimeOfDay) :
    (t.second < 59 → t.next.1.second = t.second + 1) ∧ (¬ t.second < 59 → t.next.1.second = 0) := by
  unfold TimeOfDay.next
  refine ⟨fun h => by rw [if_pos h], fun h => ?_⟩
  rw [if_neg h]
  split
  · rfl
  · split
    · rfl
    · rfl

theorem Clock.second_of_atEnd {c : Clock} (h : c.atEnd = true) : c.time.second = 59 := by
  rw [(of_decide_eq_true h).2]

/-- The minute after a roll's minute is not a roll's minute. -/
theorem Settings.rollMinuteIs_next {x : Settings} {day : Nat} {t : TimeOfDay} (h : x.rollMinuteIs t.hour t.minute = true) :
    x.rollMinuteIs (nextMinute day t).2.1 (nextMinute day t).2.2 = false := by
  obtain ⟨hh, hm⟩ := of_decide_eq_true h
  unfold nextMinute
  by_cases h1 : t.minute < 59
  · rw [if_pos h1]
    refine decide_eq_false fun ⟨_, hm'⟩ => ?_
    dsimp only at hm'
    omega
  · rw [if_neg h1]
    by_cases h2 : t.hour < 23
    · rw [if_pos h2]
      refine decide_eq_false fun ⟨hh', _⟩ => ?_
      dsimp only at hh'
      omega
    · rw [if_neg h2]
      refine decide_eq_false fun ⟨hh', _⟩ => ?_
      dsimp only at hh'
      omega

end Sys2Proof.Machine

namespace Sys2Proof.Proofs

open Sys2Proof Sys2Proof.Machine

/-- Settles O58: the second that begins no minute, the end of the calendar, and the minute boundary. -/
theorem clockTicks : Obligations.ClockTicks := by
  intro s hq hright c n day ticked
  have advanced (h : c.running = true) : s.calendar.clock.advance = ticked := by
    have : ticked.running = s.calendar.clock.running := h.symm
    rw [Clock.advance, ← this]
  have run (h : c.running = true) : exec .clockTick s = .next
      (if (s.setClock ticked).now.second = 0 ∧ s.run = .running then (s.setClock ticked).minuteBoundary
        else s.setClock ticked).endStop := by
    rw [exec_clockTick, State.tick_running h, advanced h]
  have onTheMinute (h59 : c.time.second = 59) : n.1.second = 0 := c.time.next_second.2 (by omega)
  have notAtEnd (h59 : c.time.second = 59) : ticked.atEnd = false := by
    rw [Bool.eq_false_iff]
    intro h
    have := (Clock.second_of_atEnd h).symm.trans (onTheMinute h59)
    cases this
  have offMinute (h : ticked.atEnd = true) : ¬ ((s.setClock ticked).now.second = 0 ∧ s.run = .running) := by
    rintro ⟨h0, -⟩
    have := (Clock.second_of_atEnd h).symm.trans h0
    cases this
  refine ⟨fun h => ?_, fun h hlt he => ?_, fun h he hoff => ?_, fun h he hoff => ?_, fun h h59 hrun => ?_,
    fun h h59 hrun => ?_⟩
  · have stopped : s.tick = s := by rw [State.tick, if_neg (by rw [show s.calendar.clock.running = false from h]; exact nofun)]
    rw [exec_clockTick, stopped]
  · have second : (s.setClock ticked).now.second = c.time.second + 1 := c.time.next_second.1 hlt
    rw [run h, if_neg (by rw [second]; omega), State.endStop_before (by exact he)]
    rfl
  · rw [run h, if_neg (offMinute he), State.endStop, if_pos (by exact he), if_pos (by exact hoff)]
    rfl
  · rw [run h, if_neg (offMinute he), State.endStop, if_pos (by exact he), if_neg (by exact hoff)]
    rfl
  · rw [run h, if_neg (fun hx => hrun hx.2), State.endStop_before (by exact notAtEnd h59)]
    rfl
  · intro due next fires
    have isDue : (s.setClock ticked).minuteTest = due := by
      have tests : (s.setClock ticked).minuteTest =
          (!s.rolling && s.link.settings.rollMinuteIs n.1.hour n.1.minute && lastBefore s.calendar.lastRoll day) := rfl
      rw [tests]
      simp only [due, Bool.and_assoc, Bool.and_comm (!s.rolling)]
    obtain ⟨clock, rolling, date, within, told⟩ := (s.setClock ticked).minuteBoundary_does
    obtain ⟨quiet, fired, both⟩ := (s.setClock ticked).mail_minuteBoundary
    rw [isDue] at rolling date within fired both
    have ends : (s.setClock ticked).minuteBoundary.endStop = (s.setClock ticked).minuteBoundary :=
      State.endStop_before (by rw [clock]; exact notAtEnd h59)
    have soon : (s.setClock ticked).minuteBoundary.calendar.within60 = (s.setClock ticked).rollSoon := by
      rw [within]
      cases hd : due with
      | false => exact Bool.and_true _
      | true =>
        have minute : s.link.settings.rollMinuteIs n.1.hour n.1.minute = true := by
          simp only [due, Bool.and_eq_true] at hd
          exact hd.1.1
        have later : s.link.settings.rollMinuteIs next.2.1 next.2.2 = false := Settings.rollMinuteIs_next minute
        have none : (s.setClock ticked).rollSoon = false := by
          have tests : (s.setClock ticked).rollSoon = (s.link.settings.rollMinuteIs next.2.1 next.2.2 &&
            lastBefore s.calendar.lastRoll next.1 && !s.rolling && decide (next.1 < 73048)) := rfl
          rw [tests, later]
          rfl
        rw [none]
        rfl
    have still (hd : due = true) : s.rolling = false := by
      simp only [due, Bool.and_eq_true, Bool.not_eq_true'] at hd
      exact hd.2
    refine ⟨(s.setClock ticked).minuteBoundary, ?_, clock, by simp [State.setClock], rolling, date, soon,
      fun h => told (soon ▸ h), by simp [State.setClock], quiet, fun hf hr => ?_, fun hf hr hd hc hl => ?_,
      fun hf hr hd hc hl => ?_, fun hf hr hd hc => ?_, fun hf hd hc => ?_, fun hf hd hc hl => ?_⟩
    · rw [run h, if_pos ⟨onTheMinute h59, hrun⟩, ends]
    · have notDue : due = false := by simp [due, hr]
      rw [(fired hf notDue).1, State.closeCall_rolling (by exact hr)]
      rfl
    · rw [(fired hf hd).1, State.closeCall_begins (by exact hr) (by exact hc) (by exact hl)]
      rfl
    · refine ⟨?_, (fired hf hd).2 hr hc hl⟩
      rw [(fired hf hd).1, State.closeCall_empty (by exact hr) (by exact hc) (by exact hl)]
      rfl
    · rw [(fired hf hd).1, State.closeCall_waits (by exact hr) (by exact hc)]
      rfl
    · refine (both hf hd).2.imp_right fun hm => ?_
      rw [hm, State.closeCall_waits (by exact still hd) (by exact hc)]
      rfl
    · refine ⟨(both hf hd).1, (both hf hd).2.imp_right fun hm => ?_⟩
      rw [hm, State.closeCall_begins (by exact still hd) (by exact hc) (by exact hl)]
      rfl

end Sys2Proof.Proofs

end

section
/-!
PROOF. The steps of a day roll (R22, R169 to R172, R174); obligation O59.
-/

namespace Sys2Proof.Machine

/-! ## Where the roll stands -/

section
variable {s : State} {date k : Nat}

theorem State.loanFrom_eq_none : s.loanFrom k = none ↔ ∀ e ∈ s.records.loans, e.1 < k := by
  simp [State.loanFrom]

theorem State.loanFrom_isSome (h : ∃ e ∈ s.records.loans, k ≤ e.1) : ∃ n, s.loanFrom k = some n := by
  rw [← Option.isSome_iff_exists, Option.isSome_iff_ne_none]
  intro hn
  obtain ⟨e, he, hk⟩ := h
  exact Nat.not_le.2 (State.loanFrom_eq_none.1 hn e he) hk

theorem State.rollTakes_iff {e : Nat × Patron} : s.rollTakes date e = true ↔
    (e.2.state = .paused ∧ ∃ d, e.2.pauseUntil = some d ∧ d ≤ date) ∨
      (e.2.state = .closed ∧ ∀ l ∈ s.records.loans, l.2.patron ≠ e.1) := by
  unfold State.rollTakes
  cases e.2.state with
  | active => simp
  | paused => cases e.2.pauseUntil <;> simp
  | closed => simp [State.hasLoan]

theorem State.rollPatronFrom_eq_none :
    s.rollPatronFrom date k = none ↔ ∀ e ∈ s.records.patrons, k ≤ e.1 → ¬ s.rollTakes date e = true := by
  simp [State.rollPatronFrom]

theorem State.rollPatronFrom_isSome (h : ∃ e ∈ s.records.patrons, k ≤ e.1 ∧ s.rollTakes date e = true) :
    ∃ n, s.rollPatronFrom date k = some n := by
  rw [← Option.isSome_iff_exists, Option.isSome_iff_ne_none]
  intro hn
  obtain ⟨e, he, hk, ht⟩ := h
  exact State.rollPatronFrom_eq_none.1 hn e he hk ht

theorem State.setRoll_loans {n : Nat} (h : s.loanFrom k = some n) : s.setRoll date (.loans k) =
    s.setCalendar { s.calendar with roll := some { date := date, place := .loans k } } := by
  rw [State.setRoll, State.rollPlace, h]

theorem State.setRoll_loans_none (h : s.loanFrom k = none) : s.setRoll date (.loans k) = s.setRoll date (.patrons 1) := by
  rw [State.setRoll, State.rollPlace, h]
  rfl

theorem State.setRoll_patrons {n : Nat} (h : s.rollPatronFrom date k = some n) : s.setRoll date (.patrons k) =
    s.setCalendar { s.calendar with roll := some { date := date, place := .patrons k } } := by
  rw [State.setRoll, State.rollPlace, State.patronPlace, h]

theorem State.setRoll_patrons_none (h : s.rollPatronFrom date k = none) : s.setRoll date (.patrons k) =
    s.setCalendar { s.calendar with roll := some { date := date, place := .deferrals } } := by
  rw [State.setRoll, State.rollPlace, State.patronPlace, h]

end

/-! ## The steps -/

section
variable {s : State} {date : Nat} (hr : s.run = .running)
include hr

theorem exec_rollLoanStep : exec .rollLoanStep s = .next s.loanStep.takeTrigger := by
  have unfolded : exec .rollLoanStep s = execRollLoanStep s := rfl
  rw [unfolded, execRollLoanStep, if_pos hr]

theorem exec_rollPatronStep : exec .rollPatronStep s = .next s.patronStep.takeTrigger := by
  have unfolded : exec .rollPatronStep s = execRollPatronStep s := rfl
  rw [unfolded, execRollPatronStep, if_pos hr]

theorem exec_rollDeferralClear : exec .rollDeferralClear s = .next s.deferralStep := by
  have unfolded : exec .rollDeferralClear s = execRollDeferralClear s := rfl
  rw [unfolded, execRollDeferralClear, if_pos hr]

theorem exec_rollFinish : exec .rollFinish s = .next s.finishStep := by
  have unfolded : exec .rollFinish s = execRollFinish s := rfl
  rw [unfolded, execRollFinish, if_pos hr]

end

section
variable {s : State} {date k : Nat}

theorem State.loanStep_at (h : s.calendar.roll = some { date := date, place := .loans k }) {id : Nat} {l : Loan}
    (hf : s.loanFrom k = some id) (hl : s.loan id = some l) :
    s.loanStep = (s.rollLoan id l date).setRoll date (.loans (id + 1)) := by
  simp only [State.loanStep, h, hf, hl]

theorem State.loanStep_none (h : s.calendar.roll = some { date := date, place := .loans k }) (hf : s.loanFrom k = none) :
    s.loanStep = s.setRoll date (.patrons 1) := by
  simp only [State.loanStep, h, hf]

theorem State.patronStep_at (h : s.calendar.roll = some { date := date, place := .patrons k }) {n : Nat} {p : Patron}
    (hf : s.rollPatronFrom date k = some n) (hp : s.patron n = some p) :
    s.patronStep = (s.rollPatron n p).setRoll date (.patrons (n + 1)) := by
  simp only [State.patronStep, h, hf, hp]

theorem State.patronStep_none (h : s.calendar.roll = some { date := date, place := .patrons k })
    (hf : s.rollPatronFrom date k = none) : s.patronStep = s.setRoll date .deferrals := by
  simp only [State.patronStep, h, hf]

end

/-! ## The stages of an overdue loan -/

/-- The stage that a loan's days past due reach (R169). -/
def reachedStage (d : Nat) : Nat := if 42 ≤ d then 3 else if 21 ≤ d then 2 else if 7 ≤ d then 1 else 0

theorem stageDays_le_iff {d stage : Nat} (h : stage < 3) : stageDays (stage + 1) ≤ d ↔ stage + 1 ≤ reachedStage d := by
  unfold reachedStage
  match stage, h with
  | 0, _ => simp only [stageDays]; split <;> (try split) <;> (try split) <;> omega
  | 1, _ => simp only [stageDays]; split <;> (try split) <;> (try split) <;> omega
  | 2, _ => simp only [stageDays]; split <;> (try split) <;> (try split) <;> omega

/-- The stages reached are those the days reach and the Reminder List has room for, each with its reminder. -/
theorem raiseStages_eq {loan patron date d : Nat} (fuel stage room : Nat) (h : stage ≤ 3) (hf : 3 ≤ stage + fuel) :
    raiseStages loan patron date d stage room fuel =
      (max stage (min (reachedStage d) (stage + room)),
        (List.range (max stage (min (reachedStage d) (stage + room)) - stage)).map (fun j =>
          ({ loan := loan, patron := patron, stage := stage + 1 + j, date := date } : Reminder))) := by
  have most : reachedStage d ≤ 3 := by unfold reachedStage; split <;> (try split) <;> (try split) <;> omega
  induction fuel generalizing stage room with
  | zero =>
    have top : max stage (min (reachedStage d) (stage + room)) = stage := by omega
    rw [raiseStages, top, Nat.sub_self]
    rfl
  | succ fuel ih =>
    unfold raiseStages
    by_cases hup : stage < 3 ∧ stageDays (stage + 1) ≤ d ∧ 0 < room
    · obtain ⟨h3, hd, hroom⟩ := id hup
      have reached := (stageDays_le_iff h3).1 hd
      have top : max (stage + 1) (min (reachedStage d) (stage + 1 + (room - 1))) =
          max stage (min (reachedStage d) (stage + room)) := by omega
      obtain ⟨n, hn⟩ : ∃ n, max stage (min (reachedStage d) (stage + room)) - stage = n + 1 :=
        ⟨max stage (min (reachedStage d) (stage + room)) - stage - 1, by omega⟩
      have rest : max stage (min (reachedStage d) (stage + room)) - (stage + 1) = n := by omega
      rw [if_pos hup, ih (stage + 1) (room - 1) (by omega) (by omega), top, rest, hn, List.range_succ_eq_map]
      simp [Function.comp_def, Nat.add_comm, Nat.add_left_comm]
    · have top : max stage (min (reachedStage d) (stage + room)) = stage := by
        by_contra hne
        refine hup ⟨by omega, (stageDays_le_iff (by omega)).2 (by omega), by omega⟩
      rw [if_neg hup, top, Nat.sub_self]
      rfl

/-! ## What a sweep leaves alone -/

/-- What a change of one patron's record keeps of every record. -/
theorem State.patron_onPatron_map {β : Type} (s : State) (k j : Nat) (f : Patron → Patron) (g : Patron → β)
    (hg : ∀ p, g (f p) = g p) : ((s.onPatron k f).patron j).map g = (s.patron j).map g := by
  by_cases hj : j = k
  · subst hj
    cases hp : s.patron j with
    | none => rw [State.onPatron, hp, hp]
    | some p => rw [State.patron_onPatron hp f, Option.map_some, hg, Option.map_some]
  · rw [State.patron_onPatron_ne s hj]

/-- The deferral once a FILL_LOW one is cleared. -/
def Deferral.unlow (d : Deferral) : Deferral := if d = .fillLow then .none else d

theorem State.patron_clearFillLow_map {β : Type} (s : State) (k j : Nat) (g : Patron → β)
    (hg : ∀ p, g { p with deferral := p.deferral.unlow } = g p) :
    ((s.clearFillLow k).patron j).map g = (s.patron j).map g := by
  unfold State.clearFillLow
  split
  · next p hp =>
    split
    · next hd =>
      by_cases hj : j = k
      · subst hj
        have now : ((s.setPatron j { p with deferral := .none }).noteTrigger).patron j =
          some { p with deferral := .none } := Table.look_put _ _ _
        have same := hg p
        rw [Deferral.unlow, if_pos hd] at same
        rw [now, hp, Option.map_some, Option.map_some, same]
      · exact congrArg (Option.map g) (Table.look_put_of_ne _ _ hj)
    · rfl
  · rfl

/-- What an allocation leaves of any patron's record: its titles, history, service, plans and deferral but FILL_LOW. -/
def Patron.kept (p : Patron) : List Nat × List Nat × Option Nat × Nat × Deferral :=
  (p.orders.map (·.title), p.history, p.lastService, p.cartCount, p.deferral.unlow)

theorem Patron.kept_unlow (p : Patron) : Patron.kept { p with deferral := p.deferral.unlow } = p.kept := by
  unfold Patron.kept Deferral.unlow
  split
  · rfl
  · rfl

theorem State.kept_sweepOnce {s u : State} {t : Nat} (h : s.sweepOnce t = some u) (j : Nat) :
    (u.patron j).map Patron.kept = (s.patron j).map Patron.kept := by
  obtain ⟨r, c, p, -, -, -, -, rfl⟩ := State.sweepOnce_cases h
  have titled (q : Patron) : Patron.kept { q with
      orders := q.orders.map (fun e => if e.title = t then { e with state := .allocated s.nextItem c } else e) } =
        q.kept := by
    have same : ∀ e : OrderEntry, (if e.title = t then { e with state := .allocated s.nextItem c } else e).title =
        e.title := fun e => by
      split
      · rfl
      · rfl
    simp only [Patron.kept, List.map_map, Function.comp_def, same]
  change ((((s.leaveHold p t).allocate p t c).setEntry p t (.allocated s.nextItem c)).patron j).map _ = _
  rw [State.setEntry, State.patron_clearFillLow_map _ _ _ _ Patron.kept_unlow,
    State.patron_onPatron_map _ _ _ _ _ titled, State.allocate, State.raiseSets,
    State.patron_clearFillLow_map _ _ _ _ Patron.kept_unlow, State.patron_onPatron_map _ _ _ _ _ (by exact fun _ => rfl)]
  simp [State.patron, State.leaveHold]

theorem State.cartCount_sweepOnce {s u : State} {t : Nat} (h : s.sweepOnce t = some u) (j : Nat) :
    (u.patron j).map (·.cartCount) = (s.patron j).map (·.cartCount) := by
  have kept := congrArg (Option.map fun x => x.2.2.2.1) (State.kept_sweepOnce h j)
  rw [Option.map_map, Option.map_map] at kept
  exact kept

/-- An allocation takes a copy from the shelf, and no other. -/
theorem State.copies_sweepOnce {s u : State} {t : Nat} (h : s.sweepOnce t = some u) {j i : Nat} {w : Title}
    (hw : s.title j = some w) {x : CopyPlace} (hx : w.copies[i]? = some x) (hs : x ≠ .shelf) :
    ∃ w', u.title j = some w' ∧ w'.copies[i]? = some x := by
  obtain ⟨r, c, p, hr, -, hc, -, rfl⟩ := State.sweepOnce_cases h
  have titles : ((((s.leaveHold p t).allocate p t c).setEntry p t (.allocated s.nextItem c)).raise .holdFilled).title j =
      ((s.leaveHold p t).moveCopy t c .item).title j := by simp [State.title, State.allocate]
  rw [titles, State.moveCopy, State.title_onTitle, State.leaveHold, State.title_onTitle]
  split
  · next hj =>
    subst hj
    obtain rfl := Option.some.inj (hr.symm.trans hw)
    rw [hw]
    refine ⟨_, rfl, ?_⟩
    obtain ⟨n, hn, rfl⟩ := Option.map_eq_some_iff.1 hc
    obtain ⟨hlt, hshelf, -⟩ := List.findIdx?_eq_some_iff_getElem.1 hn
    have apart : n ≠ i := by
      rintro rfl
      rw [List.getElem?_eq_getElem hlt] at hx
      exact hs ((Option.some.inj hx).symm.trans (of_decide_eq_true hshelf))
    simpa [List.getElem?_set_ne apart] using hx
  · exact ⟨w, hw, hx⟩

/-! ## A loan past due -/

theorem State.rollLoan_early {s : State} {id date : Nat} {l : Loan} (h : date ≤ l.due) : s.rollLoan id l date = s :=
  if_pos h

/-- An overdue loan before its ninetieth day: its stage, and the reminders of the stages it rises to. -/
theorem State.rollLoan_overdue {s : State} {id date : Nat} {l : Loan} (h : l.due < date) :
    s.rollLoan id l date =
      let r := raiseStages id l.patron date (date - l.due) l.stage (64 - s.calendar.reminders.length) 3
      let t := (s.setCalendar { s.calendar with reminders := s.calendar.reminders ++ r.2 }).setLoan id
        { l with overdue := true, stage := r.1 }
      if 90 ≤ date - l.due then t.writeOff id { l with overdue := true, stage := r.1 } date else t :=
  if_neg (Nat.not_le.2 h)

section
variable {s : State} (id date : Nat) {l : Loan}

/-- What a write-off leaves, whatever the loan is of. -/
theorem State.writeOff_leaves (hs : s.records.loans.rising = true) : (s.writeOff id l date).loan id = none ∧
    (s.writeOff id l date).records.lost.getLast? = some (l.lost date) ∧
    (s.writeOff id l date).calendar = s.calendar := by
  have loans : (s.writeOff id l date).records.loans = s.records.loans.del id := by
    unfold State.writeOff
    dsimp only
    split <;> simp [State.freeLoan]
  have lost : (s.writeOff id l date).records.lost = appendLost s.records.lost (l.lost date) := by
    unfold State.writeOff
    dsimp only
    split <;> simp [State.freeLoan, State.setLost, State.noteTrigger]
  refine ⟨?_, by rw [lost, appendLost]; simp, ?_⟩
  · rw [State.loan, loans]
    exact Table.look_del _ id hs
  · unfold State.writeOff
    dsimp only
    split <;> simp [State.freeLoan]

theorem State.writeOff_cart {r : Patron} (hp : s.patron l.patron = some r) (hk : l.kind.isSet = false) :
    ∃ d, (s.writeOff id l date).patron l.patron = some { r with cartCount := r.cartCount - 1, deferral := d } := by
  have base (x : List Lost) : (((s.setLost x).freeLoan id).noteTrigger).patron l.patron = some r := hp
  have dropped := (State.cleared_clearFillLow _ l.patron).patron
    (State.patron_onPatron (base (appendLost s.records.lost (l.lost date))) (fun r => { r with cartCount := r.cartCount - 1 }))
  unfold State.writeOff
  dsimp only
  split
  · exact dropped
  · next h => rw [h] at hk; cases hk

section
variable {t c v : Nat} {vs : List Nat} (hk : l.kind = .set t c v vs)
include hk

theorem State.writeOff_set {r : Patron} (hp : s.patron l.patron = some r) :
    ∃ q, (s.writeOff id l date).patron l.patron = some q ∧ q.cartCount = r.cartCount := by
  have base (x : List Lost) : (((s.setLost x).freeLoan id).noteTrigger).patron l.patron = some r := hp
  obtain ⟨d, hd⟩ := (State.cleared_clearFillLow _ l.patron).patron (State.patron_onPatron
    (base (appendLost s.records.lost (l.lost date))) (fun r => { r with setCount := r.setCount - 1 }))
  simp only [State.writeOff, hk]
  refine State.sweep_keeps (P := fun x => ∃ q, x.patron l.patron = some q ∧ q.cartCount = r.cartCount)
    (fun x y j ⟨q, hq, hcount⟩ hy => ?_) ⟨{ r with setCount := r.setCount - 1, deferral := d }, ?_, rfl⟩ _
  · have kept := State.cartCount_sweepOnce hy l.patron
    rw [hq, Option.map_some] at kept
    obtain ⟨q', hq', he⟩ := Option.map_eq_some_iff.1 kept
    exact ⟨q', hq', he.trans hcount⟩
  · have moved (u : State) : (u.moveCopy t c .missing).patron l.patron = u.patron l.patron := by simp [State.patron]
    rw [moved]
    exact hd

theorem State.writeOff_copy {u : Title} (hu : s.title t = some u) (hc : c - 1 < u.copies.length) :
    ∃ w, (s.writeOff id l date).title t = some w ∧ w.copies[c - 1]? = some .missing := by
  simp only [State.writeOff, hk]
  refine State.sweep_keeps (P := fun x => ∃ w, x.title t = some w ∧ w.copies[c - 1]? = some .missing)
    (fun x y j ⟨w, hw, hm⟩ hy => State.copies_sweepOnce hy hw hm nofun) ?_ _
  have title : ((((s.setLost (appendLost s.records.lost (l.lost date))).freeLoan id).noteTrigger).dropSets
      l.patron).title t = some u := by simpa [State.title, State.freeLoan, State.setLost, State.noteTrigger] using hu
  rw [State.moveCopy, State.title_onTitle, if_pos rfl, title]
  exact ⟨_, rfl, by simp [hc]⟩

end

end

end Sys2Proof.Machine

namespace Sys2Proof.Proofs

open Sys2Proof Sys2Proof.Machine

/-- Settles O59: where a roll stands, and its four steps. -/
theorem rollStepsWalkTheRecords : Obligations.RollStepsWalkTheRecords := by
  intro s date hr hq at_ stands taken
  have takes (e : Nat × Patron) : s.rollTakes date e = true ↔ taken e := State.rollTakes_iff
  refine ⟨fun k => ⟨fun h => ?_, fun h => ?_, fun ⟨e, he, hk, ht⟩ => ?_, fun h => ?_⟩, fun k h hf => ?_, fun k h hf => ?_,
    fun k id l h hf hl => ⟨fun hdue => ?_, fun hdue hstage hd => ?_, fun r hdue hs hp => ?_⟩,
    fun k n p h hf hp => ⟨fun hst => ?_, fun hst hs => ?_⟩, fun h => ?_, fun h => ?_, fun h => ?_⟩
  · obtain ⟨n, hn⟩ := State.loanFrom_isSome h
    exact State.setRoll_loans hn
  · exact State.setRoll_loans_none (State.loanFrom_eq_none.2 h)
  · obtain ⟨n, hn⟩ := State.rollPatronFrom_isSome ⟨e, he, hk, (takes e).2 ht⟩
    exact State.setRoll_patrons hn
  · exact State.setRoll_patrons_none (State.rollPatronFrom_eq_none.2 fun e he hk ht => h e he hk ((takes e).1 ht))
  · rw [exec_rollLoanStep hr, State.loanStep_none h hf, State.takeTrigger_of_quiet (by exact hq)]
  · rw [exec_rollPatronStep hr, State.patronStep_none h hf, State.takeTrigger_of_quiet (by exact hq)]
    rfl
  · rw [exec_rollLoanStep hr, State.loanStep_at h hf hl, State.rollLoan_early hdue,
      State.takeTrigger_of_quiet (by exact hq)]
  · intro d reached stage raised
    have raises := raiseStages_eq (loan := id) (patron := l.patron) (date := date) (d := d) 3 l.stage
      (64 - s.calendar.reminders.length) hstage (by omega)
    rw [exec_rollLoanStep hr, State.loanStep_at h hf hl, State.rollLoan_overdue hdue, raises]
    dsimp only
    rw [if_neg (Nat.not_le.2 hd), State.takeTrigger_of_quiet (by exact hq)]
    rfl
  · have due : l.due < date := by omega
    have long : 90 ≤ date - l.due := by omega
    generalize hraise : raiseStages id l.patron date (date - l.due) l.stage (64 - s.calendar.reminders.length) 3 = raised
    generalize hv : (s.setCalendar { s.calendar with reminders := s.calendar.reminders ++ raised.2 }).setLoan id
      { l with overdue := true, stage := raised.1 } = v
    have step : s.loanStep =
        (v.writeOff id { l with overdue := true, stage := raised.1 } date).setRoll date (.loans (id + 1)) := by
      rw [State.loanStep_at h hf hl, State.rollLoan_overdue due, hraise]
      dsimp only
      rw [if_pos long, hv]
    have rising : v.records.loans.rising = true := by
      rw [← hv]
      exact Table.rising_put _ _ _ hs.2.2.1
    have patron : v.patron l.patron = some r := by rw [← hv]; exact hp
    obtain ⟨gone, lost, calendar⟩ := State.writeOff_leaves id date (l := { l with overdue := true, stage := raised.1 }) rising
    have cart := State.writeOff_cart id date (l := { l with overdue := true, stage := raised.1 }) patron
    have written : ∃ q, (v.writeOff id { l with overdue := true, stage := raised.1 } date).patron l.patron = some q ∧
        (l.kind.isSet = false → q.cartCount = r.cartCount - 1 ∧ q.setCount = r.setCount) ∧
        (l.kind.isSet = true → q.cartCount = r.cartCount) := by
      have kind : (∃ x y, l.kind = .cartridge x y) ∨ ∃ t c w vs, l.kind = .set t c w vs := by
        cases l.kind with
        | cartridge x y => exact .inl ⟨x, y, rfl⟩
        | set t c w vs => exact .inr ⟨t, c, w, vs, rfl⟩
      rcases kind with ⟨x, y, hk⟩ | ⟨t, c, w, vs, hk⟩
      · obtain ⟨d, hd⟩ := cart (by exact congrArg LoanKind.isSet hk)
        exact ⟨_, hd, fun _ => ⟨rfl, rfl⟩, fun h => by rw [hk] at h; exact nomatch h⟩
      · obtain ⟨q, hq', hc⟩ := State.writeOff_set id date (l := { l with overdue := true, stage := raised.1 })
          (by exact hk) patron
        exact ⟨q, hq', fun h => absurd h (by rw [hk]; exact nofun), fun _ => hc⟩
    obtain ⟨q, hq', carts, sets⟩ := written
    refine ⟨_, q, exec_rollLoanStep hr, ?_, ?_, ?_, fun hstage => ?_, carts, fun ti c w vs u hk hu hb hsh h1 h15 => ?_⟩
    · rw [step]
      simpa [State.loan] using gone
    · rw [step]
      simpa [State.patron] using hq'
    · rw [step]
      simp only [State.takeTrigger_frame]
      exact lost
    · have raises := raiseStages_eq (loan := id) (patron := l.patron) (date := date) (d := date - l.due) 3 l.stage
        (64 - s.calendar.reminders.length) hstage (by omega)
      have reached : reachedStage (date - l.due) = 3 := if_pos (by omega)
      have count : max l.stage (min 3 (l.stage + (64 - s.calendar.reminders.length))) - l.stage =
        min (3 - l.stage) (64 - s.calendar.reminders.length) := by omega
      rw [hraise, reached, count] at raises
      rw [step]
      simp only [State.takeTrigger_frame]
      change (v.writeOff id _ date).calendar.reminders = _
      rw [calendar, ← hv, raises]
      rfl
    · refine ⟨sets (by rw [hk]; rfl), ?_⟩
      have fifteen : u.copies.length = 15 := hsh.2.2.2.2 _ (Table.mem_of_look hu) hb
      obtain ⟨w', hw', hm⟩ := State.writeOff_copy id date (l := { l with overdue := true, stage := raised.1 })
        (by exact hk) (s := v) (by rw [← hv]; exact hu) (by omega)
      rw [step]
      exact ⟨w', by simpa [State.title] using hw', hm⟩
  · rw [exec_rollPatronStep hr, State.patronStep_at h hf hp, State.rollPatron, hst]
  · have step : s.patronStep = (s.releasePatron n).setRoll date (.patrons (n + 1)) := by
      rw [State.patronStep_at h hf hp, State.rollPatron, hst]
    have freed : (s.releasePatron n).records = { s.records with patrons := s.records.patrons.del n } ∧
        (s.releasePatron n).link.patronCtx = if s.link.patronCtx = some n then none else s.link.patronCtx := by
      unfold State.releasePatron
      dsimp only
      split
      · next hc => exact ⟨rfl, (if_pos hc).symm⟩
      · next hc => exact ⟨rfl, (if_neg hc).symm⟩
    obtain ⟨records, ctx⟩ := freed
    have after : s.patronStep.takeTrigger.records = (s.releasePatron n).records ∧
        s.patronStep.takeTrigger.link = (s.releasePatron n).link := by
      rw [step]
      simp only [State.takeTrigger_frame]
      exact ⟨rfl, rfl⟩
    refine ⟨_, exec_rollPatronStep hr, ?_, ?_, ?_, ?_⟩
    · rw [State.patron, after.1, records]
      exact Table.look_del _ n hs.1
    · rw [after.2, ctx]
    · rw [after.1, records]
    · rw [after.1, records]
  · rw [exec_rollDeferralClear hr, State.deferralStep, h]
    rfl
  · have step : s.finishStep = s.finishRoll date := by rw [State.finishStep, h]
    refine ⟨_, exec_rollFinish hr, ?_⟩
    rw [step]
    generalize hv : (s.setCalendar { s.calendar with lastRoll := some date, roll := none, follow := .trigger }).raise
      .rollDone = v
    generalize hw : (if s.calendar.reminders.any (fun r => decide (r.date = date)) then v.raise .reminders else v) = w
    have finish : s.finishRoll date = w.dropHeld := by rw [← hw, ← hv]; rfl
    have base : w.calendar = { s.calendar with lastRoll := some date, roll := none, follow := .trigger } ∧
        w.records = s.records ∧ w.mail = s.mail := by
      rw [← hw, ← hv]
      split
      · exact ⟨rfl, rfl, rfl⟩
      · exact ⟨rfl, rfl, rfl⟩
    have done : w.told .rollDone := by
      have told : v.told .rollDone := by rw [← hv]; exact State.told_raise _ _
      rw [← hw]
      split
      · exact told.raise _
      · exact told
    obtain ⟨calendar, records, mail⟩ := base
    have today : w.today = s.today := by rw [State.today, calendar]; rfl
    have dropped : w.dropHeld = w.setMail { s.mail with heldClose := s.mail.heldClose && decide (s.today ≠ 73048) } := by
      unfold State.dropHeld
      rw [today, mail]
      split
      · next hl =>
        have last : decide (s.today ≠ 73048) = false := decide_eq_false (not_not.2 hl)
        rw [last, Bool.and_false]
      · next hl =>
        have before : decide (s.today ≠ 73048) = true := decide_eq_true hl
        rw [before, Bool.and_true]
        exact congrArg w.setMail mail
    rw [finish, dropped]
    refine ⟨calendar, records, rfl, done, fun ⟨x, hx, hd⟩ => ?_⟩
    have any : s.calendar.reminders.any (fun r => decide (r.date = date)) = true :=
      List.any_eq_true.2 ⟨x, hx, decide_eq_true hd⟩
    rw [any, if_pos rfl] at hw
    rw [← hw]
    exact State.told_raise v .reminders
  · rw [exec_rollLoanStep hr, exec_rollPatronStep hr, exec_rollDeferralClear hr, exec_rollFinish hr]
    simp only [State.loanStep, State.patronStep, State.deferralStep, State.finishStep, h,
      State.takeTrigger_of_quiet hq, and_self]

end Sys2Proof.Proofs

end

section
/-!
PROOF. Dispatches, and the end of a close (R5, R20, R102, R123 to R129, R164); obligation O54.
-/

namespace Sys2Proof.Machine

/-! ## Read histories and due dates -/

theorem historyAdd_of_mem {h : List Nat} {c : Nat} (hc : c ∈ h) :
    historyAdd h c = h.filter (fun x => decide (x ≠ c)) ++ [c] := by
  rw [historyAdd, if_pos (List.contains_iff_mem.2 hc)]

theorem historyAdd_of_not_mem {h : List Nat} {c : Nat} (hc : c ∉ h) :
    (h.length < 48 → historyAdd h c = h ++ [c]) ∧ (h.length = 48 → historyAdd h c = h.tail ++ [c]) := by
  have out : ¬ h.contains c = true := fun hx => hc (List.contains_iff_mem.1 hx)
  refine ⟨fun hl => ?_, fun hl => ?_⟩
  · rw [historyAdd, if_neg out, if_neg (by exact Nat.not_le.2 hl)]
  · rw [historyAdd, if_neg out, if_pos (by exact hl.ge), hl]
    have one : 48 + 1 - Config.historyMax = 1 := rfl
    rw [one, List.drop_one]

theorem stepDue_eq (closed : Nat → Bool) (fuel day : Nat) (h : day ≤ 73048) :
    ∃ j, j ≤ fuel ∧ stepDue closed day fuel = day + j ∧ day + j ≤ 73048 ∧ (∀ k, k < j → closed (day + k) = true) ∧
      (j = fuel ∨ closed (day + j) = false ∨ day + j = 73048) := by
  induction fuel generalizing day with
  | zero => exact ⟨0, le_rfl, rfl, h, nofun, .inl rfl⟩
  | succ fuel ih =>
    unfold stepDue
    split
    · next hc =>
      obtain ⟨closes, before⟩ := Bool.and_eq_true_iff.1 hc
      have before : day < 73048 := of_decide_eq_true before
      obtain ⟨j, hj, he, hmax, hclosed, hend⟩ := ih (day + 1) (by omega)
      refine ⟨j + 1, by omega, by omega, by omega, fun k hk => ?_, ?_⟩
      · cases k with
        | zero => exact closes
        | succ k =>
          have := hclosed k (by omega)
          rwa [Nat.add_assoc, Nat.add_comm 1 k] at this
      · have shift : day + 1 + j = day + (j + 1) := by omega
        rw [shift] at hend
        exact hend.imp_left fun h => by omega
    · next hc =>
      refine ⟨0, Nat.zero_le _, rfl, h, nofun, ?_⟩
      rw [Nat.add_zero]
      cases hx : closed day with
      | false => exact .inr (.inl rfl)
      | true =>
        rw [hx, Bool.true_and] at hc
        have : ¬ day < 73048 := fun hlt => hc (decide_eq_true hlt)
        exact .inr (.inr (by omega))

/-! ## The end of a close -/

theorem storeManifest_eq (l : List Manifest) (m : Manifest) :
    storeManifest l m = (if l.length < 4 then l else l.drop (l.length - 3)) ++ [m] := by
  unfold storeManifest
  have size : Config.manifestMax = 4 := rfl
  rw [size]
  split
  · have none : l.length + 1 - 4 = 0 := by omega
    rw [none, List.drop_zero]
  · have some : l.length + 1 - 4 = l.length - 3 := by omega
    rw [some]

theorem State.takeWaiting_eq (v : State) : v.takeWaiting =
    let w := v.setMail { v.mail with waitingClose := false }
    let labelled : List Nat := (v.mail.tray.filter (fun y => y.state.isLabelled)).map (·.number)
    if v.mail.waitingClose = false then v
    else if v.rolling then w.setMail { w.mail with heldClose := true }
    else if v.today = 73048 then w
    else if labelled = [] then w.raise .pickupEmpty
    else w.setMail { w.mail with
      close := some { selection := labelled, date := v.today, time := v.now, anySet := false } } := by
  unfold State.takeWaiting State.closeBegin
  dsimp only
  cases hw : v.mail.waitingClose with
  | false => rfl
  | true =>
    rw [if_pos rfl]
    refine Eq.trans ?_ (if_neg (by simp)).symm
    refine if_congr Iff.rfl rfl (if_congr Iff.rfl rfl ?_)
    refine if_congr ?_ rfl rfl
    rw [List.isEmpty_iff]
    rfl

/-- What the end of a close does before it takes a waiting one. -/
def State.closed (u : State) (anySet : Bool) (batch : Option Manifest) : State :=
  match batch with
  | some b =>
    let stored := ((u.setMail { u.mail with close := none }).setMail
      { (u.setMail { u.mail with close := none }).mail with
        openBatch := none
        manifests := (if u.mail.manifests.length < 4 then u.mail.manifests
          else u.mail.manifests.drop (u.mail.manifests.length - 3)) ++ [b] }).raise .batchClosed
    if anySet then stored.sweep (stored.titlesWhere (fun _ x => x.copies.contains .shelf && !x.holds.isEmpty))
    else stored
  | none => (u.setMail { u.mail with close := none }).raise .pickupEmpty

theorem State.closeEnd_eq (u : State) (c : Close) : u.closeEnd c = (u.closed c.anySet u.mail.openBatch).takeWaiting := by
  unfold State.closeEnd State.closed
  dsimp only
  change (match u.mail.openBatch with | some m => _ | none => _ : State).takeWaiting = _
  cases u.mail.openBatch with
  | none => rfl
  | some b =>
    simp only [State.storeBatch, storeManifest_eq]
    rfl

theorem State.closed_frame (u : State) (anySet : Bool) (batch : Option Manifest) :
    (u.closed anySet batch).mail.waitingClose = u.mail.waitingClose ∧ (u.closed anySet batch).calendar = u.calendar := by
  unfold State.closed
  split
  · dsimp only
    split
    · simp
    · exact ⟨rfl, rfl⟩
  · exact ⟨rfl, rfl⟩

/-! ## The dispatch of an item -/

section
variable {s : State} (hr : s.run = .running)
include hr

theorem exec_dispatchCartridgeItem : exec .dispatchCartridgeItem s = .next s.stepCartridge.takeTrigger := by
  have unfolded : exec .dispatchCartridgeItem s = execDispatchCartridgeItem s := rfl
  rw [unfolded, execDispatchCartridgeItem, if_pos hr]

theorem exec_dispatchSetItem : exec .dispatchSetItem s = .next s.stepSet.takeTrigger := by
  have unfolded : exec .dispatchSetItem s = execDispatchSetItem s := rfl
  rw [unfolded, execDispatchSetItem, if_pos hr]

end

/-- A patron's record once a dispatch of the service date has taken the entries and joined the titles. -/
def Patron.served (r : Patron) (orders : List OrderEntry) (history : List Nat) (date : Nat) : Patron :=
  { r with
    orders := orders, history := history, lastService := some date
    deferral := if r.deferral = .fillLow then .none else r.deferral }

theorem State.served_eq {s : State} {k : Nat} {r : Patron} (hp : s.patron k = some r) (f : OrderEntry → Bool)
    (cats : List Nat) (date : Nat) : (s.removeEntries k f).recordService k cats date =
      (s.setPatron k (r.served (r.orders.filter (fun e => !f e)) (cats.foldl historyAdd r.history) date)).setPlanner
        { s.planner with due := s.planner.due || decide (r.deferral = .fillLow) } := by
  have removed : s.removeEntries k f = (s.setPatron k
      { r with
        orders := r.orders.filter (fun e => !f e)
        deferral := if r.deferral = .fillLow then .none else r.deferral }).setPlanner
      { s.planner with due := s.planner.due || decide (r.deferral = .fillLow) } := by
    have now (q : Patron) : (s.setPatron k q).patron k = some q := Table.look_put _ _ _
    rw [State.removeEntries, State.onPatron, hp]
    dsimp only
    rw [State.clearFillLow, now]
    by_cases hd : r.deferral = .fillLow
    · simp only [State.setPatron, State.setRecords, State.noteTrigger, State.setPlanner, Table.put_put, hd, if_true,
        decide_true, Bool.or_true]
    · simp only [State.setPatron, State.setRecords, State.setPlanner, hd, if_false, decide_false, Bool.or_false]
  have now (q : Patron) (x : Planner) : ((s.setPatron k q).setPlanner x).patron k = some q := Table.look_put _ _ _
  rw [removed, State.recordService, State.onPatron, now]
  simp only [State.setPatron, State.setRecords, State.setPlanner, Table.put_put, Patron.served]

/-- The walk of a change of each slot over the rack. -/
theorem State.foldl_setSlot {s : State} (f : Slot → Slot) (hs : s.rack.length = 8) {l : List Nat} (hl : l.Nodup)
    (h8 : ∀ n ∈ l, n ∈ slotNumbers) : ∃ rack, l.foldl (fun v n => v.setSlot n (f (v.slot n))) s = s.setRack rack ∧
      rack.length = 8 ∧ ∀ n ∈ slotNumbers, (s.setRack rack).slot n = if n ∈ l then f (s.slot n) else s.slot n := by
  induction l generalizing s with
  | nil => exact ⟨s.rack, rfl, hs, fun n _ => rfl⟩
  | cons m l ih =>
    obtain ⟨hm, hl⟩ := List.nodup_cons.1 hl
    have hm8 := h8 m List.mem_cons_self
    obtain ⟨rack, hr, hlen, hslot⟩ := ih (s := s.setSlot m (f (s.slot m))) (by simpa using hs) hl
      fun n hn => h8 n (List.mem_cons_of_mem _ hn)
    refine ⟨rack, hr, hlen, fun n hn => ?_⟩
    refine (hslot n hn).trans ?_
    by_cases he : n = m
    · subst he
      rw [if_neg hm, State.slot_setSlot_same _ hs hn, if_pos List.mem_cons_self]
    · rw [State.slot_setSlot_other _ hm8 hn he]
      have : n ∈ m :: l ↔ n ∈ l := by simp [he]
      simp only [this]

/-- What a dispatch makes of the slot that holds the finished cartridge (R102). -/
def Slot.recordDispatch (item : Nat) (sl : Slot) : Slot :=
  if sl.state = .done ∧ sl.doneItem.map (·.2) = some item then { sl with doneItem := none, dispatched := true } else sl

theorem State.recordDispatch_eq (s : State) (item n : Nat) :
    s.recordDispatch item n = s.setSlot n ((s.slot n).recordDispatch item) := by
  unfold State.recordDispatch Slot.recordDispatch
  dsimp only
  split
  · rfl
  · exact (s.setSlot_slot n).symm

/-- The batch that an entry joins. -/
def State.batchWith (s : State) (c : Close) (e : ManifestEntry) : Manifest :=
  match s.mail.openBatch with
  | some b => { b with entries := b.entries ++ [e] }
  | none => { number := s.mail.nextBatch, date := c.date, time := c.time, entries := [e] }

theorem State.mem_batchWith (s : State) (c : Close) (e : ManifestEntry) : e ∈ (s.batchWith c e).entries := by
  unfold State.batchWith
  split
  · simp
  · simp

theorem State.appendEntry_eq (s : State) (c : Close) (e : ManifestEntry) : s.appendEntry c e = s.setMail
    { s.mail with
      openBatch := some (s.batchWith c e)
      lastBatch := if s.mail.openBatch = none then s.mail.nextBatch else s.mail.lastBatch } := by
  unfold State.appendEntry State.batchWith
  cases s.mail.openBatch with
  | none => rfl
  | some b => rfl

/-- The mail desk once an item has left the tray and its entry joined the open batch. -/
def State.mailWithout (s : State) (c : Close) (n : Nat) (e : ManifestEntry) (close : Option Close) : Mail :=
  { s.mail with
    tray := s.mail.tray.filter (fun y => decide (y.number ≠ n)), close := close
    openBatch := some (s.batchWith c e)
    lastBatch := if s.mail.openBatch = none then s.mail.nextBatch else s.mail.lastBatch }

section
variable {s : State} {c : Close} {x : Item} {r : Patron} (hp : s.patron x.patron = some r)
include hp

theorem State.dispatchCartridge_eq (hs : s.rack.length = 8) (plan serial k : Nat) : ∃ rack, rack.length = 8 ∧
    (∀ n ∈ slotNumbers, (s.setRack rack).slot n = (s.slot n).recordDispatch x.number) ∧
    s.dispatchCartridge c x plan serial k =
      ((((s.setRecords { s.records with
        patrons := s.records.patrons.put x.patron (r.served (r.orders.filter (fun e => decide (e.state ≠ .planned plan)))
          ((s.planCatalogues plan).foldl historyAdd r.history) c.date)
        loans := s.records.loans.put k
          { kind := .cartridge serial (s.planCatalogues plan), patron := x.patron, overdue := false, dispatch := c.date
            due := s.dueDate false c.date, stage := 0 } }).setPlanner
          { s.planner with plans := s.planner.plans.del plan, due := true }).setRack rack).setMail
            (s.mailWithout c x.number { item := x.number, patronNumber := r.number, what := .inl serial, loan := k }
              (s.mail.close.map (fun c => { c with selection := c.selection.filter (· ≠ x.number) })))) := by
  have number : s.patronNumber x.patron = r.number := by simp [State.patronNumber, hp]
  unfold State.dispatchCartridge
  dsimp only
  have walk : (fun (v : State) n => v.recordDispatch x.number n) =
      fun v n => v.setSlot n ((v.slot n).recordDispatch x.number) := by
    funext v n
    exact v.recordDispatch_eq x.number n
  have leaves : (fun e : OrderEntry => !decide (e.state = .planned plan)) = fun e => decide (e.state ≠ .planned plan) := by
    funext e
    exact (decide_not (p := e.state = .planned plan)).symm
  rw [number, State.served_eq (s := s.setLoan k _) (by exact hp), walk, leaves]
  generalize hB : State.removeItem _ x.number = B
  obtain ⟨rack, hrack, hlen, hslot⟩ := State.foldl_setSlot (s := B) (Slot.recordDispatch x.number)
    (by rw [← hB]; exact hs) (l := slotNumbers) (by decide) fun n hn => hn
  refine ⟨rack, hlen, fun n hn => ?_, ?_⟩
  · refine (hslot n hn).trans ?_
    rw [if_pos hn, ← hB]
    rfl
  · rw [hrack, State.appendEntry_eq, ← hB]
    rfl

theorem State.dispatchSet_eq (t copy k : Nat) {u : Title} (hu : s.title t = some u) :
    s.dispatchSet c x t copy k = ((s.setRecords { s.records with
        patrons := s.records.patrons.put x.patron
          (r.served (r.orders.filter (fun e => decide (e.state ≠ .allocated x.number copy)))
            (historyAdd r.history u.catalogue) c.date)
        titles := s.records.titles.put t { u with copies := u.copies.set (copy - 1) (.loan k) }
        loans := s.records.loans.put k
          { kind := .set t copy u.volumes [], patron := x.patron, overdue := false, dispatch := c.date
            due := s.dueDate true c.date, stage := 0 } }).setPlanner
        { s.planner with due := s.planner.due || decide (r.deferral = .fillLow) }).setMail
          (s.mailWithout c x.number
            { item := x.number, patronNumber := r.number, what := .inr (u.catalogue, copy), loan := k }
            ((s.mail.close.map (fun c => { c with selection := c.selection.filter (· ≠ x.number) })).map
              (fun c => { c with anySet := true }))) := by
  have number : s.patronNumber x.patron = r.number := by simp [State.patronNumber, hp]
  have catalogue : s.catalogue t = u.catalogue := by simp [State.catalogue, hu]
  have volumes : s.volumesOf t = u.volumes := by simp [State.volumesOf, hu]
  have leaves : (fun e : OrderEntry => !decide (e.state = .allocated x.number copy)) =
      fun e => decide (e.state ≠ .allocated x.number copy) := by
    funext e
    exact (decide_not (p := e.state = .allocated x.number copy)).symm
  unfold State.dispatchSet
  dsimp only
  rw [number, catalogue, volumes, State.moveCopy, State.onTitle]
  have there (l : Loan) : (s.setLoan k l).title t = some u := hu
  rw [there]
  dsimp only
  rw [State.served_eq (by exact hp), leaves, State.appendEntry_eq]
  rfl

end

/-! ## What the end of a close keeps -/

/-- What depends on the records alone and what each allocation keeps, the end of a close keeps. -/
theorem State.afterDispatch_keeps {P : State → Prop} (hP : ∀ (t u : State) j, P t → t.sweepOnce j = some u → P u)
    (hrec : ∀ t u : State, t.records = u.records → P t → P u) {u : State} (hu : P u) : P u.afterDispatch := by
  unfold State.afterDispatch
  split
  · next c hc =>
    split
    · rw [State.closeEnd_eq]
      refine hrec (u.closed c.anySet u.mail.openBatch) _ (by simp) ?_
      unfold State.closed
      split
      · dsimp only
        split
        · exact State.sweep_keeps hP (by exact hrec u _ (by rfl) hu) _
        · exact hrec u _ rfl hu
      · exact hrec u _ rfl hu
    · exact hu
  · exact hu

theorem State.kept_afterDispatch (u : State) (j : Nat) :
    (u.afterDispatch.patron j).map Patron.kept = (u.patron j).map Patron.kept :=
  State.afterDispatch_keeps (P := fun v => (v.patron j).map Patron.kept = (u.patron j).map Patron.kept)
    (fun v w t hv hw => (State.kept_sweepOnce hw j).trans hv)
    (fun v w hvw hv => by rw [State.patron, ← hvw]; exact hv) rfl

theorem State.copies_afterDispatch {u : State} {t i : Nat} {y : CopyPlace} (hy : y ≠ .shelf)
    (hu : ∃ w, u.title t = some w ∧ w.copies[i]? = some y) :
    ∃ w, u.afterDispatch.title t = some w ∧ w.copies[i]? = some y :=
  State.afterDispatch_keeps (P := fun v => ∃ w, v.title t = some w ∧ w.copies[i]? = some y)
    (fun v w j ⟨x, hx, hc⟩ hw => State.copies_sweepOnce hw hx hc hy)
    (fun v w hvw hv => by rw [State.title, ← hvw]; exact hv) hu

/-- No FILL_LOW deferral of a patron's is there. -/
def State.notLow (s : State) (j : Nat) : Prop := (s.patron j).map (·.deferral) ≠ some .fillLow

theorem State.notLow.onPatron {s : State} {j : Nat} (h : s.notLow j) (k : Nat) (f : Patron → Patron)
    (hf : ∀ p, (f p).deferral = p.deferral) : (s.onPatron k f).notLow j := by
  rw [State.notLow, State.patron_onPatron_map s k j f _ hf]
  exact h

theorem State.notLow.clearFillLow {s : State} {j : Nat} (h : s.notLow j) (k : Nat) : (s.clearFillLow k).notLow j := by
  rcases State.cleared_clearFillLow s k j with he | ⟨p, hp, he⟩
  · rw [State.notLow, he]
    exact h
  · rw [State.notLow, he]
    exact fun h => nomatch Option.some.inj h

theorem State.notLow_sweepOnce {s u : State} {t : Nat} (h : s.sweepOnce t = some u) {j : Nat} (hs : s.notLow j) :
    u.notLow j := by
  obtain ⟨r, c, p, -, -, -, -, rfl⟩ := State.sweepOnce_cases h
  have held : (((s.leaveHold p t).moveCopy t c .item).addItem p (.set t c) .awaitingPull).notLow j := by
    have patrons : (((s.leaveHold p t).moveCopy t c .item).addItem p (.set t c) .awaitingPull).records.patrons =
        s.records.patrons := by simp [State.leaveHold]
    rw [State.notLow, State.patron, patrons]
    exact hs
  have counted := (held.onPatron p (fun r => { r with setCount := r.setCount + 1 }) fun _ => rfl).clearFillLow p
  exact (counted.onPatron p (fun r => { r with
    orders := r.orders.map (fun e => if e.title = t then { e with state := .allocated s.nextItem c } else e) })
    fun _ => rfl).clearFillLow p

theorem State.notLow_afterDispatch {u : State} {j : Nat} (hu : u.notLow j) : u.afterDispatch.notLow j :=
  State.afterDispatch_keeps (P := fun v => v.notLow j) (fun v w t hv hw => State.notLow_sweepOnce hw hv)
    (fun v w hvw hv => by rw [State.notLow, State.patron, ← hvw]; exact hv) hu

theorem State.batch_afterDispatch {u : State} {b : Manifest} (hb : u.mail.openBatch = some b) :
    u.afterDispatch.mail.openBatch = some b ∨ b ∈ u.afterDispatch.mail.manifests := by
  unfold State.afterDispatch
  split
  · next c hc =>
    split
    · refine .inr ?_
      have kept : ((u.closed c.anySet u.mail.openBatch).takeWaiting).mail.manifests =
          (u.closed c.anySet u.mail.openBatch).mail.manifests := by simp
      rw [State.closeEnd_eq, kept, hb, State.closed]
      dsimp only
      split
      · simp
      · simp
    · exact .inl hb
  · exact .inl hb

end Sys2Proof.Machine

namespace Sys2Proof.Proofs

open Sys2Proof Sys2Proof.Machine

/-- Settles O54: a dispatch, and then the end of the close where no selected item is left. -/
theorem itemsDispatched : Obligations.ItemsDispatched := by
  unfold Obligations.ItemsDispatched
  intro ended
  have closes (u : State) (c : Close) : u.closeEnd c = ended u c.anySet u.mail.openBatch := by
    rw [State.closeEnd_eq, State.takeWaiting_eq]
    obtain ⟨waiting, calendar⟩ := u.closed_frame c.anySet u.mail.openBatch
    simp only [State.rolling, State.today, State.now, waiting, calendar]
    rfl
  refine ⟨fun s c m k rest x r hr hq hsh ho hn hc hsel hx hp hk1 hk2 hk hlow => ?_, fun s c hr hq hc hsel => ?_,
    fun h cat => ⟨historyAdd_of_mem, fun hc => (historyAdd_of_not_mem hc).1, fun hc => (historyAdd_of_not_mem hc).2⟩,
    fun s isSet day => ⟨fun h => if_pos h, fun h => ?_⟩⟩
  · intro left number batch served mail goesOn
    have hxm : x.number = m := by simpa using List.find?_some hx
    have item : s.nextDispatch = some (c, some x) := by simp only [State.nextDispatch, hc, hsel, hx]
    have free : s.records.loans.free Config.loanMax = some k :=
      Table.free_eq ho.2.2.1 (fun e he => (hn.2.2.1 e he).1) hk1 hk2 hk hlow
    have chosen : s.mail.close.map (fun c => { c with selection := c.selection.filter (· ≠ x.number) }) =
        some { c with selection := rest.filter (fun j => decide (j ≠ m)) } := by
      simp [hc, hsel, hxm]
    have stays (u : State) (anySet : Bool)
        (hclose : u.mail.close = some { c with selection := rest.filter (fun j => decide (j ≠ m)), anySet := anySet })
        (h : ∃ m' ∈ rest, m' ≠ m) : u.afterDispatch = u := by
      obtain ⟨m', hm', hne⟩ := h
      have there : rest.filter (fun j => decide (j ≠ m)) ≠ [] :=
        List.ne_nil_of_mem (List.mem_filter.2 ⟨hm', decide_eq_true hne⟩)
      simp only [State.afterDispatch, hclose, List.isEmpty_iff, there, if_false]
    have keeps (u : State) (anySet : Bool) (orders : List OrderEntry) (history : List Nat)
        (hclose : u.mail.close = some { c with selection := rest.filter (fun j => decide (j ≠ m)), anySet := anySet })
        (hu : u.patron x.patron = some (served orders history)) : ∃ q, u.afterDispatch.patron x.patron = some q ∧
          q.history = history ∧ q.lastService = some c.date ∧ q.cartCount = r.cartCount ∧ left q orders := by
      have unlow : (if r.deferral = .fillLow then Deferral.none else r.deferral) ≠ .fillLow := by
        split
        · exact nofun
        · next h => exact h
      have low := State.notLow_afterDispatch (u := u) (j := x.patron) (by
        rw [State.notLow, hu]
        exact fun h => unlow (Option.some.inj h))
      have kept := u.kept_afterDispatch x.patron
      rw [hu, Option.map_some] at kept
      obtain ⟨q, hq, he⟩ := Option.map_eq_some_iff.1 kept
      rw [State.notLow, hq] at low
      have qlow : q.deferral ≠ .fillLow := fun h => low (congrArg some h)
      simp only [Patron.kept, Prod.mk.injEq] at he
      obtain ⟨titles, hist, service, carts, deferral⟩ := he
      refine ⟨q, hq, hist, service, carts, titles, fun h => ?_, ?_⟩
      · rw [stays u anySet hclose h, hu] at hq
        rw [← Option.some.inj hq]
      · rw [Deferral.unlow, if_neg qlow, Deferral.unlow, if_neg (by exact unlow)] at deferral
        exact deferral
    have goes (i : Instr) (u : State) (anySet : Bool) (b : Manifest)
        (hstep : exec i s = .next u.afterDispatch.takeTrigger) (hb : u.mail.openBatch = some b)
        (hclose : u.mail.close = some { c with selection := rest.filter (fun j => decide (j ≠ m)), anySet := anySet }) :
        goesOn i u anySet b := by
      refine ⟨fun ⟨m', hm', hne⟩ => ?_, fun h => ?_⟩
      · rw [hstep, stays u anySet hclose ⟨m', hm', hne⟩]
      · have none : rest.filter (fun j => decide (j ≠ m)) = [] :=
          List.filter_eq_nil_iff.2 fun j hj => by simp [h j hj]
        have closed : u.afterDispatch = ended u anySet (some b) := by
          rw [none] at hclose
          simp only [State.afterDispatch, hclose, List.isEmpty_nil, if_true, closes, hb]
        rw [hstep, closed]
    refine ⟨fun plan serial p hkind hplan => ?_, fun title copy ti hkind hti hform hc1 hc15 => ?_⟩
    · intro cats loan entry
      have catsOf : s.planCatalogues plan = cats := by simp only [State.planCatalogues, hplan]; rfl
      obtain ⟨rack, hlen, hslots, hdisp⟩ := State.dispatchCartridge_eq (c := c) hp hsh.1 plan serial k
      have step : exec .dispatchCartridgeItem s =
          .next (s.dispatchCartridge c x plan serial k).afterDispatch.takeTrigger := by
        rw [exec_dispatchCartridgeItem hr, State.stepCartridge, item]
        simp only [hkind, free]
      rw [chosen, catsOf, hxm] at hdisp
      rw [hdisp] at step
      have goesRack := goes _ _ c.anySet (batch entry) step rfl rfl
      refine ⟨?_, rack, hlen, fun n hn => ?_, goesRack⟩
      · generalize hU : State.setMail _ (s.mailWithout c m _ _) = U at step
        have patron : U.patron x.patron = some (served (r.orders.filter (fun e => decide (e.state ≠ .planned plan)))
            (cats.foldl historyAdd r.history)) := by
          rw [← hU]
          exact Table.look_put _ _ _
        have rackU : U.rack = rack := by rw [← hU]; rfl
        obtain ⟨q, hq, history, service, carts, left'⟩ := keeps U c.anySet _ _ (by rw [← hU]; rfl) patron
        have open' : U.mail.openBatch = some (batch entry) := by rw [← hU]; rfl
        refine ⟨_, q, batch entry, step, ?_, ?_, ?_, history, service, carts, left', ?_, s.mem_batchWith c entry,
          fun n hn hdone hitem => ?_⟩
        · simp only [State.loan, State.takeTrigger_frame, State.afterDispatch_frame]
          rw [← hU]
          exact Table.look_put _ _ _
        · simp only [State.plan, State.takeTrigger_frame, State.afterDispatch_frame]
          rw [← hU]
          exact Table.look_del _ plan ho.2.2.2.1
        · simp only [State.patron, State.takeTrigger_frame]
          exact hq
        · simp only [State.takeTrigger_frame]
          exact State.batch_afterDispatch open'
        · have slot : U.afterDispatch.takeTrigger.slot n = (s.slot n).recordDispatch m := by
            simp only [State.slot, State.takeTrigger_frame, State.afterDispatch_frame, rackU]
            exact hxm ▸ hslots n hn
          rw [slot, Slot.recordDispatch, if_pos ⟨hdone, hitem⟩]
          exact ⟨rfl, rfl⟩
      · obtain ⟨h1, h8⟩ := mem_slotNumbers.1 hn
        have inside : n - 1 < rack.length := by omega
        have slot : rack.getD (n - 1) Slot.bare = (s.slot n).recordDispatch m := hxm ▸ hslots n hn
        rw [List.getD_eq_getElem?_getD, List.getElem?_eq_getElem inside, Option.getD_some] at slot
        rw [List.getElem?_eq_getElem inside, slot]
        rfl
    · intro loan entry
      have hdisp := State.dispatchSet_eq (c := c) hp title copy k hti
      have step : exec .dispatchSetItem s = .next (s.dispatchSet c x title copy k).afterDispatch.takeTrigger := by
        rw [exec_dispatchSetItem hr, State.stepSet, item]
        simp only [hkind, free]
      have quiet : (s.planner.due || decide (r.deferral = .fillLow)) = decide (r.deferral = .fillLow) := by
        rw [show s.planner.due = false from hq, Bool.false_or]
      rw [chosen, hxm, quiet] at hdisp
      rw [hdisp] at step
      have goesOn' := goes _ _ true (batch entry) step rfl rfl
      refine ⟨?_, goesOn'⟩
      generalize hU : State.setMail _ (s.mailWithout c m _ _) = U at step
      have patron : U.patron x.patron = some (served
          (r.orders.filter (fun e => decide (e.state ≠ .allocated m copy))) (historyAdd r.history ti.catalogue)) := by
        rw [← hU]
        exact Table.look_put _ _ _
      obtain ⟨q, hq, history, service, carts, left'⟩ := keeps U true _ _ (by rw [← hU]; rfl) patron
      have open' : U.mail.openBatch = some (batch entry) := by rw [← hU]; rfl
      have places : copy - 1 < ti.copies.length := by
        have fifteen : ti.copies.length = 15 := hsh.2.2.2.2 _ (Table.mem_of_look hti) hform
        omega
      have moved : ∃ w, U.title title = some w ∧ w.copies[copy - 1]? = some (.loan k) := by
        refine ⟨{ ti with copies := ti.copies.set (copy - 1) (.loan k) }, ?_, by simp [places]⟩
        rw [← hU]
        exact Table.look_put _ _ _
      obtain ⟨u, hu, hcopy⟩ := State.copies_afterDispatch (y := .loan k) nofun moved
      refine ⟨_, q, batch entry, u, step, ?_, ?_, hcopy, ?_, history, service, left', ?_, s.mem_batchWith c entry⟩
      · simp only [State.loan, State.takeTrigger_frame, State.afterDispatch_frame]
        rw [← hU]
        exact Table.look_put _ _ _
      · simp only [State.title, State.takeTrigger_frame]
        exact hu
      · simp only [State.patron, State.takeTrigger_frame]
        exact hq
      · simp only [State.takeTrigger_frame]
        exact State.batch_afterDispatch open'
  · have next : s.nextDispatch = some (c, none) := by simp only [State.nextDispatch, hc, hsel]
    rw [exec_dispatchCartridgeItem hr, exec_dispatchSetItem hr, State.stepCartridge, State.stepSet, next, ← closes]
    exact ⟨rfl, rfl⟩
  · have due : s.dueDate isSet day = stepDue s.calendar.closed (day + if isSet then s.link.settings.setDays
        else s.link.settings.cartDays) 14 := if_neg (Nat.not_lt.2 h)
    rw [due]
    exact stepDue_eq s.calendar.closed 14 _ h

end Sys2Proof.Proofs

end

section
/-!
PROOF. Starts (R60, R66, R83, R113, R167, R191, R192): what the rebuild keeps and makes anew; obligations O26 to O28.
-/

namespace Sys2Proof.Machine

/-! ## Plans back to the Job Queue -/

/-- An entry of a table written over is the table with that entry written over. -/
theorem Table.put_eq_map {α : Type} {a : Table α} (ha : a.rising = true) {k : Nat} {v : α} (hk : a.look k = some v)
    (f : α → α) : a.put k (f v) = a.map (fun e => (e.1, if e.1 = k then f e.2 else e.2)) := by
  induction a with
  | nil => cases hk
  | cons e a ih =>
    obtain ⟨j, w⟩ := e
    obtain ⟨first, rest⟩ := Table.rising_cons.1 ha
    by_cases hj : j = k
    · subst hj
      have here : w = v := by simpa [Table.look] using hk
      have others : a.map (fun e => (e.1, if e.1 = j then f e.2 else e.2)) = a := by
        refine (List.map_congr_left fun e he => ?_).trans a.map_id
        have apart : e.1 ≠ j := (first e he).ne'
        simp [apart]
      simp only [Table.put, Nat.lt_irrefl, if_false, if_true, List.map_cons, others, here]
    · have there : Table.look a k = some v := by simpa [Table.look, hj] using hk
      have above : j < k := first (k, v) (Table.mem_of_look there)
      have notBelow : ¬ k < j := by omega
      simp only [Table.put, notBelow, if_false, Ne.symm hj, hj, List.map_cons, ih rest there]

theorem State.plans_returnPlan {s : State} (hs : s.planner.plans.rising = true) {n : Nat} {p : Plan}
    (hp : s.plan n = some p) : (s.returnPlan n).planner.plans =
      s.planner.plans.map (fun e => (e.1, if e.1 = n then { e.2 with state := .queued } else e.2)) := by
  have joined (u : State) (m : Nat) (r : Bool) : (u.joinHead m r).planner.plans = u.planner.plans := by simp
  rw [State.returnPlan, hp]
  exact (joined _ _ _).trans (Table.put_eq_map hs hp fun q => { q with state := .queued })

theorem State.isRush_eq {s : State} {n : Nat} {p : Plan} (hp : s.plan n = some p) : s.isRush n = p.rush := by
  rw [State.isRush, hp]
  rfl

/-- A plan's group is its own for good. -/
theorem State.isRush_returnPlan (s : State) (n m : Nat) : (s.returnPlan n).isRush m = s.isRush m := by
  unfold State.returnPlan
  split
  · next p hp =>
    have joined (u : State) (m : Nat) (r : Bool) : (u.joinHead m r).planner.plans = u.planner.plans := by simp
    rw [State.isRush, State.plan, joined]
    by_cases hm : m = n
    · subst hm
      have now : Table.look (s.setPlan m { p with state := .queued }).planner.plans m = some { p with state := .queued } :=
        Table.look_put _ _ _
      rw [now, State.isRush_eq hp]
      rfl
    · have same : Table.look (s.setPlan n { p with state := .queued }).planner.plans m = s.plan m :=
        Table.look_put_of_ne _ _ hm
      rw [same]
      rfl
  · rfl

theorem State.rushJobs_eq (s : State) (q : List Nat) : s.rushJobs q = q.countP s.isRush := rfl

theorem State.queue_returnPlan {s : State} {n : Nat} {p : Plan} (hp : s.plan n = some p) :
    (s.returnPlan n).planner.queue =
      if s.isRush n then n :: s.planner.queue
      else s.planner.queue.take (s.rushJobs s.planner.queue) ++ n :: s.planner.queue.drop (s.rushJobs s.planner.queue) := by
  have rushes : (s.setPlan n { p with state := .queued }).isRush = s.isRush := by
    funext m
    by_cases hm : m = n
    · subst hm
      have now : (s.setPlan m { p with state := .queued }).plan m = some { p with state := .queued } :=
        Table.look_put _ _ _
      rw [State.isRush_eq now, State.isRush_eq hp]
    · have same : (s.setPlan n { p with state := .queued }).plan m = s.plan m := Table.look_put_of_ne _ _ hm
      rw [State.isRush, same]
      rfl
  rw [State.returnPlan, hp]
  dsimp only
  rw [State.joinHead, State.isRush_eq hp, State.rushJobs_eq, State.rushJobs_eq, rushes]
  split
  · rfl
  · rfl

/-- Plans returned one after another: the rush ones at the head of their group, the others at the head of theirs. -/
theorem State.foldl_returnPlan {s : State} (hs : s.planner.plans.rising = true) (l : List Nat)
    (hl : ∀ n ∈ l, s.plan n ≠ none) :
    (l.foldl State.returnPlan s).planner.plans = s.planner.plans.map (fun e =>
      (e.1, if e.1 ∈ l then { e.2 with state := .queued } else e.2)) ∧
    (l.foldl State.returnPlan s).planner.queue =
      l.reverse.filter s.isRush ++ s.planner.queue.take (s.rushJobs s.planner.queue) ++
        (l.reverse.filter (fun n => !s.isRush n) ++ s.planner.queue.drop (s.rushJobs s.planner.queue)) := by
  induction l generalizing s with
  | nil =>
    refine ⟨?_, by simp⟩
    exact (List.map_id _).symm
  | cons n l ih =>
    obtain ⟨p, hp⟩ := Option.ne_none_iff_exists'.1 (hl n List.mem_cons_self)
    have plans := State.plans_returnPlan hs hp
    have rushes : (s.returnPlan n).isRush = s.isRush := funext fun m => s.isRush_returnPlan n m
    have rising : (s.returnPlan n).planner.plans.rising = true := by
      rw [plans]
      exact (Table.rising_map _ _ (by exact fun _ => rfl)).trans hs
    obtain ⟨ihp, ihq⟩ := ih rising fun m hm => by
      have look := Table.look_map s.planner.plans
        (fun e => if e.1 = n then { e.2 with state := .queued } else e.2) m
      rw [State.plan, plans, look]
      have := hl m (List.mem_cons_of_mem _ hm)
      rw [State.plan] at this
      simpa using this
    refine ⟨?_, ?_⟩
    · rw [List.foldl_cons, ihp, plans, List.map_map]
      refine List.map_congr_left fun e _ => ?_
      by_cases he : e.1 = n
      · by_cases hm : e.1 ∈ l <;> simp [he]
      · simp [he]
    · have few : s.rushJobs s.planner.queue ≤ s.planner.queue.length := List.countP_le_length
      rw [List.foldl_cons, ihq, State.rushJobs_eq, rushes, State.queue_returnPlan hp, State.rushJobs_eq]
      rw [State.rushJobs_eq] at few
      by_cases hr : s.isRush n = true
      · rw [if_pos hr, List.countP_cons_of_pos hr, List.take_succ_cons, List.drop_succ_cons]
        simp [hr]
      · have count : (s.planner.queue.take (s.planner.queue.countP s.isRush) ++
            n :: s.planner.queue.drop (s.planner.queue.countP s.isRush)).countP s.isRush =
              s.planner.queue.countP s.isRush := by
          rw [List.countP_append, List.countP_cons_of_neg hr, ← List.countP_append, List.take_append_drop]
        rw [if_neg hr, count]
        simp [hr, few]

/-- A plan is bound to a slot of the rack. -/
theorem State.mem_boundPlans {s : State} (hs : s.planner.plans.rising = true) {e : Nat × Plan}
    (he : e ∈ s.planner.plans) :
    e.1 ∈ slotNumbers.reverse.flatMap s.boundPlans ↔ ∃ k ∈ slotNumbers, e.2.state = .inSlot k := by
  simp only [List.mem_flatMap, List.mem_reverse, State.boundPlans, List.mem_map, List.mem_filter, decide_eq_true_eq]
  constructor
  · rintro ⟨k, hk, x, ⟨hx, hst⟩, hkey⟩
    have look := Table.look_of_mem hs hx
    rw [hkey, Table.look_of_mem hs he] at look
    exact ⟨k, hk, by rw [Option.some.inj look]; exact hst⟩
  · rintro ⟨k, hk, hst⟩
    exact ⟨k, hk, e, ⟨he, hst⟩, rfl⟩

/-- What the rebuild makes of a plan's state: one in a slot of the rack is QUEUED again (R60). -/
def PlanState.returned (st : PlanState) : PlanState :=
  match st with
  | .inSlot k => if k ∈ slotNumbers then .queued else .inSlot k
  | st => st

theorem State.rebuildPlans_does {s : State} (hs : s.planner.plans.rising = true) :
    s.rebuildPlans.planner.plans = s.planner.plans.map (fun e => (e.1, { e.2 with state := e.2.state.returned })) ∧
    s.rebuildPlans.planner.queue = s.bound.filter s.isRush ++ s.planner.queue.take (s.rushJobs s.planner.queue) ++
      (s.bound.filter (fun n => !s.isRush n) ++ s.planner.queue.drop (s.rushJobs s.planner.queue)) := by
  obtain ⟨plans, queue⟩ := State.foldl_returnPlan hs (slotNumbers.reverse.flatMap s.boundPlans) fun n hn => by
    simp only [List.mem_flatMap, State.boundPlans, List.mem_map, List.mem_filter] at hn
    obtain ⟨k, -, e, ⟨he, -⟩, rfl⟩ := hn
    have look : s.plan e.1 = some e.2 := Table.look_of_mem hs he
    rw [look]
    exact nofun
  refine ⟨?_, queue⟩
  rw [State.rebuildPlans, plans]
  refine List.map_congr_left fun e he => ?_
  have bound := State.mem_boundPlans hs he
  by_cases hb : ∃ k ∈ slotNumbers, e.2.state = .inSlot k
  · obtain ⟨k, hk, hst⟩ := id hb
    have returned : e.2.state.returned = .queued := by rw [hst, PlanState.returned, if_pos hk]
    rw [if_pos (bound.2 hb), returned]
  · have returned : e.2.state.returned = e.2.state := by
      unfold PlanState.returned
      split
      · next k hst => rw [if_neg fun hk => hb ⟨k, hk, hst⟩, hst]
      · rfl
    rw [if_neg (mt bound.1 hb), returned]

/-! ## Images begun anew -/

/-- What a start keeps of an image: a RESIDENT one whole but for its pins, a FILLING one as begun (R83). -/
def Image.Restarted (e f : Image) : Prop :=
  f.resident = e.resident ∧ (e.resident = true → f.blocks = e.blocks ∧ f.filled = e.filled ∧ f.sum = e.sum) ∧
    (e.resident = false → f.filled = 0 ∧ f.sum = 0#32)

/-- The Resident Image Table of a start: the same titles, each image restarted. -/
def Table.Restarted (a b : Table Image) : Prop :=
  b.rising = true ∧ b.map (·.1) = a.map (·.1) ∧ ∀ k e, a.look k = some e → ∃ f, b.look k = some f ∧ e.Restarted f

theorem Table.Restarted.map {a b : Table Image} (h : a.Restarted b) (g : Nat × Image → Image)
    (hg : ∀ k (e f : Image), e.Restarted f → e.Restarted (g (k, f))) :
    a.Restarted (b.map (fun e => (e.1, g e))) := by
  obtain ⟨rising, keys, each⟩ := h
  refine ⟨(Table.rising_map _ _ (by exact fun _ => rfl)).trans rising, ?_, fun k e he => ?_⟩
  · rw [List.map_map]
    exact keys
  · obtain ⟨f, hf, hef⟩ := each k e he
    exact ⟨g (k, f), by rw [Table.look_map, hf]; rfl, hg k e f hef⟩

theorem State.refill_restarted {s : State} {a : Table Image} (h : a.Restarted s.store.images) (x : Nat × Nat) :
    a.Restarted (s.refill x).store.images := by
  unfold State.refill State.onImage
  split
  · next e he =>
    have put := Table.put_eq_map h.1 he
      (fun m => if m.resident then m else { m with blocks := allocateBlocks s.heldBlocks x.2 })
    have images (v : Image) : (s.setImage x.1 v).store.images = s.store.images.put x.1 v := rfl
    rw [images, put]
    refine h.map _ fun k e f hef => ?_
    dsimp only
    split
    · split
      · exact hef
      · next hr =>
        have hr : f.resident = false := Bool.not_eq_true _ |>.mp hr
        refine ⟨hef.1, fun he => ?_, fun he => hef.2.2 he⟩
        rw [hef.1, he] at hr
        cases hr
    · exact hef
  · exact h

theorem State.recreateFilling_restarted {s : State} (hs : s.store.images.rising = true) :
    s.store.images.Restarted s.recreateFilling.store.images := by
  have begun : s.store.images.Restarted (s.store.images.map (fun e => (e.1, e.2.discard))) := by
    refine ⟨(Table.rising_map _ _ (by exact fun _ => rfl)).trans hs, ?_, fun k e he => ⟨e.discard, ?_, ?_⟩⟩
    · rw [List.map_map]
      rfl
    · rw [Table.look_map s.store.images (fun e => e.2.discard), he]
      rfl
    · unfold Image.discard
      split
      · next hr => exact ⟨rfl, fun _ => ⟨rfl, rfl, rfl⟩, fun hf => by rw [hr] at hf; cases hf⟩
      · next hr => exact ⟨rfl, fun ht => absurd ht hr, fun _ => ⟨rfl, rfl⟩⟩
  have filled (l : List (Nat × Nat)) (u : State) (hu : s.store.images.Restarted u.store.images) :
      s.store.images.Restarted (l.foldl State.refill u).store.images := by
    induction l generalizing u with
    | nil => exact hu
    | cons x l ih => exact ih _ (State.refill_restarted hu x)
  exact filled _ _ begun

/-- The store of a start: its images restarted and their pins counted, its fetches waiting from their first frame. -/
theorem State.rebuildImages_does {s : State} (hs : s.store.images.rising = true) :
    s.store.images.Restarted s.rebuildImages.store.images ∧
    (∀ e ∈ s.rebuildImages.store.images, e.2.pins = s.queuedPlacing e.1) ∧
    s.rebuildImages.store.fetches = s.store.fetches.map (fun f => { f with state := .waiting, next := 0 }) := by
  have restarted := State.recreateFilling_restarted hs
  have store : s.rebuildImages.store = { s.recreateFilling.store with
      images := s.recreateFilling.store.images.map (fun e => (e.1, { e.2 with pins := s.recreateFilling.queuedPlacing e.1 }))
      fetches := s.recreateFilling.store.fetches.map (fun f => { f with state := .waiting, next := 0 })
      banks := List.replicate Config.banks Bank.idle } := by
    unfold State.rebuildImages
    dsimp only
    split
    · rfl
    · rfl
  have fetches : s.recreateFilling.store.fetches = s.store.fetches := by simp
  have placing (t : Nat) : s.recreateFilling.queuedPlacing t = s.queuedPlacing t := by simp [State.queuedPlacing]
  rw [store]
  refine ⟨?_, fun e he => ?_, by rw [← fetches]⟩
  · exact restarted.map (fun e => { e.2 with pins := s.recreateFilling.queuedPlacing e.1 }) fun k e f h => h
  · obtain ⟨x, -, rfl⟩ := List.mem_map.1 he
    exact placing x.1

/-! ## The pending result and the reader -/

/-- What the completion of a result may have pushed: nothing, or one entry of its serial on top of a bin. -/
def Returns.Pushed (x y : Returns) (serial : Option Nat) : Prop :=
  ∃ e : BinEntry, e.serial = serial ∧
    ((y.reuse = x.reuse ∧ y.inspect = x.inspect) ∨ (y.reuse = e :: x.reuse ∧ y.inspect = x.inspect) ∨
      (y.reuse = x.reuse ∧ y.inspect = e :: x.inspect))

/-- The serial's relation, and the records it leaves, do not hang on the reader. -/
theorem State.relate_setReturns (u : State) (serial : Nat) :
    ∃ rel w, ∀ x, (u.setReturns x).relate serial = (rel, State.setReturns w x) := by
  cases hl : u.serialLoan serial with
  | some e => exact ⟨_, _, fun x => State.relate_loan x hl⟩
  | none =>
    cases hx : u.lostSerial serial with
    | some l => exact ⟨_, _, fun x => State.relate_lost x hl hx⟩
    | none => exact ⟨_, _, fun x => State.relate_none x hl hx⟩

theorem State.binCartridge_leaves (w : State) (x : Returns) (c : Classification) (r : Result) :
    ((w.setReturns x).binCartridge c r).records = w.records ∧
      ((w.setReturns x).binCartridge c r).returns.pending = x.pending ∧
      ((w.setReturns x).binCartridge c r).returns.present = x.present ∧
      x.Pushed ((w.setReturns x).binCartridge c r).returns r.serial := by
  have fills (n : Nat) : (w.fills n).records = w.records := by
    unfold State.fills
    split
    · rfl
    · rfl
  cases hc : chooseBin c x.reuse.length x.inspect.length with
  | mk bin spill =>
    cases bin with
    | none =>
      rw [State.binCartridge_none hc]
      exact ⟨rfl, rfl, rfl, { serial := r.serial, reason := c.reason, date := 0 }, rfl, .inl ⟨rfl, rfl⟩⟩
    | some b =>
      obtain ⟨b, reason⟩ := b
      rw [State.binCartridge_some rfl hc]
      refine ⟨fills _, ?_, ?_, { serial := r.serial, reason := reason, date := w.today }, rfl, .inr ?_⟩
      · cases b <;> rfl
      · cases b <;> rfl
      · cases b with
        | reuse => exact .inl ⟨rfl, rfl⟩
        | inspect => exact .inr ⟨rfl, rfl⟩

theorem State.completePending_does {u : State} {p : Pending} (hp : u.returns.pending = some p) :
    u.completePending.records = (u.relate p.serial).2.records ∧ u.completePending.returns.pending = none ∧
      u.completePending.returns.present = u.returns.present ∧
      u.returns.Pushed u.completePending.returns (some p.serial) := by
  obtain ⟨rel, w, hrel⟩ := u.relate_setReturns p.serial
  have records : (u.relate p.serial).2.records = w.records := congrArg (fun r => r.2.records) (hrel u.returns)
  rw [records]
  cases hslot : u.serialSlot p.serial (fun _ => true) with
  | some n =>
    rw [State.completePending_eq hp (t := (u.setReturns { u.returns with pending := none }).classifyHeld p n)
      (by rw [hslot]), State.classifyHeld, hrel]
    exact ⟨rfl, rfl, rfl, { serial := some p.serial, reason := .worn, date := 0 }, rfl, .inl ⟨rfl, rfl⟩⟩
  | none =>
    rw [State.completePending_eq hp
      (t := (u.setReturns { u.returns with pending := none }).classify p.serial p.cls p.cycles)
      (by rw [hslot]), State.classify, hrel]
    obtain ⟨records, pending, present, pushed⟩ := State.binCartridge_leaves w { u.returns with pending := none }
      (classOf p.cycles rel.kind)
      { (u.setReturns { u.returns with pending := none }).blankResult (some (p.serial, p.cls, p.cycles)) with
        loan := rel.loan, patron := rel.patron }
    exact ⟨records, pending, present, pushed⟩

/-! ## The rebuild -/

theorem State.rebuildMail_does (s : State) : s.rebuildMail.mail.openBatch = none ∧
    s.rebuildMail.mail.manifests = (match s.mail.openBatch with
      | some m => if m.entries = [] then s.mail.manifests else storeManifest s.mail.manifests m
      | none => s.mail.manifests) := by
  unfold State.rebuildMail
  cases hb : s.mail.openBatch with
  | none => exact ⟨hb, rfl⟩
  | some m =>
    dsimp only
    by_cases he : m.entries = []
    · rw [if_pos (List.isEmpty_iff.2 he), if_pos he]
      exact ⟨rfl, rfl⟩
    · rw [if_neg (mt List.isEmpty_iff.1 he), if_neg he]
      exact ⟨rfl, rfl⟩

/-- With no roll running, a start's roll is due by its clock alone (R167). -/
theorem State.rollDue_eq {s u : State} (hr : s.calendar.roll = none) (hc : u.calendar = s.calendar)
    (hs : u.link.settings = s.link.settings) : u.rollDue = s.rollOverdue := by
  have still : u.rolling = false := by rw [State.rolling, hc, hr]; rfl
  rw [State.rollDue, State.startTest, still, State.today, State.now, hc, hs]
  rfl

theorem State.beginService_does (s : State) : s.beginService.run = .running ∧
    s.beginService.returns = s.returns.startUp ∧ s.beginService.rack = s.rack.map Slot.startUp ∧
    s.beginService.calendar.roll.map (·.date) =
      if (s.setRun .running).rollDue then some s.today else s.calendar.roll.map (·.date) := by
  have base (u : State) (hu : u.run = .running ∧ u.returns = s.returns ∧ u.rack = s.rack) :
      (u.noteTrigger.takeTrigger.setRack (u.noteTrigger.takeTrigger.rack.map Slot.startUp)).run = .running ∧
        u.noteTrigger.takeTrigger.returns.startUp = s.returns.startUp ∧
        u.noteTrigger.takeTrigger.rack.map Slot.startUp = s.rack.map Slot.startUp ∧
        u.noteTrigger.takeTrigger.calendar = u.calendar := by
    obtain ⟨run, returns, rack⟩ := hu
    refine ⟨?_, ?_, ?_, ?_⟩
    · simpa using run
    · rw [← returns]; simp
    · rw [← rack]; simp
    · simp
  unfold State.beginService
  dsimp only
  split
  · obtain ⟨run, returns, rack, calendar⟩ := base (s.setRun .running).beginRoll ⟨rfl, rfl, rfl⟩
    exact ⟨run, returns, rack, congrArg (fun c => c.roll.map (·.date)) calendar⟩
  · obtain ⟨run, returns, rack, calendar⟩ := base (s.setRun .running) ⟨rfl, rfl, rfl⟩
    exact ⟨run, returns, rack, congrArg (fun c => c.roll.map (·.date)) calendar⟩

theorem State.rebuildReturns_none {u : State} (h : u.rollDue = true ∨ u.returns.pending = none) :
    u.rebuildReturns = u := by
  unfold State.rebuildReturns
  split
  · rfl
  · next hd =>
    rw [State.completePending, h.resolve_left hd]

theorem State.rebuildReturns_some {u : State} (h : u.rollDue = false) : u.rebuildReturns = u.completePending := by
  rw [State.rebuildReturns, h, if_neg Bool.false_ne_true]

theorem State.completing_eq_none {s : State} (h : s.completing = none) :
    s.rollOverdue = true ∨ s.returns.pending = none := by
  unfold State.completing at h
  split at h
  · next ho => exact .inl ho
  · exact .inr h

theorem State.completing_eq_some {s : State} {p : Pending} (h : s.completing = some p) :
    s.rollOverdue = false ∧ s.returns.pending = some p := by
  unfold State.completing at h
  split at h
  · cases h
  · next ho => exact ⟨Bool.not_eq_true _ |>.mp ho, h⟩

theorem State.onPatron_records {s u : State} (h : u.records = s.records) (k : Nat) (f : Patron → Patron) :
    (u.onPatron k f).records = (s.onPatron k f).records := by
  have same : u.patron k = s.patron k := by rw [State.patron, h]; rfl
  unfold State.onPatron
  rw [same]
  split
  · simp only [State.setPatron, State.setRecords, h]
  · exact h

theorem State.clearFillLow_records {s u : State} (h : u.records = s.records) (k : Nat) :
    (u.clearFillLow k).records = (s.clearFillLow k).records := by
  have same : u.patron k = s.patron k := by rw [State.patron, h]; rfl
  unfold State.clearFillLow
  rw [same]
  split
  · split
    · simp only [State.setPatron, State.setRecords, State.noteTrigger, State.setPlanner, h]
    · exact h
  · exact h

/-- A serial's relation depends on the records alone. -/
theorem State.relate_records {s u : State} (h : u.records = s.records) (serial : Nat) :
    (u.relate serial).2.records = (s.relate serial).2.records := by
  have loan : u.serialLoan serial = s.serialLoan serial := by rw [State.serialLoan, h]; rfl
  have lost : u.lostSerial serial = s.lostSerial serial := by rw [State.lostSerial, h]; rfl
  unfold State.relate
  rw [loan, lost]
  split
  · next id l _ =>
    have freed : (u.freeLoan id).records = (s.freeLoan id).records := by
      simp only [State.freeLoan, State.setRecords, h]
    exact State.clearFillLow_records (State.onPatron_records freed _ _) _
  · split
    · simp only [State.unlose, State.setLost, State.setRecords, h]
    · exact h

/-- What a start of a part with no roll running makes of it (R191, R192). -/
theorem State.rebuild_rebuilt {s : State} (hs : s.ordered) (hr : s.calendar.roll = none) : Rebuilt s s.rebuild := by
  obtain ⟨plans, queue⟩ := State.rebuildPlans_does hs.2.2.2.1
  obtain ⟨images, pins, fetches⟩ := State.rebuildImages_does (s := s.rebuildPlans) (by simpa using hs.2.2.2.2)
  generalize hu : s.rebuildPlans.rebuildImages.rebuildMail = u
  have built : s.rebuild = u.rebuildReturns.beginService := by rw [← hu]; rfl
  have calendar : u.calendar = s.calendar := by rw [← hu]; simp
  have settings : u.link.settings = s.link.settings := by rw [← hu]; simp
  have returns : u.returns = s.returns := by rw [← hu]; simp
  have records : u.records = s.records := by rw [← hu]; simp
  have due : u.rollDue = s.rollOverdue := State.rollDue_eq hr calendar settings
  obtain ⟨run, reader, rack, roll⟩ := u.rebuildReturns.beginService_does
  have dueThen : (u.rebuildReturns.setRun .running).rollDue = s.rollOverdue := by
    refine State.rollDue_eq hr ?_ ?_
    · exact (by simp : u.rebuildReturns.calendar = u.calendar).trans calendar
    · exact (by simp : u.rebuildReturns.link.settings = u.link.settings).trans settings
  have store : s.rebuild.store = s.rebuildPlans.rebuildImages.store := by simp [State.rebuild]
  have storePlans : s.rebuildPlans.store = s.store := by simp
  have planner : s.rebuild.planner.plans = s.rebuildPlans.planner.plans ∧
      s.rebuild.planner.queue = s.rebuildPlans.planner.queue := by simp [State.rebuild]
  have mails : s.rebuild.mail = s.rebuildPlans.rebuildImages.rebuildMail.mail := by simp [State.rebuild]
  obtain ⟨noBatch, manifests⟩ := s.rebuildPlans.rebuildImages.rebuildMail_does
  have mailBefore : s.rebuildPlans.rebuildImages.mail = s.mail := by simp
  rw [storePlans] at images fetches
  rw [mailBefore] at manifests
  have recordsThen : s.rebuild.records = u.rebuildReturns.records := by rw [built]; simp
  refine ⟨built ▸ run, by simp, by simp, planner.1.trans plans, by simp, planner.2.trans queue, ?_, by simp, by simp, ?_, ?_, ?_,
    by simp, ?_, fun hc => ?_, fun p hc => ?_, by simp, by simp, by simp, by simp, ?_, ?_, ?_, by simp, by simp, by simp,
    by simp, by simp, ?_⟩
  · rw [store, fetches]
  · rw [store, images.2.1]
  · intro k e he
    rw [State.image, store]
    exact images.2.2 k e he
  · rw [store]
    intro e he
    have placing : s.rebuild.queuedPlacing e.1 = s.rebuildPlans.queuedPlacing e.1 := by
      simp only [State.queuedPlacing, planner.1]
    rw [placing]
    exact pins e he
  · rw [recordsThen]
    cases hc : s.completing with
    | none =>
      rw [State.rebuildReturns_none (by rw [due, returns]; exact State.completing_eq_none hc)]
      exact records
    | some p =>
      obtain ⟨before, pending⟩ := State.completing_eq_some hc
      rw [State.rebuildReturns_some (by rw [due]; exact before),
        (State.completePending_does (by rw [returns]; exact pending)).1]
      exact State.relate_records records p.serial
  · rw [built, reader, State.rebuildReturns_none (by rw [due, returns]; exact State.completing_eq_none hc), returns]
    rfl
  · obtain ⟨before, pending⟩ := State.completing_eq_some hc
    obtain ⟨-, none, present, x, hx, pushed⟩ := State.completePending_does (u := u) (by rw [returns]; exact pending)
    rw [built, reader, State.rebuildReturns_some (by rw [due]; exact before)]
    rw [returns] at present pushed
    refine ⟨none, ?_, x, hx, pushed⟩
    simp only [Returns.startUp, none, present, Option.isSome_none, Bool.false_eq_true, if_false]
  · rw [mails]
    exact noBatch
  · rw [mails]
    exact manifests
  · rw [built, roll, dueThen]
    have today : u.rebuildReturns.today = s.today := by
      rw [State.today, (by simp : u.rebuildReturns.calendar = u.calendar), calendar]
      rfl
    have still : u.rebuildReturns.calendar.roll = none := by
      rw [(by simp : u.rebuildReturns.calendar = u.calendar), calendar, hr]
    rw [today, still]
    rfl
  · have same : u.rebuildReturns.rack = s.rack := by rw [← hu]; simp
    rw [built, rack, same]
    rfl

/-- The work ended, and the link and the run state written over. -/
def State.endedWith (s : State) (l : Link) (r : RunState) : State :=
  (s.endWork.setLink { l with settings := s.link.settings }).setRun r

/-- The two states hold the same of all that a start goes by. -/
structure State.SameRecords (u s : State) : Prop where
  pending : u.pending = s.pending
  drawn : u.drawn = s.drawn
  plans : u.planner.plans = s.planner.plans
  lastPlan : u.planner.lastPlan = s.planner.lastPlan
  queue : u.planner.queue = s.planner.queue
  fetches : u.store.fetches = s.store.fetches
  lastFetch : u.store.lastFetch = s.store.lastFetch
  recency : u.store.recency = s.store.recency
  images : u.store.images = s.store.images
  flash : u.store.flash = s.store.flash
  records : u.records = s.records
  bins : u.returns.reuse = s.returns.reuse ∧ u.returns.inspect = s.returns.inspect
  held : u.returns.pending = s.returns.pending ∧ u.returns.present = s.returns.present
  result : { u.returns with identifying := false, kept := none } = { s.returns with identifying := false, kept := none }
  tray : u.mail.tray = s.mail.tray
  alarms : u.mail.alarms = s.mail.alarms
  lastItem : u.mail.lastItem = s.mail.lastItem
  lastBatch : u.mail.lastBatch = s.mail.lastBatch
  openBatch : u.mail.openBatch = s.mail.openBatch
  manifests : u.mail.manifests = s.mail.manifests
  clock : u.calendar.clock = s.calendar.clock
  lastRoll : u.calendar.lastRoll = s.calendar.lastRoll
  closedDays : u.calendar.closedDays = s.calendar.closedDays
  reminders : u.calendar.reminders = s.calendar.reminders
  settings : u.link.settings = s.link.settings
  rack : u.rack.map Slot.present = s.rack.map Slot.present

theorem State.SameRecords.rack_map {u s : State} (h : u.SameRecords s) (f : Bool → Slot) :
    u.rack.map (fun sl => f sl.present) = s.rack.map (fun sl => f sl.present) := by
  have mapped := congrArg (List.map f) h.rack
  rwa [List.map_map, List.map_map] at mapped

/-- A start goes by these alone. -/
theorem Rebuilt.of_same {u s t : State} (same : u.SameRecords s) (h : Rebuilt u t) : Rebuilt s t := by
  obtain ⟨run, pending, drawn, plans, lastPlan, queue, fetches, lastFetch, recency, keys, images, pins, flash, records,
    reader, completed, tray, alarms, lastItem, lastBatch, openBatch, manifests, roll, clock, lastRoll, closedDays,
    reminders, settings, rack⟩ := h
  have rushes : u.isRush = s.isRush := by
    funext n
    simp only [State.isRush, State.plan, same.plans]
  have bound : u.bound = s.bound := by
    have each : u.boundPlans = s.boundPlans := by
      funext k
      simp only [State.boundPlans, same.plans]
    rw [State.bound, each, State.bound]
  have jobs : u.rushJobs = s.rushJobs := by
    funext q
    simp only [State.rushJobs, State.plan, same.plans]
  have now : u.now = s.now := by simp only [State.now, same.clock]
  have today : u.today = s.today := by simp only [State.today, same.clock]
  have overdue : u.rollOverdue = s.rollOverdue := by
    simp only [State.rollOverdue, today, now, same.clock, same.lastRoll, same.settings]
  have completing : u.completing = s.completing := by
    rw [State.completing, overdue, same.held.1, State.completing]
  have image : u.image = s.image := by
    funext k
    simp only [State.image, same.images]
  rw [rushes, bound, jobs, same.queue] at queue
  rw [completing] at reader completed records
  rw [overdue, today] at roll
  rw [image] at images
  rw [same.bins.1, same.bins.2, same.held.2] at completed
  refine ⟨run, pending.trans same.pending, drawn.trans same.drawn, same.plans ▸ plans, lastPlan.trans same.lastPlan, queue,
    same.fetches ▸ fetches, lastFetch.trans same.lastFetch, recency.trans same.recency, same.images ▸ keys, images, pins,
    flash.trans same.flash, ?_, fun hc => ?_, completed, tray.trans same.tray, alarms.trans same.alarms,
    lastItem.trans same.lastItem, lastBatch.trans same.lastBatch, openBatch, ?_, roll, clock.trans same.clock,
    lastRoll.trans same.lastRoll, closedDays.trans same.closedDays, reminders.trans same.reminders,
    settings.trans same.settings, ?_⟩
  · rw [records]
    cases s.completing with
    | none => exact same.records
    | some p => exact State.relate_records same.records p.serial
  · rw [reader hc, same.held.1, same.held.2]
    have result := same.result
    simp only [Returns.mk.injEq] at result ⊢
    simp only [result, and_self]
  · rw [manifests, same.openBatch, same.manifests]
  · rw [rack]
    exact same.rack_map fun b => if b then { Slot.bare.beginIdent with present := true } else Slot.bare

theorem State.rack_endedWith (s : State) (l : Link) (r : RunState) :
    (s.endedWith l r).rack.map Slot.present = s.rack.map Slot.present := by
  have lapsed : (s.endedWith l r).rack = s.rack.map Slot.lapse := rfl
  rw [lapsed, List.map_map]
  rfl

theorem State.endedWith_sameRecords (s : State) (l : Link) (r : RunState) : (s.endedWith l r).SameRecords s := by
  have rack := s.rack_endedWith l r
  constructor
  case rack => exact rack
  case bins => exact ⟨rfl, rfl⟩
  case held => exact ⟨rfl, rfl⟩
  case result => rfl
  all_goals rfl

/-- Ending the work first changes nothing of what a start makes. -/
theorem State.rebuild_endedWith {s : State} (hs : s.ordered) (l : Link) (r : RunState) :
    Rebuilt s (s.endedWith l r).rebuild :=
  (State.rebuild_rebuilt (s := s.endedWith l r) hs rfl).of_same (s.endedWith_sameRecords l r)

theorem State.endedWith_ordered {s : State} (hs : s.ordered) (l : Link) (r : RunState) : (s.endedWith l r).ordered := hs

/-! ## Events of a start -/

theorem Events.RaisedTo.attention {e f : Events} (h : e.RaisedTo f) (hl : e.inLine) (hn : e.enables = 0#15) :
    f.attention = false := by
  have line := h.inLine hl
  rw [Events.inLine, Events.asserted, h.enables_eq, hn] at line
  simpa using line

theorem Events.RaisedTo.main_keeps {e f : Events} (h : e.RaisedTo f) (hr : e.reading = false) {i : Nat}
    (hi : e.main.getLsbD i = true) : f.main.getLsbD i = true := by
  induction h with
  | refl => exact hi
  | @raise f h x ih =>
    have reading : f.reading = false := h.reading_eq.trans hr
    simp [Events.raise, reading, Events.drive, ih]

theorem State.takeBackup_losePower (s : State) (held good : Bool) :
    s.losePower.takeBackup held good = s.endedWith (s.losePower.takeBackup held good).link .off := by
  unfold State.takeBackup
  cases good with
  | true => rfl
  | false => rfl

theorem State.takeBackup_backup (s : State) (held good : Bool) :
    (s.takeBackup held good).link.backup = { held := held, good := good, first := true } := by
  unfold State.takeBackup
  cases good with
  | true => rfl
  | false => rfl

/-- A power-on start raises BACKUP_LOW with the backup's sample bad (R186). -/
theorem State.powerOn_low (s : State) :
    (s.losePower.takeBackup true false).rebuild.link.events.main.getLsbD Flag.backupLow.bit = true := by
  refine (State.rebuild_raised (s := s.losePower.takeBackup true false) .refl).main_keeps rfl ?_
  have raised : (s.losePower.takeBackup true false).link.events = Events.clear.raise .backupLow := rfl
  rw [raised]
  decide

/-- A part that has lost its records, with the power on again and no start made yet. -/
def State.lostRecords (pending : List Instr) (drawn : Nat) (flash : List Host.Cell) (rack : List Slot) (present : Bool) : State :=
  { pending := pending, run := .off,
    link :=
      { frame := [], incoming := [], queue := [], pipe := [],
        events := Events.clear.raise .clockStopped, patronCtx := none, titleCtx := none,
        settings := Settings.default, backup := { held := false, good := true, first := true } },
    records := Records.empty, planner := Planner.empty, store := { Store.empty with flash := flash },
    rack := rack, mail := Mail.empty, returns := { Returns.empty with present := present },
    calendar := Calendar.empty, drawn := drawn }

theorem State.takeBackup_lostRecords (s : State) : (s.losePower.takeBackup false true).emptyRecords =
    State.lostRecords s.pending s.drawn s.store.flash (s.rack.map Slot.lapse) s.returns.present := by
  obtain ⟨pending, run, link, records, planner, store, rack, mail, returns, calendar, drawn⟩ := s
  rfl

theorem State.rebuild_lostRecords : (State.lostRecords [] 0 [] (List.replicate 8 Slot.bare) false).rebuild = State.reset := by
  decide +kernel

/-! ## The replies a restart places -/

/-- The replies formed at the head of the queue are placed in their order. -/
theorem State.placeReplies_formed {formed rest : List Request} {bodies : List (List Byte)} {s : State}
    (hq : s.link.queue = formed ++ rest) (hf : formed.map (·.stage) = bodies.map Stage.formed) :
    s.placeReplies formed.length = s.setLink { s.link with
      queue := rest, pipe := s.link.pipe ++
        (formed.zip bodies).map (fun e => frameBytes (replyCode e.1.code) e.1.tag e.2) } := by
  induction formed generalizing s bodies with
  | nil =>
    rw [List.nil_append] at hq
    rw [List.zip_nil_left, List.map_nil, List.append_nil, ← hq]
    rfl
  | cons r formed ih =>
    cases bodies with
    | nil => simp at hf
    | cons body bodies =>
      rw [List.map_cons, List.map_cons, List.cons.injEq] at hf
      have placed : s.placeReply = s.setLink { s.link with
          queue := formed ++ rest, pipe := s.link.pipe ++ [r.replyFrame body] } := by
        rw [State.placeReply, hq]
        simp only [List.cons_append, hf.1]
      rw [List.length_cons, State.placeReplies, ih (by rw [placed]; rfl) hf.2, placed]
      simp only [State.setLink, List.zip_cons_cons, List.map_cons, List.append_assoc, List.singleton_append]
      rfl

theorem setStage_eq {q : List Request} {i : Nat} {r : Request} (h : q[i]? = some r) (st : Stage) :
    setStage q i st = q.take i ++ { r with stage := st } :: q.drop (i + 1) := by
  induction q generalizing i with
  | nil => cases h
  | cons x q ih =>
    cases i with
    | zero =>
      cases h
      rfl
    | succ i =>
      rw [setStage, ih h]
      rfl

/-- The state a restart leaves to the rebuild is one whose work has been ended. -/
theorem State.setLink_endedWith (s : State) (k : Link) (h : k.settings = s.link.settings) :
    (s.setLink k).endWork.clearLink = s.endedWith
      { k with frame := [], incoming := [], queue := [], events := Events.clear, patronCtx := none, titleCtx := none }
      s.run := by
  obtain ⟨pending, run, link, records, planner, store, rack, mail, returns, calendar, drawn⟩ := s
  unfold State.endedWith
  rw [← h]
  rfl

theorem formedBefore_of {q : List Request} {i : Nat} {bodies : List (List Byte)}
    (h : (q.take i).map (·.stage) = bodies.map Stage.formed) : formedBefore q i = true := by
  rw [formedBefore, List.all_eq_true]
  intro r hr
  have stage : r.stage ∈ bodies.map Stage.formed := h ▸ List.mem_map_of_mem hr
  obtain ⟨body, -, hbody⟩ := List.mem_map.mp stage
  rw [← hbody]

/-- A reply formed behind formed replies is placed with them. -/
theorem State.placeReplies_formReply {s : State} {i : Nat} {r : Request} {bodies : List (List Byte)} (x : Reply)
    (hi : s.link.queue[i]? = some r) (hb : (s.link.queue.take i).map (·.stage) = bodies.map Stage.formed) :
    (s.formReply i x).placeReplies (i + 1) = s.setLink { s.link with
      queue := s.link.queue.drop (i + 1), pipe := s.link.pipe ++
        ((s.link.queue.take i).zip bodies).map (fun e => frameBytes (replyCode e.1.code) e.1.tag e.2) ++
          [frameBytes (replyCode r.code) r.tag x.body] } := by
  obtain ⟨hlt, -⟩ := List.getElem?_eq_some_iff.mp hi
  have before : (s.link.queue.take i).length = i := List.length_take_of_le (Nat.le_of_lt hlt)
  have same : (s.link.queue.take i).length = bodies.length := by
    have lengths := congrArg List.length hb
    rwa [List.length_map, List.length_map] at lengths
  have queue : (s.formReply i x).link.queue =
      (s.link.queue.take i ++ [{ r with stage := .formed x.body }]) ++ s.link.queue.drop (i + 1) := by
    rw [List.append_assoc, List.singleton_append, ← setStage_eq hi]
    rfl
  have placed := State.placeReplies_formed (bodies := bodies ++ [x.body]) queue (by
    rw [List.map_append, hb, List.map_append]
    rfl)
  rw [List.length_append, before, List.length_singleton] at placed
  rw [placed, List.zip_append same, List.map_append]
  simp only [State.formReply, State.setQueue, State.setLink, List.append_assoc]
  rfl

end Sys2Proof.Machine

namespace Sys2Proof.Proofs

open Sys2Proof Sys2Proof.Machine

/-- Settles O26: a start's rebuild, with no roll running, on the record memory as it stands. -/
theorem startRebuilds : Obligations.StartRebuilds := by
  refine ⟨fun s hr hs hroll => ?_, fun s hr => ?_, fun s good hs => ?_⟩
  · have step : exec .resetRelease s = .next s.rebuild := if_pos hr
    exact ⟨_, step, State.rebuild_rebuilt hs hroll, by simp, by simp⟩
  · exact if_neg hr
  · have step : exec (.powerOnStart true good) s = .next (s.losePower.takeBackup true good).rebuild := rfl
    have raised : Events.clear.RaisedTo (s.losePower.takeBackup true good).rebuild.link.events :=
      State.powerOn_raised s true good
    have rebuilt := State.rebuild_endedWith hs (s.losePower.takeBackup true good).link .off
    rw [← State.takeBackup_losePower] at rebuilt
    refine ⟨_, step, rebuilt, by simp; rfl, by simp; rfl, by simp; rfl, by simp; rfl, raised.enables_eq,
      raised.attention rfl rfl, ?_, fun hg => ?_⟩
    · simp [State.takeBackup_backup]
    · rw [hg]
      exact s.powerOn_low

/-- Settles O27: the rebuild of an emptied record memory finds nothing to do. -/
theorem lostStartEmptiesRecordMemory : Obligations.LostStartEmptiesRecordMemory := by
  refine ⟨fun s good => ?_, fun s hp hd hr hpresent hreader hflash => ?_⟩
  · have step : exec (.powerOnStart false good) s = .next (s.losePower.takeBackup false good).emptyRecords.rebuild := rfl
    have stopped : (s.losePower.takeBackup false good).emptyRecords.rebuild.link.events.main.getLsbD
        Flag.clockStopped.bit = true := by
      refine (State.rebuild_raised (s := (s.losePower.takeBackup false good).emptyRecords) .refl).main_keeps ?_ ?_
      · cases good <;> rfl
      · have raised : (s.losePower.takeBackup false good).emptyRecords.link.events =
            (if good then Events.clear else Events.clear.raise .backupLow).raise .clockStopped := by
          cases good <;> rfl
        rw [raised]
        cases good <;> decide
    have backup : (s.losePower.takeBackup false good).emptyRecords.rebuild.link.backup =
        { held := false, good := good, first := true } := by
      simp [State.takeBackup_backup]
    obtain ⟨run, pending, drawn, plans, lastPlan, queue, fetches, lastFetch, recency, keys, images, pins, flash, records,
      reader, completed, tray, alarms, lastItem, lastBatch, openBatch, manifests, roll, clock, lastRoll, closedDays,
      reminders, settings, rack⟩ :=
      State.rebuild_rebuilt (s := (s.losePower.takeBackup false good).emptyRecords) ⟨rfl, rfl, rfl, rfl, rfl⟩ rfl
    have returns := reader rfl
    have kept : (s.losePower.takeBackup false good).emptyRecords.store.flash = s.store.flash := by simp
    exact ⟨_, step, run, records, plans, queue, lastPlan, List.map_eq_nil_iff.mp keys, fetches, flash.trans kept, tray,
      manifests, congrArg Returns.reuse returns, congrArg Returns.inspect returns, congrArg Returns.pending returns,
      congrArg Returns.result returns, clock, lastRoll, Option.map_eq_none_iff.mp roll, reminders, settings, stopped,
      backup⟩
  · have bare : s.rack.map Slot.lapse = List.replicate 8 Slot.bare := by
      rw [← hr, ← List.map_const]
      refine List.map_congr_left fun sl hsl => ?_
      rw [Slot.lapse, hpresent sl hsl]
      rfl
    have step : exec (.powerOnStart false true) s = .next (s.losePower.takeBackup false true).emptyRecords.rebuild := rfl
    rw [step, State.takeBackup_lostRecords, hp, hd, bare, hflash, hreader, State.rebuild_lostRecords]

/-- Settles O28: the replies formed before the RESTART and its own are placed, and the rebuild follows. -/
theorem restartPlacesRepliesAndRebuilds : Obligations.RestartPlacesRepliesAndRebuilds := by
  intro s i tag bodies h hs hb
  obtain ⟨hrun, hread, hold, code, tag', body, hc, hi⟩ := id h
  cases hc
  have taken : s.takeRequest 0x03 tag [] = (s, some i) := by
    simp [State.takeRequest, hrun, hread, hold, hi]
  have step : exec (.restart tag) s = .next
      ((s.formReply i { status := .ok, fields := [] }).placeReplies (i + 1)).endWork.clearLink.rebuild := by
    change Host.Outcome.next (s.restart tag) = _
    rw [State.restart_eq, taken, State.restartTaken, if_pos (formedBefore_of hb)]
  rw [State.placeReplies_formReply _ hi hb, State.setLink_endedWith s _ (by exact rfl)] at step
  refine ⟨_, step, State.rebuild_endedWith hs _ _, by simp; rfl, by simp; rfl, by simp; rfl, by simp; rfl, by simp; rfl,
    ?_, by simp; rfl, by simp; rfl⟩
  exact (State.rebuild_raised (s := State.endedWith s _ _) .refl).enables_eq

end Sys2Proof.Proofs

end

section
/-!
PROOF. The state right after reset is safe.
-/

namespace Sys2Proof.Proofs

open Sys2Proof Sys2Proof.Machine

/-- Settles O3: at reset every table, list and queue is empty. -/
theorem resetIsSafe : Obligations.ResetIsSafe := by
  have rack (sl : Slot) (h : sl ∈ State.reset.rack) : sl = Slot.bare := List.eq_of_mem_replicate h
  have jobless (k : Nat) (hk : k ∈ slotNumbers) : (State.reset.slot k).job = none := by
    revert k
    decide
  have quiet : State.reset.quiet := rfl
  have attention : State.reset.attentionRight := by
    refine ⟨fun h => Bool.noConfusion h, fun ⟨f, _, hf⟩ => ?_⟩
    have disabled : (0#15).getLsbD f.bit = true := hf
    simp at disabled
  have bounded : State.reset.bounded := by
    refine ⟨nofun, nofun, Nat.zero_le _, Nat.zero_le _, Nat.zero_le _, Nat.zero_le _, Nat.zero_le _, Nat.zero_le _,
      Nat.zero_le _, fun sl hsl => ?_⟩
    rw [rack sl hsl]
    exact Slot.sparesRight_bare
  have numbered : State.reset.numbered := ⟨nofun, nofun, nofun, List.nodup_nil, List.nodup_nil⟩
  have holds : State.reset.holdsRight := ⟨nofun, nofun⟩
  have counts : State.reset.countsRight := ⟨nofun, nofun, nofun, nofun⟩
  have pins : State.reset.pinsRight := ⟨nofun, nofun⟩
  have plans : State.reset.plansBound := by
    refine ⟨⟨List.nodup_nil, fun n => ⟨nofun, fun ⟨p, hp, _⟩ => nomatch hp⟩, List.Pairwise.nil⟩,
      ⟨fun n p k hp => (nomatch hp), fun k hk => ⟨fun hj => ?_, fun n hn => ?_⟩⟩,
      ⟨List.nodup_nil, nofun, fun n p item hp => nomatch hp⟩, Nat.zero_le _, Nat.zero_le _, Nat.zero_le _, Nat.zero_le _,
      Nat.zero_le _⟩
    · rw [jobless k hk] at hj
      cases hj
    · rw [jobless k hk] at hn
      cases hn
  have images : State.reset.imagesRight := by
    have idle (b : Bank) (h : b ∈ State.reset.store.banks) : b = Bank.idle := List.eq_of_mem_replicate h
    refine ⟨List.nodup_nil, nofun, Nat.zero_le _, Nat.zero_le _, List.nodup_nil,
      fun t => ⟨nofun, fun ⟨e, he, _⟩ => nomatch he⟩, Nat.zero_le _, List.nodup_nil, List.nodup_nil,
      fun t => ⟨nofun, fun ⟨e, he, _⟩ => nomatch he⟩, List.nodup_nil, ⟨Nat.zero_le _, rfl⟩, nofun, fun b hb => ?_⟩
    rw [idle b hb]
    exact ⟨fun _ => ⟨rfl, rfl⟩, by decide, nofun, nofun⟩
  have settings : State.reset.link.settings.inRange := by
    unfold Settings.inRange
    decide
  have clock : State.reset.calendar.clock.right := by
    unfold Clock.right
    decide
  refine ⟨quiet, attention, by decide, settings, clock, ⟨rfl, rfl, rfl, rfl, nofun⟩, ⟨rfl, rfl, rfl, rfl, rfl⟩, rfl, bounded, numbered,
    rfl, holds, plans, images, pins, counts⟩

end Sys2Proof.Proofs

end

section
/-!
PROOF. The dealings every command is made of: the changes of plans, items, images, slots and banks at whose ends the
invariants of O10 and O11 hold.
-/

namespace Sys2Proof.Machine

/-- What the invariants of O10 and O11 are about. -/
def State.core (s : State) :=
  (s.run, (s.planner.plans, s.planner.queue), (s.store.images, s.store.recency, s.store.fetches, s.store.banks), s.rack,
    s.mail.tray)

/-- A fill write whose completion is being seen to: the bank it is granted in, and the write. -/
abbrev Completing := Option (Nat × FillOp)

/-- A plan to be enrolled: the part runs, there is room for it, its titles are admitted with blocks for their pages, and, if `d`, no
title is placed twice (R42, R44, R48, R50). -/
structure State.Enrols (d : Prop) (s : State) (plan : Plan) : Prop where
  running : s.run = .running
  state : plan.state = .queued
  room : s.stopTest = false
  admissible : s.admissible plan.titles = true
  blocks : ∀ q ∈ plan.placements, q.blocks = blockSize q.pages
  once : d → (plan.placements.map (·.title)).Nodup

/-- The fetch `id` is there, for title `t`, and its fill write, if it has one, is the one being seen to. -/
def State.FetchOf (s : State) (o : Completing) (id t : Nat) : Prop :=
  (∃ b f, o = some (b, f) ∧ f.fetch = id ∧ f.title = t ∧ (s.fetch id).isSome = true) ∨
    (o = none ∧ s.fillOutstanding id = false ∧ ∃ g, s.fetch id = some g ∧ g.title = t)

/-- Where the slot's record `x` rightly holds its job, `y` rightly holds the same. -/
def Slot.JobKept (x y : Slot) : Prop := x.jobRight → y.job = x.job ∧ y.jobRight

/-- Slot `n` is one of the part's, where the banks are right. -/
def State.Reads (s : State) (n : Nat) : Prop := (∀ k ∈ s.store.banks, k.right) → n ∈ slotNumbers

/-- A set item that is in the tray, or of whose number there is none. -/
def State.Withdraws (s : State) (i : Item) : Prop :=
  i.kind.isSet = true ∧ (i ∈ s.mail.tray ∨ ∀ j ∈ s.mail.tray, j.number ≠ i.number)

/-- One dealing with the plans, items, images, slots or banks. Plans enrolled place no title twice if `d`, and the
completion `o` is being seen to. -/
inductive State.Deal (d : Prop) (o : Completing) (s : State) : State → Prop
  | same {t : State} (h : t.core = s.core) : Deal d o s t
  | itemAdded {p t c : Nat} {st : ItemState} (h : s.setItems < Config.trayRoom) : Deal d o s (s.addItem p (.set t c) st)
  | itemRemoved {i : Item} (h : s.Withdraws i) : Deal d o s (s.removeItem i.number)
  | tray {x : List Item}
      (h : x.map (fun i => (i.number, i.patron, i.kind)) = s.mail.tray.map (fun i => (i.number, i.patron, i.kind))) :
    Deal d o s (s.setMail { s.mail with tray := x })
  | dispatched {i : Item} {plan serial : Nat} (hi : i ∈ s.mail.tray) (hk : i.kind = .cartridge plan serial) :
    Deal d o s ((s.erasePlan plan).removeItem i.number)
  | endPlan (n : Nat) : Deal d o s (s.endPlan n)
  | enrolled {plan : Plan} (ho : o = none) (h : s.Enrols d plan) : Deal d o s (s.enrolled plan)
  | plan {n : Nat} {p q : Plan} (hp : s.plan n = some p) (hq : q.patron = p.patron ∧ q.state = p.state)
      (hr : q.rush = p.rush) (hl : q.placements = p.placements) : Deal d o s (s.setPlan n q)
  | matched : Deal d o s s.matchJobs
  | putBack {n job : Nat} {x : Slot} (hn : n ∈ slotNumbers) (hj : (s.slot n).job = some job) (hx : x.job = none) :
    Deal d o s ((s.setSlot n x).returnPlan job)
  | failed {n job : Nat} {x : Slot} (hn : n ∈ slotNumbers) (hj : (s.slot n).job = some job) (hx : x.job = none) :
    Deal d o s ((s.setSlot n x).endPlan job)
  | slot {n : Nat} {x : Slot} (hk : (s.slot n).JobKept x) : Deal d o s (s.setSlot n x)
  | done {n : Nat} (hn : n ∈ slotNumbers) : Deal d o s (s.reachDone n)
  | image {t : Nat} {e f : Image} (he : s.image t = some e) (hb : f.blocks = e.blocks) (hr : f.resident = e.resident)
      (hp : f.pins = e.pins) : Deal d o s (s.setImage t f)
  | removeImage {t : Nat} (hp : s.pins t = 0)
      (hr : t ∈ s.store.recency ∨ ∀ e, s.image t = some e → e.resident = true) : Deal d o s (s.removeImage t)
  | admitted {t pages : Nat} (ho : o = none) (hi : s.image t = none) (ha : s.admissible [(t, blockSize pages)] = true) :
    Deal d o s ((s.evict [t] s.store.recency (blockSize pages) 1).admitTitle t pages)
  | recent (t : Nat) : Deal d o s (s.toRecent t)
  | recreated {t id : Nat} (h : s.FetchOf o id t) : Deal d o s (s.recreateImage t)
  | completed {t id : Nat} (h : s.FetchOf o id t) :
    Deal d o s (((s.onImage t (fun e => { e with resident := true })).toRecent t).removeFetch id)
  | spoiled {t id : Nat} (h : s.FetchOf o id t) :
    Deal d o s ((s.plansPlacing t).foldl State.endPlan (((s.removeImage t).spaceFreed).removeFetch id))
  | requeued (id : Nat) : Deal d o s (s.requeueFetch id)
  | fetch {id : Nat} {f : Fetch → Fetch} (hf : ∀ g, (f g).id = g.id ∧ (f g).title = g.title ∧ (f g).state = g.state) :
    Deal d o s (s.onFetch id f)
  | started {f : Fetch} (hf : f ∈ s.store.fetches) (hw : f.state = .waiting) (hs : s.streams < 2) :
    Deal d o s (s.startStream f.id)
  | handRead {r : ReadOp} (hr : s.Reads r.slot) : Deal d o s (s.handRead r)
  | loseRead (n : Nat) (fate : ReadFate) : Deal d o s (s.loseRead n fate)
  | handFill {f : FillOp} (ho : o = none) (hf : ∃ g, s.fetch f.fetch = some g ∧ g.title = f.title)
      (hn : s.fillOutstanding f.fetch = false) : Deal d o s (s.handFill f)
  | loseFill (ho : o = none) (id : Nat) : Deal d o s (s.loseFill id)
  | granted (ho : o = none) (b : Nat) : Deal d o s (s.grantNext b)

/-- Dealings one after the other. -/
def State.Deals (d : Prop) (o : Completing) (s t : State) : Prop := Relation.ReflTransGen (State.Deal d o) s t

theorem State.Deals.refl (d : Prop) (o : Completing) (s : State) : State.Deals d o s s := Relation.ReflTransGen.refl

/-- What every dealing keeps, dealings keep. -/
theorem State.Deals.keep {d : Prop} {o : Completing} {P : State → Prop} (hP : ∀ s t : State, s.Deal d o t → P s → P t)
    {s t : State} (h : State.Deals d o s t) (hs : P s) : P t := by
  induction h with
  | refl => exact hs
  | tail _ hm ih => exact hP _ _ hm ih

section Deals

variable {d : Prop} {o : Completing} {s t : State} (h : State.Deals d o s t)
include h

theorem State.Deals.then {u : State} (hu : t.Deal d o u) : State.Deals d o s u := Relation.ReflTransGen.tail h hu

/-- A change that leaves what the invariants are about as it is. -/
theorem State.Deals.same {u : State} (hu : u.core = t.core) : State.Deals d o s u := h.then (.same hu)

theorem State.Deals.foldl {β : Type} {f : State → β → State} {l : List β}
    (hf : ∀ u x, State.Deals d o s u → x ∈ l → State.Deals d o s (f u x)) : State.Deals d o s (l.foldl f t) := by
  induction l generalizing t with
  | nil => exact h
  | cons x l ih =>
    exact ih (hf t x h List.mem_cons_self) fun u y hu hy => hf u y hu (List.mem_cons_of_mem _ hy)

/-! ### What the invariants are not about -/

theorem State.Deals.setLink {x : Link} : State.Deals d o s (t.setLink x) := h.same (by simp [State.core])
theorem State.Deals.setRecords {x : Records} : State.Deals d o s (t.setRecords x) := h.same (by simp [State.core])
theorem State.Deals.raise {f : Flag} : State.Deals d o s (t.raise f) := h.same (by simp [State.core])
theorem State.Deals.usePatron {i : Nat} : State.Deals d o s (t.usePatron i) := h.same (by simp [State.core])
theorem State.Deals.useTitle {i : Nat} : State.Deals d o s (t.useTitle i) := h.same (by simp [State.core])
theorem State.Deals.noteTrigger : State.Deals d o s (t.noteTrigger) := h.same (by simp [State.core])
theorem State.Deals.beginPass : State.Deals d o s (t.beginPass) := h.same (by simp [State.core])
theorem State.Deals.takeTrigger : State.Deals d o s (t.takeTrigger) := h.same (by simp [State.core])
theorem State.Deals.setCalendar {c : Calendar} : State.Deals d o s (t.setCalendar c) := h.same (by simp [State.core])
theorem State.Deals.setReturns {r : Returns} : State.Deals d o s (t.setReturns r) := h.same (by simp [State.core])
theorem State.Deals.onPatron {k : Nat} {f : Patron → Patron} : State.Deals d o s (t.onPatron k f) := h.same (by simp [State.core])
theorem State.Deals.onTitle {k : Nat} {f : Title → Title} : State.Deals d o s (t.onTitle k f) := h.same (by simp [State.core])
theorem State.Deals.clearFillLow {k : Nat} : State.Deals d o s (t.clearFillLow k) := h.same (by simp [State.core])
theorem State.Deals.spaceFreed : State.Deals d o s (t.spaceFreed) := h.same (by simp [State.core])
theorem State.Deals.clearOversizeOf {k : Nat} : State.Deals d o s (t.clearOversizeOf k) := h.same (by simp [State.core])
theorem State.Deals.removeEntries {k : Nat} {f : OrderEntry → Bool} : State.Deals d o s (t.removeEntries k f) := h.same (by simp [State.core])
theorem State.Deals.setEntry {k x : Nat} {st : EntryState} : State.Deals d o s (t.setEntry k x st) := h.same (by simp [State.core])
theorem State.Deals.leaveHold {k x : Nat} : State.Deals d o s (t.leaveHold k x) := h.same (by simp [State.core])
theorem State.Deals.moveCopy {k c : Nat} {x : CopyPlace} : State.Deals d o s (t.moveCopy k c x) := h.same (by simp [State.core])
theorem State.Deals.dropCarts {k : Nat} : State.Deals d o s (t.dropCarts k) := h.same (by simp [State.core])
theorem State.Deals.dropSets {k : Nat} : State.Deals d o s (t.dropSets k) := h.same (by simp [State.core])
theorem State.Deals.raiseSets {k : Nat} : State.Deals d o s (t.raiseSets k) := h.same (by simp [State.core])
theorem State.Deals.storeFrame {f : FillOp} : State.Deals d o s (t.storeFrame f) := h.same (by simp [State.core, State.storeFrame])
theorem State.Deals.formWriting {id : Nat} {r : Reply} : State.Deals d o s (t.formWriting id r) := h.same (by simp [State.core])

/-- The mail desk with the tray it has. -/
theorem State.Deals.setMail {m : Mail} (hm : m.tray = t.mail.tray) : State.Deals d o s (t.setMail m) :=
  h.same (by simp [State.core, hm])

end Deals

end Sys2Proof.Machine

end

section
/-!
PROOF. The dealings of the operations on trays, plans and slots.
-/

namespace Sys2Proof.Machine

section Deals

variable {d : Prop} {o : Completing} {s t : State} (h : State.Deals d o s t)
include h

/-! ### The tray and the sweep -/

theorem State.Deals.setItemState {n : Nat} {st : ItemState} : State.Deals d o s (t.setItemState n st) := by
  refine h.then (.tray ?_)
  rw [List.map_map]
  refine List.map_congr_left fun i _ => ?_
  dsimp only [Function.comp_apply]
  split <;> rfl

theorem State.Deals.allocate {p k c : Nat} (hr : t.setItems < Config.trayRoom) : State.Deals d o s (t.allocate p k c) := by
  have room : (t.moveCopy k c .item).setItems < Config.trayRoom := by simpa [State.setItems] using hr
  exact (h.moveCopy.then (.itemAdded room)).raiseSets

theorem State.Deals.sweepOnce {k : Nat} {u : State} (hu : t.sweepOnce k = some u) : State.Deals d o s u := by
  unfold State.sweepOnce at hu
  split at hu
  · cases hu
  · split at hu
    · cases hu
    · split at hu
      · next c p _ hp =>
        cases hu
        have room : (t.leaveHold p k).setItems < Config.trayRoom := by
          simpa [State.setItems] using State.room_of_canTake (List.find?_some hp)
        exact ((h.leaveHold.allocate room).setEntry).raise
      · cases hu

theorem State.Deals.sweepTitle {k fuel : Nat} : State.Deals d o s (t.sweepTitle k fuel) := by
  induction fuel generalizing t with
  | zero => exact h
  | succ fuel ih =>
    unfold State.sweepTitle
    split
    · next u hu => exact ih (h.sweepOnce hu)
    · exact h

theorem State.Deals.sweep {titles : List Nat} : State.Deals d o s (t.sweep titles) :=
  h.foldl fun _ _ hu _ => hu.sweepTitle

theorem State.Deals.sweepPatron {p : Nat} : State.Deals d o s (t.sweepPatron p) := h.sweep

theorem State.Deals.withdrawSet {i : Item} (hi : i ∈ t.mail.tray ∨ ∀ j ∈ t.mail.tray, j.number ≠ i.number) :
    State.Deals d o s (t.withdrawSet i) := by
  unfold State.withdrawSet
  split
  · next hk => exact ((h.then (.itemRemoved ⟨by rw [hk]; rfl, hi⟩)).moveCopy).dropSets
  · exact h

/-! ### The store -/

theorem State.Deals.toRecent {k : Nat} : State.Deals d o s (t.toRecent k) := h.then (.recent k)

theorem State.Deals.loseRead {n : Nat} {fate : ReadFate} : State.Deals d o s (t.loseRead n fate) := h.then (.loseRead n fate)

theorem State.Deals.countFrame {f : FillOp} : State.Deals d o s (t.countFrame f) := by
  have counted : State.Deals d o s
      (t.onImage f.title (fun e => { e with sum := e.sum + wordSum f.data, filled := e.filled + 1 })) := by
    unfold State.onImage
    split
    · next e he => exact h.then (.image he rfl rfl rfl)
    · exact h
  exact counted.then (.fetch fun _ => ⟨rfl, rfl, rfl⟩)

theorem State.Deals.handRead {r : ReadOp} (hr : t.Reads r.slot) : State.Deals d o s (t.handRead r) := h.then (.handRead hr)

/-! ### The slots -/

/-- A slot written over with the job it has. -/
theorem State.Deals.setSlot {n : Nat} {x : Slot} (hk : (t.slot n).JobKept x) :
    State.Deals d o s (t.setSlot n x) := h.then (.slot hk)

theorem State.Deals.matchJobs : State.Deals d o s t.matchJobs := h.then .matched

theorem State.Deals.matchIdled {old : State} : State.Deals d o s (t.matchIdled old) := by
  unfold State.matchIdled
  split
  · exact h.matchJobs
  · exact h

theorem State.Deals.endPlan {n : Nat} : State.Deals d o s (t.endPlan n) := h.then (.endPlan n)

end Deals

/-! ## Slots that keep their job -/

theorem Slot.JobKept.refl (x : Slot) : x.JobKept x := fun hx => ⟨rfl, hx⟩

theorem Slot.JobKept.trans {x y z : Slot} (h : x.JobKept y) (h' : y.JobKept z) : x.JobKept z :=
  fun hx => ⟨(h' (h hx).2).1.trans (h hx).1, (h' (h hx).2).2⟩

/-- Nothing of the slot's state changes. -/
theorem Slot.JobKept.still {x y : Slot} (hj : y.job = x.job) (hs : y.state = x.state)
    (hr : y.remembered = x.remembered) : x.JobKept y := by
  refine fun hx => ⟨hj, ?_⟩
  unfold Slot.jobRight at hx ⊢
  rw [hj, hs, hr]
  exact hx

/-- The slot goes over to a state in which a job is rightly held. -/
theorem Slot.JobKept.working {x y : Slot} (hj : y.job = x.job)
    (hs : y.state = .erasing ∨ y.state = .programming ∨ y.state = .verifying ∨ y.state = .waitImage ∨ y.state = .directory) :
    x.JobKept y := by
  refine fun _ => ⟨hj, fun _ => ?_⟩
  rcases hs with hs | hs | hs | hs | hs
  · exact .inl hs
  · exact .inr (.inl hs)
  · exact .inr (.inr (.inl hs))
  · exact .inr (.inr (.inr (.inl hs)))
  · exact .inr (.inr (.inr (.inr (.inl hs))))

/-- A slot in a state in which no job is rightly held has none. -/
theorem Slot.jobRight.none_of {x : Slot} (h : x.jobRight)
    (hs : x.state ∉ [SlotState.erasing, .programming, .verifying, .waitImage, .directory, .held]) : x.job = none := by
  simp only [List.mem_cons, List.not_mem_nil, or_false, not_or] at hs
  obtain ⟨h1, h2, h3, h4, h5, h6⟩ := hs
  rw [← Option.not_isSome_iff_eq_none]
  intro hj
  rcases h hj with h | h | h | h | h | h
  · exact h1 h
  · exact h2 h
  · exact h3 h
  · exact h4 h
  · exact h5 h
  · exact h6 h.1

/-- Where no job is rightly held, the slot goes over to any state without one. -/
theorem Slot.JobKept.idle {x y : Slot} (hj : y.job = x.job ∨ y.job = none)
    (hs : x.state ∉ [SlotState.erasing, .programming, .verifying, .waitImage, .directory, .held]) : x.JobKept y := by
  intro hx
  have jobless := hx.none_of hs
  have same : y.job = none := hj.elim (fun hj => hj.trans jobless) id
  refine ⟨same.trans jobless.symm, fun hy => ?_⟩
  rw [same] at hy
  cases hy

theorem Slot.JobKept.issue (x : Slot) (op : CartOp) : x.JobKept (x.issue op) := .still rfl rfl rfl

theorem Slot.JobKept.permit (x : Slot) (w : WriteOp) : x.JobKept (x.permit w) := .still rfl rfl rfl

theorem Slot.JobKept.goErase (x : Slot) (today : Nat) : x.JobKept (x.goErase today) := by
  unfold Slot.goErase
  split
  · exact .permit _ _
  · exact .issue _ _
  · split
    · exact .still rfl rfl rfl
    · exact .refl x
  · exact .issue _ _
  · exact .refl x

theorem Slot.JobKept.goDirectory (x : Slot) : x.JobKept x.goDirectory := by
  unfold Slot.goDirectory
  split
  · exact .issue _ _
  · exact .permit _ _

/-- A hold keeps the job: only a slot in PRE_ERASE is remembered there. -/
theorem Slot.JobKept.hold (x : Slot) : x.JobKept x.hold := by
  refine fun hx => ⟨rfl, fun hj => ?_⟩
  refine .inr (.inr (.inr (.inr (.inr ⟨rfl, fun hp => ?_⟩))))
  have before : x.state = .preErase := by
    have phase : x.state.phase = some .preErase := hp
    revert phase
    cases x.state <;> simp [SlotState.phase]
  have none := hx.none_of (by rw [before]; decide)
  have some : x.job.isSome = true := hj
  rw [none] at some
  cases some

section Deals

variable {d : Prop} {o : Completing} {s t : State} (h : State.Deals d o s t)
include h

/-! ### Programming and reading -/

theorem State.Deals.readFrame {n : Nat} {p : Placement} (hn : t.Reads n) : State.Deals d o s (t.readFrame n p) := by
  unfold State.readFrame
  split
  · exact h
  · exact h.handRead hn

theorem State.Deals.beginBlock {n : Nat} {p : Placement} (hn : t.Reads n) : State.Deals d o s (t.beginBlock n p) := by
  unfold State.beginBlock
  dsimp only
  split
  · exact State.Deals.readFrame (by exact h.setSlot (.working rfl (.inr (.inl rfl)))) hn
  · exact h.setSlot (.working rfl (.inr (.inr (.inr (.inl rfl)))))

theorem State.Deals.goProgram {n : Nat} (hn : t.Reads n) : State.Deals d o s (t.goProgram n) := by
  unfold State.goProgram
  dsimp only
  split
  · exact h.setSlot (.permit _ _)
  · split
    · exact h
    · split
      · exact h.setSlot (.working rfl (.inr (.inr (.inl rfl))))
      · split
        · exact h.setSlot (.permit _ _)
        · exact h.beginBlock hn

theorem State.Deals.goOn {n : Nat} (hn : n ∈ slotNumbers) : State.Deals d o s (t.goOn n) := by
  unfold State.goOn
  dsimp only
  split
  · next hs =>
    split
    · exact h.setSlot (.idle (.inl rfl) (by rw [hs]; decide))
    · exact h.setSlot (.goErase _ _)
  · split
    · exact h.setSlot (.working rfl (.inr (.inl rfl)))
    · exact h.setSlot (.goErase _ _)
  · exact h.goProgram fun _ => hn
  · split
    · exact h.setSlot (.issue _ _)
    · exact h
  · exact h.setSlot (.goDirectory _)
  · exact h

theorem State.Deals.afterOp {n : Nat} (hn : n ∈ slotNumbers) : State.Deals d o s (t.afterOp n) := by
  unfold State.afterOp
  split
  · exact h.setSlot (.hold _)
  · dsimp only
    split
    · exact (h.goOn hn).matchJobs
    · exact h.goOn hn

theorem State.Deals.finished {n : Nat} : State.Deals d o s (t.finished n) :=
  State.Deals.matchJobs (h.setSlot (.still rfl rfl rfl))

theorem State.Deals.notify {k n : Nat} (hn : n ∈ slotNumbers) : State.Deals d o s (t.notify k n) := by
  unfold State.notify
  dsimp only
  split
  · split
    · split
      · exact h.beginBlock fun _ => hn
      · exact h
    · exact h
  · exact h

/-! ### Faults -/

/-- The slot loses its job: the plan goes back to the queue or ends (R109). -/
theorem State.Deals.planFault {n job : Nat} {x : Slot} (hn : n ∈ slotNumbers) (hj : (t.slot n).job = some job)
    (hx : x.job = none) : State.Deals d o s ((t.setSlot n x).planFault job) := by
  unfold State.planFault
  have plan : (t.setSlot n x).plan job = t.plan job := rfl
  rw [plan]
  split
  · next hp =>
    have back := h.then (.putBack hn hj hx)
    rwa [State.returnPlan, plan, hp] at back
  · next p hp =>
    have counted : State.Deals d o s (t.setPlan job { p with faults := p.faults + 1 }) :=
      h.then (.plan hp ⟨rfl, rfl⟩ rfl rfl)
    dsimp only
    split
    · exact (counted.then (.putBack (x := x) hn hj hx)).matchJobs
    · exact (counted.then (.failed (x := x) hn hj hx)).raise

theorem State.Deals.slotFault {n : Nat} {cause : FaultCause} (hn : n ∈ slotNumbers) : State.Deals d o s (t.slotFault n cause) := by
  have lost : State.Deals d o s ((t.loseRead n .dropped).raise .slotFault) := h.loseRead.raise
  unfold State.slotFault
  dsimp only
  split
  · next job hj =>
    have failed := lost.planFault (x := (t.slot n).fail (t.faultRecord (t.slot n) cause)) hn hj rfl
    exact failed
  · next hj =>
    refine .raise (h.loseRead.setSlot fun _ => ⟨hj.symm, fun hx => ?_⟩)
    cases hx

theorem State.Deals.finishRead {n : Nat} {ok : Bool} {page : List Byte} (hn : n ∈ slotNumbers) :
    State.Deals d o s (t.finishRead n ok page) := by
  unfold State.finishRead
  split
  · exact h.finished
  · split
    · exact h.finished
    · exact h.slotFault hn

theorem State.Deals.beginDirectory {n : Nat} : State.Deals d o s (t.beginDirectory n) := by
  unfold State.beginDirectory
  dsimp only
  split
  · split
    · exact h.setSlot ((Slot.JobKept.working (by exact rfl) (by exact .inr (.inr (.inr (.inr rfl))))).trans (.goDirectory _))
    · exact h
  · exact h

theorem State.Deals.takeSpare {n : Nat} {p : Placement} (hn : n ∈ slotNumbers) : State.Deals d o s (t.takeSpare n p) := by
  unfold State.takeSpare
  dsimp only
  split
  · exact h
  · split
    · exact State.Deals.goProgram (by exact h.setSlot (.working rfl (.inr (.inl rfl)))) fun _ => hn
    · exact h.slotFault hn

/-! ### Identification, read-back and the operations of a slot -/

theorem State.Deals.blockVerified {n : Nat} {p : Placement} (hn : n ∈ slotNumbers) : State.Deals d o s (t.blockVerified n p) := by
  have same : (t.toRecent p.title).slot n = t.slot n := by simp [State.slot]
  unfold State.blockVerified
  dsimp only
  split
  · exact State.Deals.beginBlock (by exact h.setSlot (.still rfl rfl rfl)) fun _ => hn
  · split
    · exact State.Deals.beginBlock (by exact h.toRecent.setSlot (by rw [same]; exact .still rfl rfl rfl)) fun _ => hn
    · exact State.Deals.beginDirectory (by exact h.toRecent.setSlot (by rw [same]; exact .still rfl rfl rfl))

end Deals

end Sys2Proof.Machine

end

section
/-!
PROOF. The dealings of what a socket reports, of planning, and of the fills and reads of a bank.
-/

namespace Sys2Proof.Machine

theorem Slot.JobKept.notStarted (x : Slot) : x.JobKept x.notStarted := by
  unfold Slot.notStarted
  split
  · exact .still rfl rfl rfl
  · exact .refl x

theorem Slot.JobKept.startWrite (x : Slot) (w : WriteOp) : x.JobKept (x.startWrite w) := .still rfl rfl rfl

theorem Slot.JobKept.beginVerify (x : Slot) (p : Placement) : x.JobKept (x.beginVerify p) :=
  .working rfl (.inr (.inr (.inl rfl)))

theorem Slot.JobKept.holdErase (x : Slot) : x.JobKept x.holdErase := by
  unfold Slot.holdErase
  split
  · split
    · exact .still rfl rfl rfl
    · exact .still rfl rfl rfl
  · exact .hold x

section Deals

variable {d : Prop} {o : Completing} {s t : State} (h : State.Deals d o s t)
include h

/-! ### Identification -/

theorem State.Deals.unbin {serial : Nat} : State.Deals d o s (t.unbin serial) := h.setReturns

theorem State.Deals.unlose {serial : Nat} : State.Deals d o s (t.unlose serial) := h.setRecords

theorem State.Deals.identified {n : Nat} {c : Cartridge} (hn : n ∈ slotNumbers) (hs : (t.slot n).state = .ident) :
    State.Deals d o s (t.identified n c) := by
  have shown : State.Deals d o s (t.setSlot n { t.slot n with cart := some c, op := none, identPages := [] }) :=
    h.setSlot (.still rfl rfl rfl)
  have settled {u : State} {x : Slot} (hu : State.Deals d o s u) (same : u.slot n = t.slot n) (hx : x.job = (t.slot n).job) :
      State.Deals d o s (u.setSlot n x) := by
    refine hu.setSlot (.idle (.inl ?_) ?_)
    · rw [same, hx]
    · rw [same, hs]
      decide
  unfold State.identified
  dsimp only
  split
  · exact shown.slotFault hn
  · split
    · rw [State.setSlot_setSlot]
      exact settled h rfl rfl
    · split
      · exact shown.slotFault hn
      · split
        · exact shown.unbin.unlose.slotFault hn
        · refine State.Deals.matchJobs ?_
          have twice (x y : Slot) : (((t.setSlot n x).unbin c.serial).unlose c.serial).setSlot n y =
              ((t.unbin c.serial).unlose c.serial).setSlot n y :=
            State.setSlot_setSlot ((t.unbin c.serial).unlose c.serial) n x y
          rw [twice]
          exact settled h.unbin.unlose rfl rfl

theorem State.Deals.returnPlan_lose {n job : Nat} (hn : n ∈ slotNumbers) (hj : (t.slot n).job = some job) {x : Slot}
    (hx : x.job = none) : State.Deals d o s (((t.loseRead n .dropped).setSlot n x).returnPlan job) :=
  h.loseRead.then (.putBack hn hj hx)

theorem State.Deals.removeCartridge {n : Nat} (hn : n ∈ slotNumbers) : State.Deals d o s (t.removeCartridge n) := by
  unfold State.removeCartridge
  dsimp only
  split
  · next job hj => exact (h.returnPlan_lose hn hj rfl).noteTrigger.matchJobs
  · next hj =>
    refine h.loseRead.setSlot fun _ => ⟨hj.symm, fun hx => ?_⟩
    cases hx

theorem State.Deals.beginIdent {n : Nat} {x : Slot} (hx : x.job = none)
    (hs : (t.slot n).state ∉ [SlotState.erasing, .programming, .verifying, .waitImage, .directory, .held]) :
    State.Deals d o s (t.setSlot n x) := h.setSlot (.idle (.inr hx) hs)

theorem State.Deals.insertCartridge {n : Nat} : State.Deals d o s (t.insertCartridge n) := by
  unfold State.insertCartridge
  split
  · next he => exact h.beginIdent rfl (by rw [he]; decide)
  · exact h

theorem State.Deals.setPresent {n : Nat} {present : Bool} : State.Deals d o s (t.setPresent n present) :=
  h.setSlot (.still rfl rfl rfl)

theorem State.Deals.identityRead {n : Nat} {i : Option Identity} (hn : n ∈ slotNumbers) :
    State.Deals d o s (t.identityRead n i) := by
  unfold State.identityRead
  split
  · exact h.slotFault hn
  · exact h.setSlot (.still rfl rfl rfl)

theorem State.Deals.identifyAs {n : Nat} {m : Marker} {plan last : Nat} (hn : n ∈ slotNumbers)
    (hs : (t.slot n).state = .ident) : State.Deals d o s (t.identifyAs n m plan last) := by
  unfold State.identifyAs
  split
  · exact h.identified hn hs
  · exact h.slotFault hn

theorem State.Deals.identPage {n : Nat} {ok : Bool} {page : List Byte} (hn : n ∈ slotNumbers)
    (hs : (t.slot n).state = .ident) : State.Deals d o s (t.identPage n ok page) := by
  unfold State.identPage
  split
  · exact h.slotFault hn
  · dsimp only
    split
    · exact h.identifyAs hn hs
    · split
      · exact h.identifyAs hn hs
      · split
        · exact h.identifyAs hn hs
        · split
          · exact h.setSlot (.still rfl rfl rfl)
          · split
            · exact h.identifyAs hn hs
            · exact h.identifyAs hn hs

/-! ### Read-back and the operations of a slot -/

theorem State.Deals.stampRead {n : Nat} {ok : Bool} {page : List Byte} (hn : n ∈ slotNumbers) :
    State.Deals d o s (t.stampRead n ok page) := by
  unfold State.stampRead
  dsimp only
  split
  · exact State.Deals.afterOp (by exact h.setSlot (.still rfl rfl rfl)) hn
  · exact h.slotFault hn

theorem State.Deals.verifyRead {n : Nat} {ok : Bool} {page : List Byte} (hn : n ∈ slotNumbers) :
    State.Deals d o s (t.verifyRead n ok page) := by
  unfold State.verifyRead
  dsimp only
  split
  · exact h
  · have read (b : Bool) :
        State.Deals d o s (t.setSlot n { t.slot n with op := none, back := (t.slot n).back + 1, backOk := b }) :=
      h.setSlot (.still rfl rfl rfl)
    split
    · rw [State.setSlot_setSlot]
      exact h.setSlot (Slot.JobKept.trans (.still rfl rfl rfl) (.hold _))
    · split
      · exact (read _).goOn hn
      · split
        · exact (read _).blockVerified hn
        · exact (read _).takeSpare hn

theorem State.Deals.directoryRead {n : Nat} {ok : Bool} {page : List Byte} (hn : n ∈ slotNumbers) :
    State.Deals d o s (t.directoryRead n ok page) := by
  have read (b : Bool) :
      State.Deals d o s (t.setSlot n { t.slot n with op := none, back := (t.slot n).back + 1, backOk := b }) :=
    h.setSlot (.still rfl rfl rfl)
  unfold State.directoryRead
  dsimp only
  split
  · exact (read _).goOn hn
  · split
    · exact (read _).then (.done hn)
    · exact (read _).slotFault hn

theorem State.Deals.pageRead {n : Nat} {ok : Bool} {page : List Byte} (hn : n ∈ slotNumbers) :
    State.Deals d o s (t.pageRead n ok page) := by
  unfold State.pageRead
  dsimp only
  split
  · exact h.finishRead hn
  · split
    · next hs => exact h.identPage hn hs
    · exact h.stampRead hn
    · exact h.stampRead hn
    · exact h.verifyRead hn
    · exact h.directoryRead hn
    · exact h

theorem State.Deals.permitReply {n : Nat} {granted : Bool} {w : WriteOp} (hn : n ∈ slotNumbers) :
    State.Deals d o s (t.permitReply n granted w) := by
  unfold State.permitReply
  dsimp only
  split
  · exact h.slotFault hn
  · split
    · exact h.finished
    · split
      · exact h.setSlot (.hold _)
      · exact h.setSlot (.startWrite _ _)

theorem State.Deals.writeRefused {n : Nat} (hn : n ∈ slotNumbers) : State.Deals d o s (t.writeRefused n) :=
  (h.setSlot (.notStarted _)).slotFault hn

theorem State.Deals.programDone {n : Nat} {ok : Bool} (hn : n ∈ slotNumbers) : State.Deals d o s (t.programDone n ok) := by
  unfold State.programDone
  dsimp only
  split
  · exact h.writeRefused hn
  · split
    · exact h.finished
    · split
      · exact State.Deals.afterOp (by exact h.setSlot (.still rfl rfl rfl)) hn
      · exact State.Deals.afterOp (by exact h.setSlot (.still rfl rfl rfl)) hn
      · split
        · refine State.Deals.afterOp (h.setSlot ?_) hn
          unfold Slot.pageDone
          dsimp only
          split
          · exact .still rfl rfl rfl
          · exact .still rfl rfl rfl
        · exact h
      · refine State.Deals.goOn (h.setSlot ?_) hn
        unfold Slot.directoryDone
        split
        · exact .still rfl rfl rfl
        · exact .still rfl rfl rfl
      · exact h

theorem State.Deals.eraseDone {n : Nat} {ok : Bool} {op : CartOp} (hn : n ∈ slotNumbers) :
    State.Deals d o s (t.eraseDone n ok op) := by
  unfold State.eraseDone
  dsimp only
  split
  · exact h.writeRefused hn
  · split
    · exact h.setSlot (.still rfl rfl rfl)
    · split
      · exact h.finished
      · split
        · exact State.Deals.afterOp (by exact h.setSlot (.still rfl rfl rfl)) hn
        · exact State.Deals.afterOp (by exact h.setSlot (.still rfl rfl rfl)) hn
        · exact State.Deals.afterOp (by exact h.setSlot (.still rfl rfl rfl)) hn
        · exact h

theorem State.Deals.markDone {n : Nat} (hn : n ∈ slotNumbers) : State.Deals d o s (t.markDone n) := by
  have marked (st : EraseStep) : State.Deals d o s (t.setSlot n { t.slot n with
      op := none, cart := (t.slot n).cart.map (fun c => { c with cycles := c.cycles + 1 }), eraseStep := st }) :=
    h.setSlot (.still rfl rfl rfl)
  unfold State.markDone
  dsimp only
  split
  · exact (marked _).slotFault hn
  · split
    · exact (marked _).finished
    · rw [State.setSlot_setSlot]
      exact (marked _).afterOp hn

theorem State.Deals.suspendDone {n : Nat} : State.Deals d o s (t.suspendDone n) := by
  unfold State.suspendDone
  split
  · exact h.finished
  · exact h.setSlot (.hold _)

theorem State.Deals.resumeDone {n : Nat} : State.Deals d o s (t.resumeDone n) := by
  have resumed : State.Deals d o s (t.setSlot n { t.slot n with op := (t.slot n).suspended, suspended := none }) :=
    h.setSlot (.still rfl rfl rfl)
  unfold State.resumeDone
  dsimp only
  split
  · exact h.setSlot (.issue _ _)
  · split
    · exact resumed.matchJobs
    · exact resumed

theorem State.Deals.timeOut {n : Nat} {op : CartOp} (hn : n ∈ slotNumbers) : State.Deals d o s (t.timeOut n op) := by
  unfold State.timeOut
  split
  · exact h.slotFault hn
  · next hs _ => exact h.identifyAs hn hs
  · exact h.slotFault hn

theorem State.Deals.runFor {n ran : Nat} (hn : n ∈ slotNumbers) : State.Deals d o s (t.runFor n ran) := by
  unfold State.runFor
  split
  · exact h
  · split
    · exact h.setSlot (.still rfl rfl rfl)
    · exact h.timeOut hn

theorem State.Deals.socket {n : Nat} {u : State} (hn : n ∈ slotNumbers) (hu : t.SocketEffect n u) : State.Deals d o s u := by
  cases hu with
  | idle => exact h
  | stray => exact h.slotFault hn
  | identity => exact h.identityRead hn
  | page => exact h.pageRead hn
  | permit => exact h.permitReply hn
  | program => exact h.programDone hn
  | erase => exact h.eraseDone hn
  | mark => exact h.markDone hn
  | suspend => exact h.suspendDone
  | resume => exact h.resumeDone
  | ran => exact h.runFor hn

/-! ### Holds -/

theorem State.Deals.holdSlot {n : Nat} {u : State} (hu : t.holdSlot n = some u) :
    State.Deals d o s u := by
  unfold State.holdSlot at hu
  dsimp only at hu
  split at hu
  · cases hu
  · split at hu
    · split at hu
      · cases hu
      · cases hu; exact h.setSlot (.holdErase _)
    · split at hu
      · cases hu
      · cases hu; exact h.setSlot (.holdErase _)
    · cases hu
      unfold State.holdProgram
      dsimp only
      split
      · exact h.loseRead.setSlot (.still rfl rfl rfl)
      · exact h.loseRead.setSlot (.hold _)
    · cases hu
      refine h.setSlot ?_
      split
      · exact .still rfl rfl rfl
      · exact .hold _
    · cases hu
      exact h.setSlot (.hold _)
    · cases hu

theorem State.Deals.releaseErase {n : Nat} (hn : n ∈ slotNumbers) : State.Deals d o s (t.releaseErase n) := by
  have gone :
      State.Deals d o s (if (t.slot n).suspended.isSome then t.setSlot n ((t.slot n).issue .resume) else t.goOn n) := by
    split
    · exact h.setSlot (.issue _ _)
    · exact h.goOn hn
  unfold State.releaseErase
  dsimp only
  split
  · exact gone.matchJobs
  · exact gone

end Deals

/-- A released slot goes back to the phase it remembers, where its job is rightly held. -/
theorem Slot.JobKept.released {x : Slot} {p : Phase} {y : Slot} (hs : x.state = .held) (hr : x.remembered = some p)
    (hj : y.job = x.job) (hy : y.state = p.slotState) : x.JobKept y := by
  intro hx
  refine ⟨hj, fun hjob => ?_⟩
  have held := hx (by rw [← hj]; exact hjob)
  rw [hs, hr] at held
  unfold Slot.jobRight at hx
  cases p
  case preErase => simp at held
  case erasing => exact .inl hy
  case programming => exact .inr (.inl hy)
  case verifying => exact .inr (.inr (.inl hy))
  case waitImage => exact .inr (.inr (.inr (.inl hy)))

section Deals

variable {d : Prop} {o : Completing} {s t : State} (h : State.Deals d o s t)
include h

theorem State.Deals.releaseSlot {n : Nat} {p : Phase} (hn : n ∈ slotNumbers) (hs : (t.slot n).state = .held)
    (hr : (t.slot n).remembered = some p) : State.Deals d o s (t.releaseSlot n p) := by
  have released : State.Deals d o s (t.setSlot n { t.slot n with
      state := p.slotState, remembered := none, cursor := { (t.slot n).cursor with inBuffer := false } }) :=
    h.setSlot (.released hs hr rfl rfl)
  unfold State.releaseSlot
  cases p
  case preErase => exact released.releaseErase hn
  case erasing => exact released.releaseErase hn
  case programming => exact released.goProgram fun _ => hn
  case verifying =>
    dsimp only
    split
    · rw [State.setSlot_setSlot]
      exact h.setSlot (.working rfl (.inr (.inr (.inl rfl))))
    · exact released
  case waitImage =>
    dsimp only
    split
    · exact released.beginBlock fun _ => hn
    · exact released

/-! ### Fills and reads -/

theorem State.Deals.imageComplete {k x : Nat} (hf : t.FetchOf o x k) : State.Deals d o s (t.imageComplete k x) :=
  State.Deals.foldl (State.Deals.onTitle (h.then (.completed hf))) fun _ _ hu hn => hu.notify hn

theorem State.Deals.abortSlot {n : Nat} (hn : n ∈ slotNumbers) : State.Deals d o s (t.abortSlot n) := by
  unfold State.abortSlot
  split
  · next job hj => exact (h.loseRead (n := n) (fate := .awaited)).then (.putBack hn hj rfl)
  · exact h

theorem State.Deals.stopReading {k n : Nat} (hn : n ∈ slotNumbers) : State.Deals d o s (t.stopReading k n) := by
  unfold State.stopReading
  split
  · split
    · split
      · exact h.loseRead.beginBlock fun _ => hn
      · exact h
    · exact h
  · exact h

theorem State.Deals.deliver {r : ReadOp} (hr : t.Reads r.slot) : State.Deals d o s (t.deliver r) :=
  State.Deals.goProgram (by exact h.setSlot (.still rfl rfl rfl)) hr

theorem State.Deals.discardRead {n : Nat} : State.Deals d o s (t.discardRead n) := by
  have discarded : State.Deals d o s (t.setSlot n { t.slot n with awaiting := false }) := h.setSlot (.still rfl rfl rfl)
  unfold State.discardRead
  dsimp only
  split
  · exact discarded.finished
  · split
    · exact discarded.setSlot (.hold _)
    · exact discarded

end Deals

end Sys2Proof.Machine

end

section
/-!
PROOF. Every command is dealings, but for the completion of a fill, the starts and the ends of work.
-/

namespace Sys2Proof.Machine

/-- A fetch whose fill write has been lost has none outstanding. -/
theorem State.fillOutstanding_loseFill (s : State) (id : Nat) : (s.loseFill id).fillOutstanding id = false := by
  rw [← Bool.not_eq_true, State.fillOutstanding_iff]
  rintro ⟨k, hk, hf⟩
  obtain ⟨b, -, rfl⟩ := List.mem_map.1 hk
  rcases hf with ⟨f, hf, he⟩ | ⟨f, hc, he, hl⟩
  · have other := (List.mem_filter.1 hf).2
    simp [he] at other
  · obtain ⟨op, -, hop⟩ := Option.map_eq_some_iff.1 hc
    unfold BankOp.loseFill at hop
    split at hop
    · split at hop
      · cases hop
        cases hl
      · next hne =>
        cases hop
        exact hne he
    · cases hop

/-! ### Planning -/

/-- The candidates' titles are distinct where the orders' are. -/
theorem State.candidates_once {s : State} {p : Patron} (h : (p.orders.map (·.title)).Nodup) :
    ((s.candidates p).map (·.title)).Nodup := by
  have perm : (s.candidates p).Perm ((s.window p).filter (fun e => s.candidate p e)) := by
    rw [State.candidates]
    exact List.filter_append_perm _ _
  rw [(perm.map _).nodup_iff]
  exact h.sublist ((List.filter_sublist.trans (List.take_sublist _ _)).map _)

/-- A plan made from a patron's walk, to be enrolled with the patron's record written over. -/
theorem State.enrols_planOf {d : Prop} {s : State} {k : Nat} {p q : Patron} (hr : s.run = .running) (hs : s.stopTest = false)
    (ha : (s.setPatron k q).admissible (planOf k (s.pack p).taken).titles = true)
    (hd : d → (p.orders.map (·.title)).Nodup) : (s.setPatron k q).Enrols d (planOf k (s.pack p).taken) where
  running := hr
  state := rfl
  room := hs
  admissible := ha
  blocks x hx := by
    have sizes : ∀ y ∈ (placeFrom 1 (s.pack p).taken).map (fun q => (q.blocks, q.pages)), y.1 = blockSize y.2 := by
      rw [placeFrom_map_of _ _ fun _ b n => (b, n)]
      intro y hy
      obtain ⟨z, -, rfl⟩ := List.mem_map.1 hy
      rfl
    exact sizes _ (List.mem_map_of_mem hx)
  once h := by
    have titles : (planOf k (s.pack p).taken).placements.map (·.title) = (s.pack p).taken.map (·.title) :=
      placeFrom_map_of _ _ fun t _ _ => t
    rw [titles]
    exact (State.candidates_once (hd h)).sublist (s.pack_walked p).order

section Deals

variable {d : Prop} {o : Completing} {s t : State} (h : State.Deals d o s t)
include h

theorem State.Deals.planFor {k : Nat} {p : Patron} (ho : o = none) (hr : t.run = .running)
    (hs : t.stopTest = false) (hd : d → (p.orders.map (·.title)).Nodup) : State.Deals d o s (t.planFor k p) := by
  have marked : State.Deals d o s (t.setPatron k { p with orders := markOversize (t.pack p).oversize p.orders }) :=
    h.setRecords
  unfold State.planFor
  dsimp only
  split
  · exact marked
  · split
    · exact marked.onPatron
    · split
      · next hadm =>
        rw [State.commit_eq]
        exact (marked.then (.enrolled ho (State.enrols_planOf hr hs hadm hd))).matchJobs
      · exact marked.onPatron

theorem State.Deals.endPass : State.Deals d o s t.endPass := by
  unfold State.endPass
  split
  · exact h.beginPass
  · exact h.same rfl

theorem State.Deals.passStep (ho : o = none) (hr : t.run = .running)
    (hd : d → ∀ k p, t.patron k = some p → (p.orders.map (·.title)).Nodup) : State.Deals d o s t.passStep := by
  unfold State.passStep
  split
  · exact h
  · exact h.endPass
  · next k rest hp =>
    split
    · exact h.endPass
    · next hs =>
      have begun : State.Deals d o s (t.setPlanner { t.planner with pass := some rest }) := h.same rfl
      have planned : State.Deals d o s (match (t.setPlanner { t.planner with pass := some rest }).patron k with
          | some p => if p.passable then (t.setPlanner { t.planner with pass := some rest }).planFor k p
            else t.setPlanner { t.planner with pass := some rest }
          | none => t.setPlanner { t.planner with pass := some rest }) := by
        split
        · next p hp =>
          split
          · exact begun.planFor ho hr (Bool.not_eq_true _ |>.mp hs) fun hx => hd hx _ _ hp
          · exact begun
        · exact begun
      dsimp only
      split
      · exact planned.takeTrigger.endPass
      · exact planned.takeTrigger

/-! ### Images that do not come out right -/

omit h in
theorem State.Deals.failPlans_of {plans : List Nat} (hp : State.Deals d o s (plans.foldl State.endPlan t)) :
    State.Deals d o s (t.failPlans plans) := by
  unfold State.failPlans
  split
  · next he =>
    rw [List.isEmpty_iff.1 he] at hp
    exact hp
  · exact hp.raise.matchIdled

theorem State.Deals.imageBad {k x failures : Nat} (hf : t.FetchOf o x k) : State.Deals d o s (t.imageBad k x failures) := by
  have marked : State.Deals d o s (t.onTitle k (fun r => { r with bad := true, failures := failures })) :=
    h.onTitle
  have there : (t.onTitle k (fun r => { r with bad := true, failures := failures })).FetchOf o x k := by
    simpa only [State.FetchOf, State.fetch, State.fillOutstanding, State.onTitle_frame] using hf
  have plans : (t.onTitle k (fun r => { r with bad := true, failures := failures })).plansPlacing k = t.plansPlacing k := by
    simp only [State.plansPlacing, State.onTitle_frame]
  have spoiled := marked.then (.spoiled there)
  rw [plans] at spoiled
  unfold State.imageBad
  exact State.Deals.failPlans_of spoiled

theorem State.Deals.imageMismatch {k x b : Nat} {f : FillOp} (ho : o = some (b, f)) (hx : f.fetch = x) (hk : f.title = k)
    (hf : (t.fetch x).isSome = true) : State.Deals d o s (t.imageMismatch k x) := by
  have counted : State.Deals d o s (t.onTitle k (fun r => { r with failures := r.failures + 1 })) := h.onTitle
  have readers {n : Nat} (hn : n ∈ t.readers k) : n ∈ slotNumbers := by
    have := List.mem_of_mem_filter hn
    simpa using this
  have aborted : State.Deals d o s ((t.readers k).foldl State.abortSlot
      (t.onTitle k (fun r => { r with failures := r.failures + 1 }))) :=
    counted.foldl fun _ _ hu hn => hu.abortSlot (readers hn)
  have fetches : ((t.readers k).foldl State.abortSlot
      (t.onTitle k (fun r => { r with failures := r.failures + 1 }))).store.fetches = t.store.fetches := by
    simp
  have there : ((t.readers k).foldl State.abortSlot
      (t.onTitle k (fun r => { r with failures := r.failures + 1 }))).FetchOf o x k :=
    .inl ⟨b, f, ho, hx, hk, by rw [State.fetch, fetches]; exact hf⟩
  have stopped : State.Deals d o s (slotNumbers.foldl (fun s n => s.stopReading k n)
      (((((t.readers k).foldl State.abortSlot
        (t.onTitle k (fun r => { r with failures := r.failures + 1 }))).recreateImage k).requeueFetch x).spaceFreed)) :=
    State.Deals.foldl (((aborted.then (.recreated there)).then (.requeued x)).spaceFreed)
      fun _ _ hu hn => hu.stopReading hn
  unfold State.imageMismatch
  dsimp only
  split
  · exact stopped
  · exact stopped.matchJobs

theorem State.Deals.afterFrame {b : Nat} {f : FillOp} {g : Fetch} (ho : o = some (b, f))
    (hf : (t.fetch f.fetch).isSome = true) : State.Deals d o s (t.afterFrame f g) := by
  have there : t.FetchOf o f.fetch f.title := .inl ⟨b, f, ho, rfl, rfl, hf⟩
  unfold State.afterFrame
  split
  · split
    · exact (h.imageComplete there).formWriting
    · split
      · exact (h.imageMismatch ho rfl rfl hf).formWriting
      · exact (h.imageBad there).formWriting
  · exact State.Deals.formWriting (h.foldl fun _ _ hu hn => hu.notify hn)

end Deals

/-- What the completion of a fill makes of the state, before the bank's next grant. -/
def State.filled (s : State) (f : FillOp) : State :=
  match if f.live then (s.storeFrame f).fetch f.fetch else none with
  | some g => ((s.storeFrame f).countFrame f).afterFrame f g
  | none => (s.storeFrame f).formWriting f.fetch { status := .noRecord, fields := [] }

theorem State.fillComplete_eq (s : State) (b : Nat) (f : FillOp) : s.fillComplete b f = (s.filled f).grantNext b := rfl

theorem State.filled_deals (d : Prop) (s : State) (b : Nat) (f : FillOp) :
    State.Deals d (some (b, f)) s (s.filled f) := by
  have stored : State.Deals d (some (b, f)) s (s.storeFrame f) := (State.Deals.refl _ _ s).storeFrame
  unfold State.filled
  split
  · next g hg =>
    have found : (s.fetch f.fetch).isSome = true := by
      split at hg
      · rw [State.fetch, (by rfl : (s.storeFrame f).store.fetches = s.store.fetches)] at hg
        rw [State.fetch, hg]
        rfl
      · cases hg
    refine stored.countFrame.afterFrame rfl ?_
    have fetches : ((s.storeFrame f).countFrame f).store.fetches =
        s.store.fetches.map (fun e => if e.id = f.fetch then { e with next := e.next + 1 } else e) := by
      simp [State.countFrame, State.onFetch, State.setFetches, State.storeFrame]
    rw [State.fetch, List.find?_isSome] at found ⊢
    obtain ⟨e, he, hid⟩ := found
    rw [fetches]
    refine ⟨_, List.mem_map_of_mem he, ?_⟩
    rw [if_pos (of_decide_eq_true hid)]
    exact hid
  · exact stored.formWriting

end Sys2Proof.Machine

end

section
/-!
PROOF. The dealings of the requests, the mail desk, the returns desk and the calendar; and those of every move.
-/

namespace Sys2Proof.Machine

section Deals

variable {d : Prop} {o : Completing} {s t : State} (h : State.Deals d o s t)
include h

/-! ### The request commands -/

theorem State.Deals.patronCreate {a b c d' e f : Nat} : State.Deals d o s (answerPatronCreate a b c d' e f t).2 := by
  unfold answerPatronCreate
  split
  · exact h
  · split
    · exact h
    · split
      · exact h
      · split
        · exact h
        · split
          · exact h
          · exact State.Deals.noteTrigger (State.Deals.usePatron h.setRecords)

theorem State.Deals.patronUpdate {a b c d' e f g : Nat} : State.Deals d o s (answerPatronUpdate a b c d' e f g t).2 := by
  have after (k : Nat) (p q : Patron) : State.Deals d o s ((t.setPatron k q).afterPatronUpdate k p q) := by
    have written : State.Deals d o s (t.setPatron k q) := h.setRecords
    have cleared : State.Deals d o s (if q.cls = p.cls then t.setPatron k q else (t.setPatron k q).clearFillLow k) := by
      split
      · exact written
      · exact written.clearFillLow
    unfold State.afterPatronUpdate
    dsimp only
    split
    · exact cleared.sweepPatron
    · exact cleared
  unfold answerPatronUpdate
  split
  · exact h
  · split
    · exact h
    · split
      · exact h
      · split
        · exact h
        · split
          · exact h
          · split
            · exact h
            · exact (after _ _ _).usePatron.noteTrigger

theorem State.Deals.patronPause {a b c d' : Nat} : State.Deals d o s (answerPatronPause a b c d' t).2 := by
  unfold answerPatronPause
  split
  · exact h
  · split
    · exact h
    · split
      · exact h
      · split
        · exact h
        · refine State.Deals.noteTrigger (State.Deals.usePatron ?_)
          unfold State.pausePatron
          split
          · exact h.setRecords
          · exact State.Deals.sweepPatron h.setRecords
          · exact h

/-- Each set item of the list is withdrawn, once. -/
theorem State.Deals.withdrawSets {l : List Item} (hl : ∀ i ∈ l, i ∈ t.mail.tray ∨ ∀ j ∈ t.mail.tray, j.number ≠ i.number) :
    State.Deals d o s (l.foldl State.withdrawSet t) := by
  induction l generalizing t with
  | nil => exact h
  | cons i l ih =>
    refine ih (h.withdrawSet (hl i List.mem_cons_self)) fun x hx => ?_
    have tray : (t.withdrawSet i).mail.tray = t.mail.tray ∨
        (t.withdrawSet i).mail.tray = t.mail.tray.filter (fun j => decide (j.number ≠ i.number)) := by
      unfold State.withdrawSet
      split
      · exact .inr (by simp [State.removeItem])
      · exact .inl rfl
    have before := hl x (List.mem_cons_of_mem _ hx)
    rcases tray with tray | tray
    · rw [tray]
      exact before
    · rw [tray]
      by_cases hn : x.number = i.number
      · refine .inr fun j hj => ?_
        rw [hn]
        simpa using (List.mem_filter.1 hj).2
      · refine before.imp (fun hm => List.mem_filter.2 ⟨hm, by simpa using hn⟩) fun hm j hj => ?_
        exact hm j (List.mem_of_mem_filter hj)

theorem State.Deals.closePatron {k : Nat} : State.Deals d o s (t.closePatron k) := by
  have ended : State.Deals d o s ((t.plansOf k).foldl State.endPlan t) := h.foldl fun _ _ hu _ => hu.endPlan
  have withdrawn := ended.withdrawSets (l := ((t.plansOf k).foldl State.endPlan t).setsOf k)
    fun i hi => .inl (List.mem_of_mem_filter hi)
  unfold State.closePatron
  exact State.Deals.onPatron (withdrawn.removeEntries.foldl fun _ _ hu _ => hu.leaveHold)

theorem State.Deals.patronClose {a : Nat} : State.Deals d o s (answerPatronClose a t).2 := by
  unfold answerPatronClose
  split
  · exact h
  · split
    · exact h
    · split
      · exact h
      · refine State.Deals.usePatron (State.Deals.matchIdled ?_)
        unfold State.sweepAfterClose
        split
        · exact h.closePatron
        · exact h.closePatron.sweep

theorem State.Deals.titleCreate {a b c d' e : Nat} : State.Deals d o s (answerTitleCreate a b c d' e t).2 := by
  unfold answerTitleCreate
  split
  · exact h
  · split
    · exact h
    · split
      · exact h
      · split
        · exact h
        · exact State.Deals.useTitle h.setRecords

theorem State.Deals.dropImage {k : Nat} (hb : t.imageBars k = none) : State.Deals d o s (t.dropImage k) := by
  unfold State.dropImage
  unfold State.imageBars at hb
  split
  · next e he =>
    rw [he] at hb
    dsimp only at hb
    split at hb
    · cases hb
    · next hp =>
      split at hb
      · next hr =>
        refine (h.then (.removeImage ?_ (.inr fun e' he' => ?_))).spaceFreed
        · rw [State.pins, he]
          exact Nat.eq_zero_of_not_pos hp
        · rw [he] at he'
          cases he'
          exact hr
      · cases hb
  · exact h

theorem State.Deals.titleUpdate {a b c d' e f : Nat} : State.Deals d o s (answerTitleUpdate a b c d' e f t).2 := by
  unfold answerTitleUpdate
  split
  · exact h
  · split
    · exact h
    · split
      · exact h
      · split
        · exact h
        · split
          · exact h
          · dsimp only
            split
            · exact h
            · next hb =>
              refine State.Deals.useTitle ?_
              have written {u : State} {k : Nat} {x : Title} (hu : State.Deals d o s u) :
                  State.Deals d o s (u.setTitle k x) := hu.setRecords
              unfold State.updateTitle
              dsimp only
              split
              · split
                · next hc => exact written (h.dropImage (by rwa [if_pos hc] at hb))
                · exact written h
              · split
                · next hc => exact (written (h.dropImage (by rwa [if_pos hc] at hb))).clearOversizeOf
                · exact (written h).clearOversizeOf

theorem State.Deals.titleWithdraw {a b : Nat} : State.Deals d o s (answerTitleWithdraw a b t).2 := by
  unfold answerTitleWithdraw
  split
  · exact h
  · refine State.Deals.useTitle ?_
    unfold State.withdrawTitle
    dsimp only
    split
    · exact State.Deals.sweep h.setRecords
    · exact h.setRecords

theorem State.Deals.copies {a b c : Nat} : State.Deals d o s (answerCopies a b c t).2 := by
  obtain same | ⟨k, r, n, u, sweeps, hk, -, hc, same⟩ := answerCopies_cases a b c t
  · rw [same]; exact h
  · have moved : State.Deals d o s u := by
      obtain ⟨-, -, -, -, rfl⟩ | ⟨-, -, -, -, rfl⟩ | ⟨-, -, -, -, -, -, rfl⟩ := copiesAction_cases hc
      · exact h.setRecords
      · exact h.setRecords
      · exact State.Deals.setRecords h.moveCopy
    rw [same]
    refine State.Deals.useTitle ?_
    split
    · exact moved.sweep
    · exact moved

theorem State.Deals.orderAdd {a b c d' e : Nat} : State.Deals d o s (answerOrderAdd a b c d' e t).2 := by
  unfold answerOrderAdd
  split
  · exact h
  · next k _ =>
    split
    · exact h
    · split
      · exact h
      · next p r _ _ _ =>
        have added (x : OrderEntry) (i : Nat) : State.Deals d o s (t.insertEntry k i x) := h.onPatron.clearFillLow
        refine State.Deals.noteTrigger (State.Deals.useTitle (State.Deals.usePatron ?_))
        obtain ⟨c, -, hc, hs⟩ | ⟨-, -, hs⟩ | ⟨-, hs⟩ := t.addedState_cases k r
        · rw [hs]
          refine (added _ _).allocate ?_
          have room := State.room_of_canTake (State.canTake_of_immediateCopy hc)
          simpa [State.setItems, State.insertEntry] using room
        · rw [hs]
          exact (added _ _).onTitle
        · rw [hs]
          exact added _ _
      · exact h

theorem State.Deals.dropEntry {k x : Nat} {st : EntryState} : State.Deals d o s (t.dropEntry k x st) := by
  unfold State.dropEntry
  dsimp only
  split
  · exact h.removeEntries.leaveHold
  · split
    · next i hi => exact (h.removeEntries.withdrawSet (.inl (List.mem_of_find?_eq_some hi))).sweep
    · exact h.removeEntries
  · exact h.removeEntries

theorem State.Deals.orderDrop {a b : Nat} : State.Deals d o s (answerOrderDrop a b t).2 := by
  unfold answerOrderDrop
  split
  · exact h
  · split
    · exact h
    · split
      · exact h
      · split
        · exact h
        · split
          · exact h
          · exact h.dropEntry.usePatron.useTitle.noteTrigger

theorem State.Deals.orderMove {a b c : Nat} : State.Deals d o s (answerOrderMove a b c t).2 := by
  unfold answerOrderMove
  split
  · exact h
  · split
    · exact h
    · split
      · exact h
      · refine State.Deals.noteTrigger (State.Deals.usePatron ?_)
        split
        · exact h
        · exact State.Deals.clearFillLow h.setRecords

theorem State.Deals.planCancel {a : Nat} : State.Deals d o s (answerPlanCancel a t).2 := by
  unfold answerPlanCancel
  split
  · exact h
  · split
    · exact h
    · exact h.endPlan.matchIdled

theorem State.Deals.fetchNext : State.Deals d o s (answerFetchNext t).2 := by
  unfold answerFetchNext
  split
  · exact h
  · next f hf =>
    split
    · exact h
    · next hs =>
      exact h.then (.started (List.mem_of_find?_eq_some hf) (by simpa using List.find?_some hf) (Nat.not_le.1 hs))

theorem State.Deals.fetchAbandon {a : Nat} (ho : o = none) : State.Deals d o s (answerFetchAbandon a t).2 := by
  unfold answerFetchAbandon
  split
  · exact h
  · next f hf =>
    split
    · exact h
    · have spoiled {u : State} (hu : State.Deals d o s u) (same : u.store = t.store) {failures : Nat} :
          State.Deals d o s ((u.loseFill a).imageBad f.title a failures) := by
        refine (hu.then (.loseFill ho a)).imageBad (.inr ⟨ho, State.fillOutstanding_loseFill u a, f, ?_, rfl⟩)
        have fetches : (u.loseFill a).store.fetches = t.store.fetches := by rw [← same]; rfl
        rw [State.fetch, fetches]
        exact hf
      dsimp only
      split
      · exact spoiled h.formWriting (by simp)
      · exact spoiled h rfl

theorem State.Deals.preload {a : Nat} (ho : o = none) : State.Deals d o s (answerPreload a t).2 := by
  unfold answerPreload
  split
  · exact h
  · split
    · exact h
    · split
      · exact h
      · split
        · exact h
        · split
          · exact h
          · next hi =>
            split
            · exact h
            · next ha =>
              exact ((h.then (.admitted ho (by simpa using hi) (by simpa using ha))).raise).useTitle

theorem State.Deals.imageDrop {a : Nat} : State.Deals d o s (answerImageDrop a t).2 := by
  unfold answerImageDrop
  split
  · exact h
  · split
    · exact h
    · next e he =>
      split
      · exact h
      · next hp =>
        split
        · exact h
        · next hr =>
          refine ((h.then (.removeImage ?_ (.inr fun e' he' => ?_))).spaceFreed).useTitle
          · rw [State.pins, he]
            exact Nat.eq_zero_of_not_pos hp
          · rw [he] at he'
            cases he'
            simpa using hr

theorem State.Deals.slotHold {a : Nat} : State.Deals d o s (answerSlotHold a t).2 := by
  unfold answerSlotHold
  split
  · exact h
  · split
    · exact h
    · next u hu => exact h.holdSlot hu

theorem State.Deals.slotRelease {a : Nat} : State.Deals d o s (answerSlotRelease a t).2 := by
  unfold answerSlotRelease
  split
  · exact h
  · next hn =>
    have numbered : slotNumber a = true := by simpa using hn
    have named : a ∈ slotNumbers := mem_slotNumbers.2 (of_decide_eq_true numbered)
    split
    · next p hs hr => exact h.releaseSlot named hs hr
    · exact h

theorem State.Deals.slotClear {a : Nat} : State.Deals d o s (answerSlotClear a t).2 := by
  unfold answerSlotClear
  split
  · exact h
  · split
    · next hc =>
      refine h.beginIdent rfl fun hs => ?_
      unfold Slot.clearable at hc
      split at hc
      · next he => rw [he] at hs; revert hs; decide
      · next he => rw [he] at hs; revert hs; decide
      · next he => rw [he] at hs; revert hs; decide
      · cases hc
    · exact h

theorem State.Deals.shelfPulled {a : Nat} : State.Deals d o s (answerShelfPulled a t).2 := by
  unfold answerShelfPulled
  split
  · exact h
  · split
    · exact h
    · split
      · exact h.setItemState
      · exact h

theorem State.Deals.mailLabel {a : Nat} : State.Deals d o s (answerMailLabel a t).2 := by
  unfold answerMailLabel
  split
  · exact h
  · split
    · exact h
    · exact h.setItemState
    · exact h

theorem State.Deals.alarmPut {a b c d' : Nat} : State.Deals d o s (answerAlarmPut a b c d' t).2 := by
  unfold answerAlarmPut
  split
  · exact h
  · exact h.setMail rfl

theorem State.Deals.binTake {a b : Nat} : State.Deals d o s (answerBinTake a b t).2 := by
  unfold answerBinTake
  split
  · exact h
  · exact h.setReturns

theorem State.Deals.completeSet {a b c d' : Nat} : State.Deals d o s (t.completeSet a b c d') :=
  State.Deals.sweep (State.Deals.noteTrigger (State.Deals.moveCopy (State.Deals.dropSets h.setRecords)))

theorem State.Deals.returnLoan {a b : Nat} : State.Deals d o s (answerReturnLoan a b t).2 := by
  unfold answerReturnLoan
  split
  · exact h
  · split
    · exact h
    · split
      · exact h
      · split
        · exact h
        · split
          · exact h
          · split
            · exact h.setRecords
            · exact h.completeSet

theorem State.Deals.returnLate {a b c : Nat} : State.Deals d o s (answerReturnLate a b c t).2 := by
  unfold answerReturnLate
  split
  · exact h
  · split
    · exact h
    · split
      · exact h
      · split
        · exact h
        · dsimp only
          split
          · exact h
          · split
            · exact h
            · split
              · exact h.useTitle
              · split
                · exact State.Deals.useTitle h.setRecords
                · exact State.Deals.useTitle (State.Deals.sweep (State.Deals.moveCopy h.setRecords))

theorem State.Deals.clockStop : State.Deals d o s (answerClockStop t).2 := by
  unfold answerClockStop
  dsimp only
  split
  · exact h
  · split
    · exact State.Deals.raise h.setCalendar
    · exact h

theorem State.Deals.clockSet {a b c d' e f : Nat} : State.Deals d o s (answerClockSet a b c d' e f t).2 := by
  unfold answerClockSet
  dsimp only
  split
  · exact h
  · split
    · exact h
    · split
      · exact h
      · exact h.setCalendar

theorem State.Deals.clockStart : State.Deals d o s (answerClockStart t).2 := by
  unfold answerClockStart
  dsimp only
  split
  · exact h
  · split
    · exact h
    · split
      · exact h
      · dsimp only [accept]
        split
        · exact State.Deals.setCalendar (State.Deals.setCalendar h.setCalendar)
        · exact h.setCalendar

theorem State.Deals.answer (ho : o = none) (c : Instr) : State.Deals d o s (answerOf c t).2 := by
  cases c
  case unknownRequest =>
    simp only [answerOf, answerUnknown]
    split
    · exact h
    · exact h
    · exact h
  case status => exact h.setLink
  case eventsEnable => exact h.setLink
  case contextSet =>
    simp only [answerOf, answerContextSet]
    split
    · exact h
    · split
      · exact h
      · exact h.setLink
  case settingsPut => exact h.setLink
  case patronPutCreate => exact h.patronCreate
  case patronPutUpdate => exact h.patronUpdate
  case patronGet =>
    simp only [answerOf, answerPatronGet]
    split
    · exact h
    · exact h.usePatron
  case patronPause => exact h.patronPause
  case patronClose => exact h.patronClose
  case titlePutCreate => exact h.titleCreate
  case titlePutUpdate => exact h.titleUpdate
  case titleGet =>
    simp only [answerOf, answerTitleGet]
    split
    · exact h
    · exact h.useTitle
  case titleWithdraw => exact h.titleWithdraw
  case copiesAdjustAdd | copiesAdjustRemove | copiesAdjustFound => exact h.copies
  case loanList =>
    simp only [answerOf, answerLoanList]
    split
    · exact h
    · exact h.usePatron
  case orderAdd => exact h.orderAdd
  case orderDrop => exact h.orderDrop
  case orderMove => exact h.orderMove
  case orderList =>
    simp only [answerOf, answerOrderList]
    split
    · exact h
    · exact h.usePatron
  case holdList =>
    simp only [answerOf, answerHoldList]
    split
    · exact h
    · split
      · exact h
      · exact h.useTitle
  case planNow => exact h.noteTrigger
  case planCancel => exact h.planCancel
  case fetchNext => exact h.fetchNext
  case fetchAbandon => exact h.fetchAbandon ho
  case preload => exact h.preload ho
  case imageDrop => exact h.imageDrop
  case slotHold => exact h.slotHold
  case slotRelease => exact h.slotRelease
  case slotClear => exact h.slotClear
  case shelfPulled => exact h.shelfPulled
  case mailLabel => exact h.mailLabel
  case alarmPut => exact h.alarmPut
  case returnVolumeLoan => exact h.returnLoan
  case returnVolumeLate => exact h.returnLate
  case binTake => exact h.binTake
  case clockStop => exact h.clockStop
  case clockSet => exact h.clockSet
  case clockStart => exact h.clockStart
  case closedDayPutUsed =>
    simp only [answerOf, answerClosedUsed]
    split
    · exact h
    · split
      · exact h
      · exact h.setCalendar
  case closedDayPutClear =>
    simp only [answerOf, answerClosedClear]
    split
    · exact h
    · exact h.setCalendar
  case remindersRead => exact h.setCalendar
  case loanGet | planGet | manifestGet | binList | slotStatus =>
    simp only [answerOf, answerLoanGet, answerPlanGet, answerManifestGet, answerBinList, answerSlotStatus]
    split
    · exact h
    · exact h
  case slotFaultGet =>
    simp only [answerOf, answerSlotFaultGet]
    split
    · exact h
    · split
      · exact h
      · exact h
  all_goals exact h

end Deals

end Sys2Proof.Machine

end

section
/-!
PROOF. The dealings of the mail desk, the returns desk and the calendar; and those of every move.
-/

namespace Sys2Proof.Machine

section Deals

variable {d : Prop} {o : Completing} {s t : State} (h : State.Deals d o s t)
include h

/-! ### The mail desk -/

theorem State.Deals.closeBegin : State.Deals d o s t.closeBegin := by
  unfold State.closeBegin
  split
  · exact h.raise
  · exact h.setMail rfl

theorem State.Deals.closeCall : State.Deals d o s t.closeCall := by
  unfold State.closeCall
  split
  · exact h.setMail rfl
  · split
    · exact h.setMail rfl
    · exact h.closeBegin

theorem State.Deals.storeBatch {m : Manifest} : State.Deals d o s (t.storeBatch m) :=
  State.Deals.raise (by exact h.setMail rfl)

theorem State.Deals.takeWaiting : State.Deals d o s t.takeWaiting := by
  have taken : State.Deals d o s (t.setMail { t.mail with waitingClose := false }) := h.setMail rfl
  unfold State.takeWaiting
  split
  · dsimp only
    split
    · exact taken.setMail rfl
    · split
      · exact taken
      · exact taken.closeBegin
  · exact h

theorem State.Deals.closeEnd {c : Close} : State.Deals d o s (t.closeEnd c) := by
  have ended : State.Deals d o s (t.setMail { t.mail with close := none }) := h.setMail rfl
  refine State.Deals.takeWaiting ?_
  split
  · dsimp only
    split
    · exact ended.storeBatch.sweep
    · exact ended.storeBatch
  · exact ended.raise

theorem State.Deals.appendEntry {c : Close} {e : ManifestEntry} : State.Deals d o s (t.appendEntry c e) := by
  unfold State.appendEntry
  split
  · exact h.setMail rfl
  · exact h.setMail rfl

theorem State.Deals.recordDispatch {item n : Nat} : State.Deals d o s (t.recordDispatch item n) := by
  unfold State.recordDispatch
  dsimp only
  split
  · exact h.setSlot (.still rfl rfl rfl)
  · exact h

theorem State.Deals.dispatchCartridge {c : Close} {i : Item} {plan serial id : Nat} (hi : i ∈ t.mail.tray)
    (hk : i.kind = .cartridge plan serial) : State.Deals d o s (t.dispatchCartridge c i plan serial id) := by
  unfold State.dispatchCartridge
  dsimp only
  refine State.Deals.appendEntry (State.Deals.foldl ?_ fun _ _ hu _ => hu.recordDispatch)
  refine (h.then (.dispatched hi hk)).same ?_
  simp [State.core, State.recordService, State.erasePlan, State.removeItem]

theorem State.Deals.dispatchSet {c : Close} {i : Item} {k copy id : Nat} (hi : i ∈ t.mail.tray)
    (hk : i.kind = .set k copy) : State.Deals d o s (t.dispatchSet c i k copy id) := by
  have set : i.kind.isSet = true := by rw [hk]; rfl
  unfold State.dispatchSet
  dsimp only
  refine State.Deals.appendEntry (State.Deals.setMail ?_ (by exact rfl))
  refine State.Deals.then ?_ (.itemRemoved ⟨set, .inl ?_⟩)
  · exact State.Deals.onPatron (State.Deals.removeEntries (State.Deals.moveCopy h.setRecords))
  · simpa [State.recordService] using hi

theorem State.Deals.afterDispatch : State.Deals d o s t.afterDispatch := by
  unfold State.afterDispatch
  split
  · split
    · exact h.closeEnd
    · exact h
  · exact h

omit h in
/-- The item to be dispatched next is in the tray. -/
theorem State.nextDispatch_mem {t : State} {c : Close} {i : Item} (hn : t.nextDispatch = some (c, some i)) :
    i ∈ t.mail.tray := by
  unfold State.nextDispatch at hn
  split at hn
  · cases hn
  · split at hn
    · cases hn
    · simp only [Option.some.injEq, Prod.mk.injEq] at hn
      exact List.mem_of_find?_eq_some hn.2

theorem State.Deals.stepCartridge : State.Deals d o s t.stepCartridge := by
  unfold State.stepCartridge
  split
  · exact h
  · exact h.closeEnd
  · next hn =>
    split
    · next hk _ => exact (h.dispatchCartridge (State.nextDispatch_mem hn) hk).afterDispatch
    · exact h

theorem State.Deals.stepSet : State.Deals d o s t.stepSet := by
  unfold State.stepSet
  split
  · exact h
  · exact h.closeEnd
  · next hn =>
    split
    · next hk _ => exact (h.dispatchSet (State.nextDispatch_mem hn) hk).afterDispatch
    · exact h

/-! ### The returns desk -/

theorem State.Deals.setResult {x : Result} : State.Deals d o s (t.setResult x) := State.Deals.raise h.setReturns

theorem State.Deals.push {b : BinName} {serial : Option Nat} {reason : BinReason} : State.Deals d o s (t.push b serial reason) := by
  unfold State.push
  dsimp only
  split
  · exact State.Deals.raise h.setReturns
  · exact h.setReturns

theorem State.Deals.binCartridge {c : Classification} {x : Result} : State.Deals d o s (t.binCartridge c x) := by
  unfold State.binCartridge
  split
  · exact h.push.setResult
  · exact h.setResult

theorem State.Deals.relate {serial : Nat} : State.Deals d o s (t.relate serial).2 := by
  unfold State.relate
  split
  · exact State.Deals.noteTrigger (State.Deals.dropCarts h.setRecords)
  · split
    · exact h.unlose
    · exact h

theorem State.Deals.readerRead {i : Option Identity} : State.Deals d o s (t.readerRead i) := by
  have ends {u : State} (hu : State.Deals d o s u) : State.Deals d o s (u.readEnds i) := by
    unfold State.readEnds
    split
    · exact State.Deals.binCartridge hu.setReturns
    · dsimp only
      split
      · exact State.Deals.setResult hu.setReturns
      · split
        · exact State.Deals.setResult hu.setReturns
        · split
          · exact hu.setReturns
          · exact State.Deals.binCartridge (State.Deals.relate hu.setReturns)
  unfold State.readerRead
  split
  · exact h
  · split
    · exact ends h.setReturns
    · exact State.Deals.setReturns h.setReturns

theorem State.Deals.completePending : State.Deals d o s t.completePending := by
  unfold State.completePending
  split
  · exact h
  · next p _ =>
    have taken : State.Deals d o s (t.setReturns { t.returns with pending := none }) := h.setReturns
    have after {u : State} (hu : State.Deals d o s u) : State.Deals d o s u.afterPending := by
      unfold State.afterPending
      split
      · exact hu.setReturns
      · split
        · split
          · exact hu.setReturns
          · exact hu.setReturns
        · exact hu.setReturns
    dsimp only
    refine State.Deals.setReturns (after ?_)
    split
    · exact taken.relate.setResult
    · exact taken.relate.binCartridge

/-! ### The calendar -/

theorem State.Deals.minuteBoundary : State.Deals d o s t.minuteBoundary := by
  have warned : State.Deals d o s t.warnRoll := by
    unfold State.warnRoll
    split
    · exact State.Deals.raise h.setCalendar
    · exact h.setCalendar
  have drawn (n : Nat) : State.Deals d o s (t.warnRoll.setDrawn n) := warned.same rfl
  have begun {u : State} (hu : State.Deals d o s u) : State.Deals d o s u.beginRoll := State.Deals.setCalendar hu.setCalendar
  unfold State.minuteBoundary
  dsimp only
  split
  · split
    · exact (begun (drawn _)).closeCall
    · exact begun (drawn _).closeCall
  · split
    · exact begun warned
    · split
      · exact warned.closeCall
      · exact warned

theorem State.Deals.endStop : State.Deals d o s t.endStop := by
  unfold State.endStop
  split
  · dsimp only
    split
    · exact h.setCalendar
    · exact State.Deals.raise h.setCalendar
  · exact h

theorem State.Deals.tick : State.Deals d o s t.tick := by
  unfold State.tick
  split
  · dsimp only
    split
    · exact State.Deals.endStop (State.Deals.minuteBoundary h.setCalendar)
    · exact State.Deals.endStop h.setCalendar
  · exact h

theorem State.Deals.writeOff {id date : Nat} {l : Loan} : State.Deals d o s (t.writeOff id l date) := by
  have lost : State.Deals d o s (((t.setLost (appendLost t.records.lost (l.lost date))).freeLoan id).noteTrigger) :=
    State.Deals.noteTrigger (State.Deals.setRecords h.setRecords)
  unfold State.writeOff
  dsimp only
  split
  · exact lost.dropCarts
  · exact lost.dropSets.moveCopy.sweepPatron

theorem State.Deals.rollLoan {id date : Nat} {l : Loan} : State.Deals d o s (t.rollLoan id l date) := by
  have raised (c : Calendar) (x : Loan) : State.Deals d o s ((t.setCalendar c).setLoan id x) :=
    State.Deals.setRecords h.setCalendar
  unfold State.rollLoan
  split
  · exact h
  · dsimp only
    split
    · exact (raised _ _).writeOff
    · exact raised _ _

theorem State.Deals.loanStep : State.Deals d o s t.loanStep := by
  unfold State.loanStep
  split
  · split
    · split
      · exact State.Deals.setCalendar h.rollLoan
      · exact h
    · exact h.setCalendar
  · exact h

theorem State.Deals.rollPatron {k : Nat} {p : Patron} : State.Deals d o s (t.rollPatron k p) := by
  unfold State.rollPatron
  split
  · exact State.Deals.sweepPatron h.setRecords
  · unfold State.releasePatron
    dsimp only
    split
    · exact State.Deals.setLink h.setRecords
    · exact h.setRecords
  · exact h

theorem State.Deals.patronStep : State.Deals d o s t.patronStep := by
  unfold State.patronStep
  split
  · split
    · split
      · exact State.Deals.setCalendar h.rollPatron
      · exact h
    · exact h.setCalendar
  · exact h

theorem State.Deals.deferralStep : State.Deals d o s t.deferralStep := by
  unfold State.deferralStep
  split
  · exact State.Deals.setCalendar h.setRecords
  · exact h

theorem State.Deals.finishStep : State.Deals d o s t.finishStep := by
  have dropped {u : State} (hu : State.Deals d o s u) : State.Deals d o s u.dropHeld := by
    unfold State.dropHeld
    split
    · exact hu.setMail rfl
    · exact hu
  unfold State.finishStep
  split
  · refine dropped ?_
    split
    · exact State.Deals.raise (State.Deals.raise h.setCalendar)
    · exact State.Deals.raise h.setCalendar
  · exact h

theorem State.Deals.releaseClose : State.Deals d o s t.releaseClose := by
  have dropped : State.Deals d o s (t.setMail { t.mail with heldClose := false }) := h.setMail rfl
  unfold State.releaseClose
  dsimp only
  split
  · exact dropped
  · exact dropped.closeCall

theorem State.Deals.readComplete {b : Nat} {r : ReadOp} (ho : o = none) (hr : t.Reads r.slot) :
    State.Deals d o s (t.readComplete b r) := by
  unfold State.readComplete
  dsimp only
  split
  · exact (h.deliver hr).then (.granted ho b)
  · exact h.discardRead.then (.granted ho b)
  · exact h.then (.granted ho b)

theorem State.Deals.linkMove {u : State} (hu : t.LinkMove u) : State.Deals d o s u := by
  obtain ⟨l, rfl⟩ := hu.linkOnly
  exact h.setLink

end Deals

theorem State.judgeData_fetch {s : State} {id frame : Nat} {data : List Byte} {f : Fetch}
    (h : s.judgeData id frame data = .inr f) : s.fetch f.id = some f ∧ f.id = id := by
  unfold State.judgeData at h
  split at h
  · cases h
  · split at h
    · cases h
    · next g hg =>
      have found : s.store.fetches.find? (fun f => decide (f.id = id)) = some g := hg
      have named : g.id = id := by simpa using List.find?_some found
      split at h
      · cases h
      · split at h
        · cases h
        · split at h
          · cases h
          · split at h
            · cases h
            · cases h
              rw [named]
              exact ⟨hg, rfl⟩

/-- What the part begins anew, or ends. -/
inductive State.Begins (s : State) : State → Prop
  | restarted {l : Link} : Begins s (s.setLink l).endWork.clearLink.rebuild
  | poweredOn (held good : Bool) : Begins s (s.powerOn held good)
  | powerLost : Begins s s.losePower
  | resetAsserted : Begins s s.assertReset
  | resetReleased : Begins s s.rebuild

/-- Where the banks are right, a read that one has granted is of one of the part's slots. -/
theorem State.reads_of_current {s : State} {b : Nat} {r : ReadOp} (h : (s.bank b).current = some (.read r)) :
    s.Reads r.slot := by
  intro right
  have there : s.bank b ∈ s.store.banks ∨ s.bank b = Bank.idle := by
    unfold State.bank List.getD
    cases hx : s.store.banks[b]? with
    | none => exact .inr rfl
    | some x => exact .inl (List.mem_of_getElem? hx)
  rcases there with hm | hi
  · exact (right _ hm).2.2.2 r h
  · rw [hi] at h
    cases h

/-- A move begins or ends the part's work, sees a fill write completed, or is dealings. -/
theorem State.Move.deals (d : Prop) {s t : State} (h : s.Move t) :
    State.Deals d none s t ∨ s.Begins t ∨
      ∃ b f, b < 4 ∧ (s.bank b).current = some (.fill f) ∧ t = (s.filled f).grantNext b := by
  have here := State.Deals.refl d none s
  cases h with
  | link hl => exact .inl (here.linkMove hl)
  | trigger => exact .inl here.takeTrigger
  | answer c => exact .inl (here.answer rfl c)
  | restart => exact .inr (.inl .restarted)
  | @feed id frame data f hl ho hf =>
    refine .inl (here.then (.handFill rfl ?_ ?_))
    · have found := State.judgeData_fetch hf
      exact ⟨f, found.1, rfl⟩
    · have outstanding : s.fillOutstanding f.id = false := by
        rw [(State.judgeData_fetch hf).2]
        exact ho
      exact outstanding
  | socket hn hr he => exact .inl (here.socket hn he)
  | tick => exact .inl here.tick
  | dispatchCartridge => exact .inl here.stepCartridge
  | dispatchSet => exact .inl here.stepSet
  | readerRead => exact .inl here.readerRead
  | loanStep => exact .inl here.loanStep
  | patronStep => exact .inl here.patronStep
  | deferralStep => exact .inl here.deferralStep
  | finishStep => exact .inl here.finishStep
  | noteTrigger => exact .inl here.noteTrigger
  | follow => exact .inl here.setCalendar
  | releaseClose => exact .inl here.releaseClose
  | completePending => exact .inl here.completePending
  | powerOn => exact .inr (.inl (.poweredOn _ _))
  | losePower => exact .inr (.inl .powerLost)
  | assertReset => exact .inr (.inl .resetAsserted)
  | releaseReset => exact .inr (.inl .resetReleased)
  | present => exact .inl here.setPresent
  | insert => exact .inl here.insertCartridge
  | remove hn => exact .inl (here.removeCartridge hn)
  | fill hb hr hf => exact .inr (.inr ⟨_, _, hb, hf, rfl⟩)
  | read hb hr hf => exact .inl (here.readComplete rfl (State.reads_of_current hf))
  | readerPresent => exact .inl here.setReturns
  | readerInsert =>
    refine .inl ?_
    unfold State.readerInsert
    dsimp only
    split
    · exact State.Deals.setReturns here.setReturns
    · exact here.setReturns
  | readerRemove =>
    refine .inl ?_
    unfold State.readerRemove
    dsimp only
    split
    · exact State.Deals.setReturns here.setReturns
    · exact State.Deals.setReturns here.setReturns

end Sys2Proof.Machine

end

section
/-!
PROOF. The place of each plan: in the Job Queue, in a slot or with its item (R53, R60, R84, R101, R114), and the changes
that leave every plan its place.
-/

/-! ## Numbers not in use, and a list in two groups -/

namespace Sys2Proof.Machine

/-- The number after `n` in the cycle 1 to `max`. -/
def cycleNext (max n : Nat) : Nat := if max ≤ n then 1 else n + 1

/-- The numbers after `n`, the first being the one `k + 1` places on. -/
theorem iterate_cycleNext {max : Nat} (hm : 1 ≤ max) (n k : Nat) :
    (cycleNext max)^[k + 1] n = ((if max ≤ n then 0 else n) + k) % max + 1 := by
  have succ (x : Nat) : cycleNext max (x % max + 1) = (x + 1) % max + 1 := by
    have below := Nat.mod_lt x hm
    rw [← Nat.mod_add_mod x max 1, cycleNext]
    split
    · next h => rw [show x % max + 1 = max from Nat.le_antisymm below h, Nat.mod_self]
    · next h => rw [Nat.mod_eq_of_lt (Nat.lt_of_not_le h)]
  induction k with
  | zero =>
    rw [Function.iterate_one, cycleNext]
    split
    · simp
    · next h => exact (congrArg (· + 1) (Nat.mod_eq_of_lt (Nat.lt_of_not_le h))).symm
  | succ k ih => rw [Function.iterate_succ_apply', ih, succ, Nat.add_assoc]

/-- The search stops at a number not in use, or has found all the numbers it came to in use. -/
theorem nextFreeNumber_cases (max : Nat) (used : List Nat) (n fuel : Nat) :
    nextFreeNumber max used n fuel ∉ used ∨ ∀ k < fuel, (cycleNext max)^[k + 1] n ∈ used := by
  induction fuel generalizing n with
  | zero => exact .inr fun k hk => absurd hk (Nat.not_lt_zero k)
  | succ fuel ih =>
    have step : nextFreeNumber max used n (fuel + 1) =
        if used.contains (cycleNext max n) then nextFreeNumber max used (cycleNext max n) fuel
        else cycleNext max n := rfl
    rw [step]
    split
    · next h =>
      rcases ih (cycleNext max n) with free | all
      · exact .inl free
      · refine .inr fun k hk => ?_
        cases k with
        | zero => exact List.contains_iff_mem.1 h
        | succ k => exact all k (by omega)
    · next h => exact .inl fun hx => h (List.contains_iff_mem.2 hx)

/-- With fewer numbers in use than there are, the next number is not in use. -/
theorem nextNumber_notMem {max : Nat} {used : List Nat} (last : Nat) (h : used.length < max) :
    nextNumber max last used ∉ used := by
  rcases nextFreeNumber_cases max used last (used.length + 1) with free | all
  · exact free
  · have hm : 1 ≤ max := by omega
    have distinct : ((List.range (used.length + 1)).map fun k => (cycleNext max)^[k + 1] last).Nodup := by
      refine List.Nodup.map_on (fun j hj k hk he => ?_) List.nodup_range
      rw [List.mem_range] at hj hk
      rw [iterate_cycleNext hm, iterate_cycleNext hm] at he
      have same : j % max = k % max := Nat.ModEq.add_left_cancel' _ (Nat.succ.inj he)
      rwa [Nat.mod_eq_of_lt (by omega), Nat.mod_eq_of_lt (by omega)] at same
    have inside : ((List.range (used.length + 1)).map fun k => (cycleNext max)^[k + 1] last) ⊆ used := fun x hx => by
      obtain ⟨k, hk, rfl⟩ := List.mem_map.1 hx
      exact all k (List.mem_range.1 hk)
    have few := (distinct.subperm inside).length_le
    rw [List.length_map, List.length_range] at few
    omega

/-- A list whose marked members come first is cut in two at their number. -/
theorem pairwise_cut {r : Nat → Bool} {l : List Nat} (h : l.Pairwise (fun m n => r n = true → r m = true)) :
    (∀ m ∈ l.take (l.countP r), r m = true) ∧ ∀ m ∈ l.drop (l.countP r), r m = false := by
  induction l with
  | nil => exact ⟨nofun, nofun⟩
  | cons x l ih =>
    obtain ⟨hx, hl⟩ := List.pairwise_cons.1 h
    cases hr : r x with
    | true =>
      rw [List.countP_cons_of_pos hr, List.take_succ_cons, List.drop_succ_cons]
      exact ⟨List.forall_mem_cons.2 ⟨hr, (ih hl).1⟩, (ih hl).2⟩
    | false =>
      have unmarked : ∀ m ∈ x :: l, r m = false := fun m hm => by
        rcases List.mem_cons.1 hm with rfl | hm
        · exact hr
        · exact Bool.eq_false_iff.2 fun h => by rw [hx m hm h] at hr; cases hr
      rw [List.countP_eq_zero.2 fun m hm => by rw [unmarked m hm]; exact Bool.false_ne_true]
      exact ⟨nofun, unmarked⟩

/-- A member put between the two halves of a list whose marked members come first. -/
theorem pairwise_insert {r : Nat → Bool} {a b : List Nat} {n : Nat}
    (h : (a ++ b).Pairwise (fun m n => r n = true → r m = true)) (ha : r n = true → ∀ m ∈ a, r m = true)
    (hb : r n = false → ∀ m ∈ b, r m = false) : (a ++ n :: b).Pairwise (fun m n => r n = true → r m = true) := by
  obtain ⟨pa, pb, pab⟩ := List.pairwise_append.1 h
  refine List.pairwise_append.2 ⟨pa, List.pairwise_cons.2 ⟨fun m hm hr => ?_, pb⟩, fun m hm k hk hr => ?_⟩
  · cases hn : r n with
    | true => rfl
    | false => rw [hb hn m hm] at hr; cases hr
  · rcases List.mem_cons.1 hk with rfl | hk
    · exact ha hr m hm
    · exact pab m hm k hk hr

/-! ## Every plan in its place -/

/-- Plan `n`, or where there is none its number, stands where its state says and nowhere else. -/
structure State.Placed (s : State) (n : Nat) : Prop where
  queued : n ∈ s.planner.queue ↔ ∃ p, s.plan n = some p ∧ p.state = .queued
  bound : ∀ p k, s.plan n = some p → p.state = .inSlot k →
    k ∈ slotNumbers ∧ (s.run = .running → (s.slot k).job = some n)
  held : ∀ k ∈ slotNumbers, (s.slot k).job = some n → ∃ p, s.plan n = some p ∧ p.state = .inSlot k
  item : ∀ x ∈ s.mail.tray, ∀ serial, x.kind = .cartridge n serial →
    ∃ p, s.plan n = some p ∧ p.state = .mailing x.number ∧ p.patron = x.patron
  mailing : ∀ p k, s.plan n = some p → p.state = .mailing k →
    ∃ x ∈ s.mail.tray, x.number = k ∧ ∃ serial, x.kind = .cartridge n serial

/-- What O10 is proved by: `State.plansBound`, plan by plan, without the bounds that follow from the others. -/
structure State.Binds (s : State) : Prop where
  rising : s.planner.plans.rising = true
  eight : s.rack.length = 8
  once : s.planner.queue.Nodup
  rush : s.planner.queue.Pairwise (fun m n => s.isRush n = true → s.isRush m = true)
  jobs : ∀ k ∈ slotNumbers, (s.slot k).jobRight
  numbers : (s.mail.tray.map (·.number)).Nodup
  placed : ∀ n, s.Placed n
  plans : s.planner.plans.length ≤ Config.planMax
  pins : s.planner.plans.countP (fun e => e.2.state.pins) ≤ 24
  sets : s.setItems ≤ Config.trayRoom

theorem State.plansBound.binds {s : State} (h : s.plansBound) (rising : s.planner.plans.rising = true)
    (eight : s.rack.length = 8) : s.Binds := by
  obtain ⟨⟨once, queued, rush⟩, ⟨bound, held⟩, ⟨numbers, item, mailing⟩, plans, -, pins, sets, -⟩ := h
  refine ⟨rising, eight, once, rush, fun k hk => (held k hk).1, numbers, fun n => ?_, plans, pins, sets⟩
  exact ⟨queued n, fun p k => bound n p k, fun k hk => (held k hk).2 n, fun x hx serial => item x hx n serial,
    fun p k => mailing n p k⟩

/-- The plan that a cartridge item is of. -/
def Item.planOf (x : Item) : Nat :=
  match x.kind with
  | .cartridge n _ => n
  | .set _ _ => 0

theorem Item.kind_of_not_set {x : Item} (h : (!x.kind.isSet) = true) : ∃ serial, x.kind = .cartridge x.planOf serial := by
  unfold Item.planOf
  cases hk : x.kind with
  | cartridge n serial => exact ⟨serial, rfl⟩
  | set t c => rw [hk] at h; cases h

/-- The queue is no longer than the plans that wait or are in slots. -/
theorem State.Binds.queue_length {s : State} (h : s.Binds) :
    s.planner.queue.length ≤ s.planner.plans.countP (fun e => e.2.state.pins) := by
  rw [List.countP_eq_length_filter, ← List.length_map (f := Prod.fst)]
  refine (h.once.subperm fun n hn => ?_).length_le
  obtain ⟨p, hp, hs⟩ := (h.placed n).queued.1 hn
  exact List.mem_map.2 ⟨(n, p), List.mem_filter.2 ⟨Table.mem_of_look hp, by rw [hs]; rfl⟩, rfl⟩

/-- There are no more cartridge items than plans. -/
theorem State.Binds.carts_length {s : State} (h : s.Binds) :
    s.mail.tray.countP (fun x => !x.kind.isSet) ≤ s.planner.plans.length := by
  rw [List.countP_eq_length_filter, ← List.length_map (f := Item.planOf), ← List.length_map (f := Prod.fst) (as := s.planner.plans)]
  have plan : ∀ x ∈ s.mail.tray.filter (fun x => !x.kind.isSet), x ∈ s.mail.tray ∧
      ∃ p, s.plan x.planOf = some p ∧ p.state = .mailing x.number := fun x hx => by
    obtain ⟨hm, hk⟩ := List.mem_filter.1 hx
    obtain ⟨serial, kind⟩ := Item.kind_of_not_set hk
    obtain ⟨p, hp, hs, -⟩ := (h.placed _).item x hm serial kind
    exact ⟨hm, p, hp, hs⟩
  refine (List.Nodup.subperm (List.Nodup.map_on (fun x hx y hy he => ?_) ?_) fun n hn => ?_).length_le
  · obtain ⟨hxm, p, hp, hps⟩ := plan x hx
    obtain ⟨hym, q, hq, hqs⟩ := plan y hy
    rw [he, hq] at hp
    cases hp
    rw [hqs] at hps
    exact List.inj_on_of_nodup_map h.numbers hxm hym (PlanState.mailing.inj hps).symm
  · exact (List.Nodup.of_map _ h.numbers).filter _
  · obtain ⟨x, hx, rfl⟩ := List.mem_map.1 hn
    obtain ⟨-, p, hp, -⟩ := plan x hx
    exact List.mem_map.2 ⟨_, Table.mem_of_look hp, rfl⟩

theorem State.Binds.plansBound {s : State} (h : s.Binds) : s.plansBound := by
  refine ⟨⟨h.once, fun n => (h.placed n).queued, h.rush⟩, ⟨fun n p k => (h.placed n).bound p k, fun k hk => ⟨h.jobs k hk, fun n => (h.placed n).held k hk⟩⟩,
    ⟨h.numbers, fun x hx n serial => (h.placed n).item x hx serial, fun n p k => (h.placed n).mailing p k⟩, h.plans,
    h.queue_length.trans h.pins, h.pins, h.sets, h.carts_length.trans h.plans⟩

/-! ## What leaves every plan its place -/

/-- The items with what the plans know of them. -/
def State.trayKinds (s : State) : List (Nat × Nat × ItemKind) := s.mail.tray.map (fun i => (i.number, i.patron, i.kind))

theorem State.mem_trayKinds {s t : State} (h : t.trayKinds = s.trayKinds) {x : Item} (hx : x ∈ t.mail.tray) :
    ∃ y ∈ s.mail.tray, y.number = x.number ∧ y.patron = x.patron ∧ y.kind = x.kind := by
  have there : (x.number, x.patron, x.kind) ∈ t.trayKinds := List.mem_map_of_mem hx
  rw [h] at there
  obtain ⟨y, hy, he⟩ := List.mem_map.1 there
  simp only [Prod.mk.injEq] at he
  exact ⟨y, hy, he⟩

theorem State.numbers_of_trayKinds {s t : State} (h : t.trayKinds = s.trayKinds) :
    t.mail.tray.map (·.number) = s.mail.tray.map (·.number) := by
  have := congrArg (List.map Prod.fst) h
  simpa [State.trayKinds, List.map_map, Function.comp_def] using this

theorem State.setItems_of_trayKinds {s t : State} (h : t.trayKinds = s.trayKinds) : t.setItems = s.setItems := by
  have count (u : State) : u.setItems = u.trayKinds.countP (fun x => x.2.2.isSet) := by
    rw [State.trayKinds, List.countP_map]
    rfl
  rw [count, count, h]

/-- What an item says of plan `n` is in the tray of `t` as in that of `s`. -/
def State.SameItems (s t : State) (n : Nat) : Prop :=
  (∀ x ∈ t.mail.tray, ∀ serial, x.kind = .cartridge n serial →
    ∃ y ∈ s.mail.tray, y.number = x.number ∧ y.patron = x.patron ∧ y.kind = x.kind) ∧
  ∀ x ∈ s.mail.tray, ∀ serial, x.kind = .cartridge n serial →
    ∃ y ∈ t.mail.tray, y.number = x.number ∧ y.patron = x.patron ∧ y.kind = x.kind

theorem State.sameItems_of_trayKinds {s t : State} (h : t.trayKinds = s.trayKinds) (n : Nat) : s.SameItems t n :=
  ⟨fun _ hx _ _ => State.mem_trayKinds h hx, fun _ hx _ _ => State.mem_trayKinds h.symm hx⟩

/-- A plan that nothing of its place is changed for keeps it. -/
theorem State.Placed.of_same {s t : State} {n : Nat} (h : s.Placed n)
    (plan : (t.plan n).map (fun p => (p.state, p.patron)) = (s.plan n).map (fun p => (p.state, p.patron)))
    (queue : n ∈ t.planner.queue ↔ n ∈ s.planner.queue) (run : t.run = s.run)
    (jobs : ∀ k ∈ slotNumbers, (t.slot k).job = some n ↔ (s.slot k).job = some n) (items : s.SameItems t n) :
    t.Placed n := by
  have there {u v : State} (he : (v.plan n).map (fun p => (p.state, p.patron)) = (u.plan n).map (fun p => (p.state, p.patron)))
      {p : Plan} (hp : v.plan n = some p) : ∃ q, u.plan n = some q ∧ q.state = p.state ∧ q.patron = p.patron := by
    rw [hp] at he
    obtain ⟨q, hq, hx⟩ := Option.map_eq_some_iff.1 he.symm
    exact ⟨q, hq, congrArg Prod.fst hx, congrArg Prod.snd hx⟩
  refine ⟨?_, fun p k hp hs => ?_, fun k hk hj => ?_, fun x hx serial hk => ?_, fun p k hp hs => ?_⟩
  · rw [queue, h.queued]
    constructor
    · rintro ⟨p, hp, hs⟩
      obtain ⟨q, hq, hqs, -⟩ := there plan.symm hp
      exact ⟨q, hq, hqs.trans hs⟩
    · rintro ⟨p, hp, hs⟩
      obtain ⟨q, hq, hqs, -⟩ := there plan hp
      exact ⟨q, hq, hqs.trans hs⟩
  · obtain ⟨q, hq, hqs, -⟩ := there plan hp
    obtain ⟨h8, hjob⟩ := h.bound q k hq (hqs.trans hs)
    exact ⟨h8, fun hr => (jobs k h8).2 (hjob (run ▸ hr))⟩
  · obtain ⟨p, hp, hs⟩ := h.held k hk ((jobs k hk).1 hj)
    obtain ⟨q, hq, hqs, -⟩ := there plan.symm hp
    exact ⟨q, hq, hqs.trans hs⟩
  · obtain ⟨y, hy, hn, hpat, hkind⟩ := items.1 x hx serial hk
    obtain ⟨p, hp, hs, hpp⟩ := h.item y hy serial (hkind.trans hk)
    obtain ⟨q, hq, hqs, hqp⟩ := there plan.symm hp
    exact ⟨q, hq, by rw [hqs, hs, hn], by rw [hqp, hpp, hpat]⟩
  · obtain ⟨q, hq, hqs, -⟩ := there plan hp
    obtain ⟨x, hx, hn, serial, hkind⟩ := h.mailing q k hq (hqs.trans hs)
    obtain ⟨y, hy, hyn, -, hyk⟩ := items.2 x hx serial hkind
    exact ⟨y, hy, hyn.trans hn, serial, hyk.trans hkind⟩

/-- Where the plans, the queue and the items stay, the slots keeping their jobs, every plan keeps its place. -/
theorem State.Binds.keep {s t : State} (h : s.Binds) (plans : t.planner.plans = s.planner.plans)
    (queue : t.planner.queue = s.planner.queue) (run : t.run = s.run) (rack : t.rack.length = s.rack.length)
    (jobs : ∀ k ∈ slotNumbers, (s.slot k).JobKept (t.slot k)) (tray : t.trayKinds = s.trayKinds) : t.Binds := by
  have plan (n : Nat) : t.plan n = s.plan n := by rw [State.plan, plans]; rfl
  have rush : t.isRush = s.isRush := funext fun n => by rw [State.isRush, plan]; rfl
  refine ⟨by rw [plans]; exact h.rising, rack.trans h.eight, by rw [queue]; exact h.once, by rw [queue, rush]; exact h.rush,
    fun k hk => (jobs k hk (h.jobs k hk)).2, by rw [State.numbers_of_trayKinds tray]; exact h.numbers, fun n => ?_,
    by rw [plans]; exact h.plans, by rw [plans]; exact h.pins, by rw [State.setItems_of_trayKinds tray]; exact h.sets⟩
  refine (h.placed n).of_same (by rw [plan]) (by rw [queue]) run (fun k hk => ?_) (State.sameItems_of_trayKinds tray n)
  rw [(jobs k hk (h.jobs k hk)).1]

end Sys2Proof.Machine

end

section
/-!
PROOF. Every dealing but those with whole plans leaves each plan its place; and the changes of one plan.
-/

namespace Sys2Proof.Machine

/-! ## A record put into a table, and one taken out -/

theorem Table.perm_del {α : Type} {a : Table α} {k : Nat} {v : α} (h : a.look k = some v) :
    a.Perm ((k, v) :: a.del k) := by
  induction a with
  | nil => cases h
  | cons e rest ih =>
    obtain ⟨j, w⟩ := e
    rw [Table.look_cons] at h
    rw [Table.del]
    split at h
    · next he =>
      cases h
      rw [if_pos he, he]
    · next he =>
      rw [if_neg he]
      exact ((ih h).cons _).trans (.swap _ _ _)

theorem Table.del_of_none {α : Type} {a : Table α} {k : Nat} (h : a.look k = none) : a.del k = a := by
  induction a with
  | nil => rfl
  | cons e rest ih =>
    obtain ⟨j, w⟩ := e
    rw [Table.look_cons] at h
    split at h
    · cases h
    · next he => rw [Table.del, if_neg he, ih h]

theorem Table.del_put {α : Type} {a : Table α} (ha : a.rising = true) (k : Nat) (v : α) : (a.put k v).del k = a.del k := by
  induction a with
  | nil => simp [Table.put, Table.del]
  | cons e rest ih =>
    obtain ⟨j, w⟩ := e
    obtain ⟨first, rising⟩ := Table.rising_cons.1 ha
    rw [Table.put]
    split
    · next hlt =>
      have later : Table.look rest k = none := Table.look_of_all_lt rest k fun e he => hlt.trans (first e he)
      rw [Table.del, if_pos rfl, Table.del, if_neg (Nat.ne_of_gt hlt), Table.del_of_none later]
    · split
      · next he => rw [Table.del, if_pos rfl, Table.del, if_pos he.symm]
      · next he => rw [Table.del, if_neg (Ne.symm he), Table.del, if_neg (Ne.symm he), ih rising]

theorem Table.perm_put {α : Type} {a : Table α} (ha : a.rising = true) (k : Nat) (v : α) :
    (a.put k v).Perm ((k, v) :: a.del k) := by
  rw [← Table.del_put ha k v]
  exact Table.perm_del (Table.look_put a k v)

/-- A record put over one that counts as it does leaves the count and the length. -/
theorem Table.counts_put {α : Type} {a : Table α} (ha : a.rising = true) {k : Nat} {v w : α} (hk : a.look k = some w)
    (r : Nat × α → Bool) (hr : r (k, v) = r (k, w)) :
    (a.put k v).length = a.length ∧ (a.put k v).countP r = a.countP r := by
  have new := Table.perm_put ha k v
  have old := Table.perm_del hk
  rw [new.length_eq, new.countP_eq, old.length_eq, old.countP_eq, List.countP_cons, List.countP_cons, hr]
  exact ⟨rfl, rfl⟩

/-! ## The slots' jobs in the dealings of the banks -/

/-- Every slot keeps its job. -/
def State.JobsKept (s t : State) : Prop := t.rack.length = s.rack.length ∧ ∀ k, (s.slot k).JobKept (t.slot k)

theorem State.JobsKept.of_rack {s t : State} (h : t.rack = s.rack) : s.JobsKept t :=
  ⟨by rw [h], fun k => by rw [State.slot, State.slot, h]; exact .refl _⟩

theorem State.jobsKept_setSlot {s : State} {n : Nat} {x : Slot} (h : (s.slot n).JobKept x) : s.JobsKept (s.setSlot n x) := by
  refine ⟨by simp [State.setSlot], fun k => ?_⟩
  rcases s.slot_setSlot_or n k x with he | ⟨he, hs⟩
  · rw [he]
    exact .refl _
  · rw [he, hs]
    exact h

theorem State.jobsKept_grantRead (s : State) (b : Nat) (r : ReadOp) : s.JobsKept (s.grantRead b r) := by
  unfold State.grantRead
  exact State.jobsKept_setSlot (s := s.setBank b _) (n := r.slot) (.still rfl rfl rfl)

theorem State.jobsKept_grantNext (s : State) (b : Nat) : s.JobsKept (s.grantNext b) := by
  unfold State.grantNext
  dsimp only
  split
  · exact .of_rack rfl
  · split
    · exact s.jobsKept_grantRead b _
    · exact .of_rack rfl

theorem State.jobsKept_handRead (s : State) (r : ReadOp) : s.JobsKept (s.handRead r) := by
  unfold State.handRead
  dsimp only
  split
  · exact s.jobsKept_grantRead _ _
  · exact .of_rack rfl

/-! ## Dealings that leave the plans, the queue and the items -/

/-- What is no matter of plans, of the queue or of items: the slots keep their jobs. -/
structure State.LeavesPlans (s t : State) : Prop where
  plans : t.planner.plans = s.planner.plans
  queue : t.planner.queue = s.planner.queue
  run : t.run = s.run
  jobs : s.JobsKept t
  tray : t.mail.tray = s.mail.tray

theorem State.LeavesPlans.binds {s t : State} (h : s.LeavesPlans t) (hs : s.Binds) : t.Binds :=
  hs.keep h.plans h.queue h.run h.jobs.1 (fun k _ => h.jobs.2 k) (by rw [State.trayKinds, h.tray]; rfl)

theorem State.LeavesPlans.of_eq {s t : State} (plans : t.planner.plans = s.planner.plans)
    (queue : t.planner.queue = s.planner.queue) (run : t.run = s.run) (rack : t.rack = s.rack)
    (tray : t.mail.tray = s.mail.tray) : s.LeavesPlans t := ⟨plans, queue, run, .of_rack rack, tray⟩

/-! ## One plan leaves, or goes to another place -/

/-- Nothing of the place of a plan other than `n` is changed. -/
structure State.OthersKept (n : Nat) (s t : State) : Prop where
  plan (m : Nat) (h : m ≠ n) : t.plan m = s.plan m
  queue (m : Nat) (h : m ≠ n) : m ∈ t.planner.queue ↔ m ∈ s.planner.queue
  run : t.run = s.run
  jobs (k : Nat) (hk : k ∈ slotNumbers) (m : Nat) (h : m ≠ n) : (t.slot k).job = some m ↔ (s.slot k).job = some m
  items (m : Nat) (h : m ≠ n) : s.SameItems t m

theorem State.OthersKept.placed {n : Nat} {s t : State} (h : s.OthersKept n t) (hs : ∀ m, s.Placed m) (hn : t.Placed n) (m : Nat) :
    t.Placed m := by
  by_cases hm : m = n
  · rw [hm]
    exact hn
  · exact (hs m).of_same (by rw [h.plan m hm]) (h.queue m hm) h.run (fun k hk => h.jobs k hk m hm) (h.items m hm)

/-- The slot's record gives up job `n` if it has it, and keeps any other. -/
def Slot.Freed (n : Nat) (x y : Slot) : Prop := y.jobRight ∧ y.job ≠ some n ∧ ∀ m, m ≠ n → (y.job = some m ↔ x.job = some m)

theorem Slot.jobRight_of_none {x : Slot} (h : x.job = none) : x.jobRight := fun hx => by rw [h] at hx; cases hx

theorem Slot.Freed.of_none {n : Nat} {x y : Slot} (hy : y.job = none) (hx : x.job = some n ∨ x.job = none) : Slot.Freed n x y := by
  refine ⟨Slot.jobRight_of_none hy, by rw [hy]; exact nofun, fun m hm => ?_⟩
  rcases hx with hx | hx
  · simp [hy, hx, Ne.symm hm]
  · simp [hy, hx]

theorem Slot.Freed.refl {n : Nat} {x : Slot} (hx : x.jobRight) (hn : x.job ≠ some n) : Slot.Freed n x x :=
  ⟨hx, hn, fun _ _ => Iff.rfl⟩

/-- The rush plans still come first in what is left of the queue. -/
theorem State.rush_sublist {s t : State} (h : s.planner.queue.Pairwise (fun m n => s.isRush n = true → s.isRush m = true))
    (hq : t.planner.queue.Sublist s.planner.queue) (hr : ∀ m ∈ t.planner.queue, t.isRush m = s.isRush m) :
    t.planner.queue.Pairwise (fun m n => t.isRush n = true → t.isRush m = true) :=
  List.Pairwise.imp_of_mem (fun {a b} ha hb hab => by rw [hr a ha, hr b hb]; exact hab) (h.sublist hq)

/-- A plan that is gone, its number nowhere. -/
theorem State.placed_of_gone {t : State} {n : Nat} (plan : t.plan n = none) (queue : n ∉ t.planner.queue)
    (jobs : ∀ k ∈ slotNumbers, (t.slot k).job ≠ some n) (items : ∀ x ∈ t.mail.tray, ∀ serial, x.kind ≠ .cartridge n serial) :
    t.Placed n := by
  have gone {q : Plan} (hq : t.plan n = some q) : False := by rw [plan] at hq; cases hq
  exact ⟨⟨fun h => absurd h queue, fun ⟨q, hq, _⟩ => (gone hq).elim⟩, fun q k hq _ => (gone hq).elim,
    fun k hk hj => absurd hj (jobs k hk), fun x hx serial hk => absurd hk (items x hx serial), fun q k hq _ => (gone hq).elim⟩

/-- Plan `n` is gone, and its number is nowhere. -/
theorem State.Binds.erase {s t : State} (h : s.Binds) {n : Nat} (plans : t.planner.plans = s.planner.plans.del n)
    (queue : t.planner.queue = s.planner.queue.filter (fun m => decide (m ≠ n))) (run : t.run = s.run)
    (rack : t.rack.length = s.rack.length) (jobs : ∀ k ∈ slotNumbers, Slot.Freed n (s.slot k) (t.slot k)) {r : Item → Bool}
    (tray : t.mail.tray = s.mail.tray.filter r)
    (items : ∀ x ∈ s.mail.tray, r x = false ↔ ∃ serial, x.kind = .cartridge n serial) : t.Binds := by
  have others : s.OthersKept n t := by
    refine ⟨fun m hm => ?_, fun m hm => ?_, run, fun k hk m hm => (jobs k hk).2.2 m hm, fun m hm => ⟨fun x hx _ _ => ?_, fun x hx serial hk => ?_⟩⟩
    · rw [State.plan, plans]
      exact Table.look_del_of_ne _ hm
    · rw [queue, List.mem_filter]
      simp [hm]
    · rw [tray] at hx
      exact ⟨x, (List.mem_filter.1 hx).1, rfl, rfl, rfl⟩
    · refine ⟨x, ?_, rfl, rfl, rfl⟩
      rw [tray, List.mem_filter]
      refine ⟨hx, Bool.not_eq_false _ ▸ fun hr => ?_⟩
      obtain ⟨serial', hk'⟩ := (items x hx).1 hr
      rw [hk] at hk'
      exact hm (ItemKind.cartridge.inj hk').1
  have gone : t.plan n = none := by rw [State.plan, plans]; exact Table.look_del _ n h.rising
  have sub : t.planner.queue.Sublist s.planner.queue := by rw [queue]; exact List.filter_sublist
  have fewer : t.planner.plans.Sublist s.planner.plans := by
    rw [plans, Table.del_eq_filter h.rising]
    exact List.filter_sublist
  have out : n ∉ t.planner.queue := by rw [queue]; simp
  refine ⟨by rw [plans]; exact Table.rising_del _ n h.rising, rack.trans h.eight, h.once.sublist sub,
    State.rush_sublist h.rush sub fun m hm => ?_, fun k hk => (jobs k hk).1, ?_, others.placed h.placed ?_,
    fewer.length_le.trans h.plans, fewer.countP_le.trans h.pins, ?_⟩
  · rw [State.isRush, others.plan m fun he => out (he ▸ hm)]
    rfl
  · rw [tray]
    exact h.numbers.sublist (List.filter_sublist.map _)
  · refine State.placed_of_gone gone out (fun k hk => (jobs k hk).2.1) fun x hx serial hk => ?_
    rw [tray, List.mem_filter] at hx
    have := (items x hx.1).2 ⟨serial, hk⟩
    rw [hx.2] at this
    cases this
  · rw [State.setItems, tray]
    exact (List.filter_sublist.countP_le).trans h.sets

end Sys2Proof.Machine

end

section
/-!
PROOF. Plans that end, that go back to the queue, into a slot, to their item, or are new: each leaves every plan its place.
-/

namespace Sys2Proof.Machine

/-! ## Plans that end -/

theorem State.Binds.item_unique {s : State} (h : s.Binds) {x y : Item} (hx : x ∈ s.mail.tray) (hy : y ∈ s.mail.tray)
    (he : x.number = y.number) : x = y := List.inj_on_of_nodup_map h.numbers hx hy he

/-- The items of a plan are the one its state names. -/
theorem State.Binds.item_iff {s : State} (h : s.Binds) {n : Nat} {p : Plan} (hp : s.plan n = some p) {x : Item}
    (hx : x ∈ s.mail.tray) : p.state = .mailing x.number ↔ ∃ serial, x.kind = .cartridge n serial := by
  constructor
  · intro hs
    obtain ⟨y, hy, he, kind⟩ := (h.placed n).mailing p _ hp hs
    rw [h.item_unique hx hy he.symm]
    exact kind
  · rintro ⟨serial, hk⟩
    obtain ⟨q, hq, hs, -⟩ := (h.placed n).item x hx serial hk
    rw [hp] at hq
    cases hq
    exact hs

/-- The queue without a plan that does not wait is the queue. -/
theorem State.Binds.queue_filter {s : State} (h : s.Binds) {n : Nat} {p : Plan} (hp : s.plan n = some p)
    (hs : p.state ≠ .queued) : s.planner.queue.filter (fun m => decide (m ≠ n)) = s.planner.queue := by
  refine List.filter_eq_self.2 fun m hm => decide_eq_true fun he => ?_
  obtain ⟨q, hq, hqs⟩ := (h.placed n).queued.1 (he ▸ hm)
  rw [hp] at hq
  cases hq
  exact hs hqs

/-- A slot holds at most the plan bound to it. -/
theorem State.Binds.job_state {s : State} (h : s.Binds) {n k : Nat} {p : Plan} (hp : s.plan n = some p) (hk : k ∈ slotNumbers)
    (hj : (s.slot k).job = some n) : p.state = .inSlot k := by
  obtain ⟨q, hq, hs⟩ := (h.placed n).held k hk hj
  rw [hp] at hq
  cases hq
  exact hs

theorem State.Binds.freed_leavePlace {s : State} (h : s.Binds) {n k : Nat} {p : Plan} (hp : s.plan n = some p)
    (hk : k ∈ slotNumbers) : Slot.Freed n (s.slot k) ((s.leavePlace n p).slot k) := by
  by_cases hj : (s.slot k).job = some n
  · have left := State.job_leavePlace_inSlot (s := s) (n := n) (j := k) (h.job_state hp hk hj) rfl
    rcases s.job_leavePlace n p k with he | he
    · exact absurd (he.trans hj) left
    · exact .of_none he (.inl hj)
  · by_cases hd : (s.slot k).state = .done
    · have idle : (s.slot k).job = none := (h.jobs k hk).none_of (by rw [hd]; decide)
      refine .of_none ?_ (.inr idle)
      rcases s.job_leavePlace n p k with he | he
      · exact he.trans idle
      · exact he
    · rw [State.slot_leavePlace_of hj hd]
      exact .refl (h.jobs k hk) hj

theorem State.rackLength_leavePlace (s : State) (n : Nat) (p : Plan) : (s.leavePlace n p).rack.length = s.rack.length := by
  unfold State.leavePlace
  split
  · simp
  · split
    · simp [State.unbind, State.setSlot]
    · rfl
  · have fold (l : List Nat) (u : State) : (l.foldl (fun s k => s.undone n k) u).rack.length = u.rack.length := by
      induction l generalizing u with
      | nil => rfl
      | cons k l ih =>
        rw [List.foldl_cons, ih]
        unfold State.undone
        dsimp only
        split
        · simp [State.setSlot]
        · rfl
    rw [fold]
    simp

theorem State.Binds.endPlan {s : State} (h : s.Binds) (n : Nat) : (s.endPlan n).Binds := by
  cases hp : s.plan n with
  | none =>
    rw [State.endPlan_of_none hp]
    exact h
  | some p =>
    refine h.erase (State.plans_endPlan hp) ?_ ?_ ?_ (fun k hk => ?_) ((congrArg Mail.tray (State.mail_endPlan hp)).trans (s.tray_leavePlace n p))
      fun x hx => ?_
    · rw [State.queue_endPlan hp, State.queue_leavePlace]
      split
      · rfl
      · next hs => exact (h.queue_filter hp hs).symm
    · simp
    · rw [State.rack_endPlan hp, State.rackLength_leavePlace]
    · have freed := h.freed_leavePlace hp hk
      rwa [State.slot.eq_def (s.leavePlace n p), ← State.rack_endPlan hp] at freed
    · rw [← h.item_iff hp hx]
      simp

/-- A plan whose slot has given it up ends. -/
theorem State.Binds.failed {s : State} (h : s.Binds) {n job : Nat} {x : Slot} (hn : n ∈ slotNumbers)
    (hj : (s.slot n).job = some job) (hx : x.job = none) : ((s.setSlot n x).endPlan job).Binds := by
  obtain ⟨p, hp, hs⟩ := (h.placed job).held n hn hj
  have hu : (s.setSlot n x).plan job = some p := hp
  have here : (s.setSlot n x).slot n = x := State.slot_setSlot_same x h.eight hn
  have left : (s.setSlot n x).leavePlace job p = s.setSlot n x := by
    rw [State.leavePlace, hs]
    dsimp only
    rw [here, hx, if_neg nofun]
  refine h.erase (State.plans_endPlan hu) ?_ ?_ ?_ (fun k hk => ?_)
    ((congrArg Mail.tray (State.mail_endPlan hu)).trans ((s.setSlot n x).tray_leavePlace job p)) fun x hx => ?_
  · rw [State.queue_endPlan hu, left]
    exact (h.queue_filter hp (by rw [hs]; exact nofun)).symm
  · simp
  · rw [State.rack_endPlan hu, left]
    simp [State.setSlot]
  · have same : ((s.setSlot n x).endPlan job).slot k = (s.setSlot n x).slot k := by
      rw [State.slot, State.rack_endPlan hu, left]
      rfl
    rw [same]
    by_cases hkn : k = n
    · rw [hkn, here]
      exact .of_none hx (.inl hj)
    · rw [State.slot_setSlot_other x hn hk hkn]
      refine .refl (h.jobs k hk) fun hjob => hkn ?_
      have := h.job_state hp hk hjob
      rw [hs] at this
      exact (PlanState.inSlot.inj this).symm
  · rw [← h.item_iff hp hx]
    simp

/-- A cartridge dispatched: its plan and its item go. -/
theorem State.Binds.dispatched {s : State} (h : s.Binds) {i : Item} {plan serial : Nat} (hi : i ∈ s.mail.tray)
    (hk : i.kind = .cartridge plan serial) : ((s.erasePlan plan).removeItem i.number).Binds := by
  obtain ⟨p, hp, hs, -⟩ := (h.placed plan).item i hi serial hk
  refine h.erase (r := fun x => decide (x.number ≠ i.number)) rfl ?_ rfl rfl (fun k hk => .refl (h.jobs k hk) fun hj => ?_) rfl fun x hx => ?_
  · exact (h.queue_filter hp (by rw [hs]; exact nofun)).symm
  · have := h.job_state hp hk hj
    rw [hs] at this
    cases this
  · rw [← h.item_iff hp hx, hs]
    rw [PlanState.mailing.injEq, decide_eq_false_iff_not, not_not]
    exact eq_comm

/-! ## Plans that join the queue -/

/-- `n` is put into the queue of `s`, among the plans of its group or between the groups. -/
def State.JoinsQueue (s : State) (rush : Bool) (n : Nat) (q : List Nat) : Prop :=
  ∃ a b, s.planner.queue = a ++ b ∧ q = a ++ n :: b ∧ (rush = true → ∀ m ∈ a, s.isRush m = true) ∧
    (rush = false → ∀ m ∈ b, s.isRush m = false)

theorem State.Binds.joinHead {s : State} (h : s.Binds) (rush : Bool) (n : Nat) :
    s.JoinsQueue rush n (if rush then n :: s.planner.queue
      else s.planner.queue.take (s.rushJobs s.planner.queue) ++ n :: s.planner.queue.drop (s.rushJobs s.planner.queue)) := by
  obtain ⟨-, plain⟩ := pairwise_cut h.rush
  cases rush with
  | true => exact ⟨[], s.planner.queue, rfl, rfl, fun _ => nofun, nofun⟩
  | false => exact ⟨_, _, (List.take_append_drop _ _).symm, rfl, nofun, fun _ => plain⟩

theorem State.Binds.joinTail {s : State} (h : s.Binds) (rush : Bool) (n : Nat) :
    s.JoinsQueue rush n (if rush then
        s.planner.queue.take (s.rushJobs s.planner.queue) ++ n :: s.planner.queue.drop (s.rushJobs s.planner.queue)
      else s.planner.queue ++ [n]) := by
  obtain ⟨rushes, -⟩ := pairwise_cut h.rush
  cases rush with
  | true => exact ⟨_, _, (List.take_append_drop _ _).symm, rfl, fun _ => rushes, nofun⟩
  | false => exact ⟨s.planner.queue, [], (List.append_nil _).symm, rfl, nofun, fun _ => nofun⟩

/-- The plan `n`, which was not in the queue, has joined it in its group; nothing is changed of the others. -/
theorem State.Binds.joined {s t : State} (h : s.Binds) {n : Nat} {p : Plan} (out : n ∉ s.planner.queue)
    (hp : p.state = .queued) (plans : t.planner.plans = s.planner.plans.put n p)
    (queue : s.JoinsQueue p.rush n t.planner.queue) (run : t.run = s.run) (rack : t.rack.length = s.rack.length)
    (jobs : ∀ k ∈ slotNumbers, Slot.Freed n (s.slot k) (t.slot k)) (tray : t.mail.tray = s.mail.tray)
    (items : ∀ x ∈ s.mail.tray, ∀ serial, x.kind ≠ .cartridge n serial) (room : t.planner.plans.length ≤ Config.planMax)
    (pins : t.planner.plans.countP (fun e => e.2.state.pins) ≤ 24) : t.Binds := by
  obtain ⟨a, b, old, new, first, last⟩ := queue
  have plan : t.plan n = some p := by rw [State.plan, plans]; exact Table.look_put _ _ _
  have members (m : Nat) : m ∈ t.planner.queue ↔ m = n ∨ m ∈ s.planner.queue := by
    rw [new, old]
    simp only [List.mem_append, List.mem_cons]
    tauto
  have others : s.OthersKept n t := by
    refine ⟨fun m hm => ?_, fun m hm => ?_, run, fun k hk m hm => (jobs k hk).2.2 m hm, fun m hm => ?_⟩
    · rw [State.plan, plans]
      exact Table.look_put_of_ne _ _ hm
    · rw [members, or_iff_right hm]
    · exact State.sameItems_of_trayKinds (by rw [State.trayKinds, tray]; rfl) m
  have isRush {m : Nat} (hm : m ∈ a ++ b) : t.isRush m = s.isRush m := by
    rw [← old] at hm
    rw [State.isRush, others.plan m fun he => out (he ▸ hm)]
    rfl
  have mine : t.isRush n = p.rush := by rw [State.isRush, plan]; rfl
  refine ⟨by rw [plans]; exact Table.rising_put _ n p h.rising, rack.trans h.eight, ?_, ?_, fun k hk => (jobs k hk).1,
    by rw [tray]; exact h.numbers, others.placed h.placed ?_, room, pins, by rw [State.setItems, tray]; exact h.sets⟩
  · rw [new, List.perm_middle.nodup_iff, ← old]
    exact List.nodup_cons.2 ⟨out, h.once⟩
  · rw [new]
    refine pairwise_insert ?_ (fun hr m hm => ?_) fun hr m hm => ?_
    · refine List.Pairwise.imp_of_mem (fun {x y} hx hy hxy => ?_) (old ▸ h.rush)
      rw [isRush hx, isRush hy]
      exact hxy
    · rw [isRush (List.mem_append_left _ hm)]
      exact first (mine.symm.trans hr) m hm
    · rw [isRush (List.mem_append_right _ hm)]
      exact last (mine.symm.trans hr) m hm
  · refine ⟨⟨fun _ => ⟨p, plan, hp⟩, fun _ => (members n).2 (.inl rfl)⟩, fun q k hq hs => ?_, fun k hk hj => absurd hj (jobs k hk).2.1,
      fun x hx serial hk => ?_, fun q k hq hs => ?_⟩
    · rw [plan] at hq
      cases hq
      rw [hp] at hs
      cases hs
    · rw [tray] at hx
      exact absurd hk (items x hx serial)
    · rw [plan] at hq
      cases hq
      rw [hp] at hs
      cases hs

/-- A plan whose state has no item has none in the tray. -/
theorem State.Binds.no_item {s : State} (h : s.Binds) {n : Nat} {p : Plan} (hp : s.plan n = some p)
    (hs : ∀ k, p.state ≠ .mailing k) : ∀ x ∈ s.mail.tray, ∀ serial, x.kind ≠ .cartridge n serial := by
  intro x hx serial hk
  exact hs _ ((h.item_iff hp hx).2 ⟨serial, hk⟩)

/-- A plan whose slot gives it up goes back to the head of its group. -/
theorem State.Binds.putBack {s : State} (h : s.Binds) {n job : Nat} {x : Slot} (hn : n ∈ slotNumbers)
    (hj : (s.slot n).job = some job) (hx : x.job = none) : ((s.setSlot n x).returnPlan job).Binds := by
  obtain ⟨p, hp, hs⟩ := (h.placed job).held n hn hj
  have hu : (s.setSlot n x).plan job = some p := hp
  have plans : ((s.setSlot n x).returnPlan job).planner.plans = s.planner.plans.put job { p with state := .queued } := by
    rw [State.returnPlan, hu]
    simp [State.setPlan]
  have rushed : s.isRush job = p.rush := by rw [State.isRush, hp]; rfl
  have counts := Table.counts_put (v := { p with state := .queued }) h.rising hp (fun e => e.2.state.pins) (by rw [hs]; rfl)
  have out : job ∉ s.planner.queue := fun hm => by
    obtain ⟨q, hq, hqs⟩ := (h.placed job).queued.1 hm
    rw [hp] at hq
    cases hq
    rw [hs] at hqs
    cases hqs
  have rack : ((s.setSlot n x).returnPlan job).rack = (s.setSlot n x).rack := by
    rw [State.returnPlan, hu]
    simp
  refine h.joined (p := { p with state := .queued }) out rfl plans ?_ ?_ ?_ (fun k hk => ?_) ?_
    (h.no_item hp fun k => by rw [hs]; exact nofun) ?_ ?_
  · rw [State.queue_returnPlan hu]
    have := h.joinHead p.rush job
    rw [← rushed] at this ⊢
    exact this
  · rw [State.returnPlan, hu]
    simp
  · rw [rack]
    simp [State.setSlot]
  · rw [State.slot.eq_def (State.returnPlan _ _), rack]
    change Slot.Freed job (s.slot k) ((s.setSlot n x).slot k)
    by_cases hkn : k = n
    · rw [hkn, State.slot_setSlot_same x h.eight hn]
      exact .of_none hx (.inl hj)
    · rw [State.slot_setSlot_other x hn hk hkn]
      refine .refl (h.jobs k hk) fun hjob => hkn ?_
      have := h.job_state hp hk hjob
      rw [hs] at this
      exact (PlanState.inSlot.inj this).symm
  · rw [State.returnPlan, hu]
    simp
  · rw [plans, counts.1]
    exact h.plans
  · rw [plans, counts.2]
    exact h.pins

theorem State.Binds.nextPlan_free {s : State} (h : s.Binds) : s.plan s.nextPlan = none := by
  have fresh : s.nextPlan ∉ s.planner.plans.map (·.1) :=
    nextNumber_notMem _ (by rw [List.length_map]; exact lt_of_le_of_lt h.plans (by decide))
  cases hp : s.plan s.nextPlan with
  | none => rfl
  | some p => exact absurd (List.mem_map_of_mem (Table.mem_of_look hp)) fresh

/-- The plans in slots are no more than the slots, while the part runs. -/
theorem State.Binds.inSlots {s : State} (h : s.Binds) (hr : s.run = .running) :
    s.planner.plans.countP (fun e => e.2.state.pins) ≤ s.planner.queue.length + 8 := by
  rw [List.countP_eq_length_filter, ← List.length_map (f := Prod.fst)]
  have inside : ((s.planner.plans.filter (fun e => e.2.state.pins)).map Prod.fst) ⊆
      s.planner.queue ++ slotNumbers.filterMap (fun k => (s.slot k).job) := fun n hn => by
    obtain ⟨e, he, rfl⟩ := List.mem_map.1 hn
    obtain ⟨hm, hpins⟩ := List.mem_filter.1 he
    have hp : s.plan e.1 = some e.2 := Table.look_of_mem h.rising hm
    rw [List.mem_append]
    cases hs : e.2.state with
    | queued => exact .inl ((h.placed _).queued.2 ⟨_, hp, hs⟩)
    | inSlot k =>
      obtain ⟨h8, hjob⟩ := (h.placed _).bound _ k hp hs
      exact .inr (List.mem_filterMap.2 ⟨k, h8, hjob hr⟩)
    | mailing k => rw [hs] at hpins; cases hpins
  have keys : ((s.planner.plans.filter (fun e => e.2.state.pins)).map Prod.fst).Nodup :=
    (Table.rising_keys h.rising).sublist (List.filter_sublist.map _)
  refine (keys.subperm inside).length_le.trans ?_
  rw [List.length_append]
  exact Nat.add_le_add_left (List.length_filterMap_le _ _) _

/-- A new plan is one more than there were. -/
theorem State.Binds.plans_enrolled {s : State} (h : s.Binds) (plan : Plan) :
    (s.enrolled plan).planner.plans.Perm ((s.nextPlan, plan) :: s.planner.plans) := by
  have plans : (s.enrolled plan).planner.plans = s.planner.plans.put s.nextPlan plan := by simp [State.enrolled, State.setPlan]
  rw [plans]
  exact (Table.perm_put h.rising _ _).trans (.of_eq (congrArg _ (Table.del_of_none h.nextPlan_free)))

/-- A new plan joins the queue. -/
theorem State.Binds.enrolled {s : State} (h : s.Binds) {d : Prop} {plan : Plan} (he : s.Enrols d plan) :
    (s.enrolled plan).Binds := by
  have free := h.nextPlan_free
  have stop : s.planner.plans.length < Config.planMax ∧ s.planner.queue.length < Config.commitBelow := by
    have := he.room
    rw [State.stopTest, decide_eq_false_iff_not, not_or] at this
    exact ⟨Nat.lt_of_not_le this.1, Nat.lt_of_not_le this.2⟩
  have few := h.inSlots he.running
  have plans : (s.enrolled plan).planner.plans = s.planner.plans.put s.nextPlan plan := by simp [State.enrolled, State.setPlan]
  have perm := h.plans_enrolled plan
  have none {q : Plan} (hq : s.plan s.nextPlan = some q) : False := by rw [free] at hq; cases hq
  have out : s.nextPlan ∉ s.planner.queue := fun hm => by
    obtain ⟨q, hq, -⟩ := (h.placed _).queued.1 hm
    exact none hq
  have rack : (s.enrolled plan).rack = s.rack := by simp [State.enrolled]
  refine h.joined out he.state plans ?_ (by simp [State.enrolled]) (by rw [rack]) (fun k hk => ?_) (by simp [State.enrolled])
    (fun x hx serial hk => ?_) ?_ ?_
  · rw [State.queue_enrolled plan out]
    exact h.joinTail plan.rush s.nextPlan
  · rw [State.slot.eq_def (State.enrolled _ _), rack]
    refine .refl (h.jobs k hk) fun hj => ?_
    obtain ⟨q, hq, -⟩ := (h.placed _).held k hk hj
    exact none hq
  · obtain ⟨q, hq, -⟩ := (h.placed _).item x hx serial hk
    exact none hq
  · rw [perm.length_eq]
    exact stop.1
  · rw [perm.countP_eq, List.countP_cons, he.state]
    have : Config.commitBelow = 16 := rfl
    have : (if PlanState.queued.pins = true then 1 else 0) = 1 := rfl
    omega

end Sys2Proof.Machine

end

section
/-!
PROOF. Matching, a finished cartridge, and the items of the tray leave every plan its place; and so does every dealing.
-/

namespace Sys2Proof.Machine

/-! ## Matching -/

theorem Slot.available_jobless {x : Slot} (h : x.jobRight) (ha : x.available = true) : x.job = none := by
  refine h.none_of ?_
  rcases (Slot.available_iff x).1 ha with hs | hs | ⟨hs, -⟩
  · rw [hs]; decide
  · rw [hs]; decide
  · rw [hs]; decide

/-- A plan of the queue is bound to a slot that is available. -/
theorem State.Binds.bind {s : State} (h : s.Binds) {n job : Nat} {p : Plan} (hp : s.plan job = some p)
    (hj : job ∈ s.planner.queue) (hn : s.slotFor p = some n) : (s.bind n job).Binds := by
  obtain ⟨h8, hfree, hin⟩ := State.slotFor_free hn
  obtain ⟨q, hq, hs⟩ := (h.placed job).queued.1 hj
  rw [hp] at hq
  cases hq
  have jobless := Slot.available_jobless (h.jobs n h8) hfree
  have bound := State.bind_eq (n := n) hp hj
  have plans : (s.bind n job).planner.plans = s.planner.plans.put job { p with state := .inSlot n } := by rw [bound]; rfl
  have queue : (s.bind n job).planner.queue = s.planner.queue.filter (fun m => decide (m ≠ job)) := by rw [bound]; rfl
  have tray : (s.bind n job).mail.tray = s.mail.tray := by rw [bound]; rfl
  have run : (s.bind n job).run = s.run := by rw [bound]; rfl
  have rack : (s.bind n job).rack = s.rack.set (n - 1) ((s.slot n).take job s.today) := by rw [bound]; rfl
  have here : (s.bind n job).slot n = (s.slot n).take job s.today := by
    rw [bound]
    exact State.slot_setSlot_same _ h.eight h8
  have elsewhere {k : Nat} (hk : k ∈ slotNumbers) (hkn : k ≠ n) : (s.bind n job).slot k = s.slot k := by
    rw [bound]
    exact State.slot_setSlot_other _ h8 hk hkn
  have plan : (s.bind n job).plan job = some { p with state := .inSlot n } := by
    rw [State.plan, plans]
    exact Table.look_put _ _ _
  have taken : ((s.bind n job).slot n).job = some job := by rw [here, Slot.take_job]
  have noItem := h.no_item hp fun k => by rw [hs]; exact nofun
  have counts := Table.counts_put (v := { p with state := .inSlot n }) h.rising hp (fun e => e.2.state.pins) (by rw [hs]; rfl)
  have sub : (s.bind n job).planner.queue.Sublist s.planner.queue := by rw [queue]; exact List.filter_sublist
  have out : job ∉ (s.bind n job).planner.queue := by rw [queue]; simp
  have others : s.OthersKept job (s.bind n job) := by
    refine ⟨fun m hm => ?_, fun m hm => ?_, run, fun k hk m hm => ?_, fun m hm => ?_⟩
    · rw [State.plan, plans]
      exact Table.look_put_of_ne _ _ hm
    · rw [queue, List.mem_filter]
      simp [hm]
    · by_cases hkn : k = n
      · rw [hkn, taken, jobless]
        simp [Ne.symm hm]
      · rw [elsewhere hk hkn]
    · exact State.sameItems_of_trayKinds (by rw [State.trayKinds, tray]; rfl) m
  refine ⟨by rw [plans]; exact Table.rising_put _ _ _ h.rising, by rw [rack, List.length_set]; exact h.eight, h.once.sublist sub,
    State.rush_sublist h.rush sub fun m hm => ?_, fun k hk => ?_, by rw [tray]; exact h.numbers, others.placed h.placed ?_,
    by rw [plans, counts.1]; exact h.plans, by rw [plans, counts.2]; exact h.pins, by rw [State.setItems, tray]; exact h.sets⟩
  · rw [State.isRush, others.plan m fun he => out (he ▸ hm)]
    rfl
  · by_cases hkn : k = n
    · rw [hkn, here]
      intro _
      rcases Slot.take_state (s.slot n) job s.today with hst | hst
      · exact .inr (.inl hst)
      · exact .inl hst
    · rw [elsewhere hk hkn]
      exact h.jobs k hk
  · refine ⟨⟨fun hm => absurd hm out, fun ⟨q, hq, hqs⟩ => ?_⟩, fun q k hq hqs => ?_, fun k hk hjob => ?_, fun x hx serial hk => ?_,
      fun q k hq hqs => ?_⟩
    · rw [plan] at hq
      cases hq
      cases hqs
    · rw [plan] at hq
      cases hq
      cases hqs
      exact ⟨h8, fun _ => taken⟩
    · by_cases hkn : k = n
      · rw [hkn]
        exact ⟨_, plan, rfl⟩
      · rw [elsewhere hk hkn] at hjob
        have := h.job_state hp hk hjob
        rw [hs] at this
        cases this
    · rw [tray] at hx
      exact absurd hk (noItem x hx serial)
    · rw [plan] at hq
      cases hq
      cases hqs

theorem State.Binds.offerJob {s : State} (h : s.Binds) {job : Nat} (hj : job ∈ s.planner.queue) :
    (s.offerJob job).Binds ∧ ∀ m, m ≠ job → m ∈ s.planner.queue → m ∈ (s.offerJob job).planner.queue := by
  unfold State.offerJob
  split
  · exact ⟨h, fun _ _ hm => hm⟩
  · next p hp =>
    split
    · next n hn =>
      refine ⟨h.bind hp hj hn, fun m hne hm => ?_⟩
      rw [State.bind_eq hp hj]
      exact List.mem_filter.2 ⟨hm, decide_eq_true hne⟩
    · exact ⟨h, fun _ _ hm => hm⟩

theorem Slot.preErased_kept (x : Slot) (today : Nat) : x.JobKept (x.preErased today) := by
  by_cases hx : x.state = .idleDirty ∧ x.finishing = false
  · refine .idle (.inl (Slot.preErased_job x today)) ?_
    rw [hx.1]
    decide
  · rw [Slot.preErased, if_neg hx]
    exact .refl x

/-- What a binding and a pre-erase keep, matching keeps; every plan keeps its place. -/
theorem State.Binds.matchJobs_keeps {P : State → Prop} {s : State} (h : s.Binds) (hs : P s)
    (hbind : ∀ (u : State) (n job : Nat) (p : Plan), P u → u.plan job = some p → p.state = .queued → job ∈ u.planner.queue → P (u.bind n job))
    (herase : ∀ (u : State) (n : Nat), P u → P (u.preErase n)) : s.matchJobs.Binds ∧ P s.matchJobs := by
  have offered (l : List Nat) {u : State} (hu : u.Binds) (hp : P u) (hl : l.Nodup) (hq : ∀ m ∈ l, m ∈ u.planner.queue) :
      (l.foldl State.offerJob u).Binds ∧ P (l.foldl State.offerJob u) := by
    induction l generalizing u with
    | nil => exact ⟨hu, hp⟩
    | cons m l ih =>
      obtain ⟨hm, hl⟩ := List.nodup_cons.1 hl
      obtain ⟨binds, rest⟩ := hu.offerJob (hq m List.mem_cons_self)
      refine ih binds ?_ hl fun k hk => rest k (fun he => hm (he ▸ hk)) (hq k (List.mem_cons_of_mem _ hk))
      unfold State.offerJob
      split
      · exact hp
      · next p hplan =>
        split
        · next n _ =>
          obtain ⟨q, hfound, hqueued⟩ := (hu.placed m).queued.1 (hq m List.mem_cons_self)
          rw [hplan] at hfound
          cases hfound
          exact hbind u n m p hp hplan hqueued (hq m List.mem_cons_self)
        · exact hp
  have erased (l : List Nat) {u : State} (hu : u.Binds) (hp : P u) : (l.foldl State.preErase u).Binds ∧ P (l.foldl State.preErase u) := by
    induction l generalizing u with
    | nil => exact ⟨hu, hp⟩
    | cons n l ih =>
      refine ih ?_ (herase u n hp)
      rw [State.preErase_eq]
      have kept := State.jobsKept_setSlot (s := u) (n := n) (Slot.preErased_kept (u.slot n) u.today)
      exact State.LeavesPlans.binds (s := u) ⟨rfl, rfl, rfl, kept, rfl⟩ hu
  obtain ⟨binds, kept⟩ := offered _ h hs h.once fun _ hm => hm
  exact erased _ binds kept

theorem State.Binds.matchJobs {s : State} (h : s.Binds) : s.matchJobs.Binds :=
  (h.matchJobs_keeps (P := fun _ => True) trivial (fun _ _ _ _ _ _ _ _ => trivial) fun _ _ _ => trivial).1

/-! ## Items -/

/-- The items are others, but no plan's place. -/
theorem State.Binds.items {s t : State} (h : s.Binds) (plans : t.planner.plans = s.planner.plans)
    (queue : t.planner.queue = s.planner.queue) (run : t.run = s.run) (rack : t.rack = s.rack)
    (numbers : (t.mail.tray.map (·.number)).Nodup) (same : ∀ n, s.SameItems t n) (sets : t.setItems ≤ Config.trayRoom) :
    t.Binds := by
  have plan (n : Nat) : t.plan n = s.plan n := by rw [State.plan, plans]; rfl
  have slot (n : Nat) : t.slot n = s.slot n := by rw [State.slot, rack]; rfl
  have rush : t.isRush = s.isRush := funext fun n => by rw [State.isRush, plan]; rfl
  refine ⟨by rw [plans]; exact h.rising, by rw [rack]; exact h.eight, by rw [queue]; exact h.once, by rw [queue, rush]; exact h.rush,
    fun k hk => by rw [slot]; exact h.jobs k hk, numbers, fun n => ?_, by rw [plans]; exact h.plans, by rw [plans]; exact h.pins, sets⟩
  exact (h.placed n).of_same (by rw [plan]) (by rw [queue]) run (fun k _ => by rw [slot]) (same n)

theorem State.Binds.nextItem_free {s : State} (h : s.Binds) : s.nextItem ∉ s.mail.tray.map (·.number) := by
  refine nextNumber_notMem _ ?_
  rw [List.length_map]
  have sets : s.mail.tray.countP (fun x => x.kind.isSet) ≤ 32 := h.sets
  have carts : s.mail.tray.countP (fun x => !x.kind.isSet) ≤ 64 := h.carts_length.trans h.plans
  have all := List.length_eq_countP_add_countP (fun x : Item => x.kind.isSet) (l := s.mail.tray)
  have : Config.numberMax = 65535 := rfl
  simp only [Bool.not_eq_true, Bool.decide_eq_false] at all
  omega

theorem State.tray_addItem (s : State) (p : Nat) (kind : ItemKind) (st : ItemState) :
    (s.addItem p kind st).mail.tray = s.mail.tray ++ [{ number := s.nextItem, patron := p, kind := kind, state := st }] := rfl

theorem State.Binds.numbers_addItem {s : State} (h : s.Binds) (p : Nat) (kind : ItemKind) (st : ItemState) :
    ((s.addItem p kind st).mail.tray.map (·.number)).Nodup := by
  rw [State.tray_addItem, List.map_append, List.nodup_append_comm]
  exact List.nodup_cons.2 ⟨h.nextItem_free, h.numbers⟩

theorem State.setItems_addItem (s : State) (p : Nat) (kind : ItemKind) (st : ItemState) :
    (s.addItem p kind st).setItems = s.setItems + if kind.isSet then 1 else 0 := by
  rw [State.setItems, State.tray_addItem, List.countP_append]
  exact congrArg (s.setItems + ·) (List.countP_singleton ..)

theorem State.Binds.itemAdded {s : State} (h : s.Binds) {p t c : Nat} {st : ItemState} (hs : s.setItems < Config.trayRoom) :
    (s.addItem p (.set t c) st).Binds := by
  refine h.items rfl rfl rfl rfl (h.numbers_addItem _ _ _)
    (fun n => ⟨fun x hx serial hk => ?_, fun x hx serial hk => ⟨x, List.mem_append_left _ hx, rfl, rfl, rfl⟩⟩) ?_
  · rw [State.tray_addItem] at hx
    rcases List.mem_append.1 hx with hx | hx
    · exact ⟨x, hx, rfl, rfl, rfl⟩
    · rw [List.mem_singleton.1 hx] at hk
      cases hk
  · rw [State.setItems_addItem]
    exact hs

theorem State.Binds.itemRemoved {s : State} (h : s.Binds) {i : Item} (hi : s.Withdraws i) : (s.removeItem i.number).Binds := by
  have sub : (s.removeItem i.number).mail.tray.Sublist s.mail.tray := List.filter_sublist
  refine h.items rfl rfl rfl rfl (h.numbers.sublist (sub.map _)) (fun n => ⟨fun x hx _ _ => ⟨x, sub.subset hx, rfl, rfl, rfl⟩, fun x hx serial hk => ?_⟩)
    (sub.countP_le.trans h.sets)
  refine ⟨x, List.mem_filter.2 ⟨hx, decide_eq_true fun he => ?_⟩, rfl, rfl, rfl⟩
  rcases hi.2 with there | gone
  · have same := h.item_unique hx there he
    have := hi.1
    rw [← same, hk] at this
    cases this
  · exact gone x hx he

theorem State.reachDone_of_none {s : State} {n : Nat} (h : (s.slot n).job = none ∨ (s.slot n).cart = none) :
    s.reachDone n = s := by
  unfold State.reachDone
  dsimp only
  split
  · next hj hc =>
    rw [hj, hc] at h
    rcases h with h | h <;> cases h
  · rfl

/-- A slot that is done gives its plan an item. -/
theorem State.Binds.done {s : State} (h : s.Binds) {n : Nat} (hn : n ∈ slotNumbers) : (s.reachDone n).Binds := by
  cases hj : (s.slot n).job with
  | none => rw [State.reachDone_of_none (.inl hj)]; exact h
  | some job =>
    cases hc : (s.slot n).cart with
    | none => rw [State.reachDone_of_none (.inr hc)]; exact h
    | some c =>
      obtain ⟨p, hp, hs⟩ := (h.placed job).held n hn hj
      have eq := State.reachDone_eq hj hc hp
      have free := h.nextItem_free
      have noItem := h.no_item hp fun k => by rw [hs]; exact nofun
      have numbers := h.numbers_addItem p.patron (.cartridge job c.serial) .awaitingLabel
      have setItems := s.setItems_addItem p.patron (.cartridge job c.serial) .awaitingLabel
      generalize hx : { (s.slot n).release .done with
        cart := some (c.written job p.used), op := none, doneItem := some (job, s.nextItem) } = x at eq
      have jobless : x.job = none := by rw [← hx]; rfl
      generalize s.reachDone n = t at eq ⊢
      have plans : t.planner.plans = s.planner.plans.put job { p with state := .mailing s.nextItem } := by
        rw [eq]; simp [State.setPlan]
      have queue : t.planner.queue = s.planner.queue := by rw [eq]; simp
      have run : t.run = s.run := by rw [eq]; simp
      have rack : t.rack = (s.setSlot n x).rack := by rw [eq]; simp [State.setSlot]
      have tray : t.mail.tray = s.mail.tray ++
          [{ number := s.nextItem, patron := p.patron, kind := .cartridge job c.serial, state := .awaitingLabel }] := by
        rw [eq]; simp [State.tray_addItem, State.nextItem]
      have plan : t.plan job = some { p with state := .mailing s.nextItem } := by
        rw [State.plan, plans]
        exact Table.look_put _ _ _
      have out : job ∉ s.planner.queue := fun hm => by
        obtain ⟨q, hq, hqs⟩ := (h.placed job).queued.1 hm
        rw [hp] at hq
        cases hq
        rw [hs] at hqs
        cases hqs
      have jobs {k : Nat} (hk : k ∈ slotNumbers) : Slot.Freed job (s.slot k) (t.slot k) := by
        rw [State.slot.eq_def t, rack]
        change Slot.Freed job (s.slot k) ((s.setSlot n x).slot k)
        by_cases hkn : k = n
        · rw [hkn, State.slot_setSlot_same x h.eight hn]
          exact .of_none jobless (.inl hj)
        · rw [State.slot_setSlot_other x hn hk hkn]
          refine .refl (h.jobs k hk) fun hjob => hkn ?_
          have := h.job_state hp hk hjob
          rw [hs] at this
          exact (PlanState.inSlot.inj this).symm
      have others : s.OthersKept job t := by
        refine ⟨fun m hm => ?_, fun m _ => by rw [queue], run, fun k hk m hm => (jobs hk).2.2 m hm,
          fun m hm => ⟨fun y hy serial hk => ?_, fun y hy _ _ => ⟨y, by rw [tray]; exact List.mem_append_left _ hy, rfl, rfl, rfl⟩⟩⟩
        · rw [State.plan, plans]
          exact Table.look_put_of_ne _ _ hm
        · rw [tray] at hy
          rcases List.mem_append.1 hy with hy | hy
          · exact ⟨y, hy, rfl, rfl, rfl⟩
          · rw [List.mem_singleton.1 hy] at hk
            exact absurd (ItemKind.cartridge.inj hk).1.symm hm
      have new := Table.perm_put h.rising job { p with state := .mailing s.nextItem }
      have old := Table.perm_del hp
      refine ⟨by rw [plans]; exact Table.rising_put _ _ _ h.rising, by rw [rack]; simpa [State.setSlot] using h.eight,
        by rw [queue]; exact h.once, State.rush_sublist h.rush (by rw [queue]) fun m hm => ?_, fun k hk => (jobs hk).1,
        by rw [tray]; exact numbers, others.placed h.placed ?_, ?_, ?_, ?_⟩
      · rw [queue] at hm
        rw [State.isRush, others.plan m fun he => out (he ▸ hm)]
        rfl
      · refine ⟨⟨fun hm => absurd (queue ▸ hm) out, fun ⟨q, hq, hqs⟩ => ?_⟩, fun q k hq hqs => ?_, fun k hk hjob => absurd hjob (jobs hk).2.1,
          fun y hy serial hk => ?_, fun q k hq hqs => ?_⟩
        · rw [plan] at hq
          cases hq
          cases hqs
        · rw [plan] at hq
          cases hq
          cases hqs
        · rw [tray] at hy
          rcases List.mem_append.1 hy with hy | hy
          · exact absurd hk (noItem y hy serial)
          · rw [List.mem_singleton.1 hy]
            exact ⟨_, plan, rfl, rfl⟩
        · rw [plan] at hq
          cases hq
          cases hqs
          exact ⟨_, by rw [tray]; exact List.mem_append_right _ (List.mem_singleton_self _), rfl, c.serial, rfl⟩
      · rw [plans, new.length_eq, List.length_cons, ← List.length_cons, ← old.length_eq]
        exact h.plans
      · have before := old.countP_eq (fun e => e.2.state.pins)
        have after := new.countP_eq (fun e => e.2.state.pins)
        have bound := h.pins
        rw [List.countP_cons, hs] at before
        rw [List.countP_cons] at after
        rw [plans, after, PlanState.pins]
        simp only [Bool.false_eq_true, if_false]
        omega
      · have same : t.setItems = s.setItems := by
          rw [State.setItems, tray]
          exact setItems
        rw [same]
        exact h.sets

/-- A plan written over by one that stands where it stood. -/
theorem State.Binds.plan_kept {s : State} (h : s.Binds) {n : Nat} {p q : Plan} (hp : s.plan n = some p)
    (hq : q.patron = p.patron ∧ q.state = p.state) (hr : q.rush = p.rush) : (s.setPlan n q).Binds := by
  have counts := Table.counts_put (v := q) h.rising hp (fun e => e.2.state.pins) (by rw [hq.2])
  have here : (s.setPlan n q).plan n = some q := Table.look_put _ _ _
  have others {m : Nat} (hm : m ≠ n) : (s.setPlan n q).plan m = s.plan m := Table.look_put_of_ne _ _ hm
  have rush (m : Nat) : (s.setPlan n q).isRush m = s.isRush m := by
    by_cases hm : m = n
    · rw [hm, State.isRush, here, State.isRush, hp]
      exact hr
    · rw [State.isRush, others hm]
      rfl
  refine ⟨Table.rising_put _ _ _ h.rising, h.eight, h.once, State.rush_sublist h.rush (.refl _) fun m _ => rush m, h.jobs, h.numbers,
    fun m => (h.placed m).of_same ?_ Iff.rfl rfl (fun _ _ => Iff.rfl) (State.sameItems_of_trayKinds rfl m), counts.1.trans_le h.plans,
    counts.2.trans_le h.pins, h.sets⟩
  by_cases hm : m = n
  · rw [hm, here, hp]
    simp [hq]
  · rw [others hm]

end Sys2Proof.Machine

end

section
/-!
PROOF. Every dealing leaves every plan its place, and so do a start and an end of the part's work: O10.
-/

namespace Sys2Proof.Machine

/-! ## Dealings -/

theorem State.LeavesPlans.setStore {s : State} (x : Store) : s.LeavesPlans (s.setStore x) := .of_eq rfl rfl rfl rfl rfl

theorem State.leavesPlans_handFill (s : State) (f : FillOp) : s.LeavesPlans (s.handFill f) := by
  unfold State.handFill
  dsimp only
  split
  · exact .setStore _
  · exact .setStore _

theorem State.leavesPlans_of_core {s t : State} (h : t.core = s.core) : s.LeavesPlans t := by
  simp only [State.core, Prod.mk.injEq] at h
  obtain ⟨run, ⟨plans, queue⟩, -, rack, tray⟩ := h
  exact .of_eq plans queue run rack tray

theorem State.Binds.endPlans {s : State} (h : s.Binds) (l : List Nat) : (l.foldl State.endPlan s).Binds := by
  induction l generalizing s with
  | nil => exact h
  | cons n l ih => exact ih (h.endPlan n)

/-- Every dealing leaves every plan its place. -/
theorem State.Deal.binds {d : Prop} {o : Completing} {s t : State} (h : s.Deal d o t) (hs : s.Binds) : t.Binds := by
  cases h with
  | same h => exact (State.leavesPlans_of_core h).binds hs
  | itemAdded h => exact hs.itemAdded h
  | itemRemoved h => exact hs.itemRemoved h
  | tray h => exact hs.keep rfl rfl rfl rfl (fun _ _ => .refl _) h
  | dispatched hi hk => exact hs.dispatched hi hk
  | endPlan n => exact hs.endPlan n
  | enrolled _ h => exact hs.enrolled h
  | plan hp hq hr _ => exact hs.plan_kept hp hq hr
  | matched => exact hs.matchJobs
  | putBack hn hj hx => exact hs.putBack hn hj hx
  | failed hn hj hx => exact hs.failed hn hj hx
  | slot hk => exact State.LeavesPlans.binds (s := s) ⟨rfl, rfl, rfl, State.jobsKept_setSlot hk, rfl⟩ hs
  | done hn => exact hs.done hn
  | image => exact (State.LeavesPlans.setStore _).binds hs
  | removeImage => exact State.LeavesPlans.binds (.of_eq (by simp) (by simp) (by simp) (by simp) (by simp)) hs
  | admitted => exact State.LeavesPlans.binds (.of_eq (by simp) (by simp) (by simp) (by simp) (by simp)) hs
  | recent => exact State.LeavesPlans.binds (.of_eq (by simp) (by simp) (by simp) (by simp) (by simp)) hs
  | recreated => exact State.LeavesPlans.binds (.of_eq (by simp) (by simp) (by simp) (by simp) (by simp)) hs
  | completed => exact State.LeavesPlans.binds (.of_eq (by simp) (by simp) (by simp) (by simp) (by simp)) hs
  | spoiled =>
    refine State.Binds.endPlans (State.LeavesPlans.binds (s := s) ?_ hs) _
    exact .of_eq (by simp) (by simp) (by simp) (by simp) (by simp)
  | requeued => exact State.LeavesPlans.binds (.of_eq (by simp) (by simp) (by simp) (by simp) (by simp)) hs
  | fetch => exact State.LeavesPlans.binds (.of_eq (by simp) (by simp) (by simp) (by simp) (by simp)) hs
  | started => exact State.LeavesPlans.binds (.of_eq (by simp) (by simp) (by simp) (by simp) (by simp)) hs
  | handRead => exact State.LeavesPlans.binds ⟨by simp, by simp, by simp, s.jobsKept_handRead _, by simp⟩ hs
  | loseRead => exact (State.LeavesPlans.setStore _).binds hs
  | handFill => exact (s.leavesPlans_handFill _).binds hs
  | loseFill => exact (State.LeavesPlans.setStore _).binds hs
  | granted => exact State.LeavesPlans.binds ⟨by simp, by simp, by simp, s.jobsKept_grantNext _, by simp⟩ hs

/-! ## Starts and ends of the part's work -/

/-- What a rebuild makes of a plan. -/
def Plan.returned (p : Plan) : Plan := { p with state := p.state.returned }

theorem Plan.returned_pins (p : Plan) : p.returned.state.pins = p.state.pins := by
  unfold Plan.returned PlanState.returned
  dsimp only
  split
  · next k hk =>
    rw [hk]
    split
    · rfl
    · rfl
  · rfl

/-- What a rebuild makes of the plans, the queue, the slots and the items. -/
structure State.ReturnsPlans (s t : State) : Prop where
  run : t.run = .running
  plans : t.planner.plans = s.planner.plans.map (fun e => (e.1, e.2.returned))
  queue : t.planner.queue = s.bound.filter s.isRush ++ s.planner.queue.take (s.rushJobs s.planner.queue) ++
    (s.bound.filter (fun n => !s.isRush n) ++ s.planner.queue.drop (s.rushJobs s.planner.queue))
  rack : t.rack = s.rack.map Slot.startUp
  tray : t.mail.tray = s.mail.tray

theorem State.rebuild_returnsPlans {s : State} (hs : s.planner.plans.rising = true) : s.ReturnsPlans s.rebuild := by
  obtain ⟨plans, queue⟩ := State.rebuildPlans_does hs
  obtain ⟨run, -, rack, -⟩ := s.rebuildPlans.rebuildImages.rebuildMail.rebuildReturns.beginService_does
  refine ⟨run, ?_, ?_, ?_, by simp⟩
  · exact (by simp [State.rebuild] : s.rebuild.planner.plans = s.rebuildPlans.planner.plans).trans plans
  · exact (by simp [State.rebuild] : s.rebuild.planner.queue = s.rebuildPlans.planner.queue).trans queue
  · exact rack.trans (by simp)

/-- A start leaves the jobs to the queue. -/
theorem Slot.startUp_jobless (x : Slot) : x.startUp.job = none := by
  unfold Slot.startUp
  split
  · rfl
  · rfl

/-- A rack whose slots all hold no job. -/
theorem State.jobless_of_map {s : State} {l : List Slot} {f : Slot → Slot} (hl : s.rack = l.map f) (hf : ∀ x, (f x).job = none)
    (k : Nat) : (s.slot k).job = none := by
  rw [State.slot, hl, List.getD_eq_getElem?_getD, List.getElem?_map]
  cases l[k - 1]? with
  | none => rfl
  | some x => exact hf x

/-- What a start or an end of the work finds and leaves of plans and items. -/
structure State.SamePlans (s u : State) : Prop where
  plans : u.planner.plans = s.planner.plans
  queue : u.planner.queue = s.planner.queue
  rack : u.rack.length = s.rack.length
  tray : u.mail.tray = s.mail.tray

theorem State.mem_bound {s : State} (hs : s.planner.plans.rising = true) {n : Nat} :
    n ∈ s.bound ↔ ∃ p k, s.plan n = some p ∧ p.state = .inSlot k ∧ k ∈ slotNumbers := by
  rw [State.bound, List.mem_reverse]
  constructor
  · intro h
    simp only [List.mem_flatMap, List.mem_reverse, State.boundPlans, List.mem_map, List.mem_filter, decide_eq_true_eq] at h
    obtain ⟨k, hk, e, ⟨he, hst⟩, rfl⟩ := h
    exact ⟨e.2, k, Table.look_of_mem hs he, hst, hk⟩
  · rintro ⟨p, k, hp, hst, hk⟩
    exact (State.mem_boundPlans (e := (n, p)) hs (Table.mem_of_look hp)).2 ⟨k, hk, hst⟩

theorem State.bound_nodup {s : State} (hs : s.planner.plans.rising = true) : s.bound.Nodup := by
  rw [State.bound, List.nodup_reverse, List.nodup_flatMap]
  refine ⟨fun k _ => (Table.rising_keys hs).sublist (List.filter_sublist.map _), ?_⟩
  have distinct : slotNumbers.reverse.Nodup := by decide
  refine List.Pairwise.imp (fun {j k} hjk => ?_) distinct
  intro n hj hk
  simp only [State.boundPlans, List.mem_map, List.mem_filter, decide_eq_true_eq] at hj hk
  obtain ⟨e, ⟨he, hes⟩, rfl⟩ := hj
  obtain ⟨f, ⟨hf, hfs⟩, hfe⟩ := hk
  have look : s.plan e.1 = some e.2 := Table.look_of_mem hs he
  have look' : s.plan f.1 = some f.2 := Table.look_of_mem hs hf
  rw [hfe, look] at look'
  rw [Option.some.inj look', hfs] at hes
  exact hjk (PlanState.inSlot.inj hes).symm

/-- A rebuild from the plans, queue and items of `s` leaves every plan its place. -/
theorem State.Binds.rebuild {s u : State} (h : s.Binds) (same : s.SamePlans u) : u.rebuild.Binds := by
  have rising : u.planner.plans.rising = true := by rw [same.plans]; exact h.rising
  have done := State.rebuild_returnsPlans rising
  generalize u.rebuild = t at done ⊢
  have before (n : Nat) : u.plan n = s.plan n := by rw [State.plan, same.plans]; rfl
  have rushes : u.isRush = s.isRush := funext fun n => by rw [State.isRush, before]; rfl
  have plan (n : Nat) : t.plan n = (s.plan n).map Plan.returned := by
    rw [State.plan, done.plans, same.plans]
    exact Table.look_map _ (fun e : Nat × Plan => e.2.returned) n
  have isRush : t.isRush = s.isRush := funext fun n => by
    rw [State.isRush, plan, Option.map_map]
    rfl
  have jobless := State.jobless_of_map done.rack Slot.startUp_jobless
  have cut := pairwise_cut h.rush
  have queue := done.queue
  rw [rushes, same.queue, State.rushJobs_eq, rushes] at queue
  have members (n : Nat) : n ∈ t.planner.queue ↔ n ∈ u.bound ∨ n ∈ s.planner.queue := by
    have parts := List.take_append_drop (s.planner.queue.countP s.isRush) s.planner.queue
    have old : n ∈ s.planner.queue ↔ n ∈ s.planner.queue.take (s.planner.queue.countP s.isRush) ∨
        n ∈ s.planner.queue.drop (s.planner.queue.countP s.isRush) := by rw [← List.mem_append, parts]
    rw [queue, old]
    simp only [List.mem_append, List.mem_filter, Bool.not_eq_true']
    cases s.isRush n <;> simp <;> tauto
  have apart : ∀ n ∈ u.bound, n ∉ s.planner.queue := fun n hb hq => by
    obtain ⟨p, k, hp, hs, -⟩ := (State.mem_bound rising).1 hb
    obtain ⟨q, hq, hqs⟩ := (h.placed n).queued.1 hq
    rw [before, hq] at hp
    cases hp
    rw [hqs] at hs
    cases hs
  have perm : t.planner.queue.Perm (u.bound ++ s.planner.queue) := by
    have groups : (u.bound.filter s.isRush ++ u.bound.filter (fun n => !s.isRush n)).Perm u.bound :=
      List.filter_append_perm _ _
    rw [queue]
    refine List.Perm.trans ?_ (groups.append (.of_eq (List.take_append_drop (s.planner.queue.countP s.isRush) s.planner.queue)))
    refine List.perm_iff_count.2 fun x => ?_
    simp only [List.count_append]
    omega
  have returned {n : Nat} {q : Plan} (hq : t.plan n = some q) : ∃ p, s.plan n = some p ∧ q = p.returned := by
    rw [plan] at hq
    obtain ⟨p, hp, he⟩ := Option.map_eq_some_iff.1 hq
    exact ⟨p, hp, he.symm⟩
  refine ⟨?_, ?_, ?_, ?_, fun k _ => Slot.jobRight_of_none (jobless k), by rw [done.tray, same.tray]; exact h.numbers, fun n => ?_, ?_, ?_, ?_⟩
  · rw [done.plans]
    exact (Table.rising_map _ _ (by exact fun _ => rfl)).trans rising
  · rw [done.rack, List.length_map, same.rack]
    exact h.eight
  · rw [perm.nodup_iff, List.nodup_append']
    exact ⟨State.bound_nodup rising, h.once, fun n hb hq => apart n hb hq⟩
  · have first : ∀ m ∈ u.bound.filter s.isRush ++ s.planner.queue.take (s.planner.queue.countP s.isRush), s.isRush m = true :=
      fun m hm => (List.mem_append.1 hm).elim (fun hm => (List.mem_filter.1 hm).2) (cut.1 m)
    have last : ∀ m ∈ u.bound.filter (fun n => !s.isRush n) ++ s.planner.queue.drop (s.planner.queue.countP s.isRush),
        s.isRush m = false :=
      fun m hm => (List.mem_append.1 hm).elim (fun hm => by simpa using (List.mem_filter.1 hm).2) (cut.2 m)
    rw [queue, isRush]
    refine List.pairwise_append.2 ⟨List.pairwise_of_forall_mem_list fun m hm n _ _ => first m hm,
      List.pairwise_of_forall_mem_list fun m _ n hn hr => ?_, fun m hm n _ _ => first m hm⟩
    rw [last n hn] at hr
    cases hr
  · refine ⟨?_, fun q k hq hqs => ?_, fun k _ hj => ?_, fun x hx serial hk => ?_, fun q k hq hqs => ?_⟩
    · rw [members, State.mem_bound rising, (h.placed n).queued, plan]
      constructor
      · rintro (⟨p, k, hp, hs, hk⟩ | ⟨p, hp, hs⟩)
        · rw [before] at hp
          exact ⟨p.returned, by rw [hp]; rfl, by rw [Plan.returned, hs, PlanState.returned, if_pos hk]⟩
        · exact ⟨p.returned, by rw [hp]; rfl, by rw [Plan.returned, hs]; rfl⟩
      · rintro ⟨q, hq, hqs⟩
        obtain ⟨p, hp, rfl⟩ := Option.map_eq_some_iff.1 hq
        cases hs : p.state with
        | queued => exact .inr ⟨p, hp, hs⟩
        | inSlot k => exact .inl ⟨p, k, by rw [before]; exact hp, hs, ((h.placed n).bound p k hp hs).1⟩
        | mailing k =>
          rw [Plan.returned, hs] at hqs
          cases hqs
    · obtain ⟨p, hp, rfl⟩ := returned hq
      cases hs : p.state with
      | queued => rw [Plan.returned, hs] at hqs; cases hqs
      | inSlot j =>
        have hj := ((h.placed n).bound p j hp hs).1
        rw [Plan.returned, hs, PlanState.returned, if_pos hj] at hqs
        cases hqs
      | mailing j => rw [Plan.returned, hs] at hqs; cases hqs
    · rw [jobless] at hj
      cases hj
    · rw [done.tray, same.tray] at hx
      obtain ⟨p, hp, hs, hpat⟩ := (h.placed n).item x hx serial hk
      exact ⟨p.returned, by rw [plan, hp]; rfl, by rw [Plan.returned, hs]; rfl, hpat⟩
    · obtain ⟨p, hp, rfl⟩ := returned hq
      rw [done.tray, same.tray]
      refine (h.placed n).mailing p k hp ?_
      cases hs : p.state with
      | queued => rw [Plan.returned, hs] at hqs; cases hqs
      | inSlot j =>
        have hj := ((h.placed n).bound p j hp hs).1
        rw [Plan.returned, hs, PlanState.returned, if_pos hj] at hqs
        cases hqs
      | mailing j =>
        rw [Plan.returned, hs] at hqs
        exact hqs
  · rw [done.plans, List.length_map, same.plans]
    exact h.plans
  · rw [done.plans, List.countP_map, same.plans]
    refine le_of_eq_of_le (List.countP_congr fun e _ => ?_) h.pins
    rw [Function.comp_apply]
    exact iff_of_eq (congrArg (· = true) e.2.returned_pins)
  · rw [State.setItems, done.tray, same.tray]
    exact h.sets

/-- The part at rest, the slots having lost their jobs, leaves every plan its place. -/
theorem State.Binds.lapsed {s u : State} (h : s.Binds) (same : s.SamePlans u) (run : u.run ≠ .running)
    (jobs : ∀ k, (u.slot k).job = none) : u.Binds := by
  have plan (n : Nat) : u.plan n = s.plan n := by rw [State.plan, same.plans]; rfl
  have rush : u.isRush = s.isRush := funext fun n => by rw [State.isRush, plan]; rfl
  refine ⟨by rw [same.plans]; exact h.rising, same.rack.trans h.eight, by rw [same.queue]; exact h.once,
    by rw [same.queue, rush]; exact h.rush, fun k _ => Slot.jobRight_of_none (jobs k), by rw [same.tray]; exact h.numbers,
    fun n => ?_, by rw [same.plans]; exact h.plans, by rw [same.plans]; exact h.pins, by rw [State.setItems, same.tray]; exact h.sets⟩
  obtain ⟨queued, bound, -, item, mailing⟩ := h.placed n
  refine ⟨by rw [same.queue, plan]; exact queued, fun p k hp hs => ?_, fun k _ hj => ?_, by rw [same.tray, plan]; exact item,
    by rw [same.tray, plan]; exact mailing⟩
  · rw [plan] at hp
    exact ⟨(bound p k hp hs).1, fun hr => absurd hr run⟩
  · rw [jobs] at hj
    cases hj

/-- With no plan and no item every plan has its place. -/
theorem State.Binds.of_empty {u : State} (plans : u.planner.plans = []) (queue : u.planner.queue = []) (rack : u.rack.length = 8)
    (tray : u.mail.tray = []) (jobs : ∀ k, (u.slot k).job = none) : u.Binds := by
  have plan (n : Nat) : u.plan n = none := by rw [State.plan, plans]; rfl
  refine ⟨by rw [plans]; rfl, rack, by rw [queue]; exact .nil, by rw [queue]; exact .nil,
    fun k _ => Slot.jobRight_of_none (jobs k), by rw [tray]; exact .nil, fun n => ?_, by rw [plans]; exact Nat.zero_le _,
    by rw [plans]; exact Nat.zero_le _, by rw [State.setItems, tray]; exact Nat.zero_le _⟩
  exact State.placed_of_gone (plan n) (by rw [queue]; exact nofun) (fun k _ => by rw [jobs]; exact nofun)
    (by rw [tray]; exact nofun)

/-- Emptied records hold no plan and no item. -/
theorem State.Binds.emptied {s : State} (h : s.Binds) (held good : Bool) : (s.losePower.takeBackup held good).emptyRecords.Binds := by
  have rack : (s.losePower.takeBackup held good).emptyRecords.rack = s.rack.map Slot.lapse := by
    have ended : s.losePower.rack = s.rack.map Slot.lapse := rfl
    simp [ended]
  refine .of_empty (by simp [State.emptyRecords, Planner.empty]) (by simp [State.emptyRecords, Planner.empty]) ?_
    (by simp [State.emptyRecords, Mail.empty]) (State.jobless_of_map rack fun _ => rfl)
  rw [rack, List.length_map]
  exact h.eight

/-- A start and an end of the part's work leave every plan its place. -/
theorem State.Begins.binds {s t : State} (h : s.Begins t) (hs : s.Binds) : t.Binds := by
  cases h with
  | restarted => exact hs.rebuild ⟨rfl, rfl, List.length_map _, rfl⟩
  | poweredOn held good =>
    have taken : s.SamePlans (s.losePower.takeBackup held good) := ⟨by simp, by simp, by simp, by simp⟩
    unfold State.powerOn
    dsimp only
    split
    · exact hs.rebuild taken
    · exact (hs.emptied held good).rebuild ⟨rfl, rfl, rfl, rfl⟩
  | powerLost =>
    exact hs.lapsed ⟨rfl, rfl, List.length_map _, rfl⟩ nofun (State.jobless_of_map (l := s.rack) (f := Slot.lapse) rfl fun _ => rfl)
  | resetAsserted =>
    exact hs.lapsed ⟨rfl, rfl, List.length_map _, rfl⟩ nofun (State.jobless_of_map (l := s.rack) (f := Slot.lapse) rfl fun _ => rfl)
  | resetReleased => exact hs.rebuild ⟨rfl, rfl, rfl, rfl⟩

/-- Every move leaves every plan its place. -/
theorem State.Move.binds {s t : State} (h : s.Move t) (hs : s.Binds) : t.Binds := by
  rcases h.deals False with deals | begins | ⟨b, f, -, -, rfl⟩
  · exact deals.keep (fun _ _ hd => hd.binds) hs
  · exact begins.binds hs
  · have filled := (s.filled_deals False b f).keep (fun _ _ hd => hd.binds) hs
    exact State.LeavesPlans.binds ⟨by simp, by simp, by simp, (s.filled f).jobsKept_grantNext b, by simp⟩ filled

end Sys2Proof.Machine

namespace Sys2Proof.Proofs

open Sys2Proof Sys2Proof.Machine

/-- Settles O10: every step is dealings that each leave every plan its place, or a start or an end of the part's work. -/
theorem stepKeepsPlansBound : Obligations.StepKeepsPlansBound := by
  unfold Obligations.StepKeepsPlansBound
  intro s t h shaped ordered bound
  obtain ⟨eight, -⟩ := shaped
  obtain ⟨-, -, -, rising, -⟩ := ordered
  have binds (x : List Instr) : (s.setPending x).Binds := (State.leavesPlans_of_core (s := s) (t := s.setPending x) rfl).binds (bound.binds rising eight)
  refine State.Binds.plansBound (step_keeps_from (fun _ _ hm => hm.binds) h binds fun x hr => ?_)
  exact ((State.Deals.refl False none (s.setPending x)).passStep rfl hr nofun).keep (fun _ _ hd => hd.binds) (binds x)

end Sys2Proof.Proofs

end

section
/-!
PROOF. Images that fit the store (R62 to R64), and fetches of which at most two stream (R69, R70).
-/

namespace Sys2Proof.Machine

/-! ## The blocks the images hold -/

/-- The blocks that the images of a table hold. -/
def Table.held (a : Table Image) : List Nat := a.flatMap (fun e => e.2.blocks)

theorem State.heldBlocks_eq (s : State) : s.heldBlocks = Table.held s.store.images := rfl

theorem Table.held_perm {a b : Table Image} (h : a.Perm b) : (Table.held a).Perm (Table.held b) := h.flatMap_right _

theorem Table.held_put {a : Table Image} (ha : a.rising = true) (k : Nat) (e : Image) :
    (Table.held (a.put k e)).Perm (e.blocks ++ Table.held (a.del k)) := Table.held_perm (Table.perm_put ha k e)

theorem Table.held_del {a : Table Image} {k : Nat} {e : Image} (h : a.look k = some e) :
    (Table.held a).Perm (e.blocks ++ Table.held (a.del k)) := Table.held_perm (Table.perm_del h)

/-- The images fit the store: no block is held twice, none is outside it, and the entries are not too many. -/
structure Table.Housed (a : Table Image) : Prop where
  rising : a.rising = true
  apart : (Table.held a).Nodup
  inside : ∀ b ∈ Table.held a, b < Config.storeBlocks
  entries : a.length ≤ Config.imageMax

theorem Table.Housed.pool {a : Table Image} (h : Table.Housed a) : (Table.held a).length ≤ Config.storeBlocks := by
  have within : Table.held a ⊆ List.range Config.storeBlocks := fun b hb => List.mem_range.2 (h.inside b hb)
  have few := (h.apart.subperm within).length_le
  rwa [List.length_range] at few

theorem Table.Housed.del {a : Table Image} (h : Table.Housed a) (k : Nat) : Table.Housed (a.del k) := by
  cases hk : a.look k with
  | none =>
    rw [Table.del_of_none hk]
    exact h
  | some e =>
    have perm := Table.held_del hk
    have apart := perm.nodup_iff.1 h.apart
    refine ⟨Table.rising_del _ k h.rising, (List.nodup_append'.1 apart).2.1, fun b hb => ?_, ?_⟩
    · exact h.inside b (perm.mem_iff.2 (List.mem_append_right _ hb))
    · have := (Table.perm_del hk).length_eq
      rw [List.length_cons] at this
      have := h.entries
      omega

/-- A record put into the table: its blocks are of the store and no other image holds one of them. -/
theorem Table.Housed.put {a : Table Image} (h : Table.Housed a) {k : Nat} {e : Image} (apart : e.blocks.Nodup)
    (inside : ∀ b ∈ e.blocks, b < Config.storeBlocks) (free : ∀ b ∈ e.blocks, b ∉ Table.held (a.del k))
    (room : a.look k ≠ none ∨ a.length < Config.imageMax) : Table.Housed (a.put k e) := by
  have perm := Table.held_put h.rising k e
  have rest := h.del k
  refine ⟨Table.rising_put _ k e h.rising, ?_, fun b hb => ?_, ?_⟩
  · rw [perm.nodup_iff, List.nodup_append']
    exact ⟨apart, rest.apart, free⟩
  · rcases List.mem_append.1 (perm.mem_iff.1 hb) with hb | hb
    · exact inside b hb
    · exact rest.inside b hb
  · rw [(Table.perm_put h.rising k e).length_eq, List.length_cons]
    have entries := h.entries
    cases hk : a.look k with
    | none =>
      rw [Table.del_of_none hk]
      rw [hk] at room
      exact room.resolve_left fun hn => hn rfl
    | some f =>
      have := (Table.perm_del hk).length_eq
      rw [List.length_cons] at this
      omega

/-- A record put over one that holds the same blocks. -/
theorem Table.Housed.put_same {a : Table Image} (h : Table.Housed a) {k : Nat} {e f : Image} (hk : a.look k = some e)
    (hb : f.blocks = e.blocks) : Table.Housed (a.put k f) := by
  have perm := Table.held_del hk
  obtain ⟨own, -, free⟩ := List.nodup_append'.1 (perm.nodup_iff.1 h.apart)
  refine h.put (hb ▸ own) (fun b hm => h.inside b ?_) (fun b hm => free (hb ▸ hm)) (.inl (by rw [hk]; exact nofun))
  exact perm.mem_iff.2 (List.mem_append_left _ (hb ▸ hm))

/-- A new image with newly allocated blocks. -/
theorem Table.Housed.put_new {a : Table Image} (h : Table.Housed a) {k n : Nat} {e : Image} (hk : a.look k = none)
    (hb : e.blocks = allocateBlocks (Table.held a) n) (blocks : (Table.held a).length + n ≤ Config.storeBlocks)
    (room : a.length < Config.imageMax) : Table.Housed (a.put k e) := by
  obtain ⟨-, apart, free⟩ := allocateBlocks_spec blocks
  rw [← hb] at apart free
  refine h.put apart (fun b hm => (free b hm).2) (fun b hm => ?_) (.inr room)
  rw [Table.del_of_none hk]
  exact (free b hm).1

/-- An image that gives its blocks back and takes as many anew. -/
theorem Table.Housed.put_again {a : Table Image} (h : Table.Housed a) {k : Nat} {e f g : Image} (hk : a.look k = some e)
    (hf : f.blocks = []) (hg : g.blocks = allocateBlocks (Table.held (a.put k f)) e.blocks.length) :
    Table.Housed ((a.put k f).put k g) := by
  have emptied : (Table.held (a.put k f)).Perm (Table.held (a.del k)) := by
    have := Table.held_put h.rising k f
    rwa [hf] at this
  have room : (Table.held (a.put k f)).length + e.blocks.length ≤ Config.storeBlocks := by
    have whole := (Table.held_del hk).length_eq
    rw [List.length_append] at whole
    rw [emptied.length_eq]
    have := h.pool
    omega
  obtain ⟨-, apart, free⟩ := allocateBlocks_spec room
  rw [← hg] at apart free
  rw [Table.put_put]
  refine h.put apart (fun b hm => (free b hm).2) (fun b hm hd => (free b hm).1 (emptied.mem_iff.2 hd)) (.inl ?_)
  rw [hk]
  exact nofun

/-! ## The streams -/

/-- At most two fetches stream, and one of those that do is the older. -/
def Streaming (l : List Fetch) : Prop :=
  l.countP (fun f => decide (f.state ≠ .waiting)) ≤ 2 ∧
    l.countP (fun f => decide (f.state = .streaming true)) = min 1 (l.countP (fun f => decide (f.state ≠ .waiting)))

/-- The count of streams and of older streams, of a list and of a part of it. -/
theorem countP_older_le (l : List Fetch) :
    l.countP (fun f => decide (f.state = .streaming true)) ≤ l.countP (fun f => decide (f.state ≠ .waiting)) := by
  refine List.countP_mono_left fun f _ hf => ?_
  rw [decide_eq_true_eq] at hf ⊢
  rw [hf]
  exact nofun

/-- Where fetches are taken away and the younger stream becomes the older if that is gone. -/
theorem Streaming.promote_sublist {l m : List Fetch} (h : Streaming l) (hm : m.Sublist l) : Streaming (promote m) := by
  obtain ⟨two, one⟩ := h
  have streams := hm.countP_le (p := fun f => decide (f.state ≠ .waiting))
  have olders := hm.countP_le (p := fun f => decide (f.state = .streaming true))
  unfold promote
  split
  · next hany =>
    have some : 0 < m.countP (fun f => decide (f.state = .streaming true)) := by
      obtain ⟨f, hf, ho⟩ := List.any_eq_true.1 hany
      exact List.countP_pos_iff.2 ⟨f, hf, ho⟩
    have := countP_older_le m
    exact ⟨streams.trans two, by omega⟩
  · next hany =>
    have none : m.countP (fun f => decide (f.state = .streaming true)) = 0 := by
      rw [List.countP_eq_zero]
      intro f hf ho
      exact hany (List.any_eq_true.2 ⟨f, hf, ho⟩)
    have fewer : m.countP (fun f => decide (f.state ≠ .waiting)) ≤ 1 := by
      obtain ⟨n, hn⟩ := hm.exists_perm_append
      have a := hn.countP_eq (fun f => decide (f.state ≠ .waiting))
      have b := hn.countP_eq (fun f => decide (f.state = .streaming true))
      rw [List.countP_append] at a b
      have := countP_older_le n
      omega
    have kept : (m.map fun f => if f.state = .waiting then f else { f with state := .streaming true }).countP
        (fun f => decide (f.state ≠ .waiting)) = m.countP (fun f => decide (f.state ≠ .waiting)) := by
      rw [List.countP_map]
      refine List.countP_congr fun f _ => ?_
      by_cases hf : f.state = .waiting <;> simp [hf]
    have olderNow : (m.map fun f => if f.state = .waiting then f else { f with state := .streaming true }).countP
        (fun f => decide (f.state = .streaming true)) = m.countP (fun f => decide (f.state ≠ .waiting)) := by
      rw [List.countP_map]
      refine List.countP_congr fun f _ => ?_
      by_cases hf : f.state = .waiting <;> simp [hf]
    refine ⟨kept.trans_le (fewer.trans (by decide)), ?_⟩
    rw [olderNow, kept]
    omega

theorem Streaming.of_states {l m : List Fetch} (h : Streaming l) (hm : m.map (·.state) = l.map (·.state)) : Streaming m := by
  have count (p : FetchState → Bool) : m.countP (fun f => p f.state) = l.countP (fun f => p f.state) := by
    have := congrArg (List.countP p) hm
    rwa [List.countP_map, List.countP_map] at this
  have streams := count fun x => decide (x ≠ .waiting)
  have olders := count fun x => decide (x = .streaming true)
  unfold Streaming
  rw [streams, olders]
  exact h

/-- A fetch that waits is no matter of the streams. -/
theorem Streaming.cons {l : List Fetch} (h : Streaming l) {f : Fetch} (hf : f.state = .waiting) : Streaming (f :: l) := by
  unfold Streaming
  simp only [List.countP_cons, hf]
  simpa [Streaming] using h

theorem Streaming.perm {l m : List Fetch} (h : Streaming l) (hm : l.Perm m) : Streaming m := by
  unfold Streaming
  rw [← hm.countP_eq, ← hm.countP_eq]
  exact h

/-- A list of fetches with one of them changed, there being no other of its id. -/
theorem exists_split_of_id {l : List Fetch} (hl : (l.map (·.id)).Nodup) {f : Fetch} (hf : f ∈ l) :
    ∃ a b, l = a ++ f :: b ∧ ∀ g : Fetch → Fetch, l.map (fun e => if e.id = f.id then g e else e) = a ++ g f :: b := by
  obtain ⟨a, b, rfl⟩ := List.append_of_mem hf
  rw [List.map_append, List.map_cons, List.perm_middle.nodup_iff, List.nodup_cons, List.mem_append] at hl
  have same (g : Fetch → Fetch) {m : List Fetch} (hm : f.id ∉ m.map (·.id)) : m.map (fun e => if e.id = f.id then g e else e) = m := by
    refine (List.map_congr_left fun e he => ?_).trans (List.map_id m)
    rw [if_neg fun hx : e.id = f.id => hm (hx ▸ List.mem_map_of_mem he)]
    rfl
  refine ⟨a, b, rfl, fun g => ?_⟩
  rw [List.map_append, List.map_cons, if_pos rfl, same g fun h => hl.1 (.inl h), same g fun h => hl.1 (.inr h)]

/-- A waiting fetch starts to stream, as the older stream if it is the only one. -/
theorem Streaming.start {l : List Fetch} (h : Streaming l) (hl : (l.map (·.id)).Nodup) {f : Fetch} (hf : f ∈ l)
    (hw : f.state = .waiting) (hs : l.countP (fun f => decide (f.state ≠ .waiting)) < 2) :
    Streaming (l.map fun e => if e.id = f.id then
      { e with state := .streaming (decide (l.countP (fun f => decide (f.state ≠ .waiting)) = 0)), next := 0 } else e) := by
  obtain ⟨a, b, split, mapped⟩ := exists_split_of_id hl hf
  have perm : l.Perm (f :: (a ++ b)) := by rw [split]; exact List.perm_middle
  rw [mapped]
  refine Streaming.perm ?_ List.perm_middle.symm
  have streams := perm.countP_eq (fun f => decide (f.state ≠ .waiting))
  have olders := perm.countP_eq (fun f => decide (f.state = .streaming true))
  obtain ⟨-, one⟩ := h
  rw [List.countP_cons, hw] at streams olders
  simp only [ne_eq, not_true_eq_false, decide_false, Bool.false_eq_true, if_false, reduceCtorEq, Nat.add_zero] at streams olders
  simp only [ne_eq] at one hs
  rw [streams] at hs
  rw [streams, olders] at one
  unfold Streaming
  simp only [List.countP_cons, ne_eq, reduceCtorEq, not_false_eq_true, decide_true, if_true, FetchState.streaming.injEq,
    decide_eq_true_eq, streams]
  split
  · next hz =>
    rw [hz] at one ⊢
    omega
  · next hz => omega

end Sys2Proof.Machine

end

section
/-!
PROOF. What O11 says of images, fetches and banks, in parts that each change of them can be judged by.
-/

namespace Sys2Proof.Machine

/-- Whether the title's image is RESIDENT, where it has one. -/
def State.residence (s : State) (t : Nat) : Option Bool := (s.image t).map (·.resident)

/-- The fetches there are, and for which titles. -/
def State.fetchNames (s : State) : List (Nat × Nat) := s.store.fetches.map (fun f => (f.id, f.title))

/-- The fill writes of bank `c` that count: those that wait, and a granted one that stands, but not the one being seen to. -/
def State.fillsAt (s : State) (o : Completing) (c : Nat) : List FillOp :=
  match o with
  | none => (s.bank c).liveFills
  | some (b, _) => if c = b then (s.bank c).fills else (s.bank c).liveFills

/-- What O11 is proved by, while the completion `o` is being seen to. -/
structure State.Stores (o : Completing) (s : State) : Prop where
  four : s.store.banks.length = 4
  housed : Table.Housed s.store.images
  recent : s.store.recency.Nodup
  resident : ∀ t, t ∈ s.store.recency ↔ s.residence t = some true
  few : s.store.fetches.length ≤ Config.fetchMax
  ids : (s.fetchNames.map Prod.fst).Nodup
  titles : (s.fetchNames.map Prod.snd).Nodup
  filling : ∀ t, t ∈ s.fetchNames.map Prod.snd ↔ s.residence t = some false
  streaming : Streaming s.store.fetches
  once : ∀ c < 4, ((s.fillsAt o c).map (·.fetch)).Nodup
  apart : ∀ c < 4, ∀ d < 4, ∀ x ∈ s.fillsAt o c, ∀ y ∈ s.fillsAt o d, x.fetch = y.fetch → c = d
  backed : ∀ c < 4, ∀ x ∈ s.fillsAt o c, (x.fetch, x.title) ∈ s.fetchNames
  banks : ∀ c < 4, (s.bank c).right
  alone : ∀ b f, o = some (b, f) → ∀ c < 4, ∀ x ∈ s.fillsAt o c, x.fetch ≠ f.fetch
  titled : ∀ b f, o = some (b, f) → ∀ t, (f.fetch, t) ∈ s.fetchNames → t = f.title

/-! ## Fetches by their id -/

theorem State.fetch_mem {s : State} {id : Nat} {g : Fetch} (h : s.fetch id = some g) : g ∈ s.store.fetches ∧ g.id = id := by
  have found : s.store.fetches.find? (fun f => decide (f.id = id)) = some g := h
  exact ⟨List.mem_of_find?_eq_some found, by simpa using List.find?_some found⟩

theorem State.fetch_of_mem {s : State} (hn : (s.fetchNames.map Prod.fst).Nodup) {g : Fetch} (h : g ∈ s.store.fetches) :
    s.fetch g.id = some g := by
  have ids : (s.store.fetches.map (·.id)).Nodup := by
    simpa [State.fetchNames, List.map_map, Function.comp_def] using hn
  obtain ⟨a, b, split, -⟩ := exists_split_of_id ids h
  rw [split, List.map_append, List.map_cons, List.perm_middle.nodup_iff, List.nodup_cons, List.mem_append] at ids
  have found : (a ++ g :: b).find? (fun f => decide (f.id = g.id)) = some g := by
    rw [List.find?_append, List.find?_eq_none.2 fun x hx => by
      rw [decide_eq_true_eq]
      exact fun he => ids.1 (.inl (he ▸ List.mem_map_of_mem hx)), Option.none_or]
    exact List.find?_cons_of_pos (decide_eq_true rfl)
  rw [State.fetch, split]
  exact found

theorem State.mem_fetchNames {s : State} (hn : (s.fetchNames.map Prod.fst).Nodup) {id t : Nat} :
    (id, t) ∈ s.fetchNames ↔ ∃ g, s.fetch id = some g ∧ g.title = t := by
  constructor
  · intro h
    obtain ⟨g, hg, he⟩ := List.mem_map.1 h
    obtain ⟨rfl, rfl⟩ := Prod.mk.inj he
    exact ⟨g, State.fetch_of_mem hn hg, rfl⟩
  · rintro ⟨g, hg, rfl⟩
    obtain ⟨hm, rfl⟩ := State.fetch_mem hg
    exact List.mem_map_of_mem (f := fun f : Fetch => (f.id, f.title)) hm

theorem State.fetchNames_ids (s : State) : s.fetchNames.map Prod.fst = s.store.fetches.map (·.id) := by
  simp [State.fetchNames]

theorem State.fetchNames_titles (s : State) : s.fetchNames.map Prod.snd = s.store.fetches.map (·.title) := by
  simp [State.fetchNames]

/-! ## The four banks -/

theorem State.banks_eq {s : State} (h : s.store.banks.length = 4) : s.store.banks = (List.range 4).map s.bank := by
  refine List.ext_getElem (by simpa using h) fun i hi _ => ?_
  rw [List.getElem_map, List.getElem_range, State.bank, List.getD_eq_getElem?_getD, List.getElem?_eq_getElem hi]
  rfl

theorem State.forall_banks {s : State} (h : s.store.banks.length = 4) {P : Bank → Prop} :
    (∀ k ∈ s.store.banks, P k) ↔ ∀ c < 4, P (s.bank c) := by
  rw [State.banks_eq h]
  simp only [List.forall_mem_map, List.mem_range]

/-- What O11 says of the store. -/
theorem State.stores_iff {s : State} (rising : s.store.images.rising = true) (four : s.store.banks.length = 4) :
    s.Stores none ↔ s.imagesRight := by
  have residence (t : Nat) (r : Bool) : s.residence t = some r ↔ ∃ e, s.image t = some e ∧ e.resident = r :=
    Option.map_eq_some_iff
  have live : (s.store.banks.flatMap Bank.liveFills).map (·.fetch) =
      (List.range 4).flatMap (fun c => (s.fillsAt none c).map (·.fetch)) := by
    rw [List.map_flatMap, State.banks_eq four, List.flatMap_map]
    rfl
  have members (P : FillOp → Prop) : (∀ f ∈ s.store.banks.flatMap Bank.liveFills, P f) ↔ ∀ c < 4, ∀ x ∈ s.fillsAt none c, P x := by
    rw [State.banks_eq four, List.flatMap_map]
    simp only [List.mem_flatMap, List.mem_range]
    exact ⟨fun h c hc x hx => h x ⟨c, hc, hx⟩, fun h x ⟨c, hc, hx⟩ => h c hc x hx⟩
  unfold State.imagesRight
  rw [live, members, State.forall_banks four, ← State.fetchNames_ids, ← State.fetchNames_titles]
  simp only [← residence]
  constructor
  · intro h
    refine ⟨h.housed.apart, h.housed.inside, h.housed.pool, h.housed.entries, h.recent, h.resident, h.few, h.ids, h.titles, h.filling,
      ?_, h.streaming, fun c hc x hx => (State.mem_fetchNames h.ids).1 (h.backed c hc x hx), h.banks⟩
    rw [List.nodup_flatMap]
    refine ⟨fun c hc => h.once c (List.mem_range.1 hc), List.Nodup.pairwise_of_forall_ne List.nodup_range fun c hc d hd hne => ?_⟩
    intro id hx hy
    obtain ⟨x, hxm, rfl⟩ := List.mem_map.1 hx
    obtain ⟨y, hym, he⟩ := List.mem_map.1 hy
    exact hne (h.apart c (List.mem_range.1 hc) d (List.mem_range.1 hd) x hxm y hym he.symm)
  · rintro ⟨apart, inside, -, entries, recent, resident, few, ids, titles, filling, once, streaming, backed, banks⟩
    obtain ⟨each, between⟩ := List.nodup_flatMap.1 once
    refine ⟨four, ⟨rising, apart, inside, entries⟩, recent, resident, few, ids, titles, filling, streaming,
      fun c hc => each c (List.mem_range.2 hc), fun c hc d hd x hx y hy he => ?_,
      fun c hc x hx => (State.mem_fetchNames ids).2 (backed c hc x hx), banks, nofun, nofun⟩
    by_contra hne
    have symmetric : Std.Symm (fun c d : Nat =>
        List.Disjoint ((s.fillsAt none c).map (·.fetch)) ((s.fillsAt none d).map (·.fetch))) := ⟨fun _ _ h => h.symm⟩
    have disjoint : List.Disjoint ((s.fillsAt none c).map (·.fetch)) ((s.fillsAt none d).map (·.fetch)) :=
      List.Pairwise.forall between (List.mem_range.2 hc) (List.mem_range.2 hd) hne
    exact disjoint (List.mem_map_of_mem hx) (List.mem_map.2 ⟨y, hy, he.symm⟩)

end Sys2Proof.Machine

end

section
/-!
PROOF. The changes of images and fetches keep what O11 says of them.
-/

namespace Sys2Proof.Machine

variable {o : Completing} {s t : State}

theorem State.fillsAt_of_banks (h : t.store.banks = s.store.banks) (o : Completing) (c : Nat) : t.fillsAt o c = s.fillsAt o c := by
  have bank : t.bank c = s.bank c := by rw [State.bank, h]; rfl
  unfold State.fillsAt
  rw [bank]

/-- Where the images, the recency order and the fetches are others, but stand for the same. -/
theorem State.Stores.parts (h : s.Stores o) (housed : Table.Housed t.store.images) (residence : ∀ k, t.residence k = s.residence k)
    (recency : t.store.recency.Perm s.store.recency) (names : t.fetchNames.Perm s.fetchNames)
    (streaming : Streaming t.store.fetches) (banks : t.store.banks = s.store.banks) : t.Stores o := by
  have fills (c : Nat) : t.fillsAt o c = s.fillsAt o c := State.fillsAt_of_banks banks o c
  have length : t.store.fetches.length = s.store.fetches.length := by
    have := names.length_eq
    rwa [State.fetchNames, State.fetchNames, List.length_map, List.length_map] at this
  refine ⟨by rw [banks]; exact h.four, housed, recency.nodup_iff.2 h.recent, fun k => ?_, length.trans_le h.few, ?_, ?_, fun k => ?_,
    streaming, fun c hc => ?_, fun c hc d hd => ?_, fun c hc x hx => ?_, fun c hc => ?_, fun b f ho c hc => ?_, fun b f ho k hk => ?_⟩
  · rw [recency.mem_iff, residence, h.resident]
  · exact (names.map _).nodup_iff.2 h.ids
  · exact (names.map _).nodup_iff.2 h.titles
  · rw [(names.map Prod.snd).mem_iff, residence, h.filling]
  · rw [fills]
    exact h.once c hc
  · rw [fills, fills]
    exact h.apart c hc d hd
  · rw [fills] at hx
    exact names.mem_iff.2 (h.backed c hc x hx)
  · rw [State.bank, banks]
    exact h.banks c hc
  · rw [fills]
    exact h.alone b f ho c hc
  · exact h.titled b f ho k (names.mem_iff.1 hk)

theorem State.residence_of_images (h : t.store.images = s.store.images) (k : Nat) : t.residence k = s.residence k := by
  rw [State.residence, State.image, h]
  rfl

theorem State.fetchNames_of_fetches (h : t.store.fetches = s.store.fetches) : t.fetchNames = s.fetchNames := by
  rw [State.fetchNames, h]
  rfl

theorem State.Stores.of_store (h : s.Stores o) (same : t.store = s.store) : t.Stores o :=
  h.parts (by rw [same]; exact h.housed) (State.residence_of_images (by rw [same])) (.of_eq (by rw [same]))
    (.of_eq (State.fetchNames_of_fetches (by rw [same]))) (by rw [same]; exact h.streaming) (by rw [same])

/-! ## Images written over -/

theorem State.residence_setImage (s : State) (t k : Nat) (f : Image) :
    (s.setImage t f).residence k = if k = t then some f.resident else s.residence k := by
  unfold State.residence State.image State.setImage State.setStore
  dsimp only
  split
  · next he => rw [he, Table.look_put]; rfl
  · next hne => rw [Table.look_put_of_ne _ _ hne]

theorem State.Stores.setImage (h : s.Stores o) {k : Nat} {e f : Image} (he : s.image k = some e) (hb : f.blocks = e.blocks)
    (hr : f.resident = e.resident) : (s.setImage k f).Stores o := by
  refine h.parts (h.housed.put_same he hb) (fun j => ?_) (.refl _) (.refl _) h.streaming rfl
  rw [State.residence_setImage]
  split
  · next hj => rw [hj, State.residence, he, hr]; rfl
  · rfl

theorem State.Stores.onImage (h : s.Stores o) {k : Nat} {f : Image → Image} (hb : ∀ e, (f e).blocks = e.blocks)
    (hr : ∀ e, (f e).resident = e.resident) : (s.onImage k f).Stores o := by
  unfold State.onImage
  split
  · next e he => exact h.setImage he (hb e) (hr e)
  · exact h

theorem State.Stores.pin (h : s.Stores o) (k : Nat) : (s.pin k).Stores o := h.onImage (fun _ => rfl) fun _ => rfl

theorem State.Stores.unpin (h : s.Stores o) (k : Nat) : (s.unpin k).Stores o :=
  (h.onImage (k := k) (f := fun e => { e with pins := e.pins - 1 }) (fun _ => rfl) fun _ => rfl).of_store (by simp [State.unpin])

theorem State.Stores.foldl {β : Type} {f : State → β → State} (hf : ∀ u x, State.Stores o u → (f u x).Stores o) (h : s.Stores o)
    (l : List β) : (l.foldl f s).Stores o := by
  induction l generalizing s with
  | nil => exact h
  | cons x l ih => exact ih (hf s x h)

theorem State.Stores.unpinAll (h : s.Stores o) (p : Plan) : (s.unpinAll p).Stores o :=
  h.foldl (fun _ _ hu => hu.unpin _) _

/-! ## The recency order -/

theorem State.Stores.toRecent (h : s.Stores o) (k : Nat) : (s.toRecent k).Stores o := by
  unfold State.toRecent
  split
  · next e he =>
    split
    · next hr =>
      refine h.parts h.housed (fun _ => rfl) ?_ (.refl _) h.streaming rfl
      have there : k ∈ s.store.recency := (h.resident k).2 (by rw [State.residence, he, ← hr]; rfl)
      obtain ⟨a, b, split⟩ := List.append_of_mem there
      have once := h.recent
      rw [split, List.perm_middle.nodup_iff, List.nodup_cons, List.mem_append] at once
      have kept (l : List Nat) (hl : k ∉ l) : l.filter (· ≠ k) = l := by
        refine List.filter_eq_self.2 fun x hx => decide_eq_true fun he => hl (he ▸ hx)
      change (s.store.recency.filter (· ≠ k) ++ [k]).Perm s.store.recency
      rw [split, List.filter_append, List.filter_cons_of_neg (by simp), kept a fun hx => once.1 (.inl hx), kept b fun hx => once.1 (.inr hx)]
      exact List.perm_append_singleton _ _ |>.trans List.perm_middle.symm
    · exact h
  · exact h

theorem State.residence_removeImage (rising : s.store.images.rising = true) (k j : Nat) :
    (s.removeImage k).residence j = if j = k then none else s.residence j := by
  unfold State.residence State.image State.removeImage State.setStore
  dsimp only
  split
  · next he => rw [he, Table.look_del _ _ rising]; rfl
  · next hne => rw [Table.look_del_of_ne _ hne]

/-- An image removed that is not FILLING: the fetches are none of its matter. -/
theorem State.Stores.removeImage (h : s.Stores o) {k : Nat} (hk : s.residence k ≠ some false) : (s.removeImage k).Stores o := by
  have residence := State.residence_removeImage h.housed.rising k
  refine ⟨h.four, h.housed.del k, h.recent.filter _, fun j => ?_, h.few, h.ids, h.titles, fun j => ?_, h.streaming, h.once, h.apart,
    h.backed, h.banks, h.alone, h.titled⟩
  · change j ∈ s.store.recency.filter (· ≠ k) ↔ _
    rw [residence, List.mem_filter, h.resident]
    by_cases hj : j = k
    · simp [hj]
    · simp [hj]
  · change j ∈ s.fetchNames.map Prod.snd ↔ _
    rw [residence, h.filling]
    by_cases hj : j = k
    · simp [hj, hk]
    · simp [hj]

/-! ## Fetches -/

theorem promote_names (l : List Fetch) : (promote l).map (fun f => (f.id, f.title)) = l.map (fun f => (f.id, f.title)) := by
  unfold promote
  split
  · rfl
  · rw [List.map_map]
    refine List.map_congr_left fun f _ => ?_
    rw [Function.comp_apply]
    split
    · rfl
    · rfl

theorem State.fetchNames_removeFetch (s : State) (id : Nat) :
    (s.removeFetch id).fetchNames = s.fetchNames.filter (fun x => decide (x.1 ≠ id)) := by
  have names := promote_names (s.store.fetches.filter (fun f => decide (f.id ≠ id)))
  refine names.trans ?_
  rw [State.fetchNames, List.filter_map]
  rfl

/-- The fetch that a completion is of, and that no other fill write is of. -/
theorem State.Stores.fetchOf (h : s.Stores o) {id k : Nat} (hf : s.FetchOf o id k) :
    (id, k) ∈ s.fetchNames ∧ ∀ c < 4, ∀ x ∈ s.fillsAt o c, x.fetch ≠ id := by
  rcases hf with ⟨b, f, ho, rfl, rfl, hs⟩ | ⟨rfl, hn, hg⟩
  · obtain ⟨g, hg⟩ := Option.isSome_iff_exists.1 hs
    have there := (State.mem_fetchNames h.ids).2 ⟨g, hg, rfl⟩
    have title := h.titled b f ho _ there
    exact ⟨title ▸ there, h.alone b f ho⟩
  · refine ⟨(State.mem_fetchNames h.ids).2 hg, fun c hc x hx he => ?_⟩
    have outstanding : s.fillOutstanding id = true := by
      have there : s.bank c ∈ s.store.banks := by
        rw [State.banks_eq h.four]
        exact List.mem_map_of_mem (List.mem_range.2 hc)
      refine State.fillOutstanding_iff.2 ⟨_, there, ?_⟩
      rcases List.mem_append.1 (show x ∈ (s.bank c).liveFills from hx) with hx | hx
      · exact .inl ⟨x, hx, he⟩
      · split at hx
        · next f hcur =>
          split at hx
          · next hl =>
            obtain rfl := List.mem_singleton.1 hx
            exact .inr ⟨x, hcur, he, hl⟩
          · cases hx
        · cases hx
    rw [hn] at outstanding
    cases outstanding

/-- An image and its fetch are done with: the image is RESIDENT or gone, and the fetch gone. -/
theorem State.Stores.dropFetch (h : s.Stores o) {id k : Nat} {r : Option Bool} (hf : s.FetchOf o id k)
    (housed : Table.Housed t.store.images) (residence : ∀ j, t.residence j = if j = k then r else s.residence j)
    (hr : r ≠ some false) (recency : t.store.recency.Perm (if r = some true then k :: s.store.recency else s.store.recency))
    (fetches : t.store.fetches = (s.removeFetch id).store.fetches) (banks : t.store.banks = s.store.banks) : t.Stores o := by
  obtain ⟨there, none⟩ := h.fetchOf hf
  have names : t.fetchNames = s.fetchNames.filter (fun x => decide (x.1 ≠ id)) :=
    (State.fetchNames_of_fetches fetches).trans (s.fetchNames_removeFetch id)
  have sub : t.fetchNames.Sublist s.fetchNames := by rw [names]; exact List.filter_sublist
  have fills (c : Nat) : t.fillsAt o c = s.fillsAt o c := State.fillsAt_of_banks banks o c
  have was : s.residence k = some false := (h.filling k).1 (List.mem_map_of_mem there)
  have absent : k ∉ s.store.recency := fun hk => by
    rw [h.resident, was] at hk
    cases hk
  refine ⟨by rw [banks]; exact h.four, housed, ?_, fun j => ?_, ?_, h.ids.sublist (sub.map _), h.titles.sublist (sub.map _), fun j => ?_, ?_,
    fun c hc => ?_, fun c hc d hd => ?_, fun c hc x hx => ?_, fun c hc => ?_, fun b f ho c hc => ?_, fun b f ho j hj => ?_⟩
  · rw [recency.nodup_iff]
    split
    · exact List.nodup_cons.2 ⟨absent, h.recent⟩
    · exact h.recent
  · rw [recency.mem_iff, residence]
    by_cases hj : j = k
    · subst hj
      by_cases hres : r = some true
      · simp [hres]
      · simp [hres, absent]
    · rw [if_neg hj, ← h.resident]
      split
      · rw [List.mem_cons, or_iff_right hj]
      · rfl
  · have fewer := sub.length_le
    rw [State.fetchNames, State.fetchNames, List.length_map, List.length_map] at fewer
    exact fewer.trans h.few
  · rw [residence]
    have mem : j ∈ t.fetchNames.map Prod.snd ↔ j ≠ k ∧ j ∈ s.fetchNames.map Prod.snd := by
      rw [names]
      simp only [List.mem_map, List.mem_filter, decide_eq_true_eq]
      constructor
      · rintro ⟨x, ⟨hx, hid⟩, rfl⟩
        refine ⟨fun hk => hid ?_, x, hx, rfl⟩
        have same := List.inj_on_of_nodup_map h.titles hx there hk
        rw [same]
      · rintro ⟨hk, x, hx, rfl⟩
        refine ⟨x, ⟨hx, fun hid => hk ?_⟩, rfl⟩
        have same := List.inj_on_of_nodup_map h.ids hx there hid
        rw [same]
    rw [mem, h.filling]
    by_cases hj : j = k
    · simp [hj, hr]
    · simp [hj]
  · rw [fetches]
    exact h.streaming.promote_sublist List.filter_sublist
  · rw [fills]
    exact h.once c hc
  · rw [fills, fills]
    exact h.apart c hc d hd
  · rw [fills] at hx
    rw [names, List.mem_filter]
    exact ⟨h.backed c hc x hx, decide_eq_true (none c hc x hx)⟩
  · rw [State.bank, banks]
    exact h.banks c hc
  · rw [fills]
    exact h.alone b f ho c hc
  · exact h.titled b f ho j (sub.subset hj)

end Sys2Proof.Machine

end

section
/-!
PROOF. The dealings with images and fetches, one by one: admitted, evicted, completed, begun anew.
-/

namespace Sys2Proof.Machine

variable {o : Completing} {s t : State}

theorem State.Stores.image_of (h : s.Stores o) {id k : Nat} (hf : s.FetchOf o id k) : ∃ e, s.image k = some e ∧ e.resident = false := by
  obtain ⟨there, -⟩ := h.fetchOf hf
  have filling : s.residence k = some false := (h.filling k).1 (List.mem_map_of_mem there)
  exact Option.map_eq_some_iff.1 filling

theorem State.Stores.completed (h : s.Stores o) {id k : Nat} (hf : s.FetchOf o id k) :
    (((s.onImage k (fun e => { e with resident := true })).toRecent k).removeFetch id).Stores o := by
  obtain ⟨e, he, hr⟩ := h.image_of hf
  have absent : k ∉ s.store.recency := fun hk => by
    rw [h.resident, State.residence, he] at hk
    rw [Option.map_some, hr] at hk
    cases hk
  have resident : s.onImage k (fun e => { e with resident := true }) = s.setImage k { e with resident := true } := by
    rw [State.onImage, he]
  have recent : (s.setImage k { e with resident := true }).toRecent k =
      (s.setImage k { e with resident := true }).setStore
        { (s.setImage k { e with resident := true }).store with recency := s.store.recency.filter (· ≠ k) ++ [k] } := by
    have now : (s.setImage k { e with resident := true }).image k = some { e with resident := true } := Table.look_put _ _ _
    rw [State.toRecent, now]
    rfl
  have kept : s.store.recency.filter (· ≠ k) = s.store.recency :=
    List.filter_eq_self.2 fun x hx => decide_eq_true fun he => absent (he ▸ hx)
  rw [resident, recent, kept]
  refine h.dropFetch (r := some true) hf (h.housed.put_same he rfl) (fun j => ?_) nofun ?_ rfl rfl
  · exact s.residence_setImage k j { e with resident := true }
  · rw [if_pos rfl]
    exact List.perm_append_singleton _ _

theorem State.Stores.spoilt (h : s.Stores o) {id k : Nat} (hf : s.FetchOf o id k) :
    (((s.removeImage k).spaceFreed).removeFetch id).Stores o := by
  obtain ⟨e, he, hr⟩ := h.image_of hf
  have absent : k ∉ s.store.recency := fun hk => by
    rw [h.resident, State.residence, he] at hk
    rw [Option.map_some, hr] at hk
    cases hk
  have freed : ((s.removeImage k).spaceFreed).store = (s.removeImage k).store := by simp
  have removed : (((s.removeImage k).spaceFreed).removeFetch id).store = ((s.removeImage k).removeFetch id).store := by
    simp [State.removeFetch, State.setFetches, State.setStore]
  refine State.Stores.of_store (s := (s.removeImage k).removeFetch id) ?_ removed
  refine h.dropFetch (r := none) hf (h.housed.del k) (fun j => ?_) nofun ?_ rfl rfl
  · exact State.residence_removeImage h.housed.rising k j
  · rw [if_neg nofun]
    exact .of_eq (List.filter_eq_self.2 fun x hx => decide_eq_true fun he => absent (he ▸ hx))

theorem State.Stores.recreated (h : s.Stores o) {id k : Nat} (hf : s.FetchOf o id k) : (s.recreateImage k).Stores o := by
  obtain ⟨e, he, hr⟩ := h.image_of hf
  unfold State.recreateImage
  rw [he]
  dsimp only
  refine h.parts (h.housed.put_again he rfl rfl) (fun j => ?_) (.refl _) (.refl _) h.streaming rfl
  rw [State.residence_setImage, State.residence_setImage]
  split
  · next hj => rw [hj, State.residence, he, Option.map_some, hr]
  · rfl

theorem State.Stores.requeued (h : s.Stores o) (id : Nat) : (s.requeueFetch id).Stores o := by
  unfold State.requeueFetch
  split
  · next f hf =>
    obtain ⟨hm, rfl⟩ := State.fetch_mem hf
    obtain ⟨a, b, split, -⟩ := exists_split_of_id (State.fetchNames_ids s ▸ h.ids) hm
    have ids := State.fetchNames_ids s ▸ h.ids
    rw [split, List.map_append, List.map_cons, List.perm_middle.nodup_iff, List.nodup_cons, List.mem_append] at ids
    have kept (l : List Fetch) (hl : f.id ∉ l.map (·.id)) : l.filter (fun g => decide (g.id ≠ f.id)) = l :=
      List.filter_eq_self.2 fun x hx => decide_eq_true fun he => hl (he ▸ List.mem_map_of_mem hx)
    have rest : s.store.fetches.filter (fun g => decide (g.id ≠ f.id)) = a ++ b := by
      rw [split, List.filter_append, List.filter_cons_of_neg (by simp), kept a fun hx => ids.1 (.inl hx), kept b fun hx => ids.1 (.inr hx)]
    have streaming := h.streaming.promote_sublist (m := a ++ b) (by rw [← rest]; exact List.filter_sublist)
    rw [rest]
    refine State.Stores.of_store (s := s.setFetches
      ({ f with state := .waiting, next := 0, retries := f.retries + 1 } :: promote (a ++ b))) ?_ (by simp)
    refine h.parts h.housed (fun _ => rfl) (.refl _) ?_ (streaming.cons rfl) rfl
    change (((f.id, f.title) :: (promote (a ++ b)).map (fun f => (f.id, f.title)))).Perm (s.store.fetches.map (fun f => (f.id, f.title)))
    rw [promote_names, split, ← List.map_cons (f := fun f : Fetch => (f.id, f.title))]
    exact List.perm_middle.symm.map _
  · exact h

theorem State.Stores.onFetch (h : s.Stores o) {id : Nat} {f : Fetch → Fetch}
    (hf : ∀ g ∈ s.store.fetches, g.id = id → (f g).id = g.id ∧ (f g).title = g.title) (streaming : Streaming (s.onFetch id f).store.fetches) :
    (s.onFetch id f).Stores o := by
  refine h.parts h.housed (fun _ => rfl) (.refl _) (.of_eq ?_) streaming rfl
  change (s.store.fetches.map _).map _ = s.store.fetches.map _
  rw [List.map_map]
  refine List.map_congr_left fun g hg => ?_
  rw [Function.comp_apply]
  split
  · next hid =>
    obtain ⟨same, title⟩ := hf g hg hid
    rw [same, title]
  · rfl

/-- A fetch's count goes on. -/
theorem State.Stores.fetch (h : s.Stores o) {id : Nat} {f : Fetch → Fetch}
    (hf : ∀ g, (f g).id = g.id ∧ (f g).title = g.title ∧ (f g).state = g.state) : (s.onFetch id f).Stores o := by
  refine h.onFetch (fun g _ _ => ⟨(hf g).1, (hf g).2.1⟩) (h.streaming.of_states ?_)
  change (s.store.fetches.map _).map _ = s.store.fetches.map _
  rw [List.map_map]
  refine List.map_congr_left fun g _ => ?_
  rw [Function.comp_apply]
  split
  · exact (hf g).2.2
  · rfl

theorem State.Stores.started (h : s.Stores o) {f : Fetch} (hf : f ∈ s.store.fetches) (hw : f.state = .waiting)
    (hs : s.streams < 2) : (s.startStream f.id).Stores o :=
  h.onFetch (fun _ _ _ => ⟨rfl, rfl⟩) (h.streaming.start (State.fetchNames_ids s ▸ h.ids) hf hw hs)

/-! ## Admission and eviction -/

/-- A title admitted, for which there is room. -/
theorem State.Stores.admitTitle (h : s.Stores none) {k pages : Nat} (hi : s.image k = none)
    (blocks : blockSize pages ≤ s.freeBlocks) (places : 1 ≤ s.freePlaces) (fetches : s.store.fetches.length < Config.fetchMax) :
    (s.admitTitle k pages).Stores none := by
  have pool := h.housed.pool
  have absent : s.residence k = none := by rw [State.residence, hi]; rfl
  have room : (Table.held s.store.images).length + blockSize pages ≤ Config.storeBlocks := by
    rw [State.freeBlocks, State.heldBlocks_eq] at blocks
    omega
  have entries : s.store.images.length < Config.imageMax := by
    rw [State.freePlaces] at places
    omega
  have names : (s.admitTitle k pages).fetchNames = s.fetchNames ++ [(s.nextFetch, k)] := by
    change (s.store.fetches ++ [_]).map _ = _
    rw [List.map_append]
    rfl
  have residence (j : Nat) : (s.admitTitle k pages).residence j = if j = k then some false else s.residence j :=
    s.residence_setImage k j
      { resident := false, blocks := allocateBlocks s.heldBlocks (blockSize pages), filled := 0, sum := 0#32, pins := 0 }
  have fresh : s.nextFetch ∉ s.fetchNames.map Prod.fst := by
    rw [State.fetchNames_ids]
    refine nextNumber_notMem _ ?_
    rw [List.length_map]
    exact h.few.trans_lt (by decide)
  refine ⟨h.four, h.housed.put_new hi rfl room entries, h.recent, fun j => ?_, ?_, ?_, ?_, fun j => ?_, ?_, h.once, h.apart,
    fun c hc x hx => ?_, h.banks, nofun, nofun⟩
  · change j ∈ s.store.recency ↔ _
    rw [residence, h.resident]
    split
    · next hj => simp [hj, absent]
    · rfl
  · change (s.store.fetches ++ [_]).length ≤ _
    rw [List.length_append]
    exact fetches
  · rw [names, List.map_append, List.nodup_append_comm]
    exact List.nodup_cons.2 ⟨fresh, h.ids⟩
  · rw [names, List.map_append, List.nodup_append_comm]
    refine List.nodup_cons.2 ⟨fun hk => ?_, h.titles⟩
    have filling := (h.filling k).1 hk
    rw [absent] at filling
    cases filling
  · rw [names, residence, List.map_append, List.mem_append, h.filling]
    by_cases hj : j = k
    · simp [hj]
    · simp [hj]
  · exact (h.streaming.cons (f := { id := s.nextFetch, title := k, state := .waiting, expected := framesOf pages, next := 0, retries := 0 }) rfl).perm
      (List.perm_append_singleton _ _).symm
  · rw [names]
    exact List.mem_append_left _ (h.backed c hc x hx)

theorem State.Stores.evict {titles walk : List Nat} {blocks places : Nat} (h : s.Stores o)
    (hw : ∀ k ∈ walk, s.residence k ≠ some false) : (s.evict titles walk blocks places).Stores o := by
  induction walk generalizing s with
  | nil => exact h
  | cons k walk ih =>
    rw [State.evict]
    split
    · exact h
    · split
      · have gone : ((s.removeImage k).spaceFreed).Stores o :=
          (h.removeImage (hw k List.mem_cons_self)).of_store (by simp)
        refine ih gone fun j hj => ?_
        have images : ((s.removeImage k).spaceFreed).store.images = (s.removeImage k).store.images := by simp
        rw [State.residence_of_images images, State.residence_removeImage h.housed.rising]
        split
        · exact nofun
        · exact hw j (List.mem_cons_of_mem _ hj)
      · exact ih h fun j hj => hw j (List.mem_cons_of_mem _ hj)

theorem State.Stores.recency_resident (h : s.Stores o) : ∀ k ∈ s.store.recency, s.residence k ≠ some false := fun k hk => by
  rw [(h.resident k).1 hk]
  exact nofun

/-- Once an admission has been granted, the eviction leaves room for it (R67). -/
theorem State.Stores.evict_room (h : s.Stores none) {plan : List (Nat × Nat)} (ha : s.admissible plan = true) :
    let needed := plan.filter (fun e => decide (s.image e.1 = none))
    let u := s.evict (plan.map (·.1)) s.store.recency (needed.map (·.2)).sum needed.length
    (needed.map (·.2)).sum ≤ u.freeBlocks ∧ needed.length ≤ u.freePlaces := by
  intro needed u
  have right := (State.stores_iff h.housed.rising h.four).1 h
  obtain ⟨walked, rest, whole, stop, -, evicted⟩ :=
    State.evict_without h.housed.rising (plan.map (·.1)) (needed.map (·.2)).sum needed.length [] s.store.recency
  simp only [List.nil_append] at stop evicted
  have same : u = s.without (walked.filter (s.walksOut (plan.map (·.1)))) := evicted
  rw [same]
  refine State.room_without.2 ?_
  obtain rfl | stop := stop
  · rw [List.append_nil] at whole
    rw [← whole]
    exact State.room_of_admissible h.housed.rising right ha
  · exact stop

end Sys2Proof.Machine

end

section
/-!
PROOF. Plans enrolled and ended, and the dealings of the banks: every dealing keeps what O11 says of the store.
-/

namespace Sys2Proof.Machine

variable {o : Completing} {s t : State}

/-! ## Admissions -/

theorem State.image_of_evict {titles walk : List Nat} {blocks places k : Nat} (hi : s.image k = none) (rising : s.store.images.rising = true) :
    (s.evict titles walk blocks places).image k = none := by
  induction walk generalizing s with
  | nil => exact hi
  | cons j walk ih =>
    rw [State.evict]
    split
    · exact hi
    · split
      · have images : ((s.removeImage j).spaceFreed).store.images = s.store.images.del j := by simp [State.removeImage]
        refine ih ?_ (by rw [images]; exact Table.rising_del _ _ rising)
        rw [State.image, images]
        by_cases hkj : k = j
        · rw [hkj]
          exact Table.look_del _ _ rising
        · rw [Table.look_del_of_ne _ hkj]
          exact hi
      · exact ih hi rising

theorem State.Stores.admitted (h : s.Stores none) {k pages : Nat} (hi : s.image k = none)
    (ha : s.admissible [(k, blockSize pages)] = true) :
    ((s.evict [k] s.store.recency (blockSize pages) 1).admitTitle k pages).Stores none := by
  have needed : [(k, blockSize pages)].filter (fun e => decide (s.image e.1 = none)) = [(k, blockSize pages)] := by simp [hi]
  have room := h.evict_room ha
  dsimp only at room
  rw [needed] at room
  obtain ⟨-, -, fetches⟩ := (s.admissible_iff [(k, blockSize pages)]).1 ha
  rw [needed] at fetches
  refine (h.evict h.recency_resident).admitTitle (State.image_of_evict hi h.housed.rising) room.1 room.2 ?_
  have same : (s.evict [k] s.store.recency (blockSize pages) 1).store.fetches = s.store.fetches := by simp
  have few : Config.fetchMax = 16 := rfl
  rw [same]
  simp only [List.length_singleton] at fetches
  omega

theorem State.freeBlocks_admitTitle (h : s.Stores none) {k pages : Nat} (hi : s.image k = none)
    (blocks : blockSize pages ≤ s.freeBlocks) :
    (s.admitTitle k pages).freeBlocks = s.freeBlocks - blockSize pages ∧ (s.admitTitle k pages).freePlaces = s.freePlaces - 1 := by
  have pool := h.housed.pool
  rw [State.freeBlocks, State.heldBlocks_eq] at blocks
  obtain ⟨length, -⟩ := allocateBlocks_spec (used := s.heldBlocks) (n := blockSize pages) (by
    have : Config.storeBlocks = 131072 := rfl
    rw [State.heldBlocks_eq]
    omega)
  have images : (s.admitTitle k pages).store.images = s.store.images.put k
      { resident := false, blocks := allocateBlocks s.heldBlocks (blockSize pages), filled := 0, sum := 0#32, pins := 0 } := rfl
  have perm := Table.perm_put h.housed.rising k
    { resident := false, blocks := allocateBlocks s.heldBlocks (blockSize pages), filled := 0, sum := 0#32, pins := 0 }
  rw [Table.del_of_none hi, ← images] at perm
  have held := (Table.held_perm perm).length_eq
  have entries := perm.length_eq
  have cons : (Table.held ((k, { resident := false, blocks := allocateBlocks s.heldBlocks (blockSize pages), filled := 0, sum := 0#32, pins := 0 }) ::
      s.store.images)).length = blockSize pages + (Table.held s.store.images).length := by
    rw [Table.held, List.flatMap_cons, List.length_append, length]
    rfl
  rw [State.freeBlocks, State.freeBlocks, State.freePlaces, State.freePlaces, State.heldBlocks_eq, State.heldBlocks_eq, held, cons, entries,
    List.length_cons]
  omega

/-- Titles admitted one after the other. -/
theorem State.Stores.admitTitles (h : s.Stores none) {l : List Placement} (size : ∀ q ∈ l, q.blocks = blockSize q.pages)
    (once : (l.map (·.title)).Nodup) (hi : ∀ q ∈ l, s.image q.title = none) (blocks : (l.map (·.blocks)).sum ≤ s.freeBlocks)
    (places : l.length ≤ s.freePlaces) (fetches : s.store.fetches.length + l.length ≤ Config.fetchMax) :
    (l.foldl (fun s q => s.admitTitle q.title q.pages) s).Stores none := by
  induction l generalizing s with
  | nil => exact h
  | cons q l ih =>
    obtain ⟨hq, once⟩ := List.nodup_cons.1 once
    rw [List.map_cons, List.sum_cons, size q List.mem_cons_self] at blocks
    rw [List.length_cons] at places fetches
    have first := hi q List.mem_cons_self
    obtain ⟨freeBlocks, freePlaces⟩ := State.freeBlocks_admitTitle h first (by omega : blockSize q.pages ≤ s.freeBlocks)
    refine ih (s := s.admitTitle q.title q.pages) (h.admitTitle first (by omega) (by omega) (by omega))
      (fun p hp => size p (List.mem_cons_of_mem _ hp)) once (fun p hp => ?_) (by omega) (by omega) ?_
    · have other : p.title ≠ q.title := fun he => hq (List.mem_map.2 ⟨p, hp, he⟩)
      have same : (s.admitTitle q.title q.pages).image p.title = s.image p.title := Table.look_put_of_ne _ _ other
      rw [same]
      exact hi p (List.mem_cons_of_mem _ hp)
    · have longer : (s.admitTitle q.title q.pages).store.fetches.length = s.store.fetches.length + 1 :=
        List.length_append
      omega

/-- A plan's titles admitted and pinned. -/
theorem State.Stores.enrolled (h : s.Stores none) {plan : Plan} (he : s.Enrols True plan) : (s.enrolled plan).Stores none := by
  have store : (s.enrolled plan).store = (s.admitPlan plan).store := by simp [State.enrolled]
  refine State.Stores.of_store ?_ store
  have room := h.evict_room he.admissible
  have titles : plan.titles.map (·.1) = plan.placements.map (·.title) := by simp [Plan.titles]
  have needed : plan.titles.filter (fun e => decide (s.image e.1 = none)) =
      (s.needed plan.placements).map (fun q => (q.title, q.blocks)) := by
    rw [Plan.titles, List.filter_map, State.needed]
    refine congrArg _ (List.filter_congr fun q _ => ?_)
    rw [Function.comp_apply, Bool.eq_iff_iff, decide_eq_true_eq, Option.isNone_iff_eq_none]
  obtain ⟨-, -, fetches⟩ := (s.admissible_iff plan.titles).1 he.admissible
  dsimp only at room
  rw [needed, titles, List.map_map, List.length_map] at room
  rw [needed, List.length_map] at fetches
  have sub : (s.needed plan.placements).Sublist plan.placements := List.filter_sublist
  have evicted := h.evict (titles := plan.placements.map (·.title)) (blocks := ((s.needed plan.placements).map (·.blocks)).sum)
    (places := (s.needed plan.placements).length) h.recency_resident
  have admitted := evicted.admitTitles (l := s.needed plan.placements) (fun q hq => he.blocks q (sub.subset hq))
    ((he.once trivial).sublist (sub.map _))
    (fun q hq => State.image_of_evict (by simpa using (List.mem_filter.1 hq).2) h.housed.rising) room.1 room.2 (by
      have same : (s.evict (plan.placements.map (·.title)) s.store.recency ((s.needed plan.placements).map (·.blocks)).sum
        (s.needed plan.placements).length).store.fetches = s.store.fetches := by simp
      have few : Config.fetchMax = 16 := rfl
      have := h.few
      rw [same]
      omega)
  unfold State.admitPlan
  dsimp only
  refine State.Stores.foldl (fun u q hu => hu.toRecent q.title) (State.Stores.foldl (fun u q hu => hu.pin q.title) ?_ _) _
  split
  · exact admitted
  · exact admitted.of_store (by simp)

/-! ## Plans that end -/

/-- The banks lose reads: nothing of the fill writes. -/
theorem State.Stores.of_banks {o' : Completing} (h : s.Stores o) (ho : ∀ b f, o' = some (b, f) → o = some (b, f))
    (images : t.store.images = s.store.images) (recency : t.store.recency = s.store.recency)
    (fetches : t.store.fetches = s.store.fetches) (four : t.store.banks.length = s.store.banks.length)
    (right : ∀ c < 4, (t.bank c).right)
    (fills : ∀ c < 4, ((t.fillsAt o' c).map (·.fetch)).Nodup ∧ ∀ x ∈ t.fillsAt o' c, x ∈ s.fillsAt o c) : t.Stores o' := by
  have residence := State.residence_of_images images
  have names := State.fetchNames_of_fetches fetches
  refine ⟨four.trans h.four, by rw [images]; exact h.housed, by rw [recency]; exact h.recent, fun j => ?_, by rw [fetches]; exact h.few,
    by rw [names]; exact h.ids, by rw [names]; exact h.titles, fun j => ?_, by rw [fetches]; exact h.streaming, fun c hc => (fills c hc).1,
    fun c hc d hd x hx y hy => h.apart c hc d hd x ((fills c hc).2 x hx) y ((fills d hd).2 y hy), fun c hc x hx => ?_, right,
    fun b f hb c hc x hx => h.alone b f (ho b f hb) c hc x ((fills c hc).2 x hx), fun b f hb j hj => ?_⟩
  · rw [recency, residence]
    exact h.resident j
  · rw [names, residence]
    exact h.filling j
  · rw [names]
    exact h.backed c hc x ((fills c hc).2 x hx)
  · rw [names] at hj
    exact h.titled b f (ho b f hb) j hj

/-- A bank that is another, but for its fill writes. -/
theorem State.fillsAt_congr {c : Nat} (fills : (t.bank c).fills = (s.bank c).fills) (live : (t.bank c).liveFills = (s.bank c).liveFills) :
    t.fillsAt o c = s.fillsAt o c := by
  unfold State.fillsAt
  rw [fills, live]

theorem BankOp.loseRead_fill (op : BankOp) (n : Nat) (fate : ReadFate) (f : FillOp) : op.loseRead n fate = .fill f ↔ op = .fill f := by
  cases op with
  | read r =>
    unfold BankOp.loseRead
    dsimp only
    split <;> simp
  | fill g => rfl

theorem Bank.loseRead_live (k : Bank) (n : Nat) (fate : ReadFate) : (k.loseRead n fate).liveFills = k.liveFills := by
  unfold Bank.liveFills Bank.loseRead
  dsimp only
  cases hk : k.current with
  | none => rfl
  | some op =>
    cases op with
    | fill f => rfl
    | read r =>
      rw [Option.map_some, BankOp.loseRead]
      split
      · next f hf => split at hf <;> cases hf
      · rfl

theorem Bank.loseRead_right {k : Bank} (h : k.right) (n : Nat) (fate : ReadFate) : (k.loseRead n fate).right := by
  obtain ⟨idle, last, reads, current⟩ := h
  refine ⟨fun hn => ?_, last, fun r hr => reads r (List.mem_filter.1 hr).1, fun r hr => ?_⟩
  · obtain ⟨fills, none⟩ := idle (Option.map_eq_none_iff.1 hn)
    exact ⟨fills, by rw [Bank.loseRead, none]; rfl⟩
  · obtain ⟨op, hop, he⟩ := Option.map_eq_some_iff.1 hr
    cases op with
    | fill f => cases he
    | read q =>
      have slot : r.slot = q.slot := by
        unfold BankOp.loseRead at he
        dsimp only at he
        split at he
        · cases he; rfl
        · cases he; rfl
      rw [slot]
      exact current q hop

theorem State.Stores.loseRead (h : s.Stores o) (n : Nat) (fate : ReadFate) : (s.loseRead n fate).Stores o := by
  refine h.of_banks (fun _ _ hb => hb) rfl rfl rfl (List.length_map _) (fun c hc => ?_) fun c hc => ?_
  · rw [State.loseRead_bank]
    exact Bank.loseRead_right (h.banks c hc) n fate
  · have same : (s.loseRead n fate).fillsAt o c = s.fillsAt o c :=
      State.fillsAt_congr (by rw [State.loseRead_bank]; rfl) (by rw [State.loseRead_bank, Bank.loseRead_live])
    rw [same]
    exact ⟨h.once c hc, fun _ hx => hx⟩

theorem State.Stores.leavePlace (h : s.Stores o) (n : Nat) (p : Plan) : (s.leavePlace n p).Stores o := by
  unfold State.leavePlace
  split
  · exact h.of_store (by simp)
  · next k _ =>
    split
    · exact (h.loseRead k .awaited).of_store rfl
    · exact h
  · exact h.of_store (by simp)

theorem State.Stores.endPlan (h : s.Stores o) (n : Nat) : (s.endPlan n).Stores o := by
  unfold State.endPlan
  split
  · exact h
  · next p _ =>
    have left : (((s.leavePlace n p).returnEntries p.patron n).dropCarts p.patron).Stores o :=
      (h.leavePlace n p).of_store (by simp)
    dsimp only
    split
    · exact left.of_store (by simp)
    · exact (left.unpinAll p).of_store (by simp)

theorem State.Stores.done (h : s.Stores o) (n : Nat) : (s.reachDone n).Stores o := by
  unfold State.reachDone
  dsimp only
  split
  · next job c _ _ =>
    split
    · next p hp =>
      have added : (((s.setPlan job { p with state := .mailing s.nextItem }).addItem p.patron (.cartridge job c.serial) .awaitingLabel).unpinAll p).Stores o :=
        (h.of_store (t := (s.setPlan job { p with state := .mailing s.nextItem }).addItem p.patron (.cartridge job c.serial) .awaitingLabel) rfl).unpinAll p
      exact added.of_store (by simp)
    · exact h
  · exact h

/-! ## The banks -/

theorem State.Stores.setBank {b : Nat} {k : Bank} {o' : Completing} (h : s.Stores o) (ho : ∀ b f, o' = some (b, f) → o = some (b, f))
    (hb : b < 4) (right : k.right) (others : ∀ c < 4, c ≠ b → s.fillsAt o' c = s.fillsAt o c)
    (once : (((s.setBank b k).fillsAt o' b).map (·.fetch)).Nodup) (sub : ∀ x ∈ (s.setBank b k).fillsAt o' b, x ∈ s.fillsAt o b) :
    (s.setBank b k).Stores o' := by
  have here : (s.setBank b k).bank b = k := State.bank_setBank_same k (by rw [h.four]; exact hb)
  have elsewhere {c : Nat} (hc : c ≠ b) : (s.setBank b k).bank c = s.bank c := State.bank_setBank_other k hc
  refine h.of_banks ho rfl rfl rfl (List.length_set) (fun c hc => ?_) fun c hc => ?_
  · by_cases hcb : c = b
    · rw [hcb, here]
      exact right
    · rw [elsewhere hcb]
      exact h.banks c hc
  · by_cases hcb : c = b
    · rw [hcb]
      exact ⟨once, sub⟩
    · have same : (s.setBank b k).fillsAt o' c = s.fillsAt o' c :=
        State.fillsAt_congr (by rw [elsewhere hcb]) (by rw [elsewhere hcb])
      rw [same, others c hc hcb]
      exact ⟨h.once c hc, fun _ hx => hx⟩

theorem State.setBank_out {b : Nat} (k : Bank) (hb : s.store.banks.length ≤ b) : (s.setBank b k).store = s.store := by
  simp [State.setBank, State.setStore, List.set_eq_of_length_le hb]

/-- A bank written over by one with the same fill writes. -/
theorem State.Stores.setBank_kept {b : Nat} {k : Bank} (h : s.Stores o) (right : b < 4 → k.right)
    (fills : k.fills = (s.bank b).fills) (live : k.liveFills = (s.bank b).liveFills) : (s.setBank b k).Stores o := by
  rcases Nat.lt_or_ge b 4 with hb | hb
  · have here : (s.setBank b k).bank b = k := State.bank_setBank_same k (by rw [h.four]; exact hb)
    have same : (s.setBank b k).fillsAt o b = s.fillsAt o b :=
      State.fillsAt_congr (by rw [here, fills]) (by rw [here, live])
    refine h.setBank (fun _ _ hx => hx) hb (right hb) (fun _ _ _ => rfl) ?_ fun x hx => ?_
    · rw [same]
      exact h.once b hb
    · rwa [same] at hx
  · exact h.of_store (State.setBank_out k (by rw [h.four]; exact hb))

theorem State.Stores.handRead (h : s.Stores o) {r : ReadOp} (hr : s.Reads r.slot) : (s.handRead r).Stores o := by
  have slot : r.slot ∈ slotNumbers := hr ((State.forall_banks h.four).2 h.banks)
  cases hc : (s.bank (bankOf r.block)).current with
  | none =>
    rw [State.handRead_idle hc, State.grantRead]
    refine State.Stores.of_store (h.setBank_kept (b := bankOf r.block) (fun hb => ?_) (by exact rfl) ?_) rfl
    · obtain ⟨-, -, reads, -⟩ := h.banks _ hb
      refine ⟨nofun, slot, fun x hx => reads x (List.mem_filter.1 hx).1, fun x hx => ?_⟩
      cases hx
      exact slot
    · simp only [Bank.liveFills, hc]
  | some op =>
    rw [State.handRead_busy (by rw [hc]; exact nofun)]
    refine h.setBank_kept (fun hb => ?_) (by exact rfl) rfl
    obtain ⟨-, last, reads, current⟩ := h.banks _ hb
    refine ⟨fun hn => ?_, last, fun x hx => ?_, current⟩
    · rw [hc] at hn
      cases hn
    · rcases List.mem_append.1 hx with hx | hx
      · exact reads x hx
      · rw [List.mem_singleton.1 hx]
        exact slot

/-- The fill writes that count are those that wait, and a granted one that stands. -/
theorem Bank.mem_liveFills {k : Bank} {x : FillOp} :
    x ∈ k.liveFills ↔ x ∈ k.fills ∨ (k.current = some (.fill x) ∧ x.live = true) := by
  rw [Bank.liveFills, List.mem_append]
  refine or_congr_right ?_
  cases hk : k.current with
  | none => simp
  | some op =>
    cases op with
    | read r => simp
    | fill f =>
      dsimp only
      split
      · next hl =>
        rw [List.mem_singleton]
        constructor
        · rintro rfl
          exact ⟨rfl, hl⟩
        · rintro ⟨he, -⟩
          cases he
          rfl
      · next hl =>
        refine iff_of_false List.not_mem_nil ?_
        rintro ⟨he, hx⟩
        cases he
        exact hl hx

theorem State.Stores.loseFill (h : s.Stores none) (id : Nat) : (s.loseFill id).Stores none := by
  have bank (c : Nat) : (s.loseFill id).bank c = (s.bank c).loseFill id := s.loseFill_bank id c
  have sub (k : Bank) : (k.loseFill id).liveFills.Sublist k.liveFills := by
    unfold Bank.liveFills Bank.loseFill
    dsimp only
    refine List.filter_sublist.append ?_
    cases k.current with
    | none => exact .refl _
    | some op =>
      cases op with
      | read r => exact .refl _
      | fill f =>
        rw [Option.map_some, BankOp.loseFill]
        by_cases he : f.fetch = id
        · rw [if_pos he]
          exact List.nil_sublist _
        · rw [if_neg he]
  refine h.of_banks (fun _ _ hb => hb) rfl rfl rfl (List.length_map _) (fun c hc => ?_) fun c hc => ?_
  · rw [bank]
    obtain ⟨idle, last, reads, current⟩ := h.banks c hc
    refine ⟨fun hn => ?_, last, reads, fun r hr => ?_⟩
    · obtain ⟨fills, none⟩ := idle (Option.map_eq_none_iff.1 hn)
      exact ⟨by rw [Bank.loseFill, fills]; rfl, none⟩
    · obtain ⟨op, hop, he⟩ := Option.map_eq_some_iff.1 hr
      cases op with
      | read q =>
        cases he
        exact current _ hop
      | fill f =>
        rw [BankOp.loseFill] at he
        split at he <;> cases he
  · change (((s.loseFill id).bank c).liveFills.map (·.fetch)).Nodup ∧ ∀ x ∈ ((s.loseFill id).bank c).liveFills, x ∈ (s.bank c).liveFills
    rw [bank]
    exact ⟨(h.once c hc).sublist ((sub _).map _), fun x hx => (sub _).subset hx⟩

theorem State.nextFill_cases (s : State) (l : List FillOp) :
    (s.nextFill l = none ∧ l = []) ∨ ∃ f ∈ l, s.nextFill l = some f := by
  unfold State.nextFill
  cases hf : l.find? (fun f => decide ((s.fetch f.fetch).map (·.state) = some (.streaming true))) with
  | some f => exact .inr ⟨f, List.mem_of_find?_eq_some hf, rfl⟩
  | none =>
    cases l with
    | nil => exact .inl ⟨rfl, rfl⟩
    | cons f l => exact .inr ⟨f, List.mem_cons_self, rfl⟩

theorem nextRead_cases (last : Nat) (l : List ReadOp) : (nextRead last l = none ∧ l = []) ∨ ∃ r ∈ l, nextRead last l = some r := by
  unfold nextRead
  cases hs : sortByKey (fun r : ReadOp => turnKey last r.slot) l with
  | nil =>
    refine .inl ⟨rfl, ?_⟩
    have perm := sortByKey_perm (key := fun r : ReadOp => turnKey last r.slot) l
    rw [hs] at perm
    exact List.nil_perm.1 perm
  | cons r m =>
    refine .inr ⟨r, ?_, rfl⟩
    rw [← mem_sortByKey (key := fun r : ReadOp => turnKey last r.slot), hs]
    exact List.mem_cons_self

/-- The bank's next grant, also after a completion seen to, whose fill write it drops. -/
theorem State.Stores.grantNext (h : s.Stores o) {b : Nat} (ho : o = none ∨ b < 4 ∧ ∃ f, o = some (b, f)) :
    (s.grantNext b).Stores none := by
  rcases Nat.lt_or_ge b 4 with hb | hb
  · have others : ∀ c < 4, c ≠ b → s.fillsAt none c = s.fillsAt o c := fun c _ hcb => by
      rcases ho with rfl | ⟨-, f, rfl⟩
      · rfl
      · exact (if_neg hcb).symm
    have waiting : (s.bank b).fills.Sublist (s.fillsAt o b) := by
      rcases ho with rfl | ⟨-, f, rfl⟩
      · exact List.sublist_append_left _ _
      · simp [State.fillsAt]
    have once : ((s.bank b).fills.map (·.fetch)).Nodup := (h.once b hb).sublist (waiting.map _)
    have here (k : Bank) : (s.setBank b k).bank b = k := State.bank_setBank_same k (by rw [h.four]; exact hb)
    obtain ⟨-, last, reads, current⟩ := h.banks b hb
    have granted {k : Bank} (right : k.right) (nodup : (k.liveFills.map (·.fetch)).Nodup) (sub : ∀ x ∈ k.liveFills, x ∈ (s.bank b).fills) :
        (s.setBank b k).Stores none := by
      refine h.setBank nofun hb right others ?_ fun x hx => ?_
      · change (((s.setBank b k).bank b).liveFills.map (·.fetch)).Nodup
        rw [here]
        exact nodup
      · change x ∈ ((s.setBank b k).bank b).liveFills at hx
        rw [here] at hx
        exact waiting.subset (sub x hx)
    unfold State.grantNext
    dsimp only
    rcases s.nextFill_cases (s.bank b).fills with ⟨hn, hf⟩ | ⟨f, hm, hn⟩
    · rw [hn]
      dsimp only
      rcases nextRead_cases (s.bank b).lastServed (s.bank b).reads with ⟨hr, he⟩ | ⟨r, hm, hr⟩
      · rw [hr]
        refine granted ⟨fun _ => ⟨hf, he⟩, last, reads, nofun⟩ ?_ fun x hx => ?_
        · simp [Bank.liveFills, hf]
        · simp [Bank.liveFills, hf] at hx
      · rw [hr]
        refine State.Stores.of_store (s := s.setBank b { s.bank b with
          current := some (.read r), reads := (s.bank b).reads.filter (fun x => decide (x.slot ≠ r.slot)), lastServed := r.slot }) ?_ rfl
        refine granted ⟨nofun, reads r hm, fun x hx => reads x (List.mem_filter.1 hx).1, fun x hx => ?_⟩ ?_ fun x hx => ?_
        · cases hx
          exact reads r hm
        · simp [Bank.liveFills, hf]
        · simp [Bank.liveFills, hf] at hx
    · rw [hn]
      refine granted ⟨nofun, last, reads, nofun⟩ ?_ fun x hx => ?_
      · rw [Bank.liveFills, List.map_append, List.nodup_append_comm]
        dsimp only
        split
        · refine List.nodup_cons.2 ⟨fun hx => ?_, once.sublist (List.filter_sublist.map _)⟩
          obtain ⟨x, hx, he⟩ := List.mem_map.1 hx
          exact absurd he (by simpa using (List.mem_filter.1 hx).2)
        · exact once.sublist (List.filter_sublist.map _)
      · rcases Bank.mem_liveFills.1 hx with hx | ⟨hx, -⟩
        · exact (List.mem_filter.1 hx).1
        · cases hx
          exact hm
  · rcases ho with rfl | ⟨hlt, -⟩
    · have out : s.store.banks.length ≤ b := by rw [h.four]; exact hb
      have idle : s.bank b = Bank.idle := by
        rw [State.bank, List.getD_eq_getElem?_getD, List.getElem?_eq_none out]
        rfl
      unfold State.grantNext
      rw [idle]
      exact h.of_store (State.setBank_out _ out)
    · exact absurd hlt (Nat.not_lt.2 hb)

/-- A fill write handed to its bank, there being none of its fetch. -/
theorem State.Stores.handFill (h : s.Stores none) {f : FillOp} (hf : ∃ g, s.fetch f.fetch = some g ∧ g.title = f.title)
    (hn : s.fillOutstanding f.fetch = false) : (s.handFill f).Stores none := by
  obtain ⟨there, absent⟩ := h.fetchOf (.inr ⟨rfl, hn, hf⟩)
  have handed {k : Bank} (hb : bankOf f.block < 4) (right : k.right)
      (live : k.liveFills.Sublist ((s.bank (bankOf f.block)).liveFills ++ [f]) ∨ k.liveFills.Perm (f :: (s.bank (bankOf f.block)).liveFills)) :
      (s.setBank (bankOf f.block) k).Stores none := by
    have here : (s.setBank (bankOf f.block) k).bank (bankOf f.block) = k :=
      State.bank_setBank_same k (by rw [h.four]; exact hb)
    have elsewhere {c : Nat} (hc : c ≠ bankOf f.block) : (s.setBank (bankOf f.block) k).bank c = s.bank c :=
      State.bank_setBank_other k hc
    have old := h.once (bankOf f.block) hb
    have new : ((f :: (s.bank (bankOf f.block)).liveFills).map (·.fetch)).Nodup := by
      refine List.nodup_cons.2 ⟨fun hx => ?_, old⟩
      obtain ⟨x, hx, he⟩ := List.mem_map.1 hx
      exact absent _ hb x hx he
    have once : (k.liveFills.map (·.fetch)).Nodup := by
      rcases live with sub | perm
      · exact ((List.perm_append_singleton f _).map _ |>.nodup_iff.2 new).sublist (sub.map _)
      · exact (perm.map _).nodup_iff.2 new
    have members {x : FillOp} (hx : x ∈ k.liveFills) : x = f ∨ x ∈ (s.bank (bankOf f.block)).liveFills := by
      rcases live with sub | perm
      · exact (List.mem_append.1 (sub.subset hx)).symm.imp_left List.mem_singleton.1
      · exact List.mem_cons.1 (perm.mem_iff.1 hx)
    have fills {c : Nat} {x : FillOp} (hx : x ∈ (s.setBank (bankOf f.block) k).fillsAt none c) :
        (x = f ∧ c = bankOf f.block) ∨ x ∈ s.fillsAt none c := by
      change x ∈ ((s.setBank (bankOf f.block) k).bank c).liveFills at hx
      by_cases hcb : c = bankOf f.block
      · rw [hcb, here] at hx
        rw [hcb]
        exact (members hx).imp_left fun he => ⟨he, rfl⟩
      · rw [elsewhere hcb] at hx
        exact .inr hx
    refine ⟨(List.length_set).trans h.four, h.housed, h.recent, h.resident, h.few, h.ids, h.titles, h.filling, h.streaming, fun c hc => ?_,
      fun c hc d hd x hx y hy he => ?_, fun c hc x hx => ?_, fun c hc => ?_, nofun, nofun⟩
    · change (((s.setBank (bankOf f.block) k).bank c).liveFills.map (·.fetch)).Nodup
      by_cases hcb : c = bankOf f.block
      · rw [hcb, here]
        exact once
      · rw [elsewhere hcb]
        exact h.once c hc
    · rcases fills hx with ⟨hxf, hcb⟩ | hxo
      · rcases fills hy with ⟨-, hdb⟩ | hyo
        · rw [hcb, hdb]
        · exact absurd (he.symm.trans (congrArg FillOp.fetch hxf)) (absent d hd y hyo)
      · rcases fills hy with ⟨hyf, -⟩ | hyo
        · exact absurd (he.trans (congrArg FillOp.fetch hyf)) (absent c hc x hxo)
        · exact h.apart c hc d hd x hxo y hyo he
    · rcases fills hx with ⟨rfl, -⟩ | hx
      · exact there
      · exact h.backed c hc x hx
    · by_cases hcb : c = bankOf f.block
      · rw [hcb, here]
        exact right
      · rw [elsewhere hcb]
        exact h.banks c hc
  rcases Nat.lt_or_ge (bankOf f.block) 4 with hb | hb
  · obtain ⟨idle, last, reads, current⟩ := h.banks _ hb
    cases hc : (s.bank (bankOf f.block)).current with
    | none =>
      obtain ⟨fills, -⟩ := idle hc
      rw [State.handFill_idle hc]
      refine handed hb ⟨nofun, last, reads, nofun⟩ (.inl ?_)
      simp only [Bank.liveFills, fills, List.nil_append]
      split
      · exact List.sublist_append_right _ _
      · exact List.nil_sublist _
    | some op =>
      rw [State.handFill_busy (by rw [hc]; exact nofun)]
      refine handed hb ⟨fun hx => ?_, last, reads, current⟩ (.inr ?_)
      · rw [hc] at hx
        cases hx
      · simp only [Bank.liveFills, List.append_assoc, List.singleton_append]
        exact List.perm_middle
  · have out : s.store.banks.length ≤ bankOf f.block := by rw [h.four]; exact hb
    unfold State.handFill
    dsimp only
    split
    · exact h.of_store (State.setBank_out _ out)
    · exact h.of_store (State.setBank_out _ out)

/-- Every dealing keeps what O11 says of the store. -/
theorem State.Deal.stores (h : s.Deal True o t) (hs : s.Stores o) : t.Stores o := by
  cases h with
  | same h =>
    simp only [State.core, Prod.mk.injEq] at h
    obtain ⟨-, -, ⟨images, recency, fetches, banks⟩, -, -⟩ := h
    exact hs.parts (by rw [images]; exact hs.housed) (State.residence_of_images images) (.of_eq recency)
      (.of_eq (State.fetchNames_of_fetches fetches)) (by rw [fetches]; exact hs.streaming) banks
  | itemAdded => exact hs.of_store rfl
  | itemRemoved => exact hs.of_store rfl
  | tray => exact hs.of_store rfl
  | dispatched => exact hs.of_store rfl
  | endPlan n => exact hs.endPlan n
  | enrolled ho he =>
    subst ho
    exact hs.enrolled he
  | plan => exact hs.of_store rfl
  | matched => exact hs.of_store (by simp)
  | putBack => exact hs.of_store (by simp)
  | @failed n job x => exact (hs.of_store (t := s.setSlot n x) rfl).endPlan job
  | slot => exact hs.of_store rfl
  | done => exact hs.done _
  | image he hb hr _ => exact hs.setImage he hb hr
  | @removeImage k _ hr =>
    refine hs.removeImage fun hk => ?_
    rcases hr with hr | hr
    · rw [(hs.resident k).1 hr] at hk
      cases hk
    · obtain ⟨e, he, hf⟩ := Option.map_eq_some_iff.1 hk
      rw [hr e he] at hf
      cases hf
  | admitted ho hi ha =>
    subst ho
    exact hs.admitted hi ha
  | recent k => exact hs.toRecent k
  | recreated hf => exact hs.recreated hf
  | completed hf => exact hs.completed hf
  | spoiled hf => exact (hs.spoilt hf).foldl (fun _ n hu => hu.endPlan n) _
  | requeued id => exact hs.requeued id
  | fetch hf => exact hs.fetch hf
  | started hf hw hst => exact hs.started hf hw hst
  | handRead hr => exact hs.handRead hr
  | loseRead n fate => exact hs.loseRead n fate
  | handFill ho hf hn =>
    subst ho
    exact hs.handFill hf hn
  | loseFill ho id =>
    subst ho
    exact hs.loseFill id
  | granted ho b =>
    subst ho
    exact hs.grantNext (.inl rfl)

end Sys2Proof.Machine

end

section
/-!
PROOF. A start begins the FILLING images anew and the banks idle: what O11 says of the store holds after every step.
-/

namespace Sys2Proof.Machine

variable {o : Completing} {s t : State}

/-! ## Banks at rest -/

theorem State.bank_of_idle (h : t.store.banks = List.replicate 4 Bank.idle) (c : Nat) : t.bank c = Bank.idle := by
  rw [State.bank, h, List.getD_eq_getElem?_getD, List.getElem?_replicate]
  split
  · rfl
  · rfl

theorem Bank.idle_right : Bank.idle.right := ⟨fun _ => ⟨rfl, rfl⟩, by decide, nofun, nofun⟩

/-- The banks idle, nothing else of the store changed. -/
theorem State.Stores.idle (h : s.Stores o) (images : t.store.images = s.store.images) (recency : t.store.recency = s.store.recency)
    (fetches : t.store.fetches = s.store.fetches) (banks : t.store.banks = List.replicate 4 Bank.idle) : t.Stores none := by
  have bank := State.bank_of_idle banks
  have fills (c : Nat) : t.fillsAt none c = [] := by
    change (t.bank c).liveFills = []
    rw [bank]
    rfl
  refine h.of_banks nofun images recency fetches (by rw [banks, h.four]; rfl) (fun c _ => by rw [bank]; exact Bank.idle_right) fun c _ => ?_
  rw [fills]
  exact ⟨List.nodup_nil, nofun⟩

/-! ## Images begun anew -/

theorem allocateFrom_free (used : List Nat) {b : Nat} (n : Nat) (hb : b < 4) :
    (allocateFrom used b n).Nodup ∧ ∀ x ∈ allocateFrom used b n, x ∉ used ∧ x < 131072 := by
  induction n generalizing used b with
  | zero => exact ⟨List.nodup_nil, nofun⟩
  | succ n ih =>
    rw [allocateFrom]
    split
    · next x k hx =>
      obtain ⟨d, -, rfl, bank, free, -⟩ := takeBlock_eq_some hb hx
      obtain ⟨distinct, outside⟩ := ih (x :: used) (b := ((b + d) % 4 + 1) % Config.banks) (Nat.mod_lt _ (by decide))
      refine ⟨List.nodup_cons.2 ⟨fun hm => (outside x hm).1 List.mem_cons_self, distinct⟩, fun y hy => ?_⟩
      rcases List.mem_cons.1 hy with rfl | hy
      · exact ⟨free, by omega⟩
      · obtain ⟨apart, low⟩ := outside y hy
        exact ⟨fun hu => apart (List.mem_cons_of_mem _ hu), low⟩
    · exact ⟨List.nodup_nil, nofun⟩

theorem Table.Housed.refill (h : Table.Housed s.store.images) (x : Nat × Nat) : Table.Housed (s.refill x).store.images := by
  unfold State.refill State.onImage
  split
  · next e he =>
    dsimp only
    split
    · exact h.put_same he rfl
    · obtain ⟨distinct, outside⟩ := allocateFrom_free s.heldBlocks x.2 (firstBank_spec s.heldBlocks).1
      refine h.put distinct (fun b hb => (outside b hb).2) (fun b hb hd => (outside b hb).1 ?_) (.inl ?_)
      · exact (Table.held_del he).mem_iff.2 (List.mem_append_right _ hd)
      · exact fun hn => nomatch he.symm.trans hn
  · exact h

theorem Table.Housed.discard {a : Table Image} (h : Table.Housed a) : Table.Housed (a.map (fun e => (e.1, e.2.discard))) := by
  have sub (l : List (Nat × Image)) : (Table.held (l.map (fun e => (e.1, e.2.discard)))).Sublist (Table.held l) := by
    induction l with
    | nil => exact .refl _
    | cons e l ih =>
      rw [List.map_cons, Table.held, Table.held, List.flatMap_cons, List.flatMap_cons]
      refine List.Sublist.append ?_ ih
      unfold Image.discard
      split
      · exact .refl _
      · exact List.nil_sublist _
  refine ⟨(Table.rising_map _ _ (by exact fun _ => rfl)).trans h.rising, h.apart.sublist (sub a), fun b hb => h.inside b ((sub a).subset hb), ?_⟩
  rw [List.length_map]
  exact h.entries

/-- Records that differ in their pins only hold the same blocks. -/
theorem Table.Housed.repinned {a : Table Image} (h : Table.Housed a) (pins : Nat → Nat) :
    Table.Housed (a.map (fun e => (e.1, { e.2 with pins := pins e.1 }))) := by
  have held : Table.held (a.map (fun e => (e.1, { e.2 with pins := pins e.1 }))) = Table.held a := by
    rw [Table.held, List.flatMap_map]
    rfl
  refine ⟨(Table.rising_map _ _ (by exact fun _ => rfl)).trans h.rising, by rw [held]; exact h.apart, by rw [held]; exact h.inside, ?_⟩
  rw [List.length_map]
  exact h.entries

theorem State.residence_of_restarted (hs : s.store.images.rising = true) (h : s.store.images.Restarted t.store.images) (k : Nat) :
    t.residence k = s.residence k := by
  obtain ⟨-, keys, each⟩ := h
  cases he : s.image k with
  | some e =>
    obtain ⟨f, hf, same, -⟩ := each k e he
    rw [State.residence, State.residence, he, State.image, hf, Option.map_some, Option.map_some, same]
  | none =>
    cases hf : t.image k with
    | none => rw [State.residence, State.residence, he, hf]
    | some f =>
      have there : k ∈ s.store.images.map (·.1) := by
        rw [← keys]
        exact List.mem_map_of_mem (Table.mem_of_look hf)
      obtain ⟨e, hm, rfl⟩ := List.mem_map.1 there
      have found : s.image e.1 = some e.2 := Table.look_of_mem hs hm
      rw [found] at he
      cases he

theorem State.rebuildImages_store (s : State) : s.rebuildImages.store = { s.recreateFilling.store with
    images := s.recreateFilling.store.images.map (fun e => (e.1, { e.2 with pins := s.recreateFilling.queuedPlacing e.1 }))
    fetches := s.recreateFilling.store.fetches.map (fun f => { f with state := .waiting, next := 0 })
    banks := List.replicate Config.banks Bank.idle } := by
  unfold State.rebuildImages
  dsimp only
  split
  · rfl
  · rfl

theorem State.Stores.rebuildImages (h : s.Stores none) : s.rebuildImages.Stores none := by
  have store := s.rebuildImages_store
  obtain ⟨restarted, -, fetches⟩ := State.rebuildImages_does h.housed.rising
  have housed : Table.Housed s.recreateFilling.store.images := by
    unfold State.recreateFilling
    dsimp only
    have fold (l : List (Nat × Nat)) (u : State) (hu : Table.Housed u.store.images) :
        Table.Housed (l.foldl State.refill u).store.images := by
      induction l generalizing u with
      | nil => exact hu
      | cons x l ih => exact ih _ (hu.refill x)
    exact fold _ _ h.housed.discard
  have images : Table.Housed s.rebuildImages.store.images := by
    rw [store]
    exact housed.repinned s.recreateFilling.queuedPlacing
  have names : s.rebuildImages.fetchNames = s.fetchNames := by
    rw [State.fetchNames, fetches, List.map_map]
    rfl
  have streaming : Streaming s.rebuildImages.store.fetches := by
    have none (p : Fetch → Bool) (hp : ∀ f : Fetch, f.state = .waiting → p f = false) :
        s.rebuildImages.store.fetches.countP p = 0 := by
      rw [fetches, List.countP_eq_zero]
      intro f hf
      obtain ⟨g, -, rfl⟩ := List.mem_map.1 hf
      rw [hp _ rfl]
      exact Bool.false_ne_true
    unfold Streaming
    rw [none _ fun f hf => by simp [hf], none _ fun f hf => by simp [hf]]
    exact ⟨Nat.zero_le _, rfl⟩
  have lapsed : (s.setStore { s.store with banks := List.replicate 4 Bank.idle }).Stores none := h.idle rfl rfl rfl rfl
  exact lapsed.parts images (State.residence_of_restarted h.housed.rising restarted) (.of_eq (by simp)) (.of_eq names) streaming
    (by rw [store]; rfl)

theorem State.Stores.rebuild (h : s.Stores none) : s.rebuild.Stores none := by
  have store : s.rebuild.store = s.rebuildPlans.rebuildImages.store := by simp [State.rebuild]
  exact (h.of_store (t := s.rebuildPlans) (by simp)).rebuildImages.of_store store

/-- An empty store. -/
theorem State.Stores.of_empty (images : s.store.images = []) (recency : s.store.recency = []) (fetches : s.store.fetches = [])
    (banks : s.store.banks = List.replicate 4 Bank.idle) : s.Stores none := by
  have bank := State.bank_of_idle banks
  have fills (c : Nat) : s.fillsAt none c = [] := by
    change (s.bank c).liveFills = []
    rw [bank]
    rfl
  have residence (k : Nat) : s.residence k = none := by rw [State.residence, State.image, images]; rfl
  have names : s.fetchNames = [] := by rw [State.fetchNames, fetches]; rfl
  refine ⟨by rw [banks]; rfl, ?_, by rw [recency]; exact .nil, fun k => ?_, by rw [fetches]; exact Nat.zero_le _, by rw [names]; exact .nil,
    by rw [names]; exact .nil, fun k => ?_, by rw [fetches]; exact ⟨Nat.zero_le _, rfl⟩, fun c _ => by rw [fills]; exact .nil,
    fun c _ d _ x hx => ?_, fun c _ x hx => ?_, fun c _ => by rw [bank]; exact Bank.idle_right, nofun, nofun⟩
  · rw [images]
    exact ⟨rfl, .nil, nofun, Nat.zero_le _⟩
  · rw [recency, residence]
    simp
  · rw [names, residence]
    simp
  · rw [fills] at hx
    cases hx
  · rw [fills] at hx
    cases hx

/-- A start and an end of the part's work keep what O11 says of the store. -/
theorem State.Begins.stores (h : s.Begins t) (hs : s.Stores none) : t.Stores none := by
  cases h with
  | restarted =>
    refine State.Stores.rebuild (hs.idle ?_ ?_ ?_ ?_)
    all_goals rfl
  | poweredOn held good =>
    have ended : s.losePower.Stores none := by
      refine hs.idle ?_ ?_ ?_ ?_
      all_goals rfl
    have taken : (s.losePower.takeBackup held good).Stores none := ended.of_store (by simp)
    unfold State.powerOn
    dsimp only
    split
    · exact taken.rebuild
    · refine State.Stores.rebuild (.of_empty ?_ ?_ ?_ ?_)
      all_goals simp [State.emptyRecords, Store.empty]
  | powerLost =>
    refine hs.idle ?_ ?_ ?_ ?_
    all_goals rfl
  | resetAsserted =>
    refine hs.idle ?_ ?_ ?_ ?_
    all_goals rfl
  | resetReleased => exact hs.rebuild

/-! ## Every step -/

/-- A fill write whose completion is seen to: the part's store with its fill write put aside. -/
theorem State.Stores.completing {b : Nat} {f : FillOp} (h : s.Stores none) (hb : b < 4) (hc : (s.bank b).current = some (.fill f))
    (hl : f.live = true) : s.Stores (some (b, f)) := by
  have live : (s.bank b).liveFills = (s.bank b).fills ++ [f] := by
    simp only [Bank.liveFills, hc, hl, if_true]
  have mine : f ∈ s.fillsAt none b := by
    change f ∈ (s.bank b).liveFills
    rw [live]
    simp
  have sub (c : Nat) : (s.fillsAt (some (b, f)) c).Sublist (s.fillsAt none c) := by
    unfold State.fillsAt
    dsimp only
    split
    · exact List.sublist_append_left _ _
    · exact .refl _
  refine { h with
    once := fun c hc => (h.once c hc).sublist ((sub c).map _)
    apart := fun c hc d hd x hx y hy => h.apart c hc d hd x ((sub c).subset hx) y ((sub d).subset hy)
    backed := fun c hc x hx => h.backed c hc x ((sub c).subset hx)
    alone := ?_, titled := ?_ }
  · rintro _ _ ⟨⟩ c hcb x hx he
    have same := h.apart c hcb b hb x ((sub c).subset hx) f mine he
    rw [same] at hx
    have waits : x ∈ (s.bank b).fills := by simpa [State.fillsAt] using hx
    have once := h.once b hb
    change ((s.bank b).liveFills.map (·.fetch)).Nodup at once
    rw [live, List.map_append, List.nodup_append_comm] at once
    exact (List.nodup_cons.1 once).1 (List.mem_map.2 ⟨x, waits, he⟩)
  · rintro _ _ ⟨⟩ k hk
    have same := List.inj_on_of_nodup_map h.ids hk (h.backed b hb f mine) rfl
    exact (Prod.mk.inj same).2

theorem State.filled_core {f : FillOp} (hl : f.live ≠ true) : (s.filled f).core = s.core := by
  have store : (s.storeFrame f).core = s.core := by simp [State.core, State.storeFrame]
  unfold State.filled
  rw [if_neg hl]
  simp [State.core, State.storeFrame]

/-- Every move keeps what O11 says of the store. -/
theorem State.Move.stores (h : s.Move t) (hs : s.Stores none) : t.Stores none := by
  rcases h.deals True with deals | begins | ⟨b, f, hb, hc, rfl⟩
  · exact deals.keep (fun _ _ hd => hd.stores) hs
  · exact begins.stores hs
  · by_cases hl : f.live = true
    · have filled := (s.filled_deals True b f).keep (fun _ _ hd => hd.stores) (hs.completing hb hc hl)
      exact filled.grantNext (.inr ⟨hb, f, rfl⟩)
    · have same : (s.filled f).Stores none := State.Deal.stores (.same (State.filled_core hl)) hs
      exact same.grantNext (.inl rfl)

/-- What O11 says of the store holds after every step. -/
theorem step_keeps_imagesRight (h : step s = .next t) (shaped : s.shaped) (ordered : s.ordered) (holds : s.holdsRight)
    (right : s.imagesRight) : t.imagesRight := by
  obtain ⟨-, four, -⟩ := shaped
  obtain ⟨patrons, -, -, -, rising⟩ := ordered
  have stores (x : List Instr) : (s.setPending x).Stores none := ((State.stores_iff rising four).2 right).of_store rfl
  have after := step_keeps_from (fun _ _ hm => hm.stores) h stores fun x hr => by
    refine ((State.Deals.refl True none (s.setPending x)).passStep rfl hr fun _ k p hp => ?_).keep (fun _ _ hd => hd.stores) (stores x)
    exact (holds.2 (k, p) (Table.mem_of_look hp)).1
  exact (State.stores_iff after.housed.rising after.four).1 after

end Sys2Proof.Machine

end

section
/-!
PROOF. The pins of the images are those of the plans (R66, R52).
-/

namespace Sys2Proof.Machine

variable {s t : State} {x : Option Nat}

/-- The plan is QUEUED or in a slot, and places title `k`. -/
def placesLive (k : Nat) (e : Nat × Plan) : Bool := e.2.state.pins && e.2.placements.any (fun q => decide (q.title = k))

theorem State.livePlacing_eq (s : State) (k : Nat) : s.livePlacing k = s.planner.plans.countP (placesLive k) := rfl

theorem placesLive_iff {k n : Nat} {p : Plan} : placesLive k (n, p) = true ↔ p.state.pins = true ∧ k ∈ p.placements.map (·.title) := by
  simp [placesLive]

/-- The pins of every image are those of the plans, but for title `x`, whose image is gone already. -/
structure State.Pinned (x : Option Nat) (s : State) : Prop where
  rising : s.store.images.rising = true
  pins : ∀ k, some k ≠ x → s.pins k = s.livePlacing k
  gone : ∀ k, some k = x → s.image k = none
  once : ∀ n p, s.plan n = some p → p.state.pins = true → (p.placements.map (·.title)).Nodup

/-! ## The pins that the changes of images leave -/

theorem State.pins_of_image {k : Nat} (h : (t.image k).map (·.pins) = (s.image k).map (·.pins)) : t.pins k = s.pins k := by
  unfold State.pins
  cases ht : t.image k with
  | none =>
    cases hs : s.image k with
    | none => rfl
    | some e => rw [ht, hs] at h; cases h
  | some f =>
    cases hs : s.image k with
    | none => rw [ht, hs] at h; cases h
    | some e =>
      rw [ht, hs] at h
      exact Option.some.inj h

theorem State.pins_of_images (h : t.store.images = s.store.images) (k : Nat) : t.pins k = s.pins k :=
  State.pins_of_image (by rw [State.image, h]; rfl)

theorem State.pins_of_none {k : Nat} (h : s.image k = none) : s.pins k = 0 := by rw [State.pins, h]

theorem State.pins_setImage {j : Nat} {e f : Image} (he : s.image j = some e) (hp : f.pins = e.pins) (k : Nat) :
    (s.setImage j f).pins k = s.pins k := by
  refine State.pins_of_image ?_
  by_cases hk : k = j
  · have now : (s.setImage j f).image j = some f := Table.look_put _ _ _
    rw [hk, now, he, Option.map_some, Option.map_some, hp]
  · have same : (s.setImage j f).image k = s.image k := Table.look_put_of_ne _ _ hk
    rw [same]

theorem State.image_removeImage (hs : s.store.images.rising = true) (j k : Nat) :
    (s.removeImage j).image k = if k = j then none else s.image k := by
  split
  · next hk => rw [hk]; exact Table.look_del _ _ hs
  · next hk => exact Table.look_del_of_ne _ hk

theorem State.pins_removeImage (hs : s.store.images.rising = true) {j : Nat} (hp : s.pins j = 0) (k : Nat) :
    (s.removeImage j).pins k = s.pins k := by
  by_cases hk : k = j
  · rw [hk, hp, State.pins_of_none]
    rw [State.image_removeImage hs, if_pos rfl]
  · exact State.pins_of_image (by rw [State.image_removeImage hs, if_neg hk])

theorem State.pins_evict (hs : s.store.images.rising = true) (titles walk : List Nat) (blocks places k : Nat) :
    (s.evict titles walk blocks places).pins k = s.pins k := by
  induction walk generalizing s with
  | nil => rfl
  | cons j walk ih =>
    rw [State.evict]
    split
    · rfl
    · split
      · next hj =>
        have images : ((s.removeImage j).spaceFreed).store.images = (s.removeImage j).store.images := by simp
        rw [ih (by rw [images]; exact Table.rising_del _ _ hs), State.pins_of_images images]
        exact State.pins_removeImage hs hj.1 k
      · exact ih hs

/-! ## The plans that place a title -/

theorem State.livePlacing_of_plans (h : t.planner.plans = s.planner.plans) (k : Nat) : t.livePlacing k = s.livePlacing k := by
  rw [State.livePlacing_eq, h]
  rfl

theorem State.livePlacing_put (hs : s.planner.plans.rising = true) {n : Nat} {p q : Plan} (hp : s.plan n = some p)
    (hq : q.state.pins = p.state.pins) (hl : q.placements = p.placements)
    (plans : t.planner.plans = s.planner.plans.put n q) (k : Nat) : t.livePlacing k = s.livePlacing k := by
  rw [State.livePlacing_eq, plans]
  exact (Table.counts_put hs hp (placesLive k) (by rw [placesLive, placesLive, hq, hl])).2

theorem State.livePlacing_del {n : Nat} {p : Plan} (hp : s.plan n = some p) (plans : t.planner.plans = s.planner.plans.del n) (k : Nat) :
    s.livePlacing k = t.livePlacing k + if placesLive k (n, p) = true then 1 else 0 := by
  rw [State.livePlacing_eq, State.livePlacing_eq, plans, (Table.perm_del hp).countP_eq, List.countP_cons]

theorem State.placed_pos {n k : Nat} {p : Plan} (hp : s.plan n = some p) (hl : placesLive k (n, p) = true) : 0 < s.livePlacing k :=
  List.countP_pos_iff.2 ⟨_, Table.mem_of_look hp, hl⟩

/-! ## What O11 says of the pins -/

theorem State.pinned_iff (images : s.store.images.rising = true) (plans : s.planner.plans.rising = true) :
    s.Pinned none ↔ s.pinsRight := by
  constructor
  · intro h
    refine ⟨fun e he => ?_, fun e he hp => ⟨h.once e.1 e.2 (Table.look_of_mem plans he) hp, fun q hq hi => ?_⟩⟩
    · have found : s.image e.1 = some e.2 := Table.look_of_mem images he
      have same := h.pins e.1 nofun
      rw [State.pins, found] at same
      exact same
    · have found : s.plan e.1 = some e.2 := Table.look_of_mem plans he
      have some := State.placed_pos found (placesLive_iff.2 ⟨hp, List.mem_map_of_mem hq⟩)
      rw [← h.pins q.title nofun, State.pins_of_none hi] at some
      exact absurd some (Nat.lt_irrefl 0)
  · rintro ⟨pins, plan⟩
    refine ⟨images, fun k _ => ?_, nofun, fun n p hp hs => (plan (n, p) (Table.mem_of_look hp) hs).1⟩
    cases hi : s.image k with
    | some e =>
      rw [State.pins, hi]
      exact pins (k, e) (Table.mem_of_look hi)
    | none =>
      rw [State.pins_of_none hi]
      refine (List.countP_eq_zero.2 fun e he hl => ?_).symm
      obtain ⟨hs, hk⟩ := (placesLive_iff (n := e.1)).1 hl
      obtain ⟨q, hq, rfl⟩ := List.mem_map.1 hk
      exact (plan e he hs).2 q hq hi

/-- Neither the pins nor the plans are changed. -/
theorem State.Pinned.keep (h : s.Pinned none) (rising : t.store.images.rising = true) (pins : ∀ k, t.pins k = s.pins k)
    (plans : t.planner.plans = s.planner.plans) : t.Pinned none := by
  refine ⟨rising, fun k hk => ?_, nofun, fun n p hp => ?_⟩
  · rw [pins, h.pins k hk, State.livePlacing_of_plans plans]
  · rw [State.plan, plans] at hp
    exact h.once n p hp

theorem State.Pinned.of_images (h : s.Pinned none) (images : t.store.images = s.store.images)
    (plans : t.planner.plans = s.planner.plans) : t.Pinned none :=
  h.keep (by rw [images]; exact h.rising) (State.pins_of_images images) plans

/-- A plan is written over by one that pins and places as it did. -/
theorem State.Pinned.put (h : s.Pinned none) (rising : s.planner.plans.rising = true) {n : Nat} {p q : Plan} (hp : s.plan n = some p)
    (hq : q.state.pins = p.state.pins) (hl : q.placements = p.placements) (plans : t.planner.plans = s.planner.plans.put n q)
    (images : t.store.images = s.store.images) : t.Pinned none := by
  refine ⟨by rw [images]; exact h.rising, fun k hk => ?_, nofun, fun m r hr hs => ?_⟩
  · rw [State.pins_of_images images, h.pins k hk, State.livePlacing_put rising hp hq hl plans]
  · rw [State.plan, plans] at hr
    by_cases hm : m = n
    · rw [hm, Table.look_put] at hr
      cases hr
      rw [hl]
      exact h.once n p hp (hq ▸ hs)
    · rw [Table.look_put_of_ne _ _ hm] at hr
      exact h.once m r hr hs

/-- A plan ends: it takes its pins with it. -/
theorem State.Pinned.endPlan (h : s.Pinned x) (plans : s.planner.plans.rising = true) (n : Nat) : (s.endPlan n).Pinned x := by
  have rising : (s.endPlan n).store.images.rising = true := ((State.Formed.refl s).endPlan (n := n)).images h.rising
  cases hp : s.plan n with
  | none =>
    rw [State.endPlan_of_none hp]
    exact h
  | some p =>
    refine ⟨rising, fun k hk => ?_, fun k hk => (s.image_endPlan n k).2 (h.gone k hk), fun m q hq hs => ?_⟩
    · have less := State.livePlacing_del hp (State.plans_endPlan hp) k
      have before := h.pins k hk
      have left : (((s.leavePlace n p).returnEntries p.patron n).dropCarts p.patron).pins k = s.pins k :=
        State.pins_of_images (by simp) k
      have pins : (s.endPlan n).pins k = s.pins k - if placesLive k (n, p) = true then 1 else 0 := by
        rw [State.endPlan, hp]
        dsimp only
        split
        · next item hs =>
          have idle : placesLive k (n, p) ≠ true := fun hl => by
            have live := (placesLive_iff.1 hl).1
            rw [hs] at live
            cases live
          rw [if_neg idle, Nat.sub_zero, ← left]
          exact State.pins_of_images rfl k
        · next hs =>
          have live : p.state.pins = true := by
            cases hst : p.state with
            | queued => rfl
            | inSlot j => rfl
            | mailing j => exact absurd hst (hs j)
          have unpinned := State.pins_unpinAll (((s.leavePlace n p).returnEntries p.patron n).dropCarts p.patron) (h.once n p hp live) k
          rw [left] at unpinned
          have same : (placesLive k (n, p) = true) = (k ∈ p.placements.map (·.title)) :=
            propext (placesLive_iff.trans (and_iff_right live))
          simp only [same]
          rw [← unpinned]
          exact State.pins_of_images rfl k
      omega
    · rw [State.plan_endPlan plans] at hq
      split at hq
      · cases hq
      · exact h.once m q hq hs

end Sys2Proof.Machine

end

section
/-!
PROOF. The pins through every dealing, start and end; and O11.
-/

namespace Sys2Proof.Machine

variable {s t : State} {x : Option Nat}

/-! ## Admissions -/

/-- An admission pins the titles of the plan, and no others. -/
theorem State.pins_admitPlan_other (hs : s.store.images.rising = true) {p : Plan} (hn : (p.placements.map (·.title)).Nodup) {k : Nat}
    (hk : k ∉ p.placements.map (·.title)) : (s.admitPlan p).pins k = s.pins k := by
  have evicted := State.pins_evict hs (p.placements.map (·.title)) s.store.recency ((s.needed p.placements).map (·.blocks)).sum
    (s.needed p.placements).length k
  have unheld : ∀ q ∈ s.needed p.placements, (s.evict (p.placements.map (·.title)) s.store.recency
      ((s.needed p.placements).map (·.blocks)).sum (s.needed p.placements).length).image q.title = none := fun q hq =>
    State.image_of_evict (by simpa using (List.mem_filter.1 hq).2) hs
  obtain ⟨admitted, -⟩ := State.pins_admitTitles _ unheld k
  rw [evicted] at admitted
  have folded (u : State) : (p.placements.foldl (fun s q => s.pin q.title) u) =
      (p.placements.map (·.title)).foldl (fun s t => s.pin t) u := by rw [List.foldl_map]
  unfold State.admitPlan
  dsimp only
  rw [State.pins, State.image_toRecents, folded, State.image_pins _ _ hn, if_neg hk]
  generalize (s.needed p.placements).foldl (fun (s : State) q => s.admitTitle q.title q.pages) _ = u at admitted ⊢
  have same : (if (s.needed p.placements).isEmpty then u else u.raise .fetchWanted).image k = u.image k := by
    split
    · rfl
    · rfl
  rw [same]
  exact admitted

theorem State.Pinned.enrolled (h : s.Pinned none) (hb : s.Binds) {plan : Plan} (he : s.Enrols True plan) :
    (s.enrolled plan).Pinned none := by
  have store : (s.enrolled plan).store.images = (s.admitPlan plan).store.images := by simp [State.enrolled]
  have plans : (s.enrolled plan).planner.plans = s.planner.plans.put s.nextPlan plan := by simp [State.enrolled, State.setPlan]
  have titles := he.once trivial
  refine ⟨?_, fun k hk => ?_, nofun, fun n p hp hs => ?_⟩
  · rw [store]
    exact ((State.Formed.refl s).admitPlan he.admissible).images h.rising
  · have places : placesLive k (s.nextPlan, plan) = true ↔ k ∈ plan.placements.map (·.title) := by
      rw [placesLive_iff, he.state]
      exact and_iff_right rfl
    rw [State.pins_of_images store, State.livePlacing_eq, (hb.plans_enrolled plan).countP_eq, List.countP_cons, ← State.livePlacing_eq,
      ← h.pins k hk]
    by_cases hm : k ∈ plan.placements.map (·.title)
    · rw [s.pins_admitPlan titles hm, if_pos (places.2 hm)]
    · rw [State.pins_admitPlan_other h.rising titles hm, if_neg fun hl => hm (places.1 hl), Nat.add_zero]
  · rw [State.plan, plans] at hp
    by_cases hn : n = s.nextPlan
    · rw [hn, Table.look_put] at hp
      cases hp
      exact titles
    · rw [Table.look_put_of_ne _ _ hn] at hp
      exact h.once n p hp hs

theorem State.Pinned.admitted (h : s.Pinned none) {k pages : Nat} (hi : s.image k = none) {blocks places : Nat} :
    ((s.evict [k] s.store.recency blocks places).admitTitle k pages).Pinned none := by
  have rising : (s.evict [k] s.store.recency blocks places).store.images.rising = true :=
    ((State.Formed.refl s).evict (titles := [k])).images h.rising
  refine h.keep (Table.rising_put _ _ _ rising) (fun j => ?_) (by simp)
  obtain ⟨pins, -⟩ := State.pins_admitTitles (s.evict [k] s.store.recency blocks places)
    (l := [{ title := k, start := 0, blocks := 0, pages := pages }])
    (fun q hq => by rw [List.mem_singleton.1 hq]; exact State.image_of_evict hi h.rising) j
  exact pins.trans (State.pins_evict h.rising _ _ _ _ j)

/-! ## Plans that go on, and a cartridge done -/

theorem State.Pinned.matchJobs (h : s.Pinned none) (hb : s.Binds) : s.matchJobs.Pinned none := by
  refine (hb.matchJobs_keeps (P := fun u => u.planner.plans.rising = true ∧ u.Pinned none) ⟨hb.rising, h⟩ ?_ ?_).2.2
  · rintro u n job p ⟨rising, hu⟩ hp hs hj
    have bound := State.bind_eq (n := n) hp hj
    have plans : (u.bind n job).planner.plans = u.planner.plans.put job { p with state := .inSlot n } := by rw [bound]; rfl
    have images : (u.bind n job).store.images = u.store.images := by rw [bound]; rfl
    refine ⟨by rw [plans]; exact Table.rising_put _ _ _ rising, hu.put rising hp (q := { p with state := .inSlot n }) ?_ rfl plans images⟩
    rw [hs]
    rfl
  · rintro u n ⟨rising, hu⟩
    rw [State.preErase_eq]
    exact ⟨rising, hu.of_images rfl rfl⟩

theorem State.Pinned.putBack (h : s.Pinned none) (hb : s.Binds) {n job : Nat} {y : Slot} (hn : n ∈ slotNumbers)
    (hj : (s.slot n).job = some job) : ((s.setSlot n y).returnPlan job).Pinned none := by
  obtain ⟨p, hp, hs⟩ := (hb.placed job).held n hn hj
  have hu : (s.setSlot n y).plan job = some p := hp
  refine h.put hb.rising hp (q := { p with state := .queued }) (by rw [hs]; rfl) rfl ?_ ?_
  · rw [State.returnPlan, hu]
    simp [State.setPlan]
  · rw [State.returnPlan, hu]
    simp

/-- A cartridge done gives up its plan's pins. -/
theorem State.Pinned.done (h : s.Pinned none) (hb : s.Binds) {n : Nat} (hn : n ∈ slotNumbers) : (s.reachDone n).Pinned none := by
  have rising : (s.reachDone n).store.images.rising = true :=
    ((State.Formed.refl s).reachDone (n := n)).images h.rising
  cases hj : (s.slot n).job with
  | none => rw [State.reachDone_of_none (.inl hj)]; exact h
  | some job =>
    cases hc : (s.slot n).cart with
    | none => rw [State.reachDone_of_none (.inr hc)]; exact h
    | some c =>
      obtain ⟨p, hp, hs⟩ := (hb.placed job).held n hn hj
      have eq := State.reachDone_eq hj hc hp
      have live : p.state.pins = true := by rw [hs]; rfl
      have once := h.once job p hp live
      have plans : (s.reachDone n).planner.plans = s.planner.plans.put job { p with state := .mailing s.nextItem } := by
        rw [eq]; simp [State.setPlan]
      have new := Table.perm_put hb.rising job { p with state := .mailing s.nextItem }
      have old := Table.perm_del hp
      refine ⟨rising, fun k hk => ?_, nofun, fun m q hq hqs => ?_⟩
      · have pins : (s.reachDone n).pins k = s.pins k - if k ∈ p.placements.map (·.title) then 1 else 0 := by
          have unpinned := State.pins_unpinAll ((s.setPlan job { p with state := .mailing s.nextItem }).addItem p.patron
            (.cartridge job c.serial) .awaitingLabel) once k
          rw [eq]
          exact (State.pins_of_images rfl k).trans unpinned
        have before := old.countP_eq (placesLive k)
        have after := new.countP_eq (placesLive k)
        have idle : placesLive k (job, { p with state := .mailing s.nextItem }) = false := rfl
        have places : placesLive k (job, p) = true ↔ k ∈ p.placements.map (·.title) := placesLive_iff.trans (and_iff_right live)
        rw [List.countP_cons, ← State.livePlacing_eq, ← h.pins k hk] at before
        rw [List.countP_cons, idle] at after
        rw [pins, State.livePlacing_eq, plans, after, before]
        simp only [places, Bool.false_eq_true, if_false]
        omega
      · rw [State.plan, plans] at hq
        by_cases hm : m = job
        · rw [hm, Table.look_put] at hq
          cases hq
          cases hqs
        · rw [Table.look_put_of_ne _ _ hm] at hq
          exact h.once m q hq hqs

/-- A title whose image is spoilt: the plans that place it end, and none is left. -/
theorem State.Pinned.spoiled (h : s.Pinned none) (hb : s.Binds) (k id : Nat) :
    ((s.plansPlacing k).foldl State.endPlan (((s.removeImage k).spaceFreed).removeFetch id)).Pinned none := by
  have begun : (((s.removeImage k).spaceFreed).removeFetch id).Pinned (some k) := by
    have images : (((s.removeImage k).spaceFreed).removeFetch id).store.images = (s.removeImage k).store.images := by simp
    have plans : (((s.removeImage k).spaceFreed).removeFetch id).planner.plans = s.planner.plans := by simp
    refine ⟨by rw [images]; exact Table.rising_del _ _ h.rising, fun j hj => ?_, fun j hj => ?_, fun n p hp => ?_⟩
    · have other : j ≠ k := fun he => hj (congrArg some he)
      rw [State.pins_of_images images, State.livePlacing_of_plans plans, ← h.pins j nofun]
      exact State.pins_of_image (by rw [State.image_removeImage h.rising, if_neg other])
    · cases hj
      rw [State.image, images]
      exact Table.look_del _ _ h.rising
    · rw [State.plan, plans] at hp
      exact h.once n p hp
  have rising : (((s.removeImage k).spaceFreed).removeFetch id).planner.plans.rising = true := by simpa using hb.rising
  have ended (l : List Nat) (u : State) (hu : u.Pinned (some k)) (hr : u.planner.plans.rising = true) :
      (l.foldl State.endPlan u).Pinned (some k) := by
    induction l generalizing u with
    | nil => exact hu
    | cons n l ih => exact ih _ (hu.endPlan hr n) (((State.Formed.refl u).endPlan (n := n)).plans hr)
  have done := ended (s.plansPlacing k) _ begun rising
  have left := State.plan_endPlans rising (s.plansPlacing k)
  have risingThen : ((s.plansPlacing k).foldl State.endPlan (((s.removeImage k).spaceFreed).removeFetch id)).planner.plans.rising = true :=
    ((State.Formed.refl _).foldl (l := s.plansPlacing k) fun _ n hu => hu.endPlan (n := n)).plans rising
  generalize (s.plansPlacing k).foldl State.endPlan (((s.removeImage k).spaceFreed).removeFetch id) = t at done left risingThen ⊢
  refine ⟨done.rising, fun j _ => ?_, nofun, done.once⟩
  by_cases hj : j = k
  · rw [State.pins_of_none (done.gone j (congrArg some hj))]
    refine (List.countP_eq_zero.2 fun e he hl => ?_).symm
    obtain ⟨-, places⟩ := (placesLive_iff (n := e.1)).1 hl
    obtain ⟨q, hq, hqk⟩ := List.mem_map.1 places
    have found : t.plan e.1 = some e.2 := Table.look_of_mem risingThen he
    rw [left] at found
    split at found
    · cases found
    · next hout =>
      have was : s.plan e.1 = some e.2 := found
      exact hout (State.mem_plansPlacing was hq (hqk.trans hj))
  · exact done.pins j fun he => hj (Option.some.inj he)

/-! ## Every dealing -/

theorem State.pins_onImage {f : Image → Image} (hf : ∀ e, (f e).pins = e.pins) (j k : Nat) : (s.onImage j f).pins k = s.pins k := by
  unfold State.onImage
  split
  · next e he => exact State.pins_setImage he (hf e) k
  · rfl

theorem State.pins_recreateImage (j k : Nat) : (s.recreateImage j).pins k = s.pins k := by
  unfold State.recreateImage
  split
  · next e he =>
    have first : (s.setImage j { e with blocks := [] }).image j = some { e with blocks := [] } := Table.look_put _ _ _
    exact (State.pins_setImage first (by exact rfl) k).trans (State.pins_setImage he (by exact rfl) k)
  · rfl

theorem State.Deal.pinned {o : Completing} (h : s.Deal True o t) (hb : s.Binds) (hp : s.Pinned none) : t.Pinned none := by
  cases h with
  | same h =>
    simp only [State.core, Prod.mk.injEq] at h
    obtain ⟨-, ⟨plans, -⟩, ⟨images, -⟩, -, -⟩ := h
    exact hp.of_images images plans
  | itemAdded => exact hp.of_images rfl rfl
  | itemRemoved => exact hp.of_images rfl rfl
  | tray => exact hp.of_images rfl rfl
  | @dispatched i plan serial hi hk =>
    obtain ⟨p, hplan, hs, -⟩ := (hb.placed plan).item i hi serial hk
    refine ⟨hp.rising, fun k hk => ?_, nofun, fun n q hq => ?_⟩
    · have less := State.livePlacing_del (t := (s.erasePlan plan).removeItem i.number) hplan rfl k
      have idle : placesLive k (plan, p) ≠ true := fun hl => by
        have live := (placesLive_iff.1 hl).1
        rw [hs] at live
        cases live
      rw [if_neg idle, Nat.add_zero] at less
      rw [← less]
      exact hp.pins k hk
    · by_cases hn : n = plan
      · have gone : ((s.erasePlan plan).removeItem i.number).plan plan = none := Table.look_del _ _ hb.rising
        rw [hn, gone] at hq
        cases hq
      · have same : ((s.erasePlan plan).removeItem i.number).plan n = s.plan n := Table.look_del_of_ne _ hn
        rw [same] at hq
        exact hp.once n q hq
  | endPlan n => exact hp.endPlan hb.rising n
  | enrolled _ he => exact hp.enrolled hb he
  | plan hplan hq _ hl => exact hp.put hb.rising hplan (by rw [hq.2]) hl rfl rfl
  | matched => exact hp.matchJobs hb
  | putBack hn hj => exact hp.putBack hb hn hj
  | @failed n job y => exact (hp.of_images (t := s.setSlot n y) rfl rfl).endPlan hb.rising job
  | slot => exact hp.of_images rfl rfl
  | done hn => exact hp.done hb hn
  | image he _ _ hpins => exact hp.keep (Table.rising_put _ _ _ hp.rising) (State.pins_setImage he hpins) rfl
  | removeImage hz => exact hp.keep (Table.rising_del _ _ hp.rising) (State.pins_removeImage hp.rising hz) rfl
  | admitted _ hi => exact hp.admitted hi
  | recent => exact hp.of_images (by simp) (by simp)
  | @recreated k id =>
    exact hp.keep (((State.Formed.refl s).recreateImage (k := k)).images hp.rising) (State.pins_recreateImage k) (by simp)
  | @completed k id =>
    have images : (((s.onImage k (fun e => { e with resident := true })).toRecent k).removeFetch id).store.images =
        (s.onImage k (fun e => { e with resident := true })).store.images := by simp
    refine hp.keep ?_ (fun j => (State.pins_of_images images j).trans (State.pins_onImage (f := fun e => { e with resident := true }) (fun _ => rfl) k j)) (by simp)
    rw [images]
    exact ((State.Formed.refl s).onImage (k := k)).images hp.rising
  | @spoiled k id => exact hp.spoiled hb k id
  | requeued => exact hp.of_images (by simp) (by simp)
  | fetch => exact hp.of_images rfl rfl
  | started => exact hp.of_images rfl rfl
  | handRead => exact hp.of_images (by simp) (by simp)
  | loseRead => exact hp.of_images rfl rfl
  | handFill => exact hp.of_images (by simp) (by simp)
  | loseFill => exact hp.of_images rfl rfl
  | granted => exact hp.of_images (by simp) (by simp)

/-! ## Starts and ends of the part's work -/

/-- A return of the plans in slots leaves each plan where it counts. -/
theorem State.livePlacing_returned (plans : t.planner.plans = s.planner.plans.map (fun e => (e.1, e.2.returned))) (k : Nat) :
    t.livePlacing k = s.livePlacing k := by
  rw [State.livePlacing_eq, plans, List.countP_map, State.livePlacing_eq]
  refine List.countP_congr fun e _ => iff_of_eq (congrArg (· = true) ?_)
  rw [Function.comp_apply, placesLive, placesLive, Plan.returned_pins]
  rfl

/-- Once the plans in slots have returned, the QUEUED plans are all that pin. -/
theorem State.queuedPlacing_returned (hb : s.Binds) (plans : t.planner.plans = s.planner.plans.map (fun e => (e.1, e.2.returned)))
    (k : Nat) : t.queuedPlacing k = s.livePlacing k := by
  rw [State.queuedPlacing, plans, List.countP_map, State.livePlacing_eq]
  refine List.countP_congr fun e he => iff_of_eq (congrArg (· = true) ?_)
  have found : s.plan e.1 = some e.2 := Table.look_of_mem hb.rising he
  have queued : decide (e.2.returned.state = .queued) = e.2.state.pins := by
    cases hs : e.2.state with
    | queued => rw [Plan.returned, hs]; rfl
    | inSlot j =>
      have hj := ((hb.placed e.1).bound e.2 j found hs).1
      rw [Plan.returned, hs, PlanState.returned, if_pos hj]
      rfl
    | mailing j => rw [Plan.returned, hs]; rfl
  exact congrArg (· && e.2.placements.any (fun q => decide (q.title = k))) queued

/-- A rebuild from the plans and images of `s` gives every image the pins of its plans. -/
theorem State.Pinned.rebuild {u : State} (h : s.Pinned none) (hb : s.Binds) (images : u.store.images = s.store.images)
    (plans : u.planner.plans = s.planner.plans) : u.rebuild.Pinned none := by
  have rising : u.planner.plans.rising = true := by rw [plans]; exact hb.rising
  have returned := (State.rebuild_returnsPlans rising).plans
  have before := (State.rebuildPlans_does rising).1
  have store : u.rebuild.store = u.rebuildPlans.rebuildImages.store := by simp [State.rebuild]
  have same : u.rebuildPlans.store.images = s.store.images := by simp [images]
  have risingImages : u.rebuildPlans.store.images.rising = true := by rw [same]; exact h.rising
  obtain ⟨restarted, pins, -⟩ := State.rebuildImages_does risingImages
  rw [plans] at returned before
  rw [← store] at restarted pins
  generalize u.rebuild = t at returned restarted pins ⊢
  refine ⟨restarted.1, fun k hk => ?_, nofun, fun n p hp hs => ?_⟩
  · rw [State.livePlacing_returned returned]
    cases hi : t.image k with
    | some e =>
      rw [State.pins, hi]
      exact (pins (k, e) (Table.mem_of_look hi)).trans (State.queuedPlacing_returned hb before k)
    | none =>
      have gone := State.residence_of_restarted risingImages restarted k
      rw [State.residence, State.residence, hi, State.image, same] at gone
      have unheld : s.image k = none := Option.map_eq_none_iff.1 gone.symm
      rw [State.pins_of_none hi, ← h.pins k hk, State.pins_of_none unheld]
  · have was : (s.plan n).map Plan.returned = some p := by
      rw [← hp, State.plan, State.plan, returned]
      exact (Table.look_map _ (fun e : Nat × Plan => e.2.returned) n).symm
    obtain ⟨q, hq, rfl⟩ := Option.map_eq_some_iff.1 was
    rw [Plan.returned_pins] at hs
    exact h.once n q hq hs

theorem State.Pinned.of_empty (images : s.store.images = []) (plans : s.planner.plans = []) : s.Pinned none := by
  refine ⟨by rw [images]; rfl, fun k _ => ?_, nofun, fun n p hp => ?_⟩
  · rw [State.pins_of_none (by rw [State.image, images]; rfl), State.livePlacing_eq, plans]
    rfl
  · rw [State.plan, plans] at hp
    cases hp

/-- A start and an end of the part's work keep the pins those of the plans. -/
theorem State.Begins.pinned (h : s.Begins t) (hb : s.Binds) (hp : s.Pinned none) : t.Pinned none := by
  cases h with
  | restarted => exact hp.rebuild hb rfl rfl
  | poweredOn held good =>
    unfold State.powerOn
    dsimp only
    split
    · exact hp.rebuild hb (by simp) (by simp)
    · have empty : (s.losePower.takeBackup held good).emptyRecords.Pinned none :=
        .of_empty (by simp [State.emptyRecords, Store.empty]) (by simp [State.emptyRecords, Planner.empty])
      exact empty.rebuild (hb.emptied held good) rfl rfl
  | powerLost => exact hp.of_images rfl rfl
  | resetAsserted => exact hp.of_images rfl rfl
  | resetReleased => exact hp.rebuild hb rfl rfl

/-- Every move keeps every plan in its place and the pins those of the plans. -/
theorem State.Move.pinned (h : s.Move t) (hs : s.Binds ∧ s.Pinned none) : t.Binds ∧ t.Pinned none := by
  refine ⟨h.binds hs.1, ?_⟩
  obtain ⟨binds, pinned⟩ := hs
  have dealt {u : State} {o : Completing} (deals : State.Deals True o s u) : u.Binds ∧ u.Pinned none :=
    deals.keep (P := fun u => u.Binds ∧ u.Pinned none) (fun _ _ hd hu => ⟨hd.binds hu.1, hd.pinned hu.1 hu.2⟩) ⟨binds, pinned⟩
  rcases h.deals True with deals | begins | ⟨b, f, -, -, rfl⟩
  · exact (dealt deals).2
  · exact begins.pinned binds pinned
  · exact (dealt (s.filled_deals True b f)).2.of_images (by simp) (by simp)

/-- The pins are those of the plans after every step. -/
theorem step_keeps_pinsRight (h : step s = .next t) (shaped : s.shaped) (ordered : s.ordered) (bound : s.plansBound)
    (holds : s.holdsRight) (pins : s.pinsRight) : t.pinsRight := by
  obtain ⟨eight, -⟩ := shaped
  obtain ⟨-, -, -, plans, images⟩ := ordered
  have before (x : List Instr) : (s.setPending x).Binds ∧ (s.setPending x).Pinned none :=
    ⟨(State.leavesPlans_of_core (s := s) (t := s.setPending x) rfl).binds (bound.binds plans eight),
      ((State.pinned_iff images plans).2 pins).of_images rfl rfl⟩
  have after := step_keeps_from (P := fun u => u.Binds ∧ u.Pinned none) (fun _ _ hm => hm.pinned) h before fun x hr => by
    refine ((State.Deals.refl True none (s.setPending x)).passStep rfl hr fun _ k p hp => ?_).keep (P := fun u => u.Binds ∧ u.Pinned none)
      (fun _ _ hd hu => ⟨hd.binds hu.1, hd.pinned hu.1 hu.2⟩) (before x)
    exact (holds.2 (k, p) (Table.mem_of_look hp)).1
  exact (State.pinned_iff after.2.rising after.1.rising).1 after.2

end Sys2Proof.Machine

namespace Sys2Proof.Proofs

open Sys2Proof Sys2Proof.Machine

/-- Settles O11: every step is dealings with the plans and the store that each keep both parts, or a start or an end
of the part's work. -/
theorem stepKeepsImagesPinned : Obligations.StepKeepsImagesPinned := by
  unfold Obligations.StepKeepsImagesPinned
  exact ⟨fun _ _ => step_keeps_imagesRight, fun _ _ => step_keeps_pinsRight⟩

end Sys2Proof.Proofs

end

section
/-!
PROOF. A title created over another (R6, R14): what refutes O12.
-/

namespace Sys2Proof.Machine

/-- The patron of index 1, whose only entry is on hold for the title of index 1. -/
def holdingPatron : Patron :=
  { number := 1, state := .active, media := { audio := false, ebraille := false, pbraille := true }, cls := .c2
    cartLimit := 1, setLimit := 1, cartCount := 0, setCount := 0, key := 1, pauseUntil := none, lastService := none
    deferral := .none, history := []
    orders := [{ title := 1, rush := false, added := 0, oversize := false, state := .hold }] }

/-- A paper title with no copy, of the catalogue number given. -/
def paperTitle (catalogue : Nat) (holds : List Nat) : Title :=
  { catalogue := catalogue, format := .pbraille, withdrawn := false, pages := 0, check := 0#32, bad := false, failures := 0
    volumes := 1, copies := List.replicate Config.copyMax .absent, holds := holds }

/-- A TITLE PUT CREATE waits, and the Title Table has a record of index 0 before the one of index 1, for which patron 1
waits: the search for the lowest-numbered FREE record stops at the first index passed over, counting from 1, and so finds
1. `State.numbered` shuts this state out, but is no premise of O12. -/
def zeroTitleState : State :=
  { State.reset with
    pending := [.titlePutCreate 0 3 3 0 0 1]
    records :=
      { Records.empty with
        patrons := [(1, holdingPatron)]
        titles := [(0, paperTitle 1 []), (1, paperTitle 2 [1])] } }

/-- What the part holds once it has served the request. -/
def zeroTitleAfter : State :=
  (zeroTitleState.setPending []).serve 0x14 0 (u32 3 ++ u8 3 ++ u32 0 ++ u32 0 ++ u8 1) (answerTitleCreate 3 3 0 0 1)

theorem step_zeroTitleState : step zeroTitleState = .next zeroTitleAfter := rfl

/-- The new record stands in the place of the title that had patron 1 in its Hold Queue. -/
theorem title_zeroTitleAfter : zeroTitleAfter.title 1 = some (paperTitle 3 []) := by decide +kernel

theorem patron_zeroTitleAfter : (1, holdingPatron) ∈ zeroTitleAfter.records.patrons := by decide +kernel

theorem zeroTitleState_ordered : zeroTitleState.ordered := ⟨rfl, rfl, rfl, rfl, rfl⟩

theorem zeroTitleState_holdsRight : zeroTitleState.holdsRight := by
  constructor
  · intro e he
    obtain rfl | rfl : e = (0, paperTitle 1 []) ∨ e = (1, paperTitle 2 [1]) := by simpa [zeroTitleState] using he
    · exact ⟨List.nodup_nil, fun k hk => nomatch hk⟩
    · refine ⟨List.nodup_singleton 1, fun k hk => ?_⟩
      obtain rfl : k = 1 := List.mem_singleton.1 hk
      exact ⟨holdingPatron, rfl, _, List.mem_singleton_self _, rfl, rfl⟩
  · intro e he
    obtain rfl : e = (1, holdingPatron) := List.mem_singleton.1 he
    refine ⟨List.nodup_singleton 1, nofun, fun o ho _ => ?_⟩
    obtain rfl := List.mem_singleton.1 ho
    exact ⟨paperTitle 2 [1], rfl, List.mem_singleton_self 1⟩

end Sys2Proof.Machine

namespace Sys2Proof.Proofs

open Sys2Proof Sys2Proof.Machine

/-- Refutes O12: its first part leaves out `State.numbered`, and with a record of index 0 a TITLE PUT CREATE writes the new
title over one that a patron waits for. -/
theorem not_stepKeepsCountsRight : ¬ Obligations.StepKeepsCountsRight := by
  intro h
  have kept : zeroTitleAfter.holdsRight :=
    h.1 zeroTitleState zeroTitleAfter step_zeroTitleState zeroTitleState_ordered zeroTitleState_holdsRight
  obtain ⟨-, -, waits⟩ := kept.2 _ patron_zeroTitleAfter
  obtain ⟨r, hr, queued⟩ := waits _ (List.mem_singleton_self _) rfl
  obtain rfl := Option.some.inj (title_zeroTitleAfter.symm.trans hr)
  exact nomatch queued

end Sys2Proof.Proofs

end
